-- ==== Sys2Proof/Word.lean ====
section
/-!
DEFINITION. The word types of the SX16 dictionary and their plainest arithmetic (R32, R39): a slot of the
control window is 64 bits, memory is bytes, and the counters of the manual wrap or saturate at a stated width.
-/
namespace Sys2Proof

/-- A control-window slot (R38): 64 bits. -/
abbrev Word := BitVec 64

/-- The smallest addressable unit of the internal address space. -/
abbrev Byte := BitVec 8

/-- A number as a slot value, taken modulo 2^64. -/
def w64 (n : Nat) : Word := BitVec.ofNat 64 n

/-- A signed number as a slot value, sign-extended to 64 bits (R39). -/
def wInt (i : Int) : Word := BitVec.ofInt 64 i

/-- The low byte of a number. -/
def byteOf (n : Nat) : Byte := BitVec.ofNat 8 n

end Sys2Proof
end

