-- ==== Sys2Proof/Syntax.lean ====
section
/-!
DEFINITION. The commands of the SX16: one constructor per row of spec/opcode_table.json, with the row's operands,
and the operand types they share. Every command carries `t`, the device time in nanoseconds at which it is taken
(DESIGN CHOICE, log entry 2). A command that is a write of a register carries the initiator that writes (R17).
-/
namespace Sys2Proof

/-- The path a request takes to the dictionary server (R17, R68). `window` is the control window, `pf` the PCIe
physical function's BAR0, `vf` a virtual function's BAR0, `monitor` the monitor function of R360, `tilsol` a
Tilsol client by its binding number. -/
inductive Path where
  | window | pf | vf | monitor
  | tilsol (binding : Nat)
  deriving DecidableEq, Repr

/-- An initiator as its port stamps it (R17): partition, world and path. -/
structure Ini where
  part : Nat
  secure : Bool
  path : Path
  deriving DecidableEq, Repr

/-- A rectangle in pixels. -/
structure Rect where
  x : Nat
  y : Nat
  w : Nat
  h : Nat
  deriving DecidableEq, Repr

/-- The fields that every ring command has (R266), and the partition and queue whose ring it stands in. -/
structure QHdr where
  part : Nat
  queue : Nat
  flags : Nat
  fence : Nat
  arg : Nat
  tag : Nat
  value : Nat
  deriving DecidableEq, Repr

/-- An interlock section of a fragment invocation (R245): the draw in the command buffer, the instance and the primitive it
belongs to, its pixel and sample, whether the invocation is a helper, and the word it leaves at its pixel. -/
structure Frag where
  draw : Nat
  inst : Nat
  prim : Nat
  x : Nat
  y : Nat
  sample : Nat
  helper : Bool
  word : Nat
  deriving DecidableEq, Repr

/-- The fragment-shader interlock execution modes (R240, R245). -/
inductive Interlock where
  | pixelOrdered | sampleOrdered | pixelUnordered | sampleUnordered
  deriving DecidableEq, Repr

/-- A ray of a shader (R252): words of binary32 for its origin, direction and interval, the instance mask, whether it culls
back faces, and the numbers of the candidates that its any-hit shader turns down. -/
structure RayCmd where
  o : List Nat
  d : List Nat
  tmin : Nat
  tmax : Nat
  mask : Nat
  cull : Bool
  reject : List Nat
  deriving DecidableEq, Repr

/-- A step of a driver payload: a clear of a rectangle of a target with a colour in memory order (R243); the words of a tile that
a shader cluster writes back; the interlock sections of a tile of a target, as the clusters reach them (R245); the use of a
translated pipeline of `kib` KiB (R237); or a ray traced on a ray unit through the structure at a device address (R252). -/
inductive RenderOp where
  | clear (handle x y w h colour : Nat)
  | tile (cluster handle tile : Nat) (words : List Nat)
  | sections (handle : Nat) (mode : Interlock) (frags : List Frag)
  | pipeline (id kib : Nat)
  | trace (unit addr : Nat) (ray : RayCmd)
  deriving DecidableEq, Repr

/-- A timing that a sink lists (R202). -/
structure SinkMode where
  hActive : Nat
  hTotal : Nat
  vActive : Nat
  vTotal : Nat
  clockKhz : Nat
  deriving DecidableEq, Repr

/-- The units of R27. -/
inductive UnitKind where
  | planner | composer | sentinel | head | cluster | ray | channel | dramHalf | bank | chamois | pcie | afe | haptic
  | axis | edgeDie | audio | markhor
  deriving DecidableEq, Repr

/-- The fuse fields that a request may program (R301). -/
inductive FuseField where
  | lifecycle | protMode | recoveryDisable | foxgloveDisable | debugLock | fwKeyRevoke | planKeyRevoke
  | planKeyHash (slot : Nat)
  | provisioningKeyHash
  deriving DecidableEq, Repr

/-- What a write needs from outside the device, where its effect does: the bytes of host memory that it makes the device
read; what each running queue command it stops has done at its next boundary, and the commands that stand in those
rings; whether the signatures of what it carries verify; the fuse request that its bytes spell, whose layout the manual
does not give, with whether it is signed (R302); and whether a snapshot capture runs (R59). -/
structure Env where
  host : List Byte
  done : List Nat
  rings : List (List QHdr)
  sigOk : Bool
  fuse : Option (FuseField × Nat × Bool)
  busy : Bool
  deriving DecidableEq, Repr

/-- What a touch self-test measures (R378): the raw counts, TX-major; for each TX driven alone, by code row 0, the decoded value of
every row; and the self-phase counts of the TX and RX electrodes. -/
structure SelfMeas where
  raw : List Int
  driven : List Int
  selfTx : List Int
  selfRx : List Int
  deriving DecidableEq, Repr

/-- What a Tilsol response echoes of its request (R66), and how it goes back: the transport of R68 (0 CAN FD, 1 CAN XL,
2 UDP, 3 PCIe mailbox, 4 Chamois), and on it the CAN controller, the mailbox's partition or the node. -/
structure TilHead where
  via : Nat
  port : Nat
  op : Nat
  client : Nat
  tag : Nat
  index : Nat
  sub : Nat
  counter : Nat
  deriving DecidableEq, Repr

/-- A Tilsol frame as it is received (R64, R68 to R70): its header, the route word (255 where it has none), LENGTH as the header
says, the payload bytes that came, its 8-byte tag, and what else the transport names it by: on CAN FD the identifier's PRIORITY ×
8 + CAN_MARK, on CAN XL the acceptance field's mark × 256 + SDT, on UDP the port the datagram came to. -/
structure TilFrame where
  head : TilHead
  route : Nat
  len : Nat
  payload : List Byte
  mac : List Byte
  ident : Nat
  deriving DecidableEq, Repr

/-- A failing memory cell that a self-test finds (R449): memory instance, address and bit, and whether a spare row or
column is free for it: 0 row, 1 column, 2 none. -/
structure BistCell where
  memory : Nat
  addr : Nat
  bit : Nat
  spare : Nat
  deriving DecidableEq, Repr

/-- A firmware copy as the boot ROM finds it (R298, R299): copies 0 and 1 are the eMRAM copies A and B, 2 and 3 the xSPI
copies, 4 what the host writes in recovery; its image, whose header names Markhor's or the planner's, and whether both
signatures verify. -/
structure FwTry where
  copy : Nat
  image : List Byte
  sigOk : Bool
  deriving DecidableEq, Repr

/-- What a self-test finds at a unit of the BIST table (R449): kind, instance, whether its signature is right, and the
failing cells in the order in which they are found. A unit that is not listed has none and passes. -/
structure BistUnit where
  kind : Nat
  inst : Nat
  logicOk : Bool
  cells : List BistCell
  deriving DecidableEq, Repr

/-- The commands. -/
inductive Instr where
  /-- `FRAME_EPOCH` (R22). The device-wide epoch timer expires every EPOCH_PERIOD_NS and runs the epoch actions of R24 in order. -/
  | frameEpoch (t : Nat)
  /-- `D2D_TRANSFER_CRC_FAIL` (R15). A die-to-die transfer fails its CRC and is retried by replay, with the error and replay counters updated. -/
  | d2dTransferCrcFail (t : Nat) (delay : Nat)
  /-- `D2D_LANE_FAIL` (R15). A die-to-die lane fails persistently; a spare is scheduled, or on a third failure the edge die becomes unreachable. -/
  | d2dLaneFail (t : Nat)
  /-- `UNIT_LOST` (R27). A fault reaction or self-test marks a unit unusable and the re-binding around it is started. -/
  | unitLost (t : Nat) (kind : UnitKind) (inst : Nat)
  /-- `BINDING_COMPUTED` (R136). The placement engine finishes computing a new engine binding within 20 ms of a unit loss. -/
  | bindingComputed (t : Nat)
  /-- `REGISTER_WRITE` (R39). A control-window write to an object without a row of its own is decoded, checked and stored. -/
  | registerWrite (t : Nat) (ini : Ini) (idx : Nat) (sub : Nat) (byte : Nat) (width : Nat) (v : Word) (env : Env)
  /-- `SET_ALIAS_WRITE` (R42). A write through the SET alias sets the written bits of a BITS object. -/
  | setAliasWrite (t : Nat) (ini : Ini) (idx : Nat) (sub : Nat) (v : Word) (env : Env)
  /-- `CLEAR_ALIAS_WRITE` (R42). A write through the CLEAR alias clears the written bits of a BITS object or clears status flags. -/
  | clearAliasWrite (t : Nat) (ini : Ini) (idx : Nat) (sub : Nat) (v : Word) (env : Env)
  /-- `TOGGLE_ALIAS_WRITE` (R42). A write through the TOGGLE alias inverts the written bits of a BITS object. -/
  | toggleAliasWrite (t : Nat) (ini : Ini) (idx : Nat) (sub : Nat) (v : Word) (env : Env)
  /-- `STATUS_CLEAR` (R46). A write of a status object clears the flags written as 1 when its SEQ matches, otherwise is refused as stale. -/
  | statusClear (t : Nat) (ini : Ini) (viaAlias : Bool) (idx : Nat) (sub : Nat) (v : Word)
  /-- `PENDING_SEQ_ADVANCE` (R47). At the end of the minimum interval a pending SEQ advance of a status object is made. -/
  | pendingSeqAdvance (t : Nat) (part : Nat) (idx : Nat) (sub : Nat)
  /-- `LOW_HALF_READ` (R58). A 32-bit read of the low half of a 64-bit object latches the high half for the reader's partition and world. -/
  | lowHalfRead (t : Nat) (ini : Ini) (win : Nat) (idx : Nat) (sub : Nat)
  /-- `HIGH_HALF_READ` (R58). A 32-bit read of the high half returns the latched half and empties the latch, or the live half. -/
  | highHalfRead (t : Nat) (ini : Ini) (win : Nat) (idx : Nat) (sub : Nat)
  /-- `LOW_HALF_WRITE` (R58). A 32-bit write to the low half of a 64-bit object is held in the partition's write latch. -/
  | lowHalfWrite (t : Nat) (ini : Ini) (win : Nat) (idx : Nat) (sub : Nat) (v : Word) (env : Env)
  /-- `HIGH_HALF_WRITE` (R58). A 32-bit write to the high half applies both halves as one 64-bit write, or is refused with ACCESS_WIDTH. -/
  | highHalfWrite (t : Nat) (ini : Ini) (win : Nat) (idx : Nat) (sub : Nat) (v : Word) (env : Env)
  /-- `COMMIT_REQUEST` (R51). A write of GROUP_MASK issues a commit that copies shadows to pending sets and runs the pre-check. -/
  | commitRequest (t : Nat) (ini : Ini) (mask : Word)
  /-- `COMMIT_IN_EDGE` (R53). A rising edge on COMMIT_IN releases every armed commit to its next boundary, or is only counted. -/
  | commitInEdge (t : Nat) (rising : Bool)
  /-- `ARMED_COMMIT_TIMEOUT` (R53). An ON_PIN commit with no edge for PIN_TIMEOUT_MS is cancelled and reported CANCELLED. -/
  | armedCommitTimeout (t : Nat)
  /-- `WALL_TIME_RELEASE` (R53). An AT_WALL_TIME commit is released when Wall time first reaches AT_TIME. -/
  | wallTimeRelease (t : Nat)
  /-- `STORE` (R36). A write of PersistControl STORE starts storing the /P objects of the named groups into eMRAM. -/
  | store (t : Nat) (ini : Ini) (mask : Word)
  /-- `STORE_DONE` (R36). A STORE completes when its closing sequence word is written, or fails verify with STORE_FAILED. -/
  | storeDone (t : Nat) (ok : Bool)
  /-- `RESTORE_DEFAULTS` (R35). A write of RESTORE_DEFAULTS erases the stored records of the named groups so defaults load at the next reset. -/
  | restoreDefaults (t : Nat) (ini : Ini) (mask : Word)
  /-- `LOCK_SETS_WRITE` (R37). A write of LockSets locks the lock sets whose bits are written as 1, ignoring clears. -/
  | lockSetsWrite (t : Nat) (ini : Ini) (mask : Word)
  /-- `SNAPSHOT_TRIGGER` (R59). A write of TRIGGER samples every member of the snapshot set at one device-time instant. -/
  | snapshotTrigger (t : Nat) (ini : Ini) (set : Nat) (v : Word) (busy : Bool)
  /-- `SNAPSHOT_DEFERRED_CAPTURE` (R59). A trigger that arrived during a running capture is taken when that capture ends. -/
  | snapshotDeferredCapture (t : Nat) (set : Nat)
  /-- `DOMAIN_SELECT` (R61). A write of DomainPort SELECT opens the named block object at offset 0 and records its generation. -/
  | domainSelect (t : Nat) (ini : Ini) (v : Word)
  /-- `DOMAIN_DATA_READ` (R61). A 64-bit read of DomainPort DATA returns the next 8 bytes of the selected object. -/
  | domainDataRead (t : Nat) (ini : Ini)
  /-- `DOMAIN_DATA_WRITE` (R61). A 64-bit write of DomainPort DATA stages the next 8 bytes of a block write. -/
  | domainDataWrite (t : Nat) (ini : Ini) (v : Word)
  /-- `DOMAIN_COMMIT_LEN` (R61). A write of COMMIT_LEN completes a staged write and replaces the block content in one step. -/
  | domainCommitLen (t : Nat) (ini : Ini) (v : Word) (env : Env)
  /-- `TILSOL_READ` (R77). A Tilsol Read request is authenticated, checked and answered with the object's value. -/
  | tilsolRead (t : Nat) (f : TilFrame)
  /-- `TILSOL_WRITE` (R77). A Tilsol Write request acts as a write through the window named by ALIAS. -/
  | tilsolWrite (t : Nat) (f : TilFrame) (env : Env)
  /-- `TILSOL_READSEG` (R79). A ReadSeg request returns one segment of a block object with its generation. -/
  | tilsolReadseg (t : Nat) (f : TilFrame)
  /-- `TILSOL_WRITESEG` (R80). A WriteSeg request stages a segment and replaces the content when STAGED reaches TOTAL_LEN. -/
  | tilsolWriteseg (t : Nat) (f : TilFrame) (env : Env)
  /-- `TILSOL_COMMIT` (R81). A Tilsol Commit acts as a write of GROUP_MASK with MODE and AT_TIME from the payload. -/
  | tilsolCommit (t : Nat) (f : TilFrame)
  /-- `TILSOL_SNAPSHOT` (R59). A Tilsol Snapshot request triggers a snapshot set and returns CAPTURE_TIME and SEQ. -/
  | tilsolSnapshot (t : Nat) (f : TilFrame) (busy : Bool)
  /-- `TILSOL_SUBSCRIBE` (R82). A Subscribe request creates a value-change or event-record subscription. -/
  | tilsolSubscribe (t : Nat) (f : TilFrame)
  /-- `TILSOL_UNSUBSCRIBE` (R82). An Unsubscribe request ends one or all of the client's subscriptions. -/
  | tilsolUnsubscribe (t : Nat) (f : TilFrame)
  /-- `TILSOL_ABORT` (R83). An Abort request ends the client's outstanding request with tag TARGET_TAG if it can. -/
  | tilsolAbort (t : Nat) (f : TilFrame)
  /-- `TILSOL_RESERVED_OPCODE` (R65). A request with a reserved opcode or misplaced ALIAS is answered BAD_OPCODE with no effect. -/
  | tilsolReservedOpcode (t : Nat) (f : TilFrame)
  /-- `MAILBOX_DOORBELL` (R71). A write of DOORBELL makes the device read the mailbox request from host memory. -/
  | mailboxDoorbell (t : Nat) (ini : Ini) (v : Word) (env : Env)
  /-- `FORWARDED_RESPONSE` (R70). A response to a request forwarded over Chamois returns to the gateway and is passed back to the client. -/
  | forwardedResponse (t : Nat) (node : Nat) (client : Nat) (tag : Nat) (status : Nat) (payload : List Byte)
  /-- `WRITESEG_TIMEOUT` (R80). A staged transfer with no segment for WRITESEG_TIMEOUT_MS is abandoned with TRANSFER_TIMEOUT. -/
  | writesegTimeout (t : Nat)
  /-- `SUBSCRIPTION_PUSH` (R82). A changed subscribed value is pushed once MIN_INTERVAL_MS has passed, coalescing changes. -/
  | subscriptionPush (t : Nat) (binding : Nat) (sub : Nat)
  /-- `HEARTBEAT` (R86). Every HB_PERIOD_MS the device sends a heartbeat on each transport in HB_TRANSPORTS. -/
  | heartbeat (t : Nat)
  /-- `EMERGENCY` (R87). An Emergency frame carrying a Critical record is sent per transport, at most one per 10 ms. -/
  | emergency (t : Nat) (transport : Nat)
  /-- `TILSOL_REKEY` (R309). A client's write of KEY_GEN + 1 to TilsolRekey asks Markhor to derive a new session key. -/
  | tilsolRekey (t : Nat) (f : TilFrame)
  /-- `REKEY_DONE` (R309). Markhor completes a re-key; counters reset to 0 and KEY_GEN increments. -/
  | rekeyDone (t : Nat) (binding : Nat)
  /-- `PLAN_DMA_GO` (R112). A write of PlanDmaLoad GO reads the plan image from host memory into the staging area. -/
  | planDmaGo (t : Nat) (ini : Ini) (v : Word) (data : List Byte)
  /-- `PLAN_VALIDATED` (R113). Validation of a staged image completes with valid or rejected and fields clamped. -/
  | planValidated (t : Nat) (sigOk : Bool)
  /-- `PLAN_REVALIDATE` (R113). ACTION 1 re-validates the staged image. -/
  | planRevalidate (t : Nat) (ini : Ini)
  /-- `PLAN_STORE_SLOT` (R112). ACTION 2 stores the staged image to TARGET_SLOT in eMRAM. -/
  | planStoreSlot (t : Nat) (ini : Ini)
  /-- `PLAN_LOAD_SLOT` (R112). ACTION 3 loads TARGET_SLOT into the staging area. -/
  | planLoadSlot (t : Nat) (ini : Ini)
  /-- `PLAN_SWAP_WHEN_READY` (R114). ACTION 4 prepares the valid staged image and swaps at the first epoch after preparation. -/
  | planSwapWhenReady (t : Nat) (ini : Ini)
  /-- `PLAN_SWAP_AT_TIME` (R118). ACTION 5 schedules the swap of a ready image at the epoch at SWAP_AT_TIME. -/
  | planSwapAtTime (t : Nat) (ini : Ini)
  /-- `PLAN_DISCARD` (R117). ACTION 6 cancels a preparation or pending swap and discards the staged image. -/
  | planDiscard (t : Nat) (ini : Ini)
  /-- `PLAN_ERASE_SLOT` (R112). ACTION 7 erases TARGET_SLOT. -/
  | planEraseSlot (t : Nat) (ini : Ini)
  /-- `PLAN_PREPARE` (R114). ACTION 8 prepares the staged image and holds it ready. -/
  | planPrepare (t : Nat) (ini : Ini)
  /-- `PLAN_ACTION_DONE` (R114). A long plan action (store, load, erase, re-validate) ends and reports in STATE, RESULT and PlanStatus. -/
  | planActionDone (t : Nat)
  /-- `PREPARATION_DONE` (R114). Plan preparation completes, making the plan ready or ending with PLAN_CAPACITY. -/
  | preparationDone (t : Nat)
  /-- `READY_EXPIRED` (R114). A ready image not swapped within 10 s returns to valid with a Notice event. -/
  | readyExpired (t : Nat)
  /-- `ALLOCATE` (R123). An ALLOCATE command checks operands, places a new surface and returns its handle. -/
  | allocate (t : Nat) (h : QHdr) (w : Nat) (ht : Nat) (format : Nat) (layout : Nat) (cls : Nat)
  /-- `FREE` (R268). A FREE command releases a handle, advances its generation and quarantines its aperture range. -/
  | free (t : Nat) (h : QHdr) (handle : Nat)
  /-- `SHARE` (R127). A SHARE command grants another partition read or read-write access with its own handle. -/
  | share (t : Nat) (h : QHdr) (handle : Nat) (grantee : Nat) (rights : Nat)
  /-- `MEMORY_TRANSACTION` (R282). An on-chip transaction is checked against world and partition tables before any side effect. -/
  | memoryTransaction (t : Nat) (id : Nat) (port : Nat) (init : Nat) (part : Nat) (secure : Bool) (cls : Nat) (write : Bool) (addr : Nat) (len : Nat) (data : List Byte) (ecc : Nat) (env : Env)
  /-- `APERTURE_ACCESS` (R126). A BAR2 aperture access is translated through the surface table at 64 KiB granularity. -/
  | apertureAccess (t : Nat) (id : Nat) (port : Nat) (ini : Ini) (off : Nat) (len : Nat) (write : Bool) (data : List Byte) (ecc : Nat)
  /-- `IMBALANCE_WINDOW` (R130). Every WINDOW_MS channel loads are read and hot windows counted per channel. -/
  | imbalanceWindow (t : Nat) (bytes : List Nat)
  /-- `MIGRATION_COPY_DONE` (R131). The bulk copy of a migrating surface completes and dirty passes begin. -/
  | migrationCopyDone (t : Nat) (surf : Nat)
  /-- `MIGRATION_PASS_DONE` (R131). A dirty-page pass ends; the switch is scheduled, another pass starts or the migration is abandoned. -/
  | migrationPassDone (t : Nat) (surf : Nat)
  /-- `MIGRATION_HOLD` (R131). HOLD_US before the epoch every writer to the surface is back-pressured and remaining dirty pages copied. -/
  | migrationHold (t : Nat) (surf : Nat)
  /-- `MIGRATION_RETRY` (R131). An abandoned migration is retried once 60 s have passed. -/
  | migrationRetry (t : Nat) (surf : Nat)
  /-- `BATCH_START` (R143). At a batch's START_SLOT the composer engine begins starting its tiles. -/
  | batchStart (t : Nat) (batch : Nat)
  /-- `TILE_START` (R143). An engine with room starts the next tile of its batch, or passes it over as clean. -/
  | tileStart (t : Nat) (engine : Nat) (ecc : List Nat)
  /-- `TILE_WRITEBACK_DONE` (R160). The last write-back of a tile is accepted and its pending state becomes COMPLETE. -/
  | tileWritebackDone (t : Nat) (engine : Nat)
  /-- `BATCH_DEADLINE` (R145). At the end of END_SLOT unfinished tiles of the batch are abandoned as overrun. -/
  | batchDeadline (t : Nat) (batch : Nat)
  /-- `VIDEO_FRAME_START` (R166). A new capture takes a free ring entry, overwriting the oldest unlatched complete one. -/
  | videoFrameStart (t : Nat) (input : Nat)
  /-- `VIDEO_FRAME_END` (R206). A captured frame ends and is made complete or discarded with its error flag. -/
  | videoFrameEnd (t : Nat) (input : Nat) (w : Nat) (h : Nat) (dt : Nat) (err : Bool) (data : List Byte)
  /-- `VIDEO_INPUT_TIMEOUT` (R206). No complete frame for TIMEOUT_MS makes the input lost with a Warning event. -/
  | videoInputTimeout (t : Nat) (input : Nat)
  /-- `VBLANK_START` (R173). At the start of vertical blank the head increments FRAME_COUNT, applies commits, flips tiles, latches clone views and starts fetching. -/
  | vblankStart (t : Nat) (head : Nat)
  /-- `FETCH_DATA_RETURN` (R179). Fetched tile data returns, is decoded into the line buffer and may end panic. -/
  | fetchDataReturn (t : Nat) (head : Nat) (n : Nat) (slot : Nat) (bad : List Nat)
  /-- `PIXEL_SCAN` (R182). An active pixel position falls due at the wire point. -/
  | pixelScan (t : Nat) (head : Nat)
  /-- `IRQ_HPD` (R202). A 0.25–2 ms low pulse on HPD makes the port read link status and retrain if needed. -/
  | irqHpd (t : Nat) (port : Nat) (lost : Bool)
  /-- `HPD_UNPLUG` (R202). HPD low for more than 2 ms declares an unplug and ends training or reading. -/
  | hpdUnplug (t : Nat) (port : Nat)
  /-- `HPD_PLUG` (R202). HPD high for 100 ms declares a plug and starts capability and EDID reads. -/
  | hpdPlug (t : Nat) (port : Nat)
  /-- `SINK_ID_READ_DONE` (R202). The EDID base block read completes and training starts. -/
  | sinkIdReadDone (t : Nat) (port : Nat) (lanes : Nat) (rate : Nat) (dsc : Bool) (edid : List Byte) (modes : List SinkMode)
  /-- `TRAINING_ATTEMPT_DONE` (R198). A link training attempt ends; the link comes up, falls back or fails. -/
  | trainingAttemptDone (t : Nat) (port : Nat) (ok : Bool)
  /-- `RETRAIN_TIMER` (R199). An insufficient or failed port retries every RETRAIN_MS. -/
  | retrainTimer (t : Nat) (port : Nat)
  /-- `LINK_LOST` (R203). A port's link goes down and the class A grace timer starts. -/
  | linkLost (t : Nat) (port : Nat)
  /-- `LINK_GRACE_EXPIRED` (R203). A class A link down beyond LINK_GRACE_MS raises an event, drops SAFE_OK and notifies the Twin. -/
  | linkGraceExpired (t : Nat) (port : Nat)
  /-- `HDCP_AUTH_DONE` (R204). HDCP authentication via Markhor completes or fails with HDCP_FAIL. -/
  | hdcpAuthDone (t : Nat) (port : Nat) (ok : Bool) (type1 : Bool)
  /-- `SENTINEL_VALUE_READY` (R220). The Sentinel finishes recomposing a region and its expected value becomes available. -/
  | sentinelValueReady (t : Nat) (region : Nat)
  /-- `SENTINEL_LATE` (R220). A Sentinel value not ready by its deadline gives the frame no verdict. -/
  | sentinelLate (t : Nat) (region : Nat)
  /-- `REGION_COMPARE` (R223). A region's check value is compared with the folded expected value, giving pass, mismatch or no verdict. -/
  | regionCompare (t : Nat) (region : Nat)
  /-- `RELEASE_REGION` (R227). P0's write of RELEASE_REGION ends latched reactions if the last verdict was a pass. -/
  | releaseRegion (t : Nat) (ini : Ini) (v : Word)
  /-- `REQUESTED_STATE` (R219). A write of REQUESTED_STATE asks Markhor to commit a region state for the next epoch. -/
  | requestedState (t : Nat) (ini : Ini) (region : Nat) (v : Word)
  /-- `INTEGRITY_REQUEST_DONE` (R219). Markhor's integrity service commits a requested state or CG_INTEGRITY commit. -/
  | integrityRequestDone (t : Nat) (region : Option Nat)
  /-- `RENDER_SUBMIT` (R242). A RENDER_SUBMIT command hands a driver payload to the render engine. -/
  | renderSubmit (t : Nat) (h : QHdr) (job : List RenderOp) (newDevice : Bool)
  /-- `RENDER_COMPLETE` (R242). A render submission completes and its fences signal. -/
  | renderComplete (t : Nat) (r0 : Nat) (r1 : Nat)
  /-- `RENDER_PREEMPT` (R247). The render engine switches submissions at a draw or tile boundary. -/
  | renderPreempt (t : Nat) (n : Nat)
  /-- `RENDER_TIMEOUT` (R248). A tile or draw over its time limit ends the submission with RENDER_TIMEOUT and DEVICE_LOST. -/
  | renderTimeout (t : Nat) (n : Nat)
  /-- `SPIRV_TRANSLATION_DONE` (R237). Translation of a SPIR-V module completes or fails. -/
  | spirvTranslationDone (t : Nat) (part : Nat) (size : Nat) (kib : Nat) (valid : Bool) (supported : Bool) (sc : Bool)
  /-- `PICK_VALIDATION_DONE` (R256). Validation of a written pick structure completes; it takes effect at the next epoch or is rejected. -/
  | pickValidationDone (t : Nat) (slot : Nat)
  /-- `PICK_RESULT` (R258). A pick ray finishes traversal and its result joins the touch event. -/
  | pickResult (t : Nat) (ray : Nat)
  /-- `QUEUE_ENABLE` (R263). A write of ENABLE starts or stops a queue with its ring fields. -/
  | queueEnable (t : Nat) (ini : Ini) (part : Nat) (queue : Nat) (v : Word)
  /-- `QUEUE_DOORBELL` (R264). A DOORBELL write sets a new PRODUCER or is refused with RING_OVERFLOW. -/
  | queueDoorbell (t : Nat) (ini : Ini) (part : Nat) (queue : Nat) (v : Word)
  /-- `CQ_HEAD_WRITE` (R265). A CQ_HEAD write frees completion-ring space and ends a CQ stall. -/
  | cqHeadWrite (t : Nat) (ini : Ini) (part : Nat) (queue : Nat) (v : Word)
  /-- `CQ_RECORD_WRITE` (R265). A waiting completion record is written when ring space is available. -/
  | cqRecordWrite (t : Nat) (part : Nat) (queue : Nat)
  /-- `DISPATCH` (R274). The dispatcher starts the next ready queue's command on a free engine. -/
  | dispatch (t : Nat) (engine : Nat)
  /-- `PRESENT` (R269). A PRESENT command is checked and held for latching at an epoch. -/
  | present (t : Nat) (h : QHdr) (handle : Nat) (slot : Nat) (region : Nat) (presentAt : Nat) (expected : Nat) (rects : List Rect)
  /-- `COPY` (R271). A COPY command copies a rectangle between surfaces tile by tile. -/
  | copy (t : Nat) (h : QHdr) (src : Nat) (dst : Nat) (srcX : Nat) (srcY : Nat) (dstX : Nat) (dstY : Nat) (w : Nat) (ht : Nat)
  /-- `FILL` (R271). A FILL command writes a value into a destination rectangle. -/
  | fill (t : Nat) (h : QHdr) (dst : Nat) (dstX : Nat) (dstY : Nat) (w : Nat) (ht : Nat) (value : Nat)
  /-- `CONVERT` (R271). A CONVERT command copies with format conversion. -/
  | convert (t : Nat) (h : QHdr) (src : Nat) (dst : Nat) (srcX : Nat) (srcY : Nat) (dstX : Nat) (dstY : Nat) (w : Nat) (ht : Nat)
  /-- `CHECK_VALUE` (R271). A CHECK_VALUE command computes a check value over a surface rectangle. -/
  | checkValue (t : Nat) (h : QHdr) (handle : Nat) (x : Nat) (y : Nat) (w : Nat) (ht : Nat)
  /-- `COPY_ENGINE_DONE` (R271). A copy-engine command completes its last tile. -/
  | copyEngineDone (t : Nat) (engine : Nat)
  /-- `COMMAND_PREEMPT` (R275). A running copy command stops at a tile boundary and writes PROGRESS. -/
  | commandPreempt (t : Nat) (engine : Nat) (tiles : Nat)
  /-- `FENCE_WAIT` (R273). A FENCE_WAIT holds its queue until the fence reaches WAIT_VALUE. -/
  | fenceWait (t : Nat) (h : QHdr) (value : Nat) (timeoutUs : Nat)
  /-- `FENCE_TIMEOUT` (R273). A FENCE_WAIT not satisfied within TIMEOUT_US completes with FENCE_TIMEOUT. -/
  | fenceTimeout (t : Nat) (part : Nat) (queue : Nat)
  /-- `FENCE_SIGNAL` (R267). A FENCE_SIGNAL command signals its fence. -/
  | fenceSignal (t : Nat) (h : QHdr)
  /-- `FENCE_VALUES_WRITE` (R273). A write of FenceValues signals a fence if the value is greater. -/
  | fenceValuesWrite (t : Nat) (ini : Ini) (part : Nat) (fence : Nat) (v : Word)
  /-- `RESERVED_COMMAND` (R266). A command with a reserved opcode or non-zero reserved bytes completes with BAD_COMMAND. -/
  | reservedCommand (t : Nat) (h : QHdr)
  /-- `QUEUE_PROMOTION` (R276). A ready queue waiting beyond MAX_WAIT_MS is promoted. -/
  | queuePromotion (t : Nat) (part : Nat) (queue : Nat)
  /-- `QUEUE_ABORT` (R277). A write of ABORT stops the running command and completes the rest with ABORTED. -/
  | queueAbort (t : Nat) (ini : Ini) (part : Nat) (queue : Nat) (v : Word) (done : Nat) (ring : List QHdr)
  /-- `MARKHOR_WATCHDOG_TRIP` (R295). 100 ms without a kick trips the Markhor watchdog and holds PD1 in reset. -/
  | markhorWatchdogTrip (t : Nat)
  /-- `LOCKSTEP_MISMATCH` (R295). A compare mismatch between Markhor's cores trips the watchdog at once. -/
  | lockstepMismatch (t : Nat)
  /-- `MARKHOR_AUTO_RELEASE` (R296). With AUTO_RESTART, PD1 is released 10 ms after a trip. -/
  | markhorAutoRelease (t : Nat)
  /-- `MARKHOR_RESTART` (R296). P0's write of RESTART restarts Markhor. -/
  | markhorRestart (t : Nat) (ini : Ini) (v : Word)
  /-- `MARKHOR_RESTART_DONE` (R296). A restarted Markhor completes verification and reload and sets MARKHOR_OK. -/
  | markhorRestartDone (t : Nat)
  /-- `MARKHOR_BOOT_DONE` (R299). Markhor verifies the planner firmware and releases the planner. -/
  | markhorBootDone (t : Nat) (tries : List FwTry) (verifiedAt : Nat) (ownerTable : Bool) (regions : List (List Nat))
  /-- `FW_LEVEL_RAISE` (R300). After 600 s of full-plan running Markhor raises FW_SECURITY_LEVEL. -/
  | fwLevelRaise (t : Nat)
  /-- `FUSE_PROGRAM` (R302). A FuseProgram write asks the FUSE service to program a field. -/
  | fuseProgram (t : Nat) (ini : Ini) (fld : FuseField) (value : Nat) (signed : Bool)
  /-- `FUSE_PROGRAM_DONE` (R302). Fuse programming completes after margin verify, or fails with FUSE_PROGRAM_FAILED. -/
  | fuseProgramDone (t : Nat) (bad : Nat)
  /-- `KEY_BUNDLE` (R308). A KeyBundle write passes a key bundle to Markhor's KEY service. -/
  | keyBundle (t : Nat) (ini : Ini) (data : List Byte)
  /-- `BUNDLE_RESULT` (R308). The KEY service accepts a bundle and writes the binding, or refuses it. -/
  | bundleResult (t : Nat) (sigOk : Bool)
  /-- `FIRMWARE_IMAGE` (R298). A FirmwareImage write is verified by Markhor and stored in the unused eMRAM copy. -/
  | firmwareImage (t : Nat) (ini : Ini) (data : List Byte) (sigOk : Bool)
  /-- `CHALLENGE` (R311). P0's write of CHALLENGE makes Markhor place a fresh nonce valid for 60 s. -/
  | challenge (t : Nat) (ini : Ini) (v : Word)
  /-- `FOXGLOVE_TOKEN` (R311). A FoxgloveToken write is sent to Markhor for checking. -/
  | foxgloveToken (t : Nat) (ini : Ini) (data : List Byte)
  /-- `TOKEN_CHECKED` (R311). Markhor accepts a token and starts an authorisation, or refuses it. -/
  | tokenChecked (t : Nat) (sigOk : Bool)
  /-- `AUTHORISATION_EXPIRY` (R311). A Foxglove or debug authorisation ends after DURATION_S. -/
  | authorisationExpiry (t : Nat)
  /-- `REVOKE` (R311). P0's write of REVOKE ends the active authorisation. -/
  | revoke (t : Nat) (ini : Ini) (v : Word)
  /-- `RNG_READY` (R305). The start-up test passes and the DRBG is instantiated. -/
  | rngReady (t : Nat)
  /-- `RNG_HEALTH_FAIL` (R307). An entropy health test fails; READY falls and the start-up test reruns. -/
  | rngHealthFail (t : Nat)
  /-- `RNG_RESEED` (R305). The DRBG reseeds after 2^20 requests or 1 s. -/
  | rngReseed (t : Nat)
  /-- `SEED_REFRESH` (R306). The stored seed is replaced with DRBG output once per hour. -/
  | seedRefresh (t : Nat) (lost : Bool)
  /-- `RNG_DATA_READ` (R313). A read of RngData DATA returns 64 fresh bits and updates VALID_LAST. -/
  | rngDataRead (t : Nat) (ini : Ini)
  /-- `REFRESH_DUE` (R323). A per-bank refresh falls due and is issued or postponed. -/
  | refreshDue (t : Nat) (chan : Nat) (temp : Int) (trained : Bool)
  /-- `MR4_POLL` (R324). Every 16 ms mode register 4 of each channel is read and the refresh rate set. -/
  | mr4Poll (t : Nat) (codes : List Nat)
  /-- `FREQ_CHANGE_START` (R325). A requested operating-point change starts at a safe instant. -/
  | freqChangeStart (t : Nat)
  /-- `FREQ_CHANGE_DONE` (R326). The frequency change completes and held requests are served. -/
  | freqChangeDone (t : Nat)
  /-- `FREQ_DEFERRED` (R325). No safe instant within WAIT_MS drops the change request. -/
  | freqDeferred (t : Nat)
  /-- `TRACKER_ENTRY_FREE` (R319). A freed tracker entry is granted to a waiting port by deficit round robin. -/
  | trackerEntryFree (t : Nat) (id : Nat)
  /-- `AGE_PROMOTION` (R320). A request waiting AGE_LIMIT_US is promoted to Urgent. -/
  | agePromotion (t : Nat) (id : Nat)
  /-- `PATROL_SCRUB` (R330). The patrol scrub pass of a group's ECC part runs every SCRUB_HOURS. -/
  | patrolScrub (t : Nat) (group : Nat) (fixed : List Nat) (bad : List Nat)
  /-- `BANK_RETENTION` (R331). A tile-store bank idle for BANK_IDLE_US enters retention. -/
  | bankRetention (t : Nat) (bank : Nat)
  /-- `WEAR_COUNTER_STORE` (R334). A wear counter's latest value is stored when its 100 ms coalescing ends. -/
  | wearCounterStore (t : Nat) (counter : Nat)
  /-- `USER_STORE` (R335). A user word or block is stored once its 10 s interval has elapsed. -/
  | userStore (t : Nat) (index : Nat)
  /-- `LIBRARY_ENTRY` (R336). A FallbackLibrary ENTRY write is verified by Markhor and stored. -/
  | libraryEntry (t : Nat) (ini : Ini) (data : List Byte) (sigOk : Bool)
  /-- `ERASE_ID` (R336). A write of ERASE_ID marks a library entry for removal at the next plan swap not naming it. -/
  | eraseId (t : Nat) (ini : Ini) (id : Word)
  /-- `DATA_FLIT_RX` (R341). A received data flit is accepted in sequence or discarded with a NAK. -/
  | dataFlitRx (t : Nat) (port : Nat) (bytes : List Byte) (fec : Nat)
  /-- `NAK_FLIT_RX` (R341). A received NAK makes the sender replay from the named SEQ. -/
  | nakFlitRx (t : Nat) (port : Nat) (bytes : List Byte) (fec : Nat)
  /-- `IDLE_FLIT_RX` (R341). A received idle flit advances the acknowledgement of sent flits. -/
  | idleFlitRx (t : Nat) (port : Nat) (bytes : List Byte) (fec : Nat)
  /-- `IDLE_FLIT_SEND` (R341). An idle flit is sent after 1 µs without data. -/
  | idleFlitSend (t : Nat) (port : Nat)
  /-- `REPLAY_TIMEOUT` (R341). No ACK advance for 10 µs replays every unacknowledged flit. -/
  | replayTimeout (t : Nat) (port : Nat)
  /-- `PORT_RETRAIN_DONE` (R342). A Chamois port retraining ends with lanes reduced, restored or the link down. -/
  | portRetrainDone (t : Nat) (port : Nat) (lanes : Nat) (gbps : Nat)
  /-- `LINK_RETRY` (R342). A down port retrains every 1 s while enabled. -/
  | linkRetry (t : Nat) (port : Nat)
  /-- `E2E_ACK_RX` (R345). An end-to-end acknowledgement message releases acknowledged messages. -/
  | e2eAckRx (t : Nat) (src : Nat) (cls : Nat) (seq : Nat)
  /-- `E2E_TIMEOUT` (R345). An unacknowledged message is retransmitted or abandoned with E2E_RETRY_FAILED. -/
  | e2eTimeout (t : Nat) (dest : Nat) (cls : Nat)
  /-- `TILE_MESSAGE_RX` (R139). A Pixel tile message for a remote stream or multicast is received. -/
  | tileMessageRx (t : Nat) (src : Nat) (stream : Nat) (tile : Nat) (epoch : Nat) (header : Nat) (data : List Byte) (present : Nat) (need : List Nat)
  /-- `BULK_WRITE_RX` (R340). A Bulk Write message writes data at an internal address of the destination. -/
  | bulkWriteRx (t : Nat) (src : Nat) (part : Nat) (secure : Bool) (addr : Nat) (data : List Byte)
  /-- `BULK_READ_REQUEST_RX` (R340). A Bulk read request message is served with read data. -/
  | bulkReadRequestRx (t : Nat) (src : Nat) (part : Nat) (secure : Bool) (addr : Nat) (len : Nat)
  /-- `BULK_READ_DATA_RX` (R340). Bulk read data returns to the requesting node. -/
  | bulkReadDataRx (t : Nat) (src : Nat) (addr : Nat) (data : List Byte)
  /-- `NODE_HELLO_RX` (R351). A node hello is checked against the neighbour's required ID, possibly excluding it. -/
  | nodeHelloRx (t : Nat) (port : Nat) (serial : Nat) (config : Nat) (node : Nat) (nport : Nat) (strap : Bool)
  /-- `NODE_HEARTBEAT_RX` (R353). A node heartbeat from a neighbour is received. -/
  | nodeHeartbeatRx (t : Nat) (node : Nat)
  /-- `NODE_HEARTBEAT_SEND` (R353). Every 1 ms a member sends a node heartbeat to each neighbour. -/
  | nodeHeartbeatSend (t : Nat)
  /-- `NODE_LOST` (R353). A node unheard for NODE_TIMEOUT_MS is lost and its surfaces and streams handled. -/
  | nodeLost (t : Nat) (node : Nat) (master : Nat)
  /-- `TIME_FLIT_SEND` (R347). Every 1 ms each up port sends a time flit. -/
  | timeFlitSend (t : Nat) (port : Nat)
  /-- `TIME_FLIT_RX` (R347). A received time flit updates delay and offset; the follower slews or steps. -/
  | timeFlitRx (t : Nat) (port : Nat) (sent : Nat) (got : Nat) (tenth : Nat) (master : Nat)
  /-- `TIME_SOURCE_LOST` (R349). A master losing its source enters holdover. -/
  | timeSourceLost (t : Nat)
  /-- `WALL_TIME_SET` (R347). A write of WALL_TIME_SET sets the free-running master's Wall time offset. -/
  | wallTimeSet (t : Nat) (ini : Ini) (v : Word)
  /-- `GPTP_MESSAGE_RX` (R468). An 802.1AS message is received and timestamped for time transfer. -/
  | gptpMessageRx (t : Nat) (mac : Nat) (origin : Nat) (path : Nat)
  /-- `TWIN_HEARTBEAT_RX` (R354). A Twin heartbeat is received on the Chamois channel. -/
  | twinHeartbeatRx (t : Nat) (port : Nat) (health : Nat) (plan : Nat)
  /-- `TWIN_HEARTBEAT_SEND` (R354). Every 1 ms a Twin device sends its heartbeat on every up port. -/
  | twinHeartbeatSend (t : Nat)
  /-- `TWIN_ALIVE_OUT_TOGGLE` (R354). TWIN_ALIVE_OUT toggles every 500 µs while a plan runs. -/
  | twinAliveOutToggle (t : Nat)
  /-- `TWIN_ALIVE_IN_EDGE` (R354). An edge on TWIN_ALIVE_IN supervises the partner. -/
  | twinAliveInEdge (t : Nat)
  /-- `WITNESS_HEARTBEAT_RX` (R354). The partner's Tilsol heartbeat is verified on the witness transport. -/
  | witnessHeartbeatRx (t : Nat) (transport : Nat) (f : TilFrame)
  /-- `TWIN_EVALUATION` (R354). Every 1 ms the Twin channels are evaluated and the partner state decided. -/
  | twinEvaluation (t : Nat)
  /-- `TWIN_NOTICE_RX` (R357). A Twin notice is received and partial failover switched as configured. -/
  | twinNoticeRx (t : Nat) (head : Nat) (lift : Bool)
  /-- `FOXGLOVE_CONFIG` (R363). A FoxgloveConfig write sets injection modes while authorised. -/
  | foxgloveConfig (t : Nat) (ini : Ini) (port : Nat) (sub : Nat) (v : Word)
  /-- `PCIE_LINK_DOWN` (R361). PERST_N or a surprise link-down resets PD14 and stops queues. -/
  | pcieLinkDown (t : Nat)
  /-- `PCIE_LINK_UP` (R361). The PCIe link completes training and applies VF_BAR2_LOG2. -/
  | pcieLinkUp (t : Nat) (gen : Nat) (width : Nat) (vfs : Nat) (flit : Bool)
  /-- `FLR` (R361). A function-level reset stops the function's queues and discards its mailbox request. -/
  | flr (t : Nat) (part : Nat)
  /-- `PEER_TO_PEER_REQUEST` (R360). A peer-to-peer request is completed with Unsupported Request. -/
  | peerToPeerRequest (t : Nat) (part : Nat)
  /-- `TOUCH_SAMPLE` (R370). A touch frame reaches its sample instant and touches and keys are processed. -/
  | touchSample (t : Nat) (port : Nat) (q : List Int) (selfTx : List Int) (selfRx : List Int)
  /-- `GLOVE_EXIT` (R368). No glove candidate for GLOVE_EXIT_MS returns the port to finger mode. -/
  | gloveExit (t : Nat) (port : Nat)
  /-- `TOUCH_RECORD_WRITE` (R374). A waiting touch record is written to the partition's touch ring. -/
  | touchRecordWrite (t : Nat) (part : Nat)
  /-- `SELFTEST_RUN` (R378). A write of SELFTEST_RUN starts the touch port self-test. -/
  | selftestRun (t : Nat) (ini : Ini) (port : Nat) (v : Word)
  /-- `SELFTEST_DONE` (R378). The touch self-test completes and records its faults. -/
  | selftestDone (t : Nat) (port : Nat) (m : SelfMeas)
  /-- `HIT_MASK` (R373). A HIT_MASK write is validated and takes effect at the next epoch. -/
  | hitMask (t : Nat) (ini : Ini) (slot : Nat) (data : List Byte)
  /-- `HAPTIC_TICK` (R383). At the 48 kHz tick the haptic channel samples sense and computes its drive. -/
  | hapticTick (t : Nat) (chan : Nat) (mv : Int) (ma : Int)
  /-- `CHANNEL_OVERCURRENT` (R384). Current over ILIMIT_MA ends the PWM period; too many faults the channel. -/
  | channelOvercurrent (t : Nat) (chan : Nat)
  /-- `BRAKE_TIMEOUT` (R386). Braking ends after BRAKE_MAX_MS and BRAKE_TIMEOUTS increments. -/
  | brakeTimeout (t : Nat) (chan : Nat)
  /-- `HAPT_TRIG_EDGE` (R388). A filtered HAPT_TRIG edge starts its configured effect. -/
  | haptTrigEdge (t : Nat) (n : Nat) (rising : Bool)
  /-- `PLAY` (R388). A write of HapticPlay PLAY starts an effect on the channel. -/
  | play (t : Nat) (ini : Ini) (chan : Nat) (v : Word)
  /-- `HAPTIC_FAULT_CLEAR` (R384). A write of haptic FAULT_CLEAR re-enables a faulted channel. -/
  | hapticFaultClear (t : Nat) (ini : Ini) (chan : Nat) (v : Word)
  /-- `AXIS_UPDATE` (R396). Each axis runs one control update at RATE_HZ. -/
  | axisUpdate (t : Nat) (axis : Nat) (late : Bool) (reply : Nat)
  /-- `ENCODER_TRANSITION` (R392). An accepted encoder A/B transition counts ±1 or is a phase error. -/
  | encoderTransition (t : Nat) (enc : Nat) (a : Bool) (b : Bool)
  /-- `ENC_CLEAR` (R393). A write of ENC_CLEAR clears FAULTY after 100 ms without illegal transitions. -/
  | encClear (t : Nat) (ini : Ini) (enc : Nat) (v : Word)
  /-- `LIMIT_INPUT_EDGE` (R394). A raw edge of a limit or home input is counted for chatter and debounced. -/
  | limitInputEdge (t : Nat) (axis : Nat) (input : Nat) (level : Bool)
  /-- `LIMIT_LATCH` (R394). A limit asserted for LIMIT_DEBOUNCE_US latches and clamps motion toward it. -/
  | limitLatch (t : Nat) (axis : Nat) (input : Nat)
  /-- `HOME_REQUEST` (R395). A write of HOME_REQUEST starts homing. -/
  | homeRequest (t : Nat) (ini : Ini) (axis : Nat) (v : Word)
  /-- `HOME_FOUND` (R395). HOME asserted after debounce sets the home position and HOMED. -/
  | homeFound (t : Nat) (axis : Nat)
  /-- `HOMING_TIMEOUT` (R395). Homing not finished within HOMING_TIMEOUT_MS fails. -/
  | homingTimeout (t : Nat) (axis : Nat)
  /-- `AXIS_FAULT_CLEAR` (R391). A write of axis FAULT_CLEAR restarts the axis from STO. -/
  | axisFaultClear (t : Nat) (ini : Ini) (axis : Nat) (v : Word)
  /-- `HANDOVER_END` (R399). The output slew limit of a hand-over ends after HANDOVER_MS. -/
  | handoverEnd (t : Nat) (axis : Nat)
  /-- `AUDIO_BLOCK` (R404). An audio block starts; CG_AUDIO applies and the block is mixed and output. -/
  | audioBlock (t : Nat) (src : List (Option (List Int))) (locked : List Nat)
  /-- `AMP_EN_FALL` (R413). AMP_EN goes low 1 ms after its outputs are all silent. -/
  | ampEnFall (t : Nat) (n : Nat)
  /-- `AVB_PACKET_RX` (R406). An AVB listener packet is received or discarded as late. -/
  | avbPacketRx (t : Nat) (stream : Nat) (time : Nat) (data : List (List Int))
  /-- `ASRC_UNLOCK` (R411). A converter not locked within 50 ms outputs zeros. -/
  | asrcUnlock (t : Nat) (input : Nat)
  /-- `COALESCE_WINDOW_END` (R426). A coalescing slot's window ends, creating a coalesced record if counts remain. -/
  | coalesceWindowEnd (t : Nat) (source : Nat) (code : Nat) (part : Nat)
  /-- `EVENT_RECORD_WRITE` (R425). A waiting event record is written to an event ring when room exists. -/
  | eventRecordWrite (t : Nat) (part : Nat)
  /-- `ALIVE_TOGGLE` (R433). ALIVE toggles every 1 ms while a planner core and the event engine run. -/
  | aliveToggle (t : Nat)
  /-- `COUNTER_OVERFLOW` (R435). A performance counter wraps, records the overflow and may interrupt. -/
  | counterOverflow (t : Nat) (k : Nat)
  /-- `DUMP_LATCH` (R436). Every DUMP_PERIOD_US the DUMP_SET counters are latched and a dump record written. -/
  | dumpLatch (t : Nat) (skip : Bool)
  /-- `TRACE_PAGE_FLUSH` (R437). A trace page is handed over PARTIAL after FLUSH_MS. -/
  | tracePageFlush (t : Nat) (ring : Nat)
  /-- `TRACE_CONSUMER_WRITE` (R438). A host CONSUMER write hands over a truncated page and starts the next. -/
  | traceConsumerWrite (t : Nat) (ini : Ini) (ring : Nat) (v : Word)
  /-- `CAPTURE_FRAME_DONE` (R440). A captured frame's DMA completes and is handed over by advancing PRODUCER. -/
  | captureFrameDone (t : Nat) (head : Nat) (lag : Nat)
  /-- `DOMAIN_POWER_ON_DONE` (R443). A switched-on power domain completes its power-on and applies its configuration. -/
  | domainPowerOnDone (t : Nat) (domain : Nat)
  /-- `DOMAIN_RESET` (R447). P0's write of DOMAIN_RESET resets one switchable domain. -/
  | domainReset (t : Nat) (ini : Ini) (v : Word)
  /-- `DEVICE_RESET` (R447). P0's write of DEVICE_RESET resets the device as RESET_N does. -/
  | deviceReset (t : Nat) (ini : Ini) (v : Word)
  /-- `RESET_N` (R447). RESET_N low for 10 µs resets the device; release starts start-up. -/
  | resetN (t : Nat) (low : Bool) (node : Nat) (senior : Nat) (mode : Nat)
  /-- `POWER_ON_RESET` (R447). VAON entering range resets the whole device including device time. -/
  | powerOnReset (t : Nat)
  /-- `PLL_LOCK_LOSS` (R446). A PLL losing lock holds its units until it relocks. -/
  | pllLockLoss (t : Nat) (pll : Nat)
  /-- `PLL_RELOCK_TIMEOUT` (R446). A PLL not relocked within 1 ms marks its units unusable. -/
  | pllRelockTimeout (t : Nat) (pll : Nat)
  /-- `CK2_CHECK` (R446). Every 1 ms CK2 is checked against CK1; failure causes a clock-fault reset. -/
  | ck2Check (t : Nat) (ok : Bool)
  /-- `BIST_RUN` (R450). A write of BistControl RUN re-runs BIST on the named domains. -/
  | bistRun (t : Nat) (ini : Ini) (mask : Word)
  /-- `BIST_DONE` (R449). BIST completes, marking units unusable and storing repairs. -/
  | bistDone (t : Nat) (found : List BistUnit)
  /-- `PLANNER_WATCHDOG_TRIP` (R451). Silent planner cores are marked unusable or PD2 is reset. -/
  | plannerWatchdogTrip (t : Nat) (silent : List Nat)
  /-- `PLANNER_RESTART_DONE` (R451). The planner restarts after reverification within 300 ms. -/
  | plannerRestartDone (t : Nat)
  /-- `PARTITION_RESTART` (R452). A write of PartitionRestart RESTART restarts one partition's state. -/
  | partitionRestart (t : Nat) (ini : Ini) (part : Nat) (v : Word) (done : List Nat) (rings : List (List QHdr))
  /-- `PARTITION_RESTART_DONE` (R452). A partition restart completes within 100 ms. -/
  | partitionRestartDone (t : Nat) (part : Nat)
  /-- `DRAM_TRAINING_DONE` (R328). DRAM training completes at start-up or after BIST. -/
  | dramTrainingDone (t : Nat) (fails : List Nat) (temps : List Int)
  /-- `ECC_INIT_DONE` (R453). The ECC parts are written with zero data and valid check bytes. -/
  | eccInitDone (t : Nat)
  /-- `EARLY_PLAN_LOADED` (R453). The early plan is read from EARLY_SLOT into the tile store and verified. -/
  | earlyPlanLoaded (t : Nat) (sigOk : Bool)
  /-- `GPIO_INPUT_EDGE` (R460). A debounced GPIO edge drives its interrupt line to the owner. -/
  | gpioInputEdge (t : Nat) (pin : Nat) (level : Bool)
  /-- `GPIO_OUT_WRITE` (R460). A write of bank OUT drives only the pins the writer owns. -/
  | gpioOutWrite (t : Nat) (ini : Ini) (bank : Nat) (win : Nat) (v : Word)
  /-- `BANK_UNDERVOLTAGE` (R459). VIO_k below 1.62 V puts bank k in undervoltage. -/
  | bankUndervoltage (t : Nat) (bank : Nat) (mv : Nat)
  /-- `BANK_RESUME` (R459). A bank resumes 1 ms after VIO_k returns above 1.65 V. -/
  | bankResume (t : Nat) (bank : Nat) (mv : Nat)
  /-- `I2C_GO` (R461). A write of I2cXfer GO starts an I²C transfer. -/
  | i2cGo (t : Nat) (ini : Ini) (bus : Nat) (v : Word)
  /-- `I2C_TRANSFER_DONE` (R461). An I²C transfer ends with success, ADDRESS_NACK or ARB_LOST. -/
  | i2cTransferDone (t : Nat) (bus : Nat) (code : Nat) (data : List Byte)
  /-- `BUS_TIMEOUT` (R461). A line held low beyond TIMEOUT_MS ends the transfer and starts recovery. -/
  | busTimeout (t : Nat) (bus : Nat)
  /-- `RECOVER` (R462). A write of RECOVER starts I²C bus recovery. -/
  | recover (t : Nat) (ini : Ini) (bus : Nat) (v : Word)
  /-- `I2C_RECOVERY_DONE` (R462). I²C recovery ends with the bus idle or stuck. -/
  | i2cRecoveryDone (t : Nat) (bus : Nat) (scl : Bool) (pulses : Nat)
  /-- `SPI_GO` (R463). A write of SpiXfer GO starts an SPI transfer. -/
  | spiGo (t : Nat) (ini : Ini) (unit : Nat) (v : Word)
  /-- `SPI_TRANSFER_DONE` (R463). An SPI transfer completes and RXDATA is filled. -/
  | spiTransferDone (t : Nat) (unit : Nat) (data : List Byte)
  /-- `TX_LEN` (R465). A write of UART TX_LEN sends the TXDATA bytes. -/
  | txLen (t : Nat) (ini : Ini) (uart : Nat) (v : Word)
  /-- `UART_BYTE_RX` (R465). A received UART byte enters the buffer or overflows. -/
  | uartByteRx (t : Nat) (uart : Nat) (b : Byte) (err : Bool)
  /-- `UART_RXDATA_READ` (R465). A read of RXDATA takes and removes buffered bytes. -/
  | uartRxdataRead (t : Nat) (ini : Ini) (uart : Nat) (n : Nat)
  /-- `CAN_BUS_ERROR` (R467). CAN error counting enters error-passive or bus-off. -/
  | canBusError (t : Nat) (can : Nat) (tec : Nat) (rec_ : Nat)
  /-- `BUS_OFF_RECOVERY` (R467). A bus-off controller recovers after 128 occurrences of 11 recessive bits. -/
  | busOffRecovery (t : Nat) (can : Nat)
  /-- `ETH_LINK_CHANGE` (R468). An Ethernet link goes up or down. -/
  | ethLinkChange (t : Nat) (mac : Nat) (up : Bool) (speed : Nat)
  /-- `GATE_CYCLE_START` (R469). A gate control cycle starts and a committed list takes effect. -/
  | gateCycleStart (t : Nat) (mac : Nat)
  /-- `THERMAL_THROTTLE` (R477). Tj at the throttle threshold halves CK8. -/
  | thermalThrottle (t : Nat) (temps : List Int)
  /-- `RENDER_STOPPED` (R477). Tj at Tj_max stops the render engine. -/
  | renderStopped (t : Nat) (temps : List Int)
  /-- `THERMAL_TRIP` (R477). Tj 10 °C above Tj_max for 1 ms holds the device in reset. -/
  | thermalTrip (t : Nat) (temps : List Int)
  /-- `THERMAL_RELEASE` (R477). Tj below the release threshold for the hold time lifts a thermal action. -/
  | thermalRelease (t : Nat) (temps : List Int)
  /-- `VIN_OVERCURRENT` (R477). VIN current at 42 A for 100 µs halves CK8. -/
  | vinOvercurrent (t : Nat) (ma : Nat)
  /-- `OVERCURRENT_TRIP` (R477). VIN current at 46 A for 10 µs turns regulators off and holds reset. -/
  | overcurrentTrip (t : Nat) (ma : Nat)
  /-- `VIN_BROWNOUT` (R477). VIN below 1.62 V for 10 µs resets the device. -/
  | vinBrownout (t : Nat) (mv : Nat)
  /-- `VIN_HIGH_TRIP` (R477). VIN above 3.75 V for 100 µs turns regulators off and resets. -/
  | vinHighTrip (t : Nat) (mv : Nat)
  /-- `TRIP_RELEASE` (R477). A supply or current trip releases after its hold time and start-up begins. -/
  | tripRelease (t : Nat) (mv : Nat) (ma : Nat)
  /-- `PLL_RELOCK` (R446). A PLL that lost lock relocks within 100 µs and its held units resume. -/
  | pllRelock (t : Nat) (pll : Nat)
  /-- `UART_TX_COMPLETE` (R465). The last byte sent by a TX_LEN write leaves the UART, so no bytes remain unsent and a new TX_LEN is accepted. -/
  | uartTxComplete (t : Nat) (uart : Nat)
  /-- `ENCODER_INDEX_EDGE` (R392). A rising edge of ENCk_I with A and B both high latches COUNT into INDEX_LATCH. -/
  | encoderIndexEdge (t : Nat) (enc : Nat) (rising : Bool)
  deriving DecidableEq, Repr

end Sys2Proof
end

