-- ==== Sys2Proof/Decode.lean ====
section
/-!
DEFINITION. The words of the command table. spec/opcode_table.json gives no row any bits ("fields": [] in every
row), so no word spells a command of this block.
-/
namespace Sys2Proof

/-- The command that a word of `nbits` bits spells by the table's bits: none, since no row of the table has bits. -/
def decodeTableWord (_nbits _w : Nat) : Option Instr := none

end Sys2Proof
end

