-- ==== Sys2Proof/Config.lean ====
section
/-!
DEFINITION. What the spec leaves open or fixes outside itself, as uninterpreted constants: nothing in Lean can
evaluate one of them or prove a value of it, so a statement about the model holds whatever they are.
-/
namespace Sys2Proof.Config

/-- A value the spec calls undefined or does not state. Applied to the counter `State.fresh`, which every use
advances, so that two uses need not agree. DESIGN CHOICE, log entry 3. -/
opaque freeWord : Nat → Word

/-- The byte that one use of a free block value holds at an offset. DESIGN CHOICE, log entry 3. -/
opaque freeByte : Nat → Nat → Byte

/-- The effect records 0 to 127, CONST with contents fixed by the device (R385 and the object table of
0x8380 + e). DESIGN CHOICE, log entry 5. -/
opaque effectByte (record offset : Nat) : Byte

/-- Values of objects that the manual does not give (R62): STEPPING, SERIAL, firmware versions, default MAC addresses,
the device public key, the performance catalogue. Applied to the object's key. DESIGN CHOICE, log entry 6. -/
opaque identityWord (key : Nat) : Word

/-- As `identityWord`, for the block objects of that kind. DESIGN CHOICE, log entry 6. -/
opaque identityByte (key offset : Nat) : Byte

/-- The content of PerfCatalogue (R434): the events of each block, which the manual does not list. DESIGN CHOICE, log entry 38. -/
opaque perfCatalogue : List Byte

/-- The direction of the encoders of R392, which the manual does not give: true if COUNT rises when A leads B.
DESIGN CHOICE, log entry 19. -/
opaque quadForward : Bool

/-- The ROM voices of the chime (R414): the number of samples of a voice at a mixing rate, and each of them.
DESIGN CHOICE, log entry 21. -/
opaque chimeLength (voice rate : Nat) : Nat
opaque chimeSample (voice rate n : Nat) : Int

/-- The bytes of a record of the planner trace and of the memory request trace (R441, SOURCE 3 and 5), whose form the manual
does not give. DESIGN CHOICE, log entry 112. -/
opaque traceRecord (n : Nat) : List Byte

/-- The internal address of Chamois audio ring `ring` on a node (R405), which the manual does not give. DESIGN CHOICE, log
entry 21. -/
opaque audioRing (ring : Nat) : Nat

/-- The keyed hash of R345 that a FLOW value is: of the key drawn from the RNG, the initiator and the partition or page.
DEDUCED, log entry 22. -/
opaque flowHash (key initiator what : Nat) : Nat

/-- A ray in the object space of an instance (R249): binary32 word `i` of its origin and direction, from the 12 words of the
object-to-world transform and the six of the ray. The manual does not give the arithmetic. DESIGN CHOICE, log entry 101. -/
opaque objectRay (transform ray : List Nat) (i : Nat) : Nat

end Sys2Proof.Config
end

