-- ==== Sys2Proof/Machine/Maps.lean ====
section
/-!
DEFINITION. Sparse maps in one canonical form: a list of (key, value) pairs with strictly rising keys, in which no
entry equals what an unlisted key reads as. The dictionary and the internal memory are such maps.
-/
namespace Sys2Proof.Machine

/-- What a map reads as at a key; `d` is what an unlisted key reads as. -/
def mget {α : Type} (d : α) (k : Nat) : List (Nat × α) → α
  | [] => d
  | (k', v) :: r => if k' = k then v else mget d k r

/-- True of a key that is listed. -/
def mhas {α : Type} (k : Nat) : List (Nat × α) → Bool
  | [] => false
  | (k', _) :: r => k' == k || mhas k r

/-- The map with `(k, v)` listed where the keys rise, in place of an entry of the same key. -/
def minsert {α : Type} (k : Nat) (v : α) : List (Nat × α) → List (Nat × α)
  | [] => [(k, v)]
  | (k', v') :: r =>
    if k < k' then (k, v) :: (k', v') :: r
    else if k = k' then (k, v) :: r
    else (k', v') :: minsert k v r

/-- The map with `v` at `k`: writing what an unlisted key reads as removes the entry. -/
def mput {α : Type} [DecidableEq α] (d : α) (k : Nat) (v : α) (m : List (Nat × α)) : List (Nat × α) :=
  if v = d then m.filter (fun e => e.1 != k) else minsert k v m

/-- The canonical form: keys rise strictly above `lo`, and no entry is the default of its key. -/
def mwfFrom {α : Type} [DecidableEq α] (dflt : Nat → α) : Option Nat → List (Nat × α) → Bool
  | _, [] => true
  | lo, (k, v) :: r =>
    (match lo with
      | none => true
      | some l => decide (l < k)) && !decide (v = dflt k) && mwfFrom dflt (some k) r

/-- The canonical form of a whole map. -/
def mwf {α : Type} [DecidableEq α] (dflt : Nat → α) (m : List (Nat × α)) : Bool := mwfFrom dflt none m

/-- `m` with each of the listed pairs written, in order. -/
def mputAll {α : Type} [DecidableEq α] (dflt : Nat → α) : List (Nat × α) → List (Nat × α) → List (Nat × α)
  | [], m => m
  | (k, v) :: r, m => mputAll dflt r (mput (dflt k) k v m)

/-- The element of a list at a position, or a default past its end. -/
def nth {α : Type} (d : α) : List α → Nat → α
  | [], _ => d
  | x :: _, 0 => x
  | _ :: r, n + 1 => nth d r n

/-- The list with the element at a position replaced; a list that is too short is extended with `d`. -/
def setNth {α : Type} (d : α) : List α → Nat → α → List α
  | [], 0, v => [v]
  | [], n + 1, v => d :: setNth d [] n v
  | _ :: r, 0, v => v :: r
  | x :: r, n + 1, v => x :: setNth d r n v

/-- Little-endian bytes of a number. -/
def leBytes : Nat → Nat → List Byte
  | 0, _ => []
  | n + 1, v => byteOf v :: leBytes n (v / 256)

/-- The number that bytes spell, little-endian. -/
def leNat : List Byte → Nat
  | [] => 0
  | b :: r => b.toNat + 256 * leNat r

/-- `n` bytes of a list from an offset, zero past its end. -/
def bytesAt (l : List Byte) (off n : Nat) : List Byte :=
  let x := (l.drop off).take n
  x ++ List.replicate (n - x.length) 0

/-- The little-endian number in `n` bytes from an offset. -/
def numAt (l : List Byte) (off n : Nat) : Nat := leNat (bytesAt l off n)

/-- Bit `b` of a number. -/
def bit (v b : Nat) : Bool := v / 2 ^ b % 2 == 1

/-- Bits [hi:lo] of a number. -/
def bitsOf (v hi lo : Nat) : Nat := v / 2 ^ lo % 2 ^ (hi + 1 - lo)

/-- The number with bit `b` set or cleared. -/
def setBit (v b : Nat) (on : Bool) : Nat :=
  if bit v b then (if on then v else v - 2 ^ b) else (if on then v + 2 ^ b else v)

/-- How many of the low `n` bits are set. -/
def popCount : Nat → Nat → Nat
  | 0, _ => 0
  | n + 1, v => v % 2 + popCount n (v / 2)

/-- Two's-complement reading of the low `w` bits. -/
def sext (w v : Nat) : Int :=
  let m := v % 2 ^ w
  if m ≥ 2 ^ (w - 1) then (m : Int) - 2 ^ w else m

/-- Serial-number comparison of R22: `a` is later than `b` in width `w`. At a distance of exactly 2^(w−1) neither
is later. -/
def serialLater (w a b : Nat) : Bool := decide (0 < sext w ((a + 2 ^ w - b % 2 ^ w) % 2 ^ w))

end Sys2Proof.Machine
end

