-- ==== Sys2Proof/Machine/Crc.lean ====
section
/-!
DEFINITION. Cyclic redundancy checks of any width and polynomial, with reflection, as the check-value units (R212) and
the Chamois flits (R340) compute them.
-/
namespace Sys2Proof.Machine

/-- The low `n` bits of a number in reverse order. -/
def reflect : Nat → Nat → Nat
  | 0, _ => 0
  | n + 1, v => v % 2 * 2 ^ n + reflect n (v / 2)

/-- One shift step of a register of width `w`: shift left by one, and XOR the polynomial if the bit shifted out is 1. -/
def crcShift (w poly r : Nat) : Nat :=
  let s := r * 2 % 2 ^ w
  if r / 2 ^ (w - 1) % 2 = 1 then Nat.xor s poly else s

/-- `n` shift steps. -/
def crcShifts (w poly : Nat) : Nat → Nat → Nat
  | 0, r => r
  | n + 1, r => crcShifts w poly n (crcShift w poly r)

/-- A byte run into the register, its bits from the most significant on, or reversed with `refin`. -/
def crcByte (w poly : Nat) (refin : Bool) (r : Nat) (b : Byte) : Nat :=
  let v := if refin then reflect 8 b.toNat else b.toNat
  crcShifts w poly 8 (Nat.xor r (v * 2 ^ (w - 8)))

/-- Bytes run into the register. -/
def crcBytes (w poly : Nat) (refin : Bool) (r : Nat) (l : List Byte) : Nat := l.foldl (crcByte w poly refin) r

/-- The value read from the register at the end. -/
def crcFinal (w : Nat) (refout : Bool) (xorout r : Nat) : Nat := Nat.xor (if refout then reflect w r else r) xorout

/-- The CRC-32 of R340. -/
def crc32 (l : List Byte) : Nat := crcFinal 32 true 0xFFFFFFFF (crcBytes 32 0x04C11DB7 true 0xFFFFFFFF l)

end Sys2Proof.Machine
end

