-- ==== Sys2Proof/Machine/ObjTypes.lean ====
section
/-!
DEFINITION. The shapes of the object dictionary (R29 to R35): data types, access codes, ranges, commit groups,
access masks, and one row of an object table, with the family of indices it stands for.
-/
namespace Sys2Proof.Machine

/-- Data types of R32. `uns` and `sgn` carry their width in bits, `bits` is BITS32 or BITS64, `octet` carries n,
`domain` the upper end of the Range column. -/
inductive Ty where
  | bool
  | uns (width : Nat)
  | sgn (width : Nat)
  | f32
  | bits (width : Nat)
  | octet (n : Nat)
  | vstring
  | domain (max : Nat)
  deriving DecidableEq, Repr

/-- Access codes of R33. -/
inductive Acc where
  | ro | rw | wo | rwo | lck | const
  deriving DecidableEq, Repr

/-- A Range column (R54): the whole type, an interval, multiples of a step in an interval, an enumeration in
separate pieces, the defined bits of a BITS object, an interval of binary32 patterns, or a range that depends on
the state or the instance, by number (`rangeOf` says which). -/
inductive Rng where
  | full
  | iv (lo hi : Int)
  | step (lo hi size : Nat)
  | pieces (l : List (Int × Int))
  | mask (m : Nat)
  | f32 (lo hi : Nat)
  | special (k : Nat)
  deriving DecidableEq, Repr

/-- A Default column: a value, the instance or member number, or a value that depends on the configuration or on
the instance. -/
inductive Dflt where
  | v (x : Int)
  | inst
  | memb
  | npart | prod | units | clu | trkTotal | trkRes | tsKib
  | bnd | bhead | proto | maxLanes | maxRate | bpc | opRate
  | ident (bits : Nat)
  | pdState | pdSwitch
  deriving DecidableEq, Repr

/-- The Commit group column (R48): none, a fixed group, CG_HEADn of the record's head, or CG_Lk of the layer slot's
group. -/
inductive Grp where
  | none
  | g (n : Nat)
  | head
  | layer
  deriving DecidableEq, Repr

/-- Who has the right (R34), as the owning chapter states it. `inst`: partition i of instance i, and P0. `instOnly`:
that partition alone. `headOwners`: P0 and the partitions owning a layer on head i. `portReaders`: those of the heads
that name port i. `layerOwner`: P0 and the owner of layer slot i. `owner d m`: P0 and the partition that the object
at index − d, sub-index m names. `ownEntry`: partition sub − 1 alone. `markhor`: the secure world. `pf`: the PCIe
physical function. `clamp`: all; an entry reads as zeros to a partition that is neither P0 nor the entry's (R57). `client`: P0 and the binding's partition. `fox`: P0
while Foxglove is authorised. `regionOwners`: `headOwners` of region i's head. `keyOwner`: the OWNER of the plan key.
`touchOwners`: `headOwners` of the touch port's head. `headCommit`: P0 and the partitions with the commit right for
CG_HEADi, which read the head objects of chapter 07 too (R192). `tilsol`: a Tilsol client. -/
inductive Who where
  | all | p0 | inst | instOnly | ownEntry | markhor | pf | none
  | headOwners | headCommit | portReaders | layerOwner | regionOwners | touchOwners | keyOwner
  | owner (back sub : Nat)
  | clamp | client | fox | pinOwner | tilsol
  deriving DecidableEq, Repr

/-- How fast a status object's SEQ may advance (R47): a minimum interval in ns for the whole object, or once per
flag in each epoch or frame. -/
inductive Rate where
  | interval (ns : Nat)
  | perEpoch
  | perFrame
  deriving DecidableEq, Repr

/-- One row of an object table: the family of indices base + i × stride + j × stride2 with i below `cnt` (`cntC`
on Compact) and j below `cnt2`, and the sub-indices lo + m × lstep with m below `n`. `i0` is the first instance
number. `defs` and its last entry give the members' defaults. -/
structure Row where
  base : Nat
  cnt : Nat
  cntC : Nat
  stride : Nat
  cnt2 : Nat
  stride2 : Nat
  i0 : Nat
  lo : Nat
  n : Nat
  lstep : Nat
  ty : Ty
  acc : Acc
  pers : Bool
  grp : Grp
  rd : Who
  wr : Who
  lock : Nat
  banked : Bool
  status : Option Rate
  dv : List Dflt
  rg : Rng
  deriving DecidableEq, Repr

/-- A row found for an address, with its instance and member numbers. -/
structure Obj where
  row : Row
  inst : Nat
  memb : Nat
  deriving DecidableEq, Repr

/-- A block object's content and generation (R60). -/
structure Block where
  gen : Nat
  data : List Byte
  deriving DecidableEq, Repr

/-- The key of an object in the maps of State: bank (the partition of a banked object, else 0), index and
sub-index. -/
def okey (bank idx sub : Nat) : Nat := 0x1000000 * bank + 0x100 * idx + sub

/-- The index of a key. -/
def keyIdx (k : Nat) : Nat := k / 0x100 % 0x10000

/-- The sub-index of a key. -/
def keySub (k : Nat) : Nat := k % 0x100

/-- The bank of a key. -/
def keyBank (k : Nat) : Nat := k / 0x1000000

/-- index [23:8], sub [7:0], as the OBJECT fields of the manual hold it. -/
def objRef (k : Nat) : Nat := k % 0x1000000

/-- True of the block types of R32. -/
def Ty.isBlock : Ty → Bool
  | .octet _ | .vstring | .domain _ => true
  | _ => false

/-- True of BITS32 and BITS64. -/
def Ty.isBits : Ty → Bool
  | .bits _ => true
  | _ => false

/-- True of the signed types. -/
def Ty.isSigned : Ty → Bool
  | .sgn _ => true
  | _ => false

/-- The size in bits of a scalar type; 0 for block types (R32). -/
def Ty.width : Ty → Nat
  | .bool => 8
  | .uns w => w
  | .sgn w => w
  | .f32 => 32
  | .bits w => w
  | .octet _ | .vstring | .domain _ => 0

end Sys2Proof.Machine
end

