-- ==== Sys2Proof/Machine/ObjTable.lean ====
section
/-!
DEFINITION. The object tables of the spec's chapters, row by row, in index order. The comment before each row names
the index and the objects as the chapter's table does; R32 gives the type definition objects.
-/
namespace Sys2Proof.Machine

/-- Rows from index 0x0000. -/
def objRows0 : List Row := [
  -- 0x0001 type definition
  ⟨0x0001, 1, 1, 0, 1, 0, 0, 0, 1, 1, (.uns 32), .const, false, .none, .all, .none, 0, false, none, [.v 8], .full⟩,
  -- 0x0002 type definition
  ⟨0x0002, 1, 1, 0, 1, 0, 0, 0, 1, 1, (.uns 32), .const, false, .none, .all, .none, 0, false, none, [.v 8], .full⟩,
  -- 0x0003 type definition
  ⟨0x0003, 1, 1, 0, 1, 0, 0, 0, 1, 1, (.uns 32), .const, false, .none, .all, .none, 0, false, none, [.v 16], .full⟩,
  -- 0x0004 type definition
  ⟨0x0004, 1, 1, 0, 1, 0, 0, 0, 1, 1, (.uns 32), .const, false, .none, .all, .none, 0, false, none, [.v 32], .full⟩,
  -- 0x0005 type definition
  ⟨0x0005, 1, 1, 0, 1, 0, 0, 0, 1, 1, (.uns 32), .const, false, .none, .all, .none, 0, false, none, [.v 64], .full⟩,
  -- 0x0006 type definition
  ⟨0x0006, 1, 1, 0, 1, 0, 0, 0, 1, 1, (.uns 32), .const, false, .none, .all, .none, 0, false, none, [.v 8], .full⟩,
  -- 0x0007 type definition
  ⟨0x0007, 1, 1, 0, 1, 0, 0, 0, 1, 1, (.uns 32), .const, false, .none, .all, .none, 0, false, none, [.v 16], .full⟩,
  -- 0x0008 type definition
  ⟨0x0008, 1, 1, 0, 1, 0, 0, 0, 1, 1, (.uns 32), .const, false, .none, .all, .none, 0, false, none, [.v 32], .full⟩,
  -- 0x0009 type definition
  ⟨0x0009, 1, 1, 0, 1, 0, 0, 0, 1, 1, (.uns 32), .const, false, .none, .all, .none, 0, false, none, [.v 64], .full⟩,
  -- 0x000A type definition
  ⟨0x000A, 1, 1, 0, 1, 0, 0, 0, 1, 1, (.uns 32), .const, false, .none, .all, .none, 0, false, none, [.v 32], .full⟩,
  -- 0x000B type definition
  ⟨0x000B, 1, 1, 0, 1, 0, 0, 0, 1, 1, (.uns 32), .const, false, .none, .all, .none, 0, false, none, [.v 32], .full⟩,
  -- 0x000C type definition
  ⟨0x000C, 1, 1, 0, 1, 0, 0, 0, 1, 1, (.uns 32), .const, false, .none, .all, .none, 0, false, none, [.v 64], .full⟩,
  -- 0x000D type definition
  ⟨0x000D, 1, 1, 0, 1, 0, 0, 0, 1, 1, (.uns 32), .const, false, .none, .all, .none, 0, false, none, [.v 0], .full⟩,
  -- 0x000E type definition
  ⟨0x000E, 1, 1, 0, 1, 0, 0, 0, 1, 1, (.uns 32), .const, false, .none, .all, .none, 0, false, none, [.v 0], .full⟩,
  -- 0x000F type definition
  ⟨0x000F, 1, 1, 0, 1, 0, 0, 0, 1, 1, (.uns 32), .const, false, .none, .all, .none, 0, false, none, [.v 0], .full⟩
  ]

/-- Rows from index 0x1000. -/
def objRows1 : List Row := [
  -- 0x1000:00 DeviceType
  ⟨0x1000, 1, 1, 0, 1, 0, 0, 0, 1, 1, (.uns 32), .const, false, .none, .all, .none, 0, false, none, [.v 5443606], .full⟩,
  -- 0x1008:00 DeviceName, "Sahean SX16"
  ⟨0x1008, 1, 1, 0, 1, 0, 0, 0, 1, 1, .vstring, .const, false, .none, .all, .none, 0, false, none, [.v 0], .full⟩,
  -- 0x1009:00 OrderingCode, for example "SX16-IF"
  ⟨0x1009, 1, 1, 0, 1, 0, 0, 0, 1, 1, .vstring, .const, false, .none, .all, .none, 0, false, none, [.v 0], .full⟩,
  -- 0x1018:00 Identity (highest sub-index)
  ⟨0x1018, 1, 1, 0, 1, 0, 0, 0, 1, 1, (.uns 8), .const, false, .none, .all, .none, 0, false, none, [.v 6], .full⟩,
  -- 0x1018:01 VENDOR_ID, Welioth Semiconductor
  ⟨0x1018, 1, 1, 0, 1, 0, 0, 1, 1, 1, (.uns 32), .const, false, .none, .all, .none, 0, false, none, [.v 5759248], .full⟩,
  -- 0x1018:02 PRODUCT_CODE
  ⟨0x1018, 1, 1, 0, 1, 0, 0, 2, 1, 1, (.uns 32), .const, false, .none, .all, .none, 0, false, none, [.prod], .full⟩,
  -- 0x1018:03 STEPPING: [31:16] major, [15:0] minor
  ⟨0x1018, 1, 1, 0, 1, 0, 0, 3, 1, 1, (.uns 32), .const, false, .none, .all, .none, 0, false, none, [.ident 32], .full⟩,
  -- 0x1018:04 SERIAL, from fuses
  ⟨0x1018, 1, 1, 0, 1, 0, 0, 4, 1, 1, (.uns 64), .const, false, .none, .all, .none, 0, false, none, [.ident 64], .full⟩,
  -- 0x1018:05 UNITS_PRESENT
  ⟨0x1018, 1, 1, 0, 1, 0, 0, 5, 1, 1, (.bits 64), .const, false, .none, .all, .none, 0, false, none, [.units], .full⟩,
  -- 0x1018:06 DICT_VERSION: [31:16] major, [15:0] minor
  ⟨0x1018, 1, 1, 0, 1, 0, 0, 6, 1, 1, (.uns 32), .const, false, .none, .all, .none, 0, false, none, [.v 65536], .full⟩,
  -- 0x1019:00 FirmwareVersions (highest sub-index)
  ⟨0x1019, 1, 1, 0, 1, 0, 0, 0, 1, 1, (.uns 8), .const, false, .none, .all, .none, 0, false, none, [.v 4], .full⟩,
  -- 0x1019:01–03 ROM, MARKHOR_FW, PLANNER_FW versions
  ⟨0x1019, 1, 1, 0, 1, 0, 0, 1, 3, 1, (.uns 32), .ro, false, .none, .all, .none, 0, false, none, [.ident 32], .full⟩,
  -- 0x1019:04 ANTI_ROLLBACK, firmware security version
  ⟨0x1019, 1, 1, 0, 1, 0, 0, 4, 1, 1, (.uns 32), .ro, false, .none, .all, .none, 0, false, none, [.ident 32], .full⟩,
  -- 0x101A:00 PlanIdentity (highest sub-index)
  ⟨0x101A, 1, 1, 0, 1, 0, 0, 0, 1, 1, (.uns 8), .const, false, .none, .all, .none, 0, false, none, [.v 3], .full⟩,
  -- 0x101A:01 ACTIVE_PLAN_ID, 0 = none
  ⟨0x101A, 1, 1, 0, 1, 0, 0, 1, 1, 1, (.uns 64), .ro, false, .none, .all, .none, 0, false, none, [.v 0], .full⟩,
  -- 0x101A:02 SOURCE: 0–3 eMRAM slot, 0xFE early plan, 0xFF DRAM
  ⟨0x101A, 1, 1, 0, 1, 0, 0, 2, 1, 1, (.uns 8), .ro, false, .none, .all, .none, 0, false, none, [.v 255], .full⟩,
  -- 0x101A:03 FORMAT_VERSION
  ⟨0x101A, 1, 1, 0, 1, 0, 0, 3, 1, 1, (.uns 32), .ro, false, .none, .all, .none, 0, false, none, [.v 0], .full⟩,
  -- 0x1020:00 NodeIdentity (highest sub-index)
  ⟨0x1020, 1, 1, 0, 1, 0, 0, 0, 1, 1, (.uns 8), .const, false, .none, .all, .none, 0, false, none, [.v 2], .full⟩,
  -- 0x1020:01 NODE_ID, from enumeration
  ⟨0x1020, 1, 1, 0, 1, 0, 0, 1, 1, 1, (.uns 8), .ro, false, .none, .all, .none, 0, false, none, [.v 0], (.iv 0 63)⟩,
  -- 0x1020:02 ROLE: 0 single, 1 Twin senior, 2 Twin junior, 3 ring member, 4 Wall me
  ⟨0x1020, 1, 1, 0, 1, 0, 0, 2, 1, 1, (.uns 8), .ro, false, .none, .all, .none, 0, false, none, [.v 0], (.iv 0 5)⟩,
  -- 0x1040:00 TilsolConfig, written by P0 (highest sub-index)
  ⟨0x1040, 1, 1, 0, 1, 0, 0, 0, 1, 1, (.uns 8), .const, false, .none, .all, .none, 0, false, none, [.v 8], .full⟩,
  -- 0x1040:01 CAN_MARK
  ⟨0x1040, 1, 1, 0, 1, 0, 0, 1, 1, 1, (.uns 8), .rw, true, (.g 55), .all, .p0, 0, false, none, [.v 5], (.iv 0 7)⟩,
  -- 0x1040:02 CAN_MARK_XL
  ⟨0x1040, 1, 1, 0, 1, 0, 0, 2, 1, 1, (.uns 8), .rw, true, (.g 55), .all, .p0, 0, false, none, [.v 84], (.iv 0 255)⟩,
  -- 0x1040:03 XL_SDT
  ⟨0x1040, 1, 1, 0, 1, 0, 0, 3, 1, 1, (.uns 8), .rw, true, (.g 55), .all, .p0, 0, false, none, [.v 0], (.iv 0 255)⟩,
  -- 0x1040:04 UDP_PORT
  ⟨0x1040, 1, 1, 0, 1, 0, 0, 4, 1, 1, (.uns 16), .rw, true, (.g 55), .all, .p0, 0, false, none, [.v 47121], (.iv 1024 65535)⟩,
  -- 0x1040:05 HB_PERIOD_MS
  ⟨0x1040, 1, 1, 0, 1, 0, 0, 5, 1, 1, (.uns 16), .rw, true, (.g 55), .all, .p0, 0, false, none, [.v 100], (.iv 10 10000)⟩,
  -- 0x1040:06 HB_TRANSPORTS: [0] CAN FD, [1] CAN XL, [2] UDP, [4] Chamois
  ⟨0x1040, 1, 1, 0, 1, 0, 0, 6, 1, 1, (.bits 32), .rw, true, (.g 55), .all, .p0, 0, false, none, [.v 1], (.mask 0x17)⟩,
  -- 0x1040:07 EMCY_TRANSPORTS, as 06
  ⟨0x1040, 1, 1, 0, 1, 0, 0, 7, 1, 1, (.bits 32), .rw, true, (.g 55), .all, .p0, 0, false, none, [.v 1], (.mask 0x17)⟩,
  -- 0x1040:08 WRITESEG_TIMEOUT_MS
  ⟨0x1040, 1, 1, 0, 1, 0, 0, 8, 1, 1, (.uns 16), .rw, true, (.g 55), .all, .p0, 0, false, none, [.v 2000], (.iv 100 10000)⟩,
  -- 0x1041:00 TilsolStatus (R46): [0] AUTH_FAIL, [1] REPLAY, [2] SESSION_EXHAUSTED, 
  ⟨0x1041, 1, 1, 0, 1, 0, 0, 0, 1, 1, (.bits 64), .rw, false, .none, .all, .p0, 0, false, (some (.interval 1000000)), [.v 0], .full⟩
  ]

/-- Rows from index 0x1042. -/
def objRows2 : List Row := [
  -- 0x1042:00 HbUdpDest: IPv6 or IPv4-mapped address, then port
  ⟨0x1042, 1, 1, 0, 1, 0, 0, 0, 1, 1, (.octet 18), .rw, true, (.g 55), .all, .p0, 0, false, none, [.v 0], .full⟩,
  -- 0x1060:00 PcieMailbox, banked (highest sub-index)
  ⟨0x1060, 1, 1, 0, 1, 0, 0, 0, 1, 1, (.uns 8), .const, false, .none, .all, .none, 0, true, none, [.v 4], .full⟩,
  -- 0x1060:01 REQ_ADDR, host address
  ⟨0x1060, 1, 1, 0, 1, 0, 0, 1, 1, 1, (.uns 64), .rw, false, (.g 0), .all, .all, 0, true, none, [.v 0], (.step 0 18446744073709551608 8)⟩,
  -- 0x1060:02 RSP_ADDR
  ⟨0x1060, 1, 1, 0, 1, 0, 0, 2, 1, 1, (.uns 64), .rw, false, (.g 0), .all, .all, 0, true, none, [.v 0], (.step 0 18446744073709551608 8)⟩,
  -- 0x1060:03 DOORBELL: request length; refused, not clamped, outside the range (R71
  ⟨0x1060, 1, 1, 0, 1, 0, 0, 3, 1, 1, (.uns 32), .wo, false, (.g 0), .all, .all, 0, true, none, [.v 0], (.iv 24 4120)⟩,
  -- 0x1060:04 MSI_VECTOR
  ⟨0x1060, 1, 1, 0, 1, 0, 0, 4, 1, 1, (.uns 16), .rw, false, (.g 0), .all, .all, 0, true, none, [.v 0], (.iv 0 2047)⟩,
  -- 0x1100:00 CommitControl, banked except 04 (highest sub-index)
  ⟨0x1100, 1, 1, 0, 1, 0, 0, 0, 1, 1, (.uns 8), .const, false, .none, .all, .none, 0, true, none, [.v 6], .full⟩,
  -- 0x1100:01 GROUP_MASK; the write issues the commit; bit 0 ignored, bits 61–63 giv
  ⟨0x1100, 1, 1, 0, 1, 0, 0, 1, 1, 1, (.bits 64), .wo, false, (.g 0), .all, .all, 0, true, none, [.v 0], (.mask 0xFFFFFFFFFFFFFFFF)⟩,
  -- 0x1100:02 MODE: [0] ALIGN, [1] AT_WALL_TIME, [2] ON_PIN
  ⟨0x1100, 1, 1, 0, 1, 0, 0, 2, 1, 1, (.bits 32), .rw, false, (.g 0), .all, .all, 0, true, none, [.v 0], (.mask 0x7)⟩,
  -- 0x1100:03 AT_TIME, Wall time
  ⟨0x1100, 1, 1, 0, 1, 0, 0, 3, 1, 1, (.uns 64), .rw, false, (.g 0), .all, .all, 0, true, none, [.v 0], .full⟩,
  -- 0x1100:04 PENDING: groups holding a pending or armed set, all partitions
  ⟨0x1100, 1, 1, 0, 1, 0, 0, 4, 1, 1, (.bits 64), .ro, false, .none, .all, .none, 0, false, none, [.v 0], .full⟩,
  -- 0x1100:05 PIN_TIMEOUT_MS
  ⟨0x1100, 1, 1, 0, 1, 0, 0, 5, 1, 1, (.uns 32), .rw, false, (.g 0), .all, .all, 0, true, none, [.v 1000], (.iv 1 60000)⟩,
  -- 0x1100:06 READ_VIEW: 0 active values, 1 shadow values
  ⟨0x1100, 1, 1, 0, 1, 0, 0, 6, 1, 1, (.uns 8), .rw, false, (.g 0), .all, .all, 0, true, none, [.v 0], (.iv 0 1)⟩,
  -- 0x1110 + p:00 CommitReport of partition p (highest sub-index)
  ⟨0x1110, 16, 8, 1, 1, 0, 0, 0, 1, 1, (.uns 8), .const, false, .none, .inst, .none, 0, false, none, [.v 7], .full⟩,
  -- 0x1110 + p:01 SEQ, 32-bit, wraps; advances per report
  ⟨0x1110, 16, 8, 1, 1, 0, 0, 1, 1, 1, (.uns 32), .ro, false, .none, .inst, .none, 0, false, none, [.v 0], .full⟩,
  -- 0x1110 + p:02 GROUPS reported on
  ⟨0x1110, 16, 8, 1, 1, 0, 0, 2, 1, 1, (.bits 64), .ro, false, .none, .inst, .none, 0, false, none, [.v 0], .full⟩,
  -- 0x1110 + p:03 RESULT: 0 applied, else code
  ⟨0x1110, 16, 8, 1, 1, 0, 0, 3, 1, 1, (.uns 32), .ro, false, .none, .inst, .none, 0, false, none, [.v 0], .full⟩,
  -- 0x1110 + p:04 RULE number, 0 if none
  ⟨0x1110, 16, 8, 1, 1, 0, 0, 4, 1, 1, (.uns 16), .ro, false, .none, .inst, .none, 0, false, none, [.v 0], (.iv 0 65535)⟩,
  -- 0x1110 + p:05 OBJECT: index [23:8], sub [7:0]
  ⟨0x1110, 16, 8, 1, 1, 0, 0, 5, 1, 1, (.uns 32), .ro, false, .none, .inst, .none, 0, false, none, [.v 0], (.iv 0 16777215)⟩,
  -- 0x1110 + p:06 APPLIED_TIME, device time
  ⟨0x1110, 16, 8, 1, 1, 0, 0, 6, 1, 1, (.uns 64), .ro, false, .none, .inst, .none, 0, false, none, [.v 0], .full⟩,
  -- 0x1110 + p:07 APPLIED_EPOCH, EPOCH_COUNT at application
  ⟨0x1110, 16, 8, 1, 1, 0, 0, 7, 1, 1, (.uns 32), .ro, false, .none, .inst, .none, 0, false, none, [.v 0], .full⟩,
  -- 0x1120:00 PersistControl (highest sub-index)
  ⟨0x1120, 1, 1, 0, 1, 0, 0, 0, 1, 1, (.uns 8), .const, false, .none, .all, .none, 0, false, none, [.v 3], .full⟩,
  -- 0x1120:01 STORE: groups whose /P objects are stored
  ⟨0x1120, 1, 1, 0, 1, 0, 0, 1, 1, 1, (.bits 64), .wo, false, (.g 0), .all, .p0, 0, false, none, [.v 0], (.mask 0x1FFFFFFFFFFFFFFF)⟩,
  -- 0x1120:02 RESTORE_DEFAULTS: groups whose stored records are erased; defaults loa
  ⟨0x1120, 1, 1, 0, 1, 0, 0, 2, 1, 1, (.bits 64), .wo, false, (.g 0), .all, .p0, 0, false, none, [.v 0], (.mask 0x1FFFFFFFFFFFFFFF)⟩,
  -- 0x1120:03 STATE: 0 idle, 1 storing, else code
  ⟨0x1120, 1, 1, 0, 1, 0, 0, 3, 1, 1, (.uns 32), .ro, false, .none, .all, .none, 0, false, none, [.v 0], .full⟩,
  -- 0x1128:00 LockSets (highest sub-index)
  ⟨0x1128, 1, 1, 0, 1, 0, 0, 0, 1, 1, (.uns 8), .const, false, .none, .all, .none, 0, false, none, [.v 1], .full⟩,
  -- 0x1128:01 LOCKED: bit k locks set k; set-only
  ⟨0x1128, 1, 1, 0, 1, 0, 0, 1, 1, 1, (.bits 64), .rw, false, (.g 0), .all, .p0, 0, false, none, [.v 0], .full⟩,
  -- 0x1130:00 DomainPort, banked (highest sub-index)
  ⟨0x1130, 1, 1, 0, 1, 0, 0, 0, 1, 1, (.uns 8), .const, false, .none, .all, .none, 0, true, none, [.v 5], .full⟩,
  -- 0x1130:01 SELECT: index [23:8], sub [7:0]
  ⟨0x1130, 1, 1, 0, 1, 0, 0, 1, 1, 1, (.uns 32), .rw, false, (.g 0), .all, .all, 0, true, none, [.v 0], (.iv 0 16777215)⟩,
  -- 0x1130:02 OFFSET in bytes, multiple of 8
  ⟨0x1130, 1, 1, 0, 1, 0, 0, 2, 1, 1, (.uns 32), .rw, false, (.g 0), .all, .all, 0, true, none, [.v 0], (.step 0 4294967288 8)⟩
  ]

/-- Rows from index 0x1130. -/
def objRows3 : List Row := [
  -- 0x1130:03 DATA
  ⟨0x1130, 1, 1, 0, 1, 0, 0, 3, 1, 1, (.uns 64), .rw, false, (.g 0), .all, .all, 0, true, none, [.v 0], .full⟩,
  -- 0x1130:04 COMMIT_LEN: write completes a staged write
  ⟨0x1130, 1, 1, 0, 1, 0, 0, 4, 1, 1, (.uns 32), .wo, false, (.g 0), .all, .all, 0, true, none, [.v 0], .full⟩,
  -- 0x1130:05 STATE: 0 or code
  ⟨0x1130, 1, 1, 0, 1, 0, 0, 5, 1, 1, (.uns 32), .ro, false, .none, .all, .none, 0, true, none, [.v 0], .full⟩,
  -- 0x1140 + g:00 CommitGroup g, g = 0–63 (highest sub-index)
  ⟨0x1140, 64, 64, 1, 1, 0, 0, 0, 1, 1, (.uns 8), .const, false, .none, .all, .none, 0, false, none, [.v 4], .full⟩,
  -- 0x1140 + g:01 BOUNDARY: 0 write, 1 request, 2 vblank, 3 epoch, 4 audio block, 5 plan
  ⟨0x1140, 64, 64, 1, 1, 0, 0, 1, 1, 1, (.uns 8), .ro, false, (.g 19), .all, .none, 0, false, none, [.bnd], (.iv 0 5)⟩,
  -- 0x1140 + g:02 HEAD for boundary 2
  ⟨0x1140, 64, 64, 1, 1, 0, 0, 2, 1, 1, (.uns 8), .ro, false, (.g 19), .all, .none, 0, false, none, [.bhead], (.iv 0 15)⟩,
  -- 0x1140 + g:03 COMMIT_RIGHTS: bit p allows partition p
  ⟨0x1140, 64, 64, 1, 1, 0, 0, 3, 1, 1, (.bits 32), .ro, false, (.g 19), .all, .none, 0, false, none, [.v 1], (.mask 0xFFFF)⟩,
  -- 0x1140 + g:04 LAST_APPLIED_EPOCH
  ⟨0x1140, 64, 64, 1, 1, 0, 0, 4, 1, 1, (.uns 32), .ro, false, .none, .all, .none, 0, false, none, [.v 0], .full⟩,
  -- 0x1180:00 ClampLog (highest sub-index)
  ⟨0x1180, 1, 1, 0, 1, 0, 0, 0, 1, 1, (.uns 8), .const, false, .none, .all, .none, 0, false, none, [.v 2], .full⟩,
  -- 0x1180:01 NEXT, entry k to be written next
  ⟨0x1180, 1, 1, 0, 1, 0, 0, 1, 1, 1, (.uns 8), .ro, false, .none, .all, .none, 0, false, none, [.v 0], (.iv 0 31)⟩,
  -- 0x1180:02 TOTAL clamps since PD0 reset, 32-bit, saturates
  ⟨0x1180, 1, 1, 0, 1, 0, 0, 2, 1, 1, (.uns 32), .ro, false, .none, .all, .none, 0, false, none, [.v 0], .full⟩,
  -- 0x1181 + k:00 ClampEntry k, k = 0–31 (highest sub-index)
  ⟨0x1181, 32, 32, 1, 1, 0, 0, 0, 1, 1, (.uns 8), .const, false, .none, .clamp, .none, 0, false, none, [.v 6], .full⟩,
  -- 0x1181 + k:01 OBJECT: index [23:8], sub [7:0]
  ⟨0x1181, 32, 32, 1, 1, 0, 0, 1, 1, 1, (.uns 32), .ro, false, .none, .clamp, .none, 0, false, none, [.v 0], (.iv 0 16777215)⟩,
  -- 0x1181 + k:02 PARTITION
  ⟨0x1181, 32, 32, 1, 1, 0, 0, 2, 1, 1, (.uns 8), .ro, false, .none, .clamp, .none, 0, false, none, [.v 0], (.iv 0 15)⟩,
  -- 0x1181 + k:03 WRITTEN, raw 64 bits
  ⟨0x1181, 32, 32, 1, 1, 0, 0, 3, 1, 1, (.uns 64), .ro, false, .none, .clamp, .none, 0, false, none, [.v 0], .full⟩,
  -- 0x1181 + k:04 STORED
  ⟨0x1181, 32, 32, 1, 1, 0, 0, 4, 1, 1, (.uns 64), .ro, false, .none, .clamp, .none, 0, false, none, [.v 0], .full⟩,
  -- 0x1181 + k:05 STATUS, 0xC2 family
  ⟨0x1181, 32, 32, 1, 1, 0, 0, 5, 1, 1, (.uns 32), .ro, false, .none, .clamp, .none, 0, false, none, [.v 0], .full⟩,
  -- 0x1181 + k:06 TIME, device time
  ⟨0x1181, 32, 32, 1, 1, 0, 0, 6, 1, 1, (.uns 64), .ro, false, .none, .clamp, .none, 0, false, none, [.v 0], .full⟩,
  -- 0x11B0:00 RefusedWrites (highest sub-index)
  ⟨0x11B0, 1, 1, 0, 1, 0, 0, 0, 1, 1, (.uns 8), .const, false, .none, .all, .none, 0, false, none, [.npart], .full⟩,
  -- 0x11B0:01–10 REFUSED_Pp for p = sub − 1, 32-bit, saturates at 0xFFFF_FFFF; partitio
  ⟨0x11B0, 1, 1, 0, 1, 0, 0, 1, 16, 1, (.uns 32), .rw, false, (.g 0), .all, .ownEntry, 0, false, none, [.v 0], (.special 16)⟩,
  -- 0x11B1:00 LastRefusal, banked (highest sub-index)
  ⟨0x11B1, 1, 1, 0, 1, 0, 0, 0, 1, 1, (.uns 8), .const, false, .none, .all, .none, 0, true, none, [.v 3], .full⟩,
  -- 0x11B1:01 OBJECT: index in [23:8], sub-index in [7:0]
  ⟨0x11B1, 1, 1, 0, 1, 0, 0, 1, 1, 1, (.uns 32), .ro, false, .none, .all, .none, 0, true, none, [.v 0], (.iv 0 16777215)⟩,
  -- 0x11B1:02 CODE
  ⟨0x11B1, 1, 1, 0, 1, 0, 0, 2, 1, 1, (.uns 32), .ro, false, .none, .all, .none, 0, true, none, [.v 0], .full⟩,
  -- 0x11B1:03 TIME, device time
  ⟨0x11B1, 1, 1, 0, 1, 0, 0, 3, 1, 1, (.uns 64), .ro, false, .none, .all, .none, 0, true, none, [.v 0], .full⟩,
  -- 0x11B8:00 DictionaryStatus, banked (highest sub-index)
  ⟨0x11B8, 1, 1, 0, 1, 0, 0, 0, 1, 1, (.uns 8), .const, false, .none, .all, .none, 0, true, none, [.v 2], .full⟩,
  -- 0x11B8:01 Status (R46): [0] CLAMPED, [1] REFUSED, [2] COMMIT_REJECTED, [3] COMMI
  ⟨0x11B8, 1, 1, 0, 1, 0, 0, 1, 1, 1, (.bits 64), .rw, false, .none, .all, .all, 0, true, (some (.interval 100000)), [.v 0], .full⟩,
  -- 0x11B8:02 STALE_CLEARS, 32-bit, saturates
  ⟨0x11B8, 1, 1, 0, 1, 0, 0, 2, 1, 1, (.uns 32), .ro, false, .none, .all, .none, 0, true, none, [.v 0], .full⟩,
  -- 0x11C0 + n:00 Snapshot n (highest sub-index)
  ⟨0x11C0, 16, 8, 1, 1, 0, 0, 0, 1, 1, (.uns 8), .const, false, .none, .instOnly, .none, 0, false, none, [.v 68], .full⟩,
  -- 0x11C0 + n:01 TRIGGER: write 1
  ⟨0x11C0, 16, 8, 1, 1, 0, 0, 1, 1, 1, (.uns 8), .wo, false, (.g 0), .instOnly, .instOnly, 0, false, none, [.v 0], (.iv 1 1)⟩,
  -- 0x11C0 + n:02 CAPTURE_TIME, device time
  ⟨0x11C0, 16, 8, 1, 1, 0, 0, 2, 1, 1, (.uns 64), .ro, false, .none, .instOnly, .none, 0, false, none, [.v 0], .full⟩
  ]

/-- Rows from index 0x11C0. -/
def objRows4 : List Row := [
  -- 0x11C0 + n:03 SEQ, 32-bit, wraps
  ⟨0x11C0, 16, 8, 1, 1, 0, 0, 3, 1, 1, (.uns 32), .ro, false, .none, .instOnly, .none, 0, false, none, [.v 0], .full⟩,
  -- 0x11C0 + n:04–23 MEMBER k = sub − 4: index [23:8], sub [7:0]; 0 = none
  ⟨0x11C0, 16, 8, 1, 1, 0, 0, 4, 32, 1, (.uns 32), .rw, false, (.g 0), .instOnly, .instOnly, 0, false, none, [.v 0], (.special 17)⟩,
  -- 0x11C0 + n:24–43 VALUE k = sub − 0x24, encoded as R39
  ⟨0x11C0, 16, 8, 1, 1, 0, 0, 36, 32, 1, (.uns 64), .ro, false, .none, .instOnly, .none, 0, false, none, [.v 0], .full⟩,
  -- 0x11C0 + n:44 DENIED: bit k for member k
  ⟨0x11C0, 16, 8, 1, 1, 0, 0, 68, 1, 1, (.bits 32), .ro, false, .none, .instOnly, .none, 0, false, none, [.v 0], .full⟩,
  -- 0x1200 + k:00 ClientBinding k, k = 0–63; readable by P0 and the bound partition (hig
  ⟨0x1200, 64, 64, 1, 1, 0, 0, 0, 1, 1, (.uns 8), .const, false, .none, .client, .none, 0, false, none, [.v 9], .full⟩,
  -- 0x1200 + k:01 CLIENT_ID
  ⟨0x1200, 64, 64, 1, 1, 0, 0, 1, 1, 1, (.uns 8), .ro, false, .none, .client, .none, 0, false, none, [.v 0], (.iv 0 254)⟩,
  -- 0x1200 + k:02 PARTITION
  ⟨0x1200, 64, 64, 1, 1, 0, 0, 2, 1, 1, (.uns 8), .ro, false, .none, .client, .none, 0, false, none, [.v 0], (.iv 0 15)⟩,
  -- 0x1200 + k:03 TRANSPORTS: [0] CAN FD, [1] CAN XL, [2] UDP, [3] PCIe mailbox, [4] Cha
  ⟨0x1200, 64, 64, 1, 1, 0, 0, 3, 1, 1, (.bits 32), .ro, false, .none, .client, .none, 0, false, none, [.v 0], (.mask 0x1F)⟩,
  -- 0x1200 + k:04 STATE: 0 unbound, 1 active, 2 exhausted, 3 disabled
  ⟨0x1200, 64, 64, 1, 1, 0, 0, 4, 1, 1, (.uns 8), .ro, false, .none, .client, .none, 0, false, none, [.v 0], (.iv 0 3)⟩,
  -- 0x1200 + k:05 RX_COUNTER
  ⟨0x1200, 64, 64, 1, 1, 0, 0, 5, 1, 1, (.uns 32), .ro, false, .none, .client, .none, 0, false, none, [.v 0], .full⟩,
  -- 0x1200 + k:06 PUSH_COUNTER
  ⟨0x1200, 64, 64, 1, 1, 0, 0, 6, 1, 1, (.uns 32), .ro, false, .none, .client, .none, 0, false, none, [.v 0], .full⟩,
  -- 0x1200 + k:07 AUTH_FAILURES, 32-bit, saturates
  ⟨0x1200, 64, 64, 1, 1, 0, 0, 7, 1, 1, (.uns 32), .ro, false, .none, .client, .none, 0, false, none, [.v 0], .full⟩,
  -- 0x1200 + k:08 REPLAYS, 32-bit, saturates
  ⟨0x1200, 64, 64, 1, 1, 0, 0, 8, 1, 1, (.uns 32), .ro, false, .none, .client, .none, 0, false, none, [.v 0], .full⟩,
  -- 0x1200 + k:09 KEY_GEN, 8-bit, wraps
  ⟨0x1200, 64, 64, 1, 1, 0, 0, 9, 1, 1, (.uns 8), .ro, false, .none, .client, .none, 0, false, none, [.v 0], (.iv 0 255)⟩
  ]

/-- Rows from index 0x2000. -/
def objRows5 : List Row := [
  -- 0x2000:00 SecurityState, readable by all (highest sub-index)
  ⟨0x2000, 1, 1, 0, 1, 0, 0, 0, 1, 1, (.uns 8), .const, false, .none, .all, .none, 0, false, none, [.v 6], .full⟩,
  -- 0x2000:01 MARKHOR_STATE: 0 booting, 1 running, 2 restarting, 3 held down
  ⟨0x2000, 1, 1, 0, 1, 0, 0, 1, 1, 1, (.uns 8), .ro, false, .none, .all, .none, 0, false, none, [.v 0], (.iv 0 3)⟩,
  -- 0x2000:02 PROT_MODE: 0 watermark, 1 owner table
  ⟨0x2000, 1, 1, 0, 1, 0, 0, 2, 1, 1, (.uns 8), .ro, false, .none, .all, .none, 0, false, none, [.v 0], (.iv 0 1)⟩,
  -- 0x2000:03 LIFECYCLE
  ⟨0x2000, 1, 1, 0, 1, 0, 0, 3, 1, 1, (.uns 8), .ro, false, .none, .all, .none, 0, false, none, [.v 1], (.iv 0 3)⟩,
  -- 0x2000:04–05 FW_LEVEL, PLAN_LEVEL
  ⟨0x2000, 1, 1, 0, 1, 0, 0, 4, 2, 1, (.uns 8), .ro, false, .none, .all, .none, 0, false, none, [.v 0], (.iv 0 64)⟩,
  -- 0x2000:06 MARKHOR_RESTARTS, 32-bit, saturates
  ⟨0x2000, 1, 1, 0, 1, 0, 0, 6, 1, 1, (.uns 32), .ro, false, .none, .all, .none, 0, false, none, [.v 0], .full⟩,
  -- 0x2001:00 SecurityStatus (R46): [0] MARKHOR_LOST, [1] MARKHOR_RESTARTED, [2] ISO
  ⟨0x2001, 1, 1, 0, 1, 0, 0, 0, 1, 1, (.bits 64), .rw, false, .none, .p0, .p0, 0, false, (some (.interval 1000000)), [.v 0], .full⟩,
  -- 0x2002:00 MarkhorControl (highest sub-index)
  ⟨0x2002, 1, 1, 0, 1, 0, 0, 0, 1, 1, (.uns 8), .const, false, .none, .p0, .none, 0, false, none, [.v 2], .full⟩,
  -- 0x2002:01 AUTO_RESTART
  ⟨0x2002, 1, 1, 0, 1, 0, 0, 1, 1, 1, .bool, .rw, true, (.g 58), .p0, .p0, 0, false, none, [.v 1], (.iv 0 1)⟩,
  -- 0x2002:02 RESTART: write 1; refused with LOCKED in state 3
  ⟨0x2002, 1, 1, 0, 1, 0, 0, 2, 1, 1, (.uns 8), .wo, false, (.g 0), .p0, .p0, 0, false, none, [.v 0], (.iv 1 1)⟩,
  -- 0x2010:00 ProtectionConfig (highest sub-index)
  ⟨0x2010, 1, 1, 0, 1, 0, 0, 0, 1, 1, (.uns 8), .const, false, .none, .p0, .none, 0, false, none, [.v 4], .full⟩,
  -- 0x2010:01 MODE, lock set 0
  ⟨0x2010, 1, 1, 0, 1, 0, 0, 1, 1, 1, (.uns 8), .lck, false, .none, .p0, .markhor, 0, false, none, [.v 0], (.iv 0 1)⟩,
  -- 0x2010:02 CACHE_HITS, 64-bit, does not wrap in service
  ⟨0x2010, 1, 1, 0, 1, 0, 0, 2, 1, 1, (.uns 64), .ro, false, .none, .p0, .none, 0, false, none, [.v 0], .full⟩,
  -- 0x2010:03 CACHE_MISSES, 64-bit, does not wrap in service
  ⟨0x2010, 1, 1, 0, 1, 0, 0, 3, 1, 1, (.uns 64), .ro, false, .none, .p0, .none, 0, false, none, [.v 0], .full⟩,
  -- 0x2010:04 SHARE_SETS_USED
  ⟨0x2010, 1, 1, 0, 1, 0, 0, 4, 1, 1, (.uns 16), .ro, false, .none, .p0, .none, 0, false, none, [.v 0], (.iv 0 255)⟩,
  -- 0x2011 + r:00 DramRegion r, r = 0–7 (highest sub-index)
  ⟨0x2011, 8, 8, 1, 1, 0, 0, 0, 1, 1, (.uns 8), .const, false, .none, .p0, .none, 0, false, none, [.v 3], .full⟩,
  -- 0x2011 + r:01–03 BASE_MIB, SIZE_MIB, WATERMARK_MIB; lock set 0
  ⟨0x2011, 8, 8, 1, 1, 0, 0, 1, 3, 1, (.uns 32), .lck, false, .none, .p0, .markhor, 0, false, none, [.v 0], (.iv 0 65536)⟩,
  -- 0x2030:00 IsolationLog (highest sub-index)
  ⟨0x2030, 1, 1, 0, 1, 0, 0, 0, 1, 1, (.uns 8), .const, false, .none, .p0, .none, 0, false, none, [.v 6], .full⟩,
  -- 0x2030:01 TOTAL, 32-bit, saturates
  ⟨0x2030, 1, 1, 0, 1, 0, 0, 1, 1, 1, (.uns 32), .ro, false, .none, .p0, .none, 0, false, none, [.v 0], .full⟩,
  -- 0x2030:02 INITIATOR, code of the R280 row
  ⟨0x2030, 1, 1, 0, 1, 0, 0, 2, 1, 1, (.uns 8), .ro, false, .none, .p0, .none, 0, false, none, [.v 0], (.iv 0 12)⟩,
  -- 0x2030:03 ATTRIBUTES: [3:0] partition, [4] secure
  ⟨0x2030, 1, 1, 0, 1, 0, 0, 3, 1, 1, (.uns 8), .ro, false, .none, .p0, .none, 0, false, none, [.v 0], .full⟩,
  -- 0x2030:04 TARGET: 0 DRAM, 1 tile store, 2 object, 3 peripheral, 4 unmapped
  ⟨0x2030, 1, 1, 0, 1, 0, 0, 4, 1, 1, (.uns 8), .ro, false, .none, .p0, .none, 0, false, none, [.v 0], (.iv 0 4)⟩,
  -- 0x2030:05 ADDRESS: internal address of the first failing byte (R18), or, for an 
  ⟨0x2030, 1, 1, 0, 1, 0, 0, 5, 1, 1, (.uns 64), .ro, false, .none, .p0, .none, 0, false, none, [.v 0], .full⟩,
  -- 0x2030:06 TIME, device time
  ⟨0x2030, 1, 1, 0, 1, 0, 0, 6, 1, 1, (.uns 64), .ro, false, .none, .p0, .none, 0, false, none, [.v 0], .full⟩,
  -- 0x2031:00 IsolationCounts (highest sub-index)
  ⟨0x2031, 1, 1, 0, 1, 0, 0, 0, 1, 1, (.uns 8), .const, false, .none, .p0, .none, 0, false, none, [.v 16], .full⟩,
  -- 0x2031:01–10 IsolationCounts: partition p = sub − 1; 32-bit, saturate; 09–10 absent
  ⟨0x2031, 1, 1, 0, 1, 0, 0, 1, 16, 1, (.uns 32), .ro, false, .none, .p0, .none, 0, false, none, [.v 0], .full⟩,
  -- 0x2050 + p:00 AccessNarrow p (highest sub-index)
  ⟨0x2050, 16, 8, 1, 1, 0, 0, 0, 1, 1, (.uns 8), .const, false, .none, .p0, .none, 1, false, none, [.v 16], .full⟩,
  -- 0x2050 + p:01–10 AccessNarrow p: [15:0] FIRST index, [31:16] LAST index, [32] DENY_READ
  ⟨0x2050, 16, 8, 1, 1, 0, 0, 1, 16, 1, (.bits 64), .lck, false, (.g 0), .p0, .p0, 1, false, none, [.v 0], (.mask 0x3FFFFFFFF)⟩,
  -- 0x2060:00 PinAttr: 128 × R289; lock set 2
  ⟨0x2060, 1, 1, 0, 1, 0, 0, 0, 1, 1, (.octet 128), .lck, false, (.g 59), .p0, .p0, 2, false, none, [.v 0], .full⟩,
  -- 0x2061:00 DmaAttr: 64 × R289; lock set 2
  ⟨0x2061, 1, 1, 0, 1, 0, 0, 0, 1, 1, (.octet 64), .lck, false, (.g 59), .p0, .p0, 2, false, none, [.v 0], .full⟩
  ]

/-- Rows from index 0x2062. -/
def objRows6 : List Row := [
  -- 0x2062:00 IrqAttr: 512 × R289; lock set 2
  ⟨0x2062, 1, 1, 0, 1, 0, 0, 0, 1, 1, (.octet 512), .lck, false, (.g 59), .p0, .p0, 2, false, none, [.v 0], .full⟩,
  -- 0x2080:00 FuseView: bits [4863:0] and [5503:5120] as R301, others zero; readable
  ⟨0x2080, 1, 1, 0, 1, 0, 0, 0, 1, 1, (.octet 1024), .ro, false, .none, .all, .none, 0, false, none, [.v 0], .full⟩,
  -- 0x2081:00 FuseProgram: request of R302
  ⟨0x2081, 1, 1, 0, 1, 0, 0, 0, 1, 1, (.domain 4096), .wo, false, .none, .p0, .p0, 0, false, none, [.v 0], .full⟩,
  -- 0x2100:00 KeyBundle
  ⟨0x2100, 1, 1, 0, 1, 0, 0, 0, 1, 1, (.domain 261), .wo, false, .none, .p0, .p0, 0, false, none, [.v 0], .full⟩,
  -- 0x2101:00 (highest sub-index)
  ⟨0x2101, 1, 1, 0, 1, 0, 0, 0, 1, 1, (.uns 8), .const, false, .none, .p0, .none, 0, false, none, [.v 1], .full⟩,
  -- 0x2101:01 TilsolRekey: new KEY_GEN; Tilsol only, acts on the requesting client
  ⟨0x2101, 1, 1, 0, 1, 0, 0, 1, 1, 1, (.uns 8), .wo, false, (.g 0), .p0, .tilsol, 0, false, none, [.v 0], (.iv 0 255)⟩,
  -- 0x2102:00 KeyService (highest sub-index)
  ⟨0x2102, 1, 1, 0, 1, 0, 0, 0, 1, 1, (.uns 8), .const, false, .none, .p0, .none, 0, false, none, [.v 3], .full⟩,
  -- 0x2102:01 LAST_RESULT: 0 or code
  ⟨0x2102, 1, 1, 0, 1, 0, 0, 1, 1, 1, (.uns 32), .ro, false, .none, .p0, .none, 0, false, none, [.v 0], .full⟩,
  -- 0x2102:02–03 BUNDLES_ACCEPTED, BUNDLES_REFUSED; 32-bit, saturate
  ⟨0x2102, 1, 1, 0, 1, 0, 0, 2, 2, 1, (.uns 32), .ro, false, .none, .p0, .none, 0, false, none, [.v 0], .full⟩,
  -- 0x2103:00 DevicePublicKey, P-384 uncompressed; readable by all
  ⟨0x2103, 1, 1, 0, 1, 0, 0, 0, 1, 1, (.octet 97), .const, false, .none, .all, .none, 0, false, none, [.v 0], .full⟩,
  -- 0x2110:00 FoxgloveAuth (highest sub-index)
  ⟨0x2110, 1, 1, 0, 1, 0, 0, 0, 1, 1, (.uns 8), .const, false, .none, .p0, .none, 0, false, none, [.v 6], .full⟩,
  -- 0x2110:01 CHALLENGE: write 1
  ⟨0x2110, 1, 1, 0, 1, 0, 0, 1, 1, 1, (.uns 8), .wo, false, (.g 0), .p0, .p0, 0, false, none, [.v 0], (.iv 1 1)⟩,
  -- 0x2110:02 NONCE
  ⟨0x2110, 1, 1, 0, 1, 0, 0, 2, 1, 1, (.octet 32), .ro, false, .none, .p0, .none, 0, false, none, [.v 0], .full⟩,
  -- 0x2110:03 STATE: 0 none, 1 Foxglove active, 2 debug active
  ⟨0x2110, 1, 1, 0, 1, 0, 0, 3, 1, 1, (.uns 8), .ro, false, .none, .p0, .none, 0, false, none, [.v 0], (.iv 0 2)⟩,
  -- 0x2110:04 PORTS authorised
  ⟨0x2110, 1, 1, 0, 1, 0, 0, 4, 1, 1, (.bits 32), .ro, false, .none, .p0, .none, 0, false, none, [.v 0], (.mask 0xF)⟩,
  -- 0x2110:05 REMAINING_S
  ⟨0x2110, 1, 1, 0, 1, 0, 0, 5, 1, 1, (.uns 32), .ro, false, .none, .p0, .none, 0, false, none, [.v 0], (.iv 0 86400)⟩,
  -- 0x2110:06 REVOKE: write 1
  ⟨0x2110, 1, 1, 0, 1, 0, 0, 6, 1, 1, (.uns 8), .wo, false, (.g 0), .p0, .p0, 0, false, none, [.v 0], (.iv 1 1)⟩,
  -- 0x2111:00 FoxgloveToken: 46 bytes of fields (R311), then the 3,416-byte R94 sign
  ⟨0x2111, 1, 1, 0, 1, 0, 0, 0, 1, 1, (.domain 3462), .wo, false, .none, .p0, .p0, 0, false, none, [.v 0], .full⟩,
  -- 0x2120:00 FirmwareImage, verified before storing
  ⟨0x2120, 1, 1, 0, 1, 0, 0, 0, 1, 1, (.domain 4197784), .wo, false, .none, .p0, .p0, 0, false, none, [.v 0], .full⟩
  ]

/-- Rows from index 0x3000. -/
def objRows7 : List Row := [
  -- 0x3000:00 DramInfo (highest sub-index)
  ⟨0x3000, 1, 1, 0, 1, 0, 0, 0, 1, 1, (.uns 8), .const, false, .none, .p0, .none, 0, false, none, [.v 7], .full⟩,
  -- 0x3000:01 GENERATION: 0 none, 1 LP4X, 2 LP5, 3 LP5X, 4 LP6
  ⟨0x3000, 1, 1, 0, 1, 0, 0, 1, 1, 1, (.uns 8), .ro, false, .none, .p0, .none, 0, false, none, [.v 0], (.iv 0 4)⟩,
  -- 0x3000:02–03 CHANNELS_PRESENT, CHANNELS_USABLE
  ⟨0x3000, 1, 1, 0, 1, 0, 0, 2, 2, 1, (.bits 32), .ro, false, .none, .p0, .none, 0, false, none, [.v 0], (.mask 0xFFFFFFFF)⟩,
  -- 0x3000:04 CHANNEL_MIB
  ⟨0x3000, 1, 1, 0, 1, 0, 0, 4, 1, 1, (.uns 32), .ro, false, .none, .p0, .none, 0, false, none, [.v 0], (.iv 0 4096)⟩,
  -- 0x3000:05 TOTAL_USABLE_MIB, after ECC
  ⟨0x3000, 1, 1, 0, 1, 0, 0, 5, 1, 1, (.uns 32), .ro, false, .none, .p0, .none, 0, false, none, [.v 0], (.iv 0 65536)⟩,
  -- 0x3000:06 CURRENT_OP
  ⟨0x3000, 1, 1, 0, 1, 0, 0, 6, 1, 1, (.uns 8), .ro, false, .none, .p0, .none, 0, false, none, [.v 0], (.iv 0 3)⟩,
  -- 0x3000:07 PEAK_MBPS, usable channels at CURRENT_OP
  ⟨0x3000, 1, 1, 0, 1, 0, 0, 7, 1, 1, (.uns 32), .ro, false, .none, .p0, .none, 0, false, none, [.v 0], (.iv 0 614400)⟩,
  -- 0x3001:00 MemoryStatus (R46): [0] REFRESH_FORCED, [1] TEMP_DERATED, [2] TEMP_LIM
  ⟨0x3001, 1, 1, 0, 1, 0, 0, 0, 1, 1, (.bits 64), .rw, false, .none, .p0, .p0, 0, false, (some (.interval 10000000)), [.v 0], .full⟩,
  -- 0x3002:00 MemoryCounters (highest sub-index)
  ⟨0x3002, 1, 1, 0, 1, 0, 0, 0, 1, 1, (.uns 8), .const, false, .none, .p0, .none, 0, false, none, [.v 8], .full⟩,
  -- 0x3002:01–08 FORCED_REFRESHES, TEMP_DERATE_ENTRIES, FREQ_CHANGES, FREQ_DEFERRED, EC
  ⟨0x3002, 1, 1, 0, 1, 0, 0, 1, 8, 1, (.uns 32), .ro, false, .none, .p0, .none, 0, false, none, [.v 0], .full⟩,
  -- 0x3010:00 TrackerConfig (highest sub-index)
  ⟨0x3010, 1, 1, 0, 1, 0, 0, 0, 1, 1, (.uns 8), .const, false, .none, .p0, .none, 0, false, none, [.v 6], .full⟩,
  -- 0x3010:01 TOTAL_ENTRIES
  ⟨0x3010, 1, 1, 0, 1, 0, 0, 1, 1, 1, (.uns 16), .const, false, .none, .p0, .none, 0, false, none, [.trkTotal], .full⟩,
  -- 0x3010:02 RESERVED_ENTRIES
  ⟨0x3010, 1, 1, 0, 1, 0, 0, 2, 1, 1, (.uns 16), .const, false, .none, .p0, .none, 0, false, none, [.trkRes], .full⟩,
  -- 0x3010:03 AGE_LIMIT_US
  ⟨0x3010, 1, 1, 0, 1, 0, 0, 3, 1, 1, (.uns 16), .rw, true, (.g 56), .p0, .p0, 0, false, none, [.v 20], (.iv 5 1000)⟩,
  -- 0x3010:04–05 RESERVED_IN_USE, SHARED_IN_USE
  ⟨0x3010, 1, 1, 0, 1, 0, 0, 4, 2, 1, (.uns 16), .ro, false, .none, .p0, .none, 0, false, none, [.v 0], (.iv 0 16384)⟩,
  -- 0x3010:06 SHARED_PEAK since PD4 reset
  ⟨0x3010, 1, 1, 0, 1, 0, 0, 6, 1, 1, (.uns 16), .ro, false, .none, .p0, .none, 0, false, none, [.v 0], (.iv 0 12288)⟩,
  -- 0x3020 + p:00 TrackerPartition p, p = 0–15 (0–7 Compact); readable by p (highest sub
  ⟨0x3020, 16, 8, 1, 1, 0, 0, 0, 1, 1, (.uns 8), .const, false, .none, .inst, .none, 0, false, none, [.v 6], .full⟩,
  -- 0x3020 + p:01 CAP
  ⟨0x3020, 16, 8, 1, 1, 0, 0, 1, 1, 1, (.uns 16), .rw, true, (.g 56), .inst, .p0, 0, false, none, [.v 2048], (.special 8)⟩,
  -- 0x3020 + p:02 MIN
  ⟨0x3020, 16, 8, 1, 1, 0, 0, 2, 1, 1, (.uns 16), .rw, true, (.g 56), .inst, .p0, 0, false, none, [.v 256], (.iv 0 2048)⟩,
  -- 0x3020 + p:03 WEIGHT
  ⟨0x3020, 16, 8, 1, 1, 0, 0, 3, 1, 1, (.uns 8), .rw, true, (.g 56), .inst, .p0, 0, false, none, [.v 1], (.iv 1 16)⟩,
  -- 0x3020 + p:04 HELD, shared entries now
  ⟨0x3020, 16, 8, 1, 1, 0, 0, 4, 1, 1, (.uns 16), .ro, false, .none, .inst, .none, 0, false, none, [.v 0], (.iv 0 12288)⟩,
  -- 0x3020 + p:05 STALL_NS, 64-bit, does not wrap in service
  ⟨0x3020, 16, 8, 1, 1, 0, 0, 5, 1, 1, (.uns 64), .ro, false, .none, .inst, .none, 0, false, none, [.v 0], .full⟩,
  -- 0x3020 + p:06 AGED
  ⟨0x3020, 16, 8, 1, 1, 0, 0, 6, 1, 1, (.uns 32), .ro, false, .none, .inst, .none, 0, false, none, [.v 0], .full⟩,
  -- 0x3040 + c:00 DramChannel c, c = 0–31 (highest sub-index)
  ⟨0x3040, 32, 16, 1, 1, 0, 0, 0, 1, 1, (.uns 8), .const, false, .none, .p0, .none, 0, false, none, [.v 9], .full⟩,
  -- 0x3040 + c:01 STATE: 0 absent, 1 usable, 2 unusable, 3 training
  ⟨0x3040, 32, 16, 1, 1, 0, 0, 1, 1, 1, (.uns 8), .ro, false, .none, .p0, .none, 0, false, none, [.v 0], (.iv 0 3)⟩,
  -- 0x3040 + c:02 MR4_RATE: 1, 2 or 4
  ⟨0x3040, 32, 16, 1, 1, 0, 0, 2, 1, 1, (.uns 8), .ro, false, .none, .p0, .none, 0, false, none, [.v 1], (.iv 1 4)⟩,
  -- 0x3040 + c:03 REFRESH_OWED
  ⟨0x3040, 32, 16, 1, 1, 0, 0, 3, 1, 1, (.sgn 8), .ro, false, .none, .p0, .none, 0, false, none, [.v 0], (.iv (-4) 4)⟩,
  -- 0x3040 + c:04 FORCED_REFRESHES
  ⟨0x3040, 32, 16, 1, 1, 0, 0, 4, 1, 1, (.uns 32), .ro, false, .none, .p0, .none, 0, false, none, [.v 0], .full⟩,
  -- 0x3040 + c:05 PANIC_US, 64-bit, does not wrap in service
  ⟨0x3040, 32, 16, 1, 1, 0, 0, 5, 1, 1, (.uns 64), .ro, false, .none, .p0, .none, 0, false, none, [.v 0], .full⟩,
  -- 0x3040 + c:06–08 ECC_CORRECTED, ECC_UNCORRECTED, RETRAINS
  ⟨0x3040, 32, 16, 1, 1, 0, 0, 6, 3, 1, (.uns 32), .ro, false, .none, .p0, .none, 0, false, none, [.v 0], .full⟩
  ]

/-- Rows from index 0x3040. -/
def objRows8 : List Row := [
  -- 0x3040 + c:09 LAST_TRAIN_TEMP_C
  ⟨0x3040, 32, 16, 1, 1, 0, 0, 9, 1, 1, (.sgn 8), .ro, false, .none, .p0, .none, 0, false, none, [.v 0], (.iv (-40) 127)⟩,
  -- 0x3060:00 FrequencyControl (highest sub-index)
  ⟨0x3060, 1, 1, 0, 1, 0, 0, 0, 1, 1, (.uns 8), .const, false, .none, .p0, .none, 0, false, none, [.v 5], .full⟩,
  -- 0x3060:01 TARGET_OP
  ⟨0x3060, 1, 1, 0, 1, 0, 0, 1, 1, 1, (.uns 8), .rw, true, (.g 56), .p0, .p0, 0, false, none, [.v 0], (.iv 0 3)⟩,
  -- 0x3060:02 WAIT_MS
  ⟨0x3060, 1, 1, 0, 1, 0, 0, 2, 1, 1, (.uns 16), .rw, true, (.g 56), .p0, .p0, 0, false, none, [.v 100], (.iv 10 10000)⟩,
  -- 0x3060:03 VBLANK_PREF_MS
  ⟨0x3060, 1, 1, 0, 1, 0, 0, 3, 1, 1, (.uns 16), .rw, true, (.g 56), .p0, .p0, 0, false, none, [.v 34], (.iv 0 1000)⟩,
  -- 0x3060:04 LAST_BLACKOUT_NS
  ⟨0x3060, 1, 1, 0, 1, 0, 0, 4, 1, 1, (.uns 32), .ro, false, .none, .p0, .none, 0, false, none, [.v 0], (.iv 0 6000)⟩,
  -- 0x3060:05 WORST_BLACKOUT_NS, saturates
  ⟨0x3060, 1, 1, 0, 1, 0, 0, 5, 1, 1, (.uns 32), .ro, false, .none, .p0, .none, 0, false, none, [.v 0], .full⟩,
  -- 0x3064 + k:00 OperatingPoint k, k = 0–3 (highest sub-index)
  ⟨0x3064, 4, 4, 1, 1, 0, 0, 0, 1, 1, (.uns 8), .const, false, .none, .p0, .none, 0, false, none, [.v 2], .full⟩,
  -- 0x3064 + k:01 RATE_MTS; takes effect at the next training (default: the nominal of R
  ⟨0x3064, 4, 4, 1, 1, 0, 0, 1, 1, 1, (.uns 16), .rw, true, (.g 56), .p0, .p0, 0, false, none, [.opRate], (.iv 800 10667)⟩,
  -- 0x3064 + k:02 TRAINED
  ⟨0x3064, 4, 4, 1, 1, 0, 0, 2, 1, 1, .bool, .ro, false, .none, .p0, .none, 0, false, none, [.v 0], (.iv 0 1)⟩,
  -- 0x3070:00 RefreshTemp (highest sub-index)
  ⟨0x3070, 1, 1, 0, 1, 0, 0, 0, 1, 1, (.uns 8), .const, false, .none, .p0, .none, 0, false, none, [.v 4], .full⟩,
  -- 0x3070:01 POLL_MS
  ⟨0x3070, 1, 1, 0, 1, 0, 0, 1, 1, 1, (.uns 8), .const, false, .none, .p0, .none, 0, false, none, [.v 16], .full⟩,
  -- 0x3070:02 POSTPONE_MAX
  ⟨0x3070, 1, 1, 0, 1, 0, 0, 2, 1, 1, (.uns 8), .const, false, .none, .p0, .none, 0, false, none, [.v 4], .full⟩,
  -- 0x3070:03 RETRAIN_DELTA_C
  ⟨0x3070, 1, 1, 0, 1, 0, 0, 3, 1, 1, (.uns 8), .rw, true, (.g 56), .p0, .p0, 0, false, none, [.v 20], (.iv 5 60)⟩,
  -- 0x3070:04 DERATED_CHANNELS
  ⟨0x3070, 1, 1, 0, 1, 0, 0, 4, 1, 1, (.bits 32), .ro, false, .none, .p0, .none, 0, false, none, [.v 0], (.mask 0xFFFFFFFF)⟩,
  -- 0x3080 + g:00 EccGroup g, g = 0–7 (0–3 Compact) (highest sub-index)
  ⟨0x3080, 8, 4, 1, 1, 0, 0, 0, 1, 1, (.uns 8), .const, false, .none, .p0, .none, 0, false, none, [.v 6], .full⟩,
  -- 0x3080 + g:01 ECC_MIB; takes effect at reset of PD4 and PD5
  ⟨0x3080, 8, 4, 1, 1, 0, 0, 1, 1, 1, (.uns 32), .rw, true, (.g 56), .p0, .p0, 0, false, none, [.v 256], (.step 0 8192 64)⟩,
  -- 0x3080 + g:02 ECC_ACTIVE_MIB
  ⟨0x3080, 8, 4, 1, 1, 0, 0, 2, 1, 1, (.uns 32), .ro, false, .none, .p0, .none, 0, false, none, [.v 0], (.iv 0 8192)⟩,
  -- 0x3080 + g:03 SCRUB_HOURS
  ⟨0x3080, 8, 4, 1, 1, 0, 0, 3, 1, 1, (.uns 16), .rw, true, (.g 56), .p0, .p0, 0, false, none, [.v 24], (.iv 1 720)⟩,
  -- 0x3080 + g:04 LAST_SCRUB_END, device time
  ⟨0x3080, 8, 4, 1, 1, 0, 0, 4, 1, 1, (.uns 64), .ro, false, .none, .p0, .none, 0, false, none, [.v 0], .full⟩,
  -- 0x3080 + g:05–06 CORRECTED, UNCORRECTED
  ⟨0x3080, 8, 4, 1, 1, 0, 0, 5, 2, 1, (.uns 32), .ro, false, .none, .p0, .none, 0, false, none, [.v 0], .full⟩,
  -- 0x3090:00 EccLog, last uncorrectable error (highest sub-index)
  ⟨0x3090, 1, 1, 0, 1, 0, 0, 0, 1, 1, (.uns 8), .const, false, .none, .p0, .none, 0, false, none, [.v 4], .full⟩,
  -- 0x3090:01 ADDRESS, internal
  ⟨0x3090, 1, 1, 0, 1, 0, 0, 1, 1, 1, (.uns 64), .ro, false, .none, .p0, .none, 0, false, none, [.v 0], .full⟩,
  -- 0x3090:02 PARTITION, owner
  ⟨0x3090, 1, 1, 0, 1, 0, 0, 2, 1, 1, (.uns 8), .ro, false, .none, .p0, .none, 0, false, none, [.v 0], (.iv 0 15)⟩,
  -- 0x3090:03 TIME, device time
  ⟨0x3090, 1, 1, 0, 1, 0, 0, 3, 1, 1, (.uns 64), .ro, false, .none, .p0, .none, 0, false, none, [.v 0], .full⟩,
  -- 0x3090:04 STORE: 0 DRAM, 1 tile store, 2 eMRAM
  ⟨0x3090, 1, 1, 0, 1, 0, 0, 4, 1, 1, (.uns 8), .ro, false, .none, .p0, .none, 0, false, none, [.v 0], (.iv 0 2)⟩,
  -- 0x30A0 + b:00 TileStoreBank b, b = 0–31 (0–15 Compact) (highest sub-index)
  ⟨0x30A0, 32, 16, 1, 1, 0, 0, 0, 1, 1, (.uns 8), .const, false, .none, .p0, .none, 0, false, none, [.v 4], .full⟩,
  -- 0x30A0 + b:01 STATE: 0 off, 1 active, 2 retention, 3 unusable
  ⟨0x30A0, 32, 16, 1, 1, 0, 0, 1, 1, 1, (.uns 8), .ro, false, .none, .p0, .none, 0, false, none, [.v 0], (.iv 0 3)⟩,
  -- 0x30A0 + b:02 USED_KIB
  ⟨0x30A0, 32, 16, 1, 1, 0, 0, 2, 1, 1, (.uns 16), .ro, false, .none, .p0, .none, 0, false, none, [.v 0], (.iv 0 1536)⟩,
  -- 0x30A0 + b:03–04 CORRECTED, UNCORRECTED
  ⟨0x30A0, 32, 16, 1, 1, 0, 0, 3, 2, 1, (.uns 32), .ro, false, .none, .p0, .none, 0, false, none, [.v 0], .full⟩
  ]

/-- Rows from index 0x30C0. -/
def objRows9 : List Row := [
  -- 0x30C0:00 TileStoreControl (highest sub-index)
  ⟨0x30C0, 1, 1, 0, 1, 0, 0, 0, 1, 1, (.uns 8), .const, false, .none, .p0, .none, 0, false, none, [.v 2], .full⟩,
  -- 0x30C0:01 BANK_IDLE_US
  ⟨0x30C0, 1, 1, 0, 1, 0, 0, 1, 1, 1, (.uns 16), .rw, true, (.g 56), .p0, .p0, 0, false, none, [.v 100], (.iv 10 10000)⟩,
  -- 0x30C0:02 CAPACITY_KIB
  ⟨0x30C0, 1, 1, 0, 1, 0, 0, 2, 1, 1, (.uns 32), .const, false, .none, .p0, .none, 0, false, none, [.tsKib], .full⟩,
  -- 0x30D0:00 EmramState (highest sub-index)
  ⟨0x30D0, 1, 1, 0, 1, 0, 0, 0, 1, 1, (.uns 8), .const, false, .none, .p0, .none, 0, false, none, [.v 6], .full⟩,
  -- 0x30D0:01 WRITES, words since manufacture, 64-bit, does not wrap
  ⟨0x30D0, 1, 1, 0, 1, 0, 0, 1, 1, 1, (.uns 64), .ro, false, .none, .p0, .none, 0, false, none, [.v 0], .full⟩,
  -- 0x30D0:02 MAX_AREA_WORD_WRITES, saturates
  ⟨0x30D0, 1, 1, 0, 1, 0, 0, 2, 1, 1, (.uns 32), .ro, false, .none, .p0, .none, 0, false, none, [.v 0], .full⟩,
  -- 0x30D0:03–04 CORRECTED, UNCORRECTED
  ⟨0x30D0, 1, 1, 0, 1, 0, 0, 3, 2, 1, (.uns 32), .ro, false, .none, .p0, .none, 0, false, none, [.v 0], .full⟩,
  -- 0x30D0:05 LIBRARY_USED_KIB
  ⟨0x30D0, 1, 1, 0, 1, 0, 0, 5, 1, 1, (.uns 16), .ro, false, .none, .p0, .none, 0, false, none, [.v 0], (.iv 0 4096)⟩,
  -- 0x30D0:06 USER_PENDING
  ⟨0x30D0, 1, 1, 0, 1, 0, 0, 6, 1, 1, (.uns 16), .ro, false, .none, .p0, .none, 0, false, none, [.v 0], (.iv 0 16256)⟩,
  -- 0x30D8:00 FallbackLibrary (highest sub-index)
  ⟨0x30D8, 1, 1, 0, 1, 0, 0, 0, 1, 1, (.uns 8), .const, false, .none, .p0, .none, 0, false, none, [.v 4], .full⟩,
  -- 0x30D8:01 ENTRY: a write adds or replaces an entry (R336)
  ⟨0x30D8, 1, 1, 0, 1, 0, 0, 1, 1, 1, (.domain 4194304), .wo, false, .none, .p0, .p0, 0, false, none, [.v 0], .full⟩,
  -- 0x30D8:02 ERASE_ID
  ⟨0x30D8, 1, 1, 0, 1, 0, 0, 2, 1, 1, (.uns 32), .wo, false, (.g 0), .p0, .p0, 0, false, none, [.v 0], .full⟩,
  -- 0x30D8:03 COUNT
  ⟨0x30D8, 1, 1, 0, 1, 0, 0, 3, 1, 1, (.uns 16), .ro, false, .none, .p0, .none, 0, false, none, [.v 0], (.iv 0 1024)⟩,
  -- 0x30D8:04 RESULT: 0 or code
  ⟨0x30D8, 1, 1, 0, 1, 0, 0, 4, 1, 1, (.uns 32), .ro, false, .none, .p0, .none, 0, false, none, [.v 0], .full⟩
  ]

/-- Rows from index 0x3400. -/
def objRows10 : List Row := [
  -- 0x3400 + p:00 PlacementPolicy of partition p, p = 0–15 (0–7 Compact); readable by P0
  ⟨0x3400, 16, 8, 1, 1, 0, 0, 0, 1, 1, (.uns 8), .const, false, .none, .inst, .none, 0, false, none, [.v 10], .full⟩,
  -- 0x3400 + p:01 PIN_CLASS_A_TS
  ⟨0x3400, 16, 8, 1, 1, 0, 0, 1, 1, 1, .bool, .rw, true, (.g 56), .inst, .p0, 0, false, none, [.v 1], (.iv 0 1)⟩,
  -- 0x3400 + p:02 PREFERRED_GROUPS
  ⟨0x3400, 16, 8, 1, 1, 0, 0, 2, 1, 1, (.bits 32), .rw, true, (.g 56), .inst, .p0, 0, false, none, [.v 0], (.mask 0xFF)⟩,
  -- 0x3400 + p:03 ALLOWED_GROUPS
  ⟨0x3400, 16, 8, 1, 1, 0, 0, 3, 1, 1, (.bits 32), .rw, true, (.g 56), .inst, .p0, 0, false, none, [.clu], (.mask 0xFF)⟩,
  -- 0x3400 + p:04 TS_QUOTA_KIB
  ⟨0x3400, 16, 8, 1, 1, 0, 0, 4, 1, 1, (.uns 32), .rw, true, (.g 56), .inst, .p0, 0, false, none, [.v 0], (.special 9)⟩,
  -- 0x3400 + p:05 DRAM_QUOTA_MIB
  ⟨0x3400, 16, 8, 1, 1, 0, 0, 5, 1, 1, (.uns 32), .rw, true, (.g 56), .inst, .p0, 0, false, none, [.v 65536], (.iv 0 65536)⟩,
  -- 0x3400 + p:06 MIGRATE: 0 allowed, 1 only under R137
  ⟨0x3400, 16, 8, 1, 1, 0, 0, 6, 1, 1, (.uns 8), .rw, true, (.g 56), .inst, .p0, 0, false, none, [.v 0], (.iv 0 1)⟩,
  -- 0x3400 + p:07 HOME_NODE_PREF, 0xFF none
  ⟨0x3400, 16, 8, 1, 1, 0, 0, 7, 1, 1, (.uns 8), .rw, true, (.g 56), .inst, .p0, 0, false, none, [.v 255], (.pieces [(0, 63), (255, 255)])⟩,
  -- 0x3400 + p:08 SURFACES_USED
  ⟨0x3400, 16, 8, 1, 1, 0, 0, 8, 1, 1, (.uns 16), .ro, false, .none, .inst, .none, 0, false, none, [.v 0], (.iv 0 4096)⟩,
  -- 0x3400 + p:09 TS_USED_KIB
  ⟨0x3400, 16, 8, 1, 1, 0, 0, 9, 1, 1, (.uns 32), .ro, false, .none, .inst, .none, 0, false, none, [.v 0], (.iv 0 49152)⟩,
  -- 0x3400 + p:0A DRAM_USED_MIB
  ⟨0x3400, 16, 8, 1, 1, 0, 0, 10, 1, 1, (.uns 32), .ro, false, .none, .inst, .none, 0, false, none, [.v 0], (.iv 0 65536)⟩,
  -- 0x3420:00 PlacementControl (highest sub-index)
  ⟨0x3420, 1, 1, 0, 1, 0, 0, 0, 1, 1, (.uns 8), .const, false, .none, .all, .none, 0, false, none, [.v 8], .full⟩,
  -- 0x3420:01 IMBALANCE_PCT
  ⟨0x3420, 1, 1, 0, 1, 0, 0, 1, 1, 1, (.uns 8), .rw, true, (.g 56), .all, .p0, 0, false, none, [.v 25], (.iv 10 100)⟩,
  -- 0x3420:02 WINDOW_MS
  ⟨0x3420, 1, 1, 0, 1, 0, 0, 2, 1, 1, (.uns 16), .rw, true, (.g 56), .all, .p0, 0, false, none, [.v 100], (.iv 10 1000)⟩,
  -- 0x3420:03 HOLD_WINDOWS
  ⟨0x3420, 1, 1, 0, 1, 0, 0, 3, 1, 1, (.uns 16), .rw, true, (.g 56), .all, .p0, 0, false, none, [.v 100], (.iv 10 6000)⟩,
  -- 0x3420:04 MIN_LOAD_PCT
  ⟨0x3420, 1, 1, 0, 1, 0, 0, 4, 1, 1, (.uns 8), .rw, true, (.g 56), .all, .p0, 0, false, none, [.v 10], (.iv 0 100)⟩,
  -- 0x3420:05 MIGRATE_RATE_MBPS
  ⟨0x3420, 1, 1, 0, 1, 0, 0, 5, 1, 1, (.uns 32), .rw, true, (.g 56), .all, .p0, 0, false, none, [.v 2000], (.iv 0 8000)⟩,
  -- 0x3420:06 HOLD_US
  ⟨0x3420, 1, 1, 0, 1, 0, 0, 6, 1, 1, (.uns 16), .rw, true, (.g 56), .all, .p0, 0, false, none, [.v 50], (.iv 10 200)⟩,
  -- 0x3420:07 REKEY_MIN_S
  ⟨0x3420, 1, 1, 0, 1, 0, 0, 7, 1, 1, (.uns 16), .rw, true, (.g 56), .all, .p0, 0, false, none, [.v 60], (.iv 10 3600)⟩,
  -- 0x3420:08 DETECTOR_ENABLE
  ⟨0x3420, 1, 1, 0, 1, 0, 0, 8, 1, 1, .bool, .rw, true, (.g 56), .all, .p0, 0, false, none, [.v 1], (.iv 0 1)⟩,
  -- 0x3430:00 PlacementStatus (R46): [0] IMBALANCE, [1] REKEYED, [2] MIGRATED, [3] U
  ⟨0x3430, 1, 1, 0, 1, 0, 0, 0, 1, 1, (.bits 64), .rw, false, .none, .all, .p0, 0, false, (some (.interval 10000000)), [.v 0], .full⟩,
  -- 0x3431:00 PlacementCounters (highest sub-index)
  ⟨0x3431, 1, 1, 0, 1, 0, 0, 0, 1, 1, (.uns 8), .const, false, .none, .all, .none, 0, false, none, [.v 6], .full⟩,
  -- 0x3431:01–04 MIGRATIONS, MIGRATED_MIB, REKEYS, DEFERRED_SWITCHES; 32-bit, saturate
  ⟨0x3431, 1, 1, 0, 1, 0, 0, 1, 4, 1, (.uns 32), .ro, false, .none, .all, .none, 0, false, none, [.v 0], .full⟩,
  -- 0x3431:05 RETIRED_SLOTS, all partitions
  ⟨0x3431, 1, 1, 0, 1, 0, 0, 5, 1, 1, (.uns 16), .ro, false, .none, .all, .none, 0, false, none, [.v 0], (.iv 0 65535)⟩,
  -- 0x3431:06 LATE_REMOTE, 32-bit, saturates
  ⟨0x3431, 1, 1, 0, 1, 0, 0, 6, 1, 1, (.uns 32), .ro, false, .none, .all, .none, 0, false, none, [.v 0], .full⟩,
  -- 0x3440 + c:00 ChannelLoad c, for each channel that the configuration and DRAM genera
  ⟨0x3440, 32, 16, 1, 1, 0, 0, 0, 1, 1, (.uns 8), .const, false, .none, .p0, .none, 0, false, none, [.v 5], .full⟩,
  -- 0x3440 + c:01 GROUP
  ⟨0x3440, 32, 16, 1, 1, 0, 0, 1, 1, 1, (.uns 8), .ro, false, .none, .p0, .none, 0, false, none, [.v 0], (.iv 0 7)⟩,
  -- 0x3440 + c:02 USABLE
  ⟨0x3440, 32, 16, 1, 1, 0, 0, 2, 1, 1, .bool, .ro, false, .none, .p0, .none, 0, false, none, [.v 1], (.iv 0 1)⟩,
  -- 0x3440 + c:03 LAST_WINDOW_BYTES
  ⟨0x3440, 32, 16, 1, 1, 0, 0, 3, 1, 1, (.uns 64), .ro, false, .none, .p0, .none, 0, false, none, [.v 0], .full⟩,
  -- 0x3440 + c:04 LOAD_PCT_OF_MEAN, 100 = mean
  ⟨0x3440, 32, 16, 1, 1, 0, 0, 4, 1, 1, (.uns 16), .ro, false, .none, .p0, .none, 0, false, none, [.v 0], (.iv 0 65535)⟩
  ]

/-- Rows from index 0x3440. -/
def objRows11 : List Row := [
  -- 0x3440 + c:05 HOT_WINDOWS, consecutive, saturates
  ⟨0x3440, 32, 16, 1, 1, 0, 0, 5, 1, 1, (.uns 16), .ro, false, .none, .p0, .none, 0, false, none, [.v 0], (.iv 0 65535)⟩,
  -- 0x3460 + g:00 GroupStatus g, g = 0–7 (0–3 Compact); P0 (highest sub-index)
  ⟨0x3460, 8, 4, 1, 1, 0, 0, 0, 1, 1, (.uns 8), .const, false, .none, .p0, .none, 0, false, none, [.v 4], .full⟩,
  -- 0x3460 + g:01 CURRENT_CTX
  ⟨0x3460, 8, 4, 1, 1, 0, 0, 1, 1, 1, (.uns 8), .ro, false, .none, .p0, .none, 0, false, none, [.v 0], (.iv 0 3)⟩,
  -- 0x3460 + g:02 CONTEXTS_IN_USE: bit k context k
  ⟨0x3460, 8, 4, 1, 1, 0, 0, 2, 1, 1, (.bits 32), .ro, false, .none, .p0, .none, 0, false, none, [.v 1], (.mask 0xF)⟩,
  -- 0x3460 + g:03 CAPACITY_MIB
  ⟨0x3460, 8, 4, 1, 1, 0, 0, 3, 1, 1, (.uns 32), .ro, false, .none, .p0, .none, 0, false, none, [.v 0], (.iv 0 8192)⟩,
  -- 0x3460 + g:04 USED_MIB
  ⟨0x3460, 8, 4, 1, 1, 0, 0, 4, 1, 1, (.uns 32), .ro, false, .none, .p0, .none, 0, false, none, [.v 0], (.iv 0 8192)⟩,
  -- 0x3470:00 EngineBinding; P0 (highest sub-index)
  ⟨0x3470, 1, 1, 0, 1, 0, 0, 0, 1, 1, (.uns 8), .const, false, .none, .p0, .none, 0, false, none, [.v 9], .full⟩,
  -- 0x3470:01–08 PHYS of logical engine k = sub − 1; 0xFF unbound
  ⟨0x3470, 1, 1, 0, 1, 0, 0, 1, 8, 1, (.uns 8), .ro, false, .none, .p0, .none, 0, false, none, [.memb], (.pieces [(0, 7), (255, 255)])⟩,
  -- 0x3470:09 UNUSABLE_ENGINES
  ⟨0x3470, 1, 1, 0, 1, 0, 0, 9, 1, 1, (.bits 32), .ro, false, .none, .p0, .none, 0, false, none, [.v 0], (.mask 0xFF)⟩,
  -- 0x3478:00 ShedState (highest sub-index)
  ⟨0x3478, 1, 1, 0, 1, 0, 0, 0, 1, 1, (.uns 8), .const, false, .none, .all, .none, 0, false, none, [.v 4], .full⟩,
  -- 0x3478:01–03 SHED_D, SHED_C, DROPPED_B: layer counts
  ⟨0x3478, 1, 1, 0, 1, 0, 0, 1, 3, 1, (.uns 16), .ro, false, .none, .all, .none, 0, false, none, [.v 0], (.iv 0 512)⟩,
  -- 0x3478:04 SHED_MAP: bit n for layer slot n
  ⟨0x3478, 1, 1, 0, 1, 0, 0, 4, 1, 1, (.octet 64), .ro, false, .none, .all, .none, 0, false, none, [.v 0], .full⟩,
  -- 0x3480:00 SurfaceQuery, banked (highest sub-index)
  ⟨0x3480, 1, 1, 0, 1, 0, 0, 0, 1, 1, (.uns 8), .const, false, .none, .all, .none, 0, true, none, [.v 7], .full⟩,
  -- 0x3480:01 HANDLE
  ⟨0x3480, 1, 1, 0, 1, 0, 0, 1, 1, 1, (.uns 32), .rw, false, (.g 0), .all, .all, 0, true, none, [.v 0], .full⟩,
  -- 0x3480:02 STATE: 0 invalid, 1 live, 2 migrating, 3 lost
  ⟨0x3480, 1, 1, 0, 1, 0, 0, 2, 1, 1, (.uns 8), .ro, false, .none, .all, .none, 0, true, none, [.v 0], (.iv 0 3)⟩,
  -- 0x3480:03 SIZE in bytes
  ⟨0x3480, 1, 1, 0, 1, 0, 0, 3, 1, 1, (.uns 32), .ro, false, .none, .all, .none, 0, true, none, [.v 0], (.iv 0 536870912)⟩,
  -- 0x3480:04 APERTURE_OFFSET
  ⟨0x3480, 1, 1, 0, 1, 0, 0, 4, 1, 1, (.uns 64), .ro, false, .none, .all, .none, 0, true, none, [.v 0], .full⟩,
  -- 0x3480:05 LOCATION: 0 tile store, 1 DRAM group, 2 remote; P0
  ⟨0x3480, 1, 1, 0, 1, 0, 0, 5, 1, 1, (.uns 8), .ro, false, .none, .p0, .none, 0, true, none, [.v 0], (.iv 0 2)⟩,
  -- 0x3480:06 GROUP_OR_NODE; P0
  ⟨0x3480, 1, 1, 0, 1, 0, 0, 6, 1, 1, (.uns 8), .ro, false, .none, .p0, .none, 0, true, none, [.v 0], (.iv 0 63)⟩,
  -- 0x3480:07 GENERATIONS_LEFT before retirement
  ⟨0x3480, 1, 1, 0, 1, 0, 0, 7, 1, 1, (.uns 32), .ro, false, .none, .all, .none, 0, true, none, [.v 0], (.iv 0 1048574)⟩,
  -- 0x3490:00 ApertureConfig (highest sub-index)
  ⟨0x3490, 1, 1, 0, 1, 0, 0, 0, 1, 1, (.uns 8), .const, false, .none, .all, .none, 0, false, none, [.v 2], .full⟩,
  -- 0x3490:01 VF_BAR2_LOG2; takes effect at the link training after the next reset o
  ⟨0x3490, 1, 1, 0, 1, 0, 0, 1, 1, 1, (.uns 8), .rw, true, (.g 0), .all, .p0, 0, false, none, [.v 34], (.iv 30 36)⟩,
  -- 0x3490:02 PF_BAR2_LOG2
  ⟨0x3490, 1, 1, 0, 1, 0, 0, 2, 1, 1, (.uns 8), .const, false, .none, .all, .none, 0, false, none, [.v 36], .full⟩
  ]

/-- Rows from index 0x4000. -/
def objRows12 : List Row := [
  -- 0x4000:00 PlanControl, written by P0 (highest sub-index)
  ⟨0x4000, 1, 1, 0, 1, 0, 0, 0, 1, 1, (.uns 8), .const, false, .none, .all, .none, 0, false, none, [.v 9], .full⟩,
  -- 0x4000:01 ACTION: 1 re-validate staged, 2 store staged to TARGET_SLOT, 3 load TA
  ⟨0x4000, 1, 1, 0, 1, 0, 0, 1, 1, 1, (.uns 8), .wo, false, (.g 0), .all, .p0, 0, false, none, [.v 0], (.iv 1 8)⟩,
  -- 0x4000:02 TARGET_SLOT
  ⟨0x4000, 1, 1, 0, 1, 0, 0, 2, 1, 1, (.uns 8), .rw, false, (.g 0), .all, .p0, 0, false, none, [.v 0], (.iv 0 3)⟩,
  -- 0x4000:03 SWAP_AT_TIME, Wall time
  ⟨0x4000, 1, 1, 0, 1, 0, 0, 3, 1, 1, (.uns 64), .rw, false, (.g 0), .all, .p0, 0, false, none, [.v 0], .full⟩,
  -- 0x4000:04 STATE: 0 empty, 1 staged, 2 validating, 3 valid, 4 preparing, 5 ready,
  ⟨0x4000, 1, 1, 0, 1, 0, 0, 4, 1, 1, (.uns 8), .ro, false, .none, .all, .none, 0, false, none, [.v 0], (.iv 0 8)⟩,
  -- 0x4000:05 RESULT: 0 or code of the last action
  ⟨0x4000, 1, 1, 0, 1, 0, 0, 5, 1, 1, (.uns 32), .ro, false, .none, .all, .none, 0, false, none, [.v 0], .full⟩,
  -- 0x4000:06 FAULT_OFFSET
  ⟨0x4000, 1, 1, 0, 1, 0, 0, 6, 1, 1, (.uns 32), .ro, false, .none, .all, .none, 0, false, none, [.v 0], (.iv 0 67108863)⟩,
  -- 0x4000:07 BOOT_SLOT: 0–3, 0xFF none
  ⟨0x4000, 1, 1, 0, 1, 0, 0, 7, 1, 1, (.uns 8), .rw, true, (.g 0), .all, .p0, 0, false, none, [.v 255], (.pieces [(0, 3), (255, 255)])⟩,
  -- 0x4000:08 EARLY_SLOT: 0–3, 0xFF none
  ⟨0x4000, 1, 1, 0, 1, 0, 0, 8, 1, 1, (.uns 8), .rw, true, (.g 0), .all, .p0, 0, false, none, [.v 255], (.pieces [(0, 3), (255, 255)])⟩,
  -- 0x4000:09 STAGED_PLAN_ID
  ⟨0x4000, 1, 1, 0, 1, 0, 0, 9, 1, 1, (.uns 64), .ro, false, .none, .all, .none, 0, false, none, [.v 0], .full⟩,
  -- 0x4001:00 PlanImage, staged image, P0 write
  ⟨0x4001, 1, 1, 0, 1, 0, 0, 0, 1, 1, (.domain 67108864), .rw, false, .none, .p0, .p0, 0, false, none, [.v 0], .full⟩,
  -- 0x4002:00 PlanDmaLoad; written through the PCIe PF only, every other initiator's
  ⟨0x4002, 1, 1, 0, 1, 0, 0, 0, 1, 1, (.uns 8), .const, false, .none, .p0, .none, 0, false, none, [.v 3], .full⟩,
  -- 0x4002:01 HOST_ADDR
  ⟨0x4002, 1, 1, 0, 1, 0, 0, 1, 1, 1, (.uns 64), .rw, false, (.g 0), .p0, .pf, 0, false, none, [.v 0], (.step 0 18446744073709551608 8)⟩,
  -- 0x4002:02 LENGTH
  ⟨0x4002, 1, 1, 0, 1, 0, 0, 2, 1, 1, (.uns 32), .rw, false, (.g 0), .p0, .pf, 0, false, none, [.v 0], (.iv 3672 67108864)⟩,
  -- 0x4002:03 GO: write 1
  ⟨0x4002, 1, 1, 0, 1, 0, 0, 3, 1, 1, (.uns 8), .wo, false, (.g 0), .p0, .pf, 0, false, none, [.v 0], (.iv 1 1)⟩,
  -- 0x4004 + s:00 PlanSlot s, s = 0–3 (highest sub-index)
  ⟨0x4004, 4, 4, 1, 1, 0, 0, 0, 1, 1, (.uns 8), .const, false, .none, .all, .none, 0, false, none, [.v 5], .full⟩,
  -- 0x4004 + s:01 PLAN_ID, 0 empty
  ⟨0x4004, 4, 4, 1, 1, 0, 0, 1, 1, 1, (.uns 64), .ro, false, .none, .all, .none, 0, false, none, [.v 0], .full⟩,
  -- 0x4004 + s:02 LENGTH
  ⟨0x4004, 4, 4, 1, 1, 0, 0, 2, 1, 1, (.uns 32), .ro, false, .none, .all, .none, 0, false, none, [.v 0], (.iv 0 4194304)⟩,
  -- 0x4004 + s:03 FORMAT_VERSION
  ⟨0x4004, 4, 4, 1, 1, 0, 0, 3, 1, 1, (.uns 32), .ro, false, .none, .all, .none, 0, false, none, [.v 0], .full⟩,
  -- 0x4004 + s:04 KIND, as header 0x021
  ⟨0x4004, 4, 4, 1, 1, 0, 0, 4, 1, 1, (.uns 8), .ro, false, .none, .all, .none, 0, false, none, [.v 0], .full⟩,
  -- 0x4004 + s:05 STORES, 32-bit, saturates
  ⟨0x4004, 4, 4, 1, 1, 0, 0, 5, 1, 1, (.uns 32), .ro, false, .none, .all, .none, 0, false, none, [.v 0], .full⟩,
  -- 0x4008:00 PlanStatus (R46): [0] REJECTED, [1] FIELDS_CLAMPED, [2] SWAPPED, [3] S
  ⟨0x4008, 1, 1, 0, 1, 0, 0, 0, 1, 1, (.bits 64), .rw, false, .none, .all, .p0, 0, false, (some (.interval 10000000)), [.v 0], .full⟩,
  -- 0x4009:00 PlanFieldReport (highest sub-index)
  ⟨0x4009, 1, 1, 0, 1, 0, 0, 0, 1, 1, (.uns 8), .const, false, .none, .all, .none, 0, false, none, [.v 17], .full⟩,
  -- 0x4009:01 COUNT of clamped fields in the last validation, 32-bit, saturates
  ⟨0x4009, 1, 1, 0, 1, 0, 0, 1, 1, 1, (.uns 32), .ro, false, .none, .all, .none, 0, false, none, [.v 0], .full⟩,
  -- 0x4009:02–11 ENTRY k = sub − 2: [63:48] section type, [47:32] entry number, [31:16]
  ⟨0x4009, 1, 1, 0, 1, 0, 0, 2, 16, 1, (.uns 64), .ro, false, .none, .all, .none, 0, false, none, [.v 0], .full⟩,
  -- 0x400A:00 PlanSwapInfo (highest sub-index)
  ⟨0x400A, 1, 1, 0, 1, 0, 0, 0, 1, 1, (.uns 8), .const, false, .none, .all, .none, 0, false, none, [.v 3], .full⟩,
  -- 0x400A:01 LAST_SWAP_EPOCH
  ⟨0x400A, 1, 1, 0, 1, 0, 0, 1, 1, 1, (.uns 32), .ro, false, .none, .all, .none, 0, false, none, [.v 0], .full⟩,
  -- 0x400A:02 LAST_SWAP_TIME, device time
  ⟨0x400A, 1, 1, 0, 1, 0, 0, 2, 1, 1, (.uns 64), .ro, false, .none, .all, .none, 0, false, none, [.v 0], .full⟩,
  -- 0x400A:03 SWAPS since PD0 reset, 32-bit, saturates
  ⟨0x400A, 1, 1, 0, 1, 0, 0, 3, 1, 1, (.uns 32), .ro, false, .none, .all, .none, 0, false, none, [.v 0], .full⟩,
  -- 0x4040:00 CompositionControl (highest sub-index)
  ⟨0x4040, 1, 1, 0, 1, 0, 0, 0, 1, 1, (.uns 8), .const, false, .none, .all, .none, 0, false, none, [.v 3], .full⟩
  ]

/-- Rows from index 0x4040. -/
def objRows13 : List Row := [
  -- 0x4040:01 CULL_ENABLE
  ⟨0x4040, 1, 1, 0, 1, 0, 0, 1, 1, 1, .bool, .rw, true, (.g 17), .all, .p0, 0, false, none, [.v 1], (.iv 0 1)⟩,
  -- 0x4040:02 CLEAN_SKIP_ENABLE
  ⟨0x4040, 1, 1, 0, 1, 0, 0, 2, 1, 1, .bool, .rw, true, (.g 17), .all, .p0, 0, false, none, [.v 1], (.iv 0 1)⟩,
  -- 0x4040:03 OVERRUN_EVENT_MIN_TILES
  ⟨0x4040, 1, 1, 0, 1, 0, 0, 3, 1, 1, (.uns 16), .rw, true, (.g 17), .all, .p0, 0, false, none, [.v 1], (.iv 1 32768)⟩,
  -- 0x4041:00 CompositionStatus (R46): [0] OVERRUN, [1] CLASS_A_OVERRUN, [2] DECODE_
  ⟨0x4041, 1, 1, 0, 1, 0, 0, 0, 1, 1, (.bits 64), .rw, false, .none, .all, .p0, 0, false, (some .perEpoch), [.v 0], .full⟩,
  -- 0x4080 + e:00 ComposerEngine e, physical engine e = 0–7 (0–3 Compact); P0 (highest s
  ⟨0x4080, 8, 4, 1, 1, 0, 0, 0, 1, 1, (.uns 8), .const, false, .none, .p0, .none, 0, false, none, [.v 6], .full⟩,
  -- 0x4080 + e:01 STATE: 0 usable, 1 unusable
  ⟨0x4080, 8, 4, 1, 1, 0, 0, 1, 1, 1, (.uns 8), .ro, false, .none, .p0, .none, 0, false, none, [.v 0], (.iv 0 1)⟩,
  -- 0x4080 + e:02 TILES_COMPOSED, 64-bit, does not wrap in service
  ⟨0x4080, 8, 4, 1, 1, 0, 0, 2, 1, 1, (.uns 64), .ro, false, .none, .p0, .none, 0, false, none, [.v 0], .full⟩,
  -- 0x4080 + e:03 TILES_CLEAN, 64-bit, does not wrap in service
  ⟨0x4080, 8, 4, 1, 1, 0, 0, 3, 1, 1, (.uns 64), .ro, false, .none, .p0, .none, 0, false, none, [.v 0], .full⟩,
  -- 0x4080 + e:04 STEPS_PASSED_OVER, 64-bit, does not wrap in service
  ⟨0x4080, 8, 4, 1, 1, 0, 0, 4, 1, 1, (.uns 64), .ro, false, .none, .p0, .none, 0, false, none, [.v 0], .full⟩,
  -- 0x4080 + e:05 OVERRUN_TILES, 32-bit, saturates
  ⟨0x4080, 8, 4, 1, 1, 0, 0, 5, 1, 1, (.uns 32), .ro, false, .none, .p0, .none, 0, false, none, [.v 0], .full⟩,
  -- 0x4080 + e:06 LOAD_PCT, busy clocks in the last epoch
  ⟨0x4080, 8, 4, 1, 1, 0, 0, 6, 1, 1, (.uns 8), .ro, false, .none, .p0, .none, 0, false, none, [.v 0], (.iv 0 100)⟩,
  -- 0x4100 + h:00 HeadComposition h, h = 0–15 (0–7 Compact); readable by every partition
  ⟨0x4100, 16, 8, 1, 1, 0, 0, 0, 1, 1, (.uns 8), .const, false, .none, .headOwners, .none, 0, false, none, [.v 8], .full⟩,
  -- 0x4100 + h:01 OVERRUN_TILES, 32-bit, saturates
  ⟨0x4100, 16, 8, 1, 1, 0, 0, 1, 1, 1, (.uns 32), .ro, false, .none, .headOwners, .none, 0, false, none, [.v 0], .full⟩,
  -- 0x4100 + h:02 OVERRUN_FRAMES, 32-bit, saturates
  ⟨0x4100, 16, 8, 1, 1, 0, 0, 2, 1, 1, (.uns 32), .ro, false, .none, .headOwners, .none, 0, false, none, [.v 0], .full⟩,
  -- 0x4100 + h:03 CLASS_A_OVERRUN_TILES, 32-bit, saturates
  ⟨0x4100, 16, 8, 1, 1, 0, 0, 3, 1, 1, (.uns 32), .ro, false, .none, .headOwners, .none, 0, false, none, [.v 0], .full⟩,
  -- 0x4100 + h:04 LAST_OVERRUN_EPOCH
  ⟨0x4100, 16, 8, 1, 1, 0, 0, 4, 1, 1, (.uns 32), .ro, false, .none, .headOwners, .none, 0, false, none, [.v 0], .full⟩,
  -- 0x4100 + h:05 LAST_OVERRUN_TILE
  ⟨0x4100, 16, 8, 1, 1, 0, 0, 5, 1, 1, (.uns 16), .ro, false, .none, .headOwners, .none, 0, false, none, [.v 0], (.iv 0 32767)⟩,
  -- 0x4100 + h:06 COMPOSED_LAST, tiles composed in the last frame
  ⟨0x4100, 16, 8, 1, 1, 0, 0, 6, 1, 1, (.uns 16), .ro, false, .none, .headOwners, .none, 0, false, none, [.v 0], (.iv 0 32768)⟩,
  -- 0x4100 + h:07 FLIPPED_LAST, tiles flipped at the last vertical blank
  ⟨0x4100, 16, 8, 1, 1, 0, 0, 7, 1, 1, (.uns 16), .ro, false, .none, .headOwners, .none, 0, false, none, [.v 0], (.iv 0 32768)⟩,
  -- 0x4100 + h:08 DECODE_ERRORS, 32-bit, saturates
  ⟨0x4100, 16, 8, 1, 1, 0, 0, 8, 1, 1, (.uns 32), .ro, false, .none, .headOwners, .none, 0, false, none, [.v 0], .full⟩
  ]

/-- Rows from index 0x4400. -/
def objRows14 : List Row := [
  -- 0x4400 + n:00 LayerSlot n, n = 0–511 (0–255 Compact); readable by P0 and the owner (
  ⟨0x4400, 512, 256, 1, 1, 0, 0, 0, 1, 1, (.uns 8), .const, false, .none, .layerOwner, .none, 0, false, none, [.v 16], .full⟩,
  -- 0x4400 + n:01 X, live position
  ⟨0x4400, 512, 256, 1, 1, 0, 0, 1, 1, 1, (.sgn 16), .rw, false, .layer, .layerOwner, .layerOwner, 0, false, none, [.v 0], (.special 10)⟩,
  -- 0x4400 + n:02 Y
  ⟨0x4400, 512, 256, 1, 1, 0, 0, 2, 1, 1, (.sgn 16), .rw, false, .layer, .layerOwner, .layerOwner, 0, false, none, [.v 0], (.special 11)⟩,
  -- 0x4400 + n:03 SRC_X, source offset
  ⟨0x4400, 512, 256, 1, 1, 0, 0, 3, 1, 1, (.uns 16), .rw, false, .layer, .layerOwner, .layerOwner, 0, false, none, [.v 0], (.special 12)⟩,
  -- 0x4400 + n:04 SRC_Y
  ⟨0x4400, 512, 256, 1, 1, 0, 0, 4, 1, 1, (.uns 16), .rw, false, .layer, .layerOwner, .layerOwner, 0, false, none, [.v 0], (.special 13)⟩,
  -- 0x4400 + n:05 ALPHA, Ap
  ⟨0x4400, 512, 256, 1, 1, 0, 0, 5, 1, 1, (.uns 16), .rw, false, .layer, .layerOwner, .layerOwner, 0, false, none, [.v 0], (.special 14)⟩,
  -- 0x4400 + n:06 VISIBLE
  ⟨0x4400, 512, 256, 1, 1, 0, 0, 6, 1, 1, .bool, .rw, false, .layer, .layerOwner, .layerOwner, 0, false, none, [.v 0], (.special 15)⟩,
  -- 0x4400 + n:07 IN_PLAN
  ⟨0x4400, 512, 256, 1, 1, 0, 0, 7, 1, 1, .bool, .ro, false, (.g 19), .layerOwner, .none, 0, false, none, [.v 0], (.iv 0 1)⟩,
  -- 0x4400 + n:08 OWNER
  ⟨0x4400, 512, 256, 1, 1, 0, 0, 8, 1, 1, (.uns 8), .ro, false, (.g 19), .layerOwner, .none, 0, false, none, [.v 0], (.iv 0 15)⟩,
  -- 0x4400 + n:09 CLASS
  ⟨0x4400, 512, 256, 1, 1, 0, 0, 9, 1, 1, (.uns 8), .ro, false, (.g 19), .layerOwner, .none, 0, false, none, [.v 3], (.iv 0 3)⟩,
  -- 0x4400 + n:0A HEAD
  ⟨0x4400, 512, 256, 1, 1, 0, 0, 10, 1, 1, (.uns 8), .ro, false, (.g 19), .layerOwner, .none, 0, false, none, [.v 0], (.iv 0 15)⟩,
  -- 0x4400 + n:0B FORMAT
  ⟨0x4400, 512, 256, 1, 1, 0, 0, 11, 1, 1, (.uns 8), .ro, false, (.g 19), .layerOwner, .none, 0, false, none, [.v 0], .full⟩,
  -- 0x4400 + n:0C SOURCE_KIND
  ⟨0x4400, 512, 256, 1, 1, 0, 0, 12, 1, 1, (.uns 8), .ro, false, (.g 19), .layerOwner, .none, 0, false, none, [.v 0], (.iv 0 4)⟩,
  -- 0x4400 + n:0D LAYER_GROUP, k of CG_Lk
  ⟨0x4400, 512, 256, 1, 1, 0, 0, 13, 1, 1, (.uns 8), .ro, false, (.g 19), .layerOwner, .none, 0, false, none, [.v 0], (.iv 0 31)⟩,
  -- 0x4400 + n:0E LATCHED_HANDLE, 0 = none
  ⟨0x4400, 512, 256, 1, 1, 0, 0, 14, 1, 1, (.uns 32), .ro, false, .none, .layerOwner, .none, 0, false, none, [.v 0], .full⟩,
  -- 0x4400 + n:0F LATCHED_EPOCH, EPOCH_COUNT at the latch
  ⟨0x4400, 512, 256, 1, 1, 0, 0, 15, 1, 1, (.uns 32), .ro, false, .none, .layerOwner, .none, 0, false, none, [.v 0], .full⟩,
  -- 0x4400 + n:10 PRESENT_TIME, device time of the latched content
  ⟨0x4400, 512, 256, 1, 1, 0, 0, 16, 1, 1, (.uns 64), .ro, false, .none, .layerOwner, .none, 0, false, none, [.v 0], .full⟩
  ]

/-- Rows from index 0x5000. -/
def objRows15 : List Row := [
  -- 0x5000 + n×0x40:00 HeadTiming, from the plan (highest sub-index)
  ⟨0x5000, 16, 8, 64, 1, 0, 0, 0, 1, 1, (.uns 8), .const, false, .none, .headOwners, .none, 0, false, none, [.v 20], .full⟩,
  -- 0x5000 + n×0x40:01 FLAGS, as R96
  ⟨0x5000, 16, 8, 64, 1, 0, 0, 1, 1, 1, (.uns 8), .ro, false, (.g 19), .headOwners, .none, 0, false, none, [.v 0], (.iv 0 31)⟩,
  -- 0x5000 + n×0x40:02 PORT
  ⟨0x5000, 16, 8, 64, 1, 0, 0, 2, 1, 1, (.uns 16), .ro, false, (.g 19), .headOwners, .none, 0, false, none, [.v 65535], .full⟩,
  -- 0x5000 + n×0x40:03 CLONE_GROUP
  ⟨0x5000, 16, 8, 64, 1, 0, 0, 3, 1, 1, (.uns 8), .ro, false, (.g 19), .headOwners, .none, 0, false, none, [.v 0], (.iv 0 8)⟩,
  -- 0x5000 + n×0x40:04 CLONE_OWNER, head owning the frame store read
  ⟨0x5000, 16, 8, 64, 1, 0, 0, 4, 1, 1, (.uns 8), .ro, false, (.g 19), .headOwners, .none, 0, false, none, [.inst], (.iv 0 15)⟩,
  -- 0x5000 + n×0x40:05 REFRESH_MULT
  ⟨0x5000, 16, 8, 64, 1, 0, 0, 5, 1, 1, (.uns 8), .ro, false, (.g 19), .headOwners, .none, 0, false, none, [.v 1], (.iv 1 4)⟩,
  -- 0x5000 + n×0x40:06 PIXEL_CLOCK_KHZ
  ⟨0x5000, 16, 8, 64, 1, 0, 0, 6, 1, 1, (.uns 32), .ro, false, (.g 19), .headOwners, .none, 0, false, none, [.v 0], (.iv 5000 2700000)⟩,
  -- 0x5000 + n×0x40:07–0A H_ACTIVE, H_TOTAL, H_SYNC_START, H_SYNC_WIDTH
  ⟨0x5000, 16, 8, 64, 1, 0, 0, 7, 4, 1, (.uns 16), .ro, false, (.g 19), .headOwners, .none, 0, false, none, [.v 0], .full⟩,
  -- 0x5000 + n×0x40:0B–0E V_ACTIVE, V_TOTAL, V_SYNC_START, V_SYNC_WIDTH
  ⟨0x5000, 16, 8, 64, 1, 0, 0, 11, 4, 1, (.uns 16), .ro, false, (.g 19), .headOwners, .none, 0, false, none, [.v 0], .full⟩,
  -- 0x5000 + n×0x40:0F PHASE_NS
  ⟨0x5000, 16, 8, 64, 1, 0, 0, 15, 1, 1, (.uns 32), .ro, false, (.g 19), .headOwners, .none, 0, false, none, [.v 0], .full⟩,
  -- 0x5000 + n×0x40:10–11 VRR_MIN_HZ, VRR_MAX_HZ
  ⟨0x5000, 16, 8, 64, 1, 0, 0, 16, 2, 1, (.uns 16), .ro, false, (.g 19), .headOwners, .none, 0, false, none, [.v 0], (.pieces [(0, 0), (10, 240)])⟩,
  -- 0x5000 + n×0x40:12–13 TILE_COLS, TILE_ROWS
  ⟨0x5000, 16, 8, 64, 1, 0, 0, 18, 2, 1, (.uns 16), .ro, false, (.g 19), .headOwners, .none, 0, false, none, [.v 0], (.pieces [(0, 128), (0, 256)])⟩,
  -- 0x5000 + n×0x40:14 IN_PLAN
  ⟨0x5000, 16, 8, 64, 1, 0, 0, 20, 1, 1, .bool, .ro, false, (.g 19), .headOwners, .none, 0, false, none, [.v 0], (.iv 0 1)⟩,
  -- 0x5001 + n×0x40:00 HeadState (highest sub-index)
  ⟨0x5001, 16, 8, 64, 1, 0, 0, 0, 1, 1, (.uns 8), .const, false, .none, .headOwners, .none, 0, false, none, [.v 9], .full⟩,
  -- 0x5001 + n×0x40:01 FRAME_COUNT, 32-bit, wraps (R174)
  ⟨0x5001, 16, 8, 64, 1, 0, 0, 1, 1, 1, (.uns 32), .ro, false, .none, .headOwners, .none, 0, false, none, [.v 0], .full⟩,
  -- 0x5001 + n×0x40:02 LINE, current line
  ⟨0x5001, 16, 8, 64, 1, 0, 0, 2, 1, 1, (.uns 16), .ro, false, .none, .headOwners, .none, 0, false, none, [.v 0], (.iv 0 16383)⟩,
  -- 0x5001 + n×0x40:03 LOCK_STATE: 0 free, 1 acquiring, 2 locked
  ⟨0x5001, 16, 8, 64, 1, 0, 0, 3, 1, 1, (.uns 8), .ro, false, .none, .headOwners, .none, 0, false, none, [.v 0], (.iv 0 2)⟩,
  -- 0x5001 + n×0x40:04 LOCK_ERROR_NS, last e
  ⟨0x5001, 16, 8, 64, 1, 0, 0, 4, 1, 1, (.sgn 32), .ro, false, .none, .headOwners, .none, 0, false, none, [.v 0], .full⟩,
  -- 0x5001 + n×0x40:05 TRIM_PPB, current pixel-clock trim
  ⟨0x5001, 16, 8, 64, 1, 0, 0, 5, 1, 1, (.sgn 32), .ro, false, .none, .headOwners, .none, 0, false, none, [.v 0], (.iv (-5000000) 5000000)⟩,
  -- 0x5001 + n×0x40:06 FILL_PX
  ⟨0x5001, 16, 8, 64, 1, 0, 0, 6, 1, 1, (.uns 16), .ro, false, .none, .headOwners, .none, 0, false, none, [.v 0], (.iv 0 32768)⟩,
  -- 0x5001 + n×0x40:07 FETCH_CLASS: 0 Reserved or Normal, 1 Urgent, 2 panic
  ⟨0x5001, 16, 8, 64, 1, 0, 0, 7, 1, 1, (.uns 8), .ro, false, .none, .headOwners, .none, 0, false, none, [.v 0], (.iv 0 2)⟩,
  -- 0x5001 + n×0x40:08 BLACKOUT_SAFE
  ⟨0x5001, 16, 8, 64, 1, 0, 0, 8, 1, 1, .bool, .ro, false, .none, .headOwners, .none, 0, false, none, [.v 1], (.iv 0 1)⟩,
  -- 0x5001 + n×0x40:09 VTOTAL_EFFECTIVE
  ⟨0x5001, 16, 8, 64, 1, 0, 0, 9, 1, 1, (.uns 16), .ro, false, .none, .headOwners, .none, 0, false, none, [.v 0], (.iv 0 65535)⟩,
  -- 0x5002 + n×0x40:00 HeadStatus (R46): [0] UNDERRUN, [1] PANIC, [2] LOCK_ACQUIRED, [3] LOCK
  ⟨0x5002, 16, 8, 64, 1, 0, 0, 0, 1, 1, (.bits 64), .rw, false, .none, .headOwners, .p0, 0, false, (some .perFrame), [.v 0], .full⟩,
  -- 0x5003 + n×0x40:00 HeadCounters (highest sub-index)
  ⟨0x5003, 16, 8, 64, 1, 0, 0, 0, 1, 1, (.uns 8), .const, false, .none, .headOwners, .none, 0, false, none, [.v 10], .full⟩,
  -- 0x5003 + n×0x40:01–0A UNDERRUN_PIXELS, UNDERRUN_LINES, UNDERRUN_FRAMES, URGENT_ENTRIES, PANI
  ⟨0x5003, 16, 8, 64, 1, 0, 0, 1, 10, 1, (.uns 32), .ro, false, .none, .headOwners, .none, 0, false, none, [.v 0], .full⟩,
  -- 0x5004 + n×0x40:00 LineBuffer (highest sub-index)
  ⟨0x5004, 16, 8, 64, 1, 0, 0, 0, 1, 1, (.uns 8), .const, false, .none, .headOwners, .none, 0, false, none, [.v 4], .full⟩,
  -- 0x5004 + n×0x40:01 URGENT_PX
  ⟨0x5004, 16, 8, 64, 1, 0, 0, 1, 1, 1, (.uns 16), .rw, true, .head, .headOwners, .headCommit, 0, false, none, [.v 16384], (.iv 1024 32768)⟩,
  -- 0x5004 + n×0x40:02 PANIC_PX
  ⟨0x5004, 16, 8, 64, 1, 0, 0, 2, 1, 1, (.uns 16), .rw, true, .head, .headOwners, .headCommit, 0, false, none, [.v 8192], (.iv 512 32767)⟩,
  -- 0x5004 + n×0x40:03 SAFE_PX (R181)
  ⟨0x5004, 16, 8, 64, 1, 0, 0, 3, 1, 1, (.uns 16), .ro, false, .none, .headOwners, .none, 0, false, none, [.v 0], (.iv 0 32768)⟩
  ]

/-- Rows from index 0x5004. -/
def objRows16 : List Row := [
  -- 0x5004 + n×0x40:04 CAPACITY_PX
  ⟨0x5004, 16, 8, 64, 1, 0, 0, 4, 1, 1, (.uns 16), .const, false, .none, .headOwners, .none, 0, false, none, [.v 32768], .full⟩,
  -- 0x5005 + n×0x40:00 FrameLock (highest sub-index)
  ⟨0x5005, 16, 8, 64, 1, 0, 0, 0, 1, 1, (.uns 8), .const, false, .none, .headOwners, .none, 0, false, none, [.v 3], .full⟩,
  -- 0x5005 + n×0x40:01 LOCK_WINDOW_NS
  ⟨0x5005, 16, 8, 64, 1, 0, 0, 1, 1, 1, (.uns 32), .rw, true, .head, .headOwners, .headCommit, 0, false, none, [.v 100], (.iv 20 10000)⟩,
  -- 0x5005 + n×0x40:02 TRIM_MAX_PPM
  ⟨0x5005, 16, 8, 64, 1, 0, 0, 2, 1, 1, (.uns 16), .rw, true, .head, .headOwners, .headCommit, 0, false, none, [.v 500], (.iv 50 5000)⟩,
  -- 0x5005 + n×0x40:03 REPHASE_NS
  ⟨0x5005, 16, 8, 64, 1, 0, 0, 3, 1, 1, (.uns 32), .rw, true, .head, .headOwners, .headCommit, 0, false, none, [.v 100000], (.iv 1000 10000000)⟩,
  -- 0x5006 + n×0x40:00 VRR_TARGET_CHZ; read only by heads without VRR
  ⟨0x5006, 16, 8, 64, 1, 0, 0, 0, 1, 1, (.uns 16), .rw, false, .head, .headOwners, .headCommit, 0, false, none, [.v 0], (.special 3)⟩,
  -- 0x5008 + n×0x40:00 ColourPipe (highest sub-index)
  ⟨0x5008, 16, 8, 64, 1, 0, 0, 0, 1, 1, (.uns 8), .const, false, .none, .headOwners, .none, 0, false, none, [.v 5], .full⟩,
  -- 0x5008 + n×0x40:01 DEGAMMA_MODE: 0 bypass, 1 table, 2 sRGB, 3 PQ, 4 HLG
  ⟨0x5008, 16, 8, 64, 1, 0, 0, 1, 1, 1, (.uns 8), .rw, true, .head, .headOwners, .headCommit, 0, false, none, [.v 0], (.iv 0 4)⟩,
  -- 0x5008 + n×0x40:02 MATRIX_EN
  ⟨0x5008, 16, 8, 64, 1, 0, 0, 2, 1, 1, .bool, .rw, true, .head, .headOwners, .headCommit, 0, false, none, [.v 0], (.iv 0 1)⟩,
  -- 0x5008 + n×0x40:03 REGAMMA_MODE: as 01
  ⟨0x5008, 16, 8, 64, 1, 0, 0, 3, 1, 1, (.uns 8), .rw, true, .head, .headOwners, .headCommit, 0, false, none, [.v 0], (.iv 0 4)⟩,
  -- 0x5008 + n×0x40:04 OUT_BPC
  ⟨0x5008, 16, 8, 64, 1, 0, 0, 4, 1, 1, (.uns 8), .rw, true, .head, .headOwners, .headCommit, 0, false, none, [.v 8], (.pieces [(6, 6), (8, 8), (10, 10), (12, 12)])⟩,
  -- 0x5008 + n×0x40:05 DITHER_EN
  ⟨0x5008, 16, 8, 64, 1, 0, 0, 5, 1, 1, .bool, .rw, true, .head, .headOwners, .headCommit, 0, false, none, [.v 1], (.iv 0 1)⟩,
  -- 0x5009 + n×0x40:00 ColourMatrix (highest sub-index)
  ⟨0x5009, 16, 8, 64, 1, 0, 0, 0, 1, 1, (.uns 8), .const, false, .none, .headOwners, .none, 0, false, none, [.v 12], .full⟩,
  -- 0x5009 + n×0x40:01–0C M_ij at sub 1 + 4i + j; j = 0–2 coefficients, j = 3 offset
  ⟨0x5009, 16, 8, 64, 1, 0, 0, 1, 12, 1, (.sgn 32), .rw, true, .head, .headOwners, .headCommit, 0, false, none, [.v 65536, .v 0, .v 0, .v 0, .v 0, .v 65536, .v 0, .v 0, .v 0, .v 0, .v 65536, .v 0], (.special 4)⟩,
  -- 0x500A–0x500C + n×0x40:00 DegammaTable R, G, B: 1,024 × U16
  ⟨0x500A, 16, 8, 64, 1, 0, 0, 0, 1, 1, (.octet 2048), .rw, true, .head, .headOwners, .headCommit, 0, false, none, [.v 0], .full⟩,
  -- 0x500A–0x500C + n×0x40:00 DegammaTable R, G, B: 1,024 × U16
  ⟨0x500B, 16, 8, 64, 1, 0, 0, 0, 1, 1, (.octet 2048), .rw, true, .head, .headOwners, .headCommit, 0, false, none, [.v 0], .full⟩,
  -- 0x500A–0x500C + n×0x40:00 DegammaTable R, G, B: 1,024 × U16
  ⟨0x500C, 16, 8, 64, 1, 0, 0, 0, 1, 1, (.octet 2048), .rw, true, .head, .headOwners, .headCommit, 0, false, none, [.v 0], .full⟩,
  -- 0x500D–0x500F + n×0x40:00 RegammaTable R, G, B: 1,024 × U16
  ⟨0x500D, 16, 8, 64, 1, 0, 0, 0, 1, 1, (.octet 2048), .rw, true, .head, .headOwners, .headCommit, 0, false, none, [.v 0], .full⟩,
  -- 0x500D–0x500F + n×0x40:00 RegammaTable R, G, B: 1,024 × U16
  ⟨0x500E, 16, 8, 64, 1, 0, 0, 0, 1, 1, (.octet 2048), .rw, true, .head, .headOwners, .headCommit, 0, false, none, [.v 0], .full⟩,
  -- 0x500D–0x500F + n×0x40:00 RegammaTable R, G, B: 1,024 × U16
  ⟨0x500F, 16, 8, 64, 1, 0, 0, 0, 1, 1, (.octet 2048), .rw, true, .head, .headOwners, .headCommit, 0, false, none, [.v 0], .full⟩,
  -- 0x5010 + n×0x40:00 ScalerCoefH: 64 × 8 × I16
  ⟨0x5010, 16, 8, 64, 1, 0, 0, 0, 1, 1, (.octet 1024), .rw, true, .head, .headOwners, .headCommit, 0, false, none, [.v 0], .full⟩,
  -- 0x5011 + n×0x40:00 ScalerCoefV
  ⟨0x5011, 16, 8, 64, 1, 0, 0, 0, 1, 1, (.octet 1024), .rw, true, .head, .headOwners, .headCommit, 0, false, none, [.v 0], .full⟩,
  -- 0x5012 + n×0x40:00 ScalerState (highest sub-index)
  ⟨0x5012, 16, 8, 64, 1, 0, 0, 0, 1, 1, (.uns 8), .const, false, .none, .headOwners, .none, 0, false, none, [.v 3], .full⟩,
  -- 0x5012 + n×0x40:01–02 SRC_W, SRC_H: owner's active size
  ⟨0x5012, 16, 8, 64, 1, 0, 0, 1, 2, 1, (.uns 16), .ro, false, (.g 19), .headOwners, .none, 0, false, none, [.v 0], (.iv 0 8192)⟩,
  -- 0x5012 + n×0x40:03 SCALING: 0 bypass, 1 in use
  ⟨0x5012, 16, 8, 64, 1, 0, 0, 3, 1, 1, .bool, .ro, false, (.g 19), .headOwners, .none, 0, false, none, [.v 0], (.iv 0 1)⟩,
  -- 0x5018 + n×0x40:00 CloneView (highest sub-index)
  ⟨0x5018, 16, 8, 64, 1, 0, 0, 0, 1, 1, (.uns 8), .const, false, .none, .headOwners, .none, 0, false, none, [.v 2], .full⟩,
  -- 0x5018 + n×0x40:01 OWNER_HEAD
  ⟨0x5018, 16, 8, 64, 1, 0, 0, 1, 1, 1, (.uns 8), .ro, false, (.g 19), .headOwners, .none, 0, false, none, [.inst], (.iv 0 15)⟩,
  -- 0x5018 + n×0x40:02 VIEW_FRAME, owner FRAME_COUNT at the last latch
  ⟨0x5018, 16, 8, 64, 1, 0, 0, 2, 1, 1, (.uns 32), .ro, false, .none, .headOwners, .none, 0, false, none, [.v 0], .full⟩
  ]

/-- Rows from index 0x5700. -/
def objRows17 : List Row := [
  -- 0x5700–0x5702:00 BuiltinDegamma sRGB, PQ, HLG (R187), readable by all
  ⟨0x5700, 1, 1, 0, 1, 0, 0, 0, 1, 1, (.octet 2048), .const, false, .none, .all, .none, 0, false, none, [.v 0], .full⟩,
  -- 0x5700–0x5702:00 BuiltinDegamma sRGB, PQ, HLG (R187), readable by all
  ⟨0x5701, 1, 1, 0, 1, 0, 0, 0, 1, 1, (.octet 2048), .const, false, .none, .all, .none, 0, false, none, [.v 0], .full⟩,
  -- 0x5700–0x5702:00 BuiltinDegamma sRGB, PQ, HLG (R187), readable by all
  ⟨0x5702, 1, 1, 0, 1, 0, 0, 0, 1, 1, (.octet 2048), .const, false, .none, .all, .none, 0, false, none, [.v 0], .full⟩,
  -- 0x5703–0x5705:00 BuiltinRegamma sRGB, PQ, HLG (R189), readable by all
  ⟨0x5703, 1, 1, 0, 1, 0, 0, 0, 1, 1, (.octet 2048), .const, false, .none, .all, .none, 0, false, none, [.v 0], .full⟩,
  -- 0x5703–0x5705:00 BuiltinRegamma sRGB, PQ, HLG (R189), readable by all
  ⟨0x5704, 1, 1, 0, 1, 0, 0, 0, 1, 1, (.octet 2048), .const, false, .none, .all, .none, 0, false, none, [.v 0], .full⟩,
  -- 0x5703–0x5705:00 BuiltinRegamma sRGB, PQ, HLG (R189), readable by all
  ⟨0x5705, 1, 1, 0, 1, 0, 0, 0, 1, 1, (.octet 2048), .const, false, .none, .all, .none, 0, false, none, [.v 0], .full⟩
  ]

/-- Rows from index 0x5800. -/
def objRows18 : List Row := [
  -- 0x5800 + q×0x10:00 PortConfig (highest sub-index)
  ⟨0x5800, 22, 22, 16, 1, 0, 0, 0, 1, 1, (.uns 8), .const, false, .none, .portReaders, .none, 0, false, none, [.v 14], .full⟩,
  -- 0x5800 + q×0x10:01 PROTOCOL: 0 DP, 1 eDP, 2 HDMI, 3 A-PHY, 4 OpenLDI, 5 DSI-2; fixed for 
  ⟨0x5800, 22, 22, 16, 1, 0, 0, 1, 1, 1, (.uns 8), .rw, true, (.g 59), .portReaders, .p0, 0, false, none, [.proto], (.special 5)⟩,
  -- 0x5800 + q×0x10:02 MAX_LANES; OpenLDI: links
  ⟨0x5800, 22, 22, 16, 1, 0, 0, 2, 1, 1, (.uns 8), .rw, true, (.g 59), .portReaders, .p0, 0, false, none, [.maxLanes], (.pieces [(1, 1), (2, 2), (4, 4)])⟩,
  -- 0x5800 + q×0x10:03 MAX_RATE, Mbit/s per lane; rounded down to a rate of R195
  ⟨0x5800, 22, 22, 16, 1, 0, 0, 3, 1, 1, (.uns 32), .rw, true, (.g 59), .portReaders, .p0, 0, false, none, [.maxRate], (.special 6)⟩,
  -- 0x5800 + q×0x10:04 LANE_MAP: [0] reverse lane order, [7:4] invert polarity of lanes 0–3
  ⟨0x5800, 22, 22, 16, 1, 0, 0, 4, 1, 1, (.bits 32), .rw, true, (.g 59), .portReaders, .p0, 0, false, none, [.v 0], (.mask 0xF1)⟩,
  -- 0x5800 + q×0x10:05 DSC_EN
  ⟨0x5800, 22, 22, 16, 1, 0, 0, 5, 1, 1, .bool, .rw, true, (.g 59), .portReaders, .p0, 0, false, none, [.v 0], (.iv 0 1)⟩,
  -- 0x5800 + q×0x10:06 DSC_BPP_X16
  ⟨0x5800, 22, 22, 16, 1, 0, 0, 6, 1, 1, (.uns 16), .rw, true, (.g 59), .portReaders, .p0, 0, false, none, [.v 192], (.iv 128 384)⟩,
  -- 0x5800 + q×0x10:07 HDCP_EN
  ⟨0x5800, 22, 22, 16, 1, 0, 0, 7, 1, 1, .bool, .rw, true, (.g 59), .portReaders, .p0, 0, false, none, [.v 0], (.iv 0 1)⟩,
  -- 0x5800 + q×0x10:08 PSR_EN
  ⟨0x5800, 22, 22, 16, 1, 0, 0, 8, 1, 1, .bool, .rw, true, (.g 59), .portReaders, .p0, 0, false, none, [.v 0], (.iv 0 1)⟩,
  -- 0x5800 + q×0x10:09 LDI_FORMAT: 0 18-bit, 1 24-bit VESA, 2 24-bit JEIDA; +4 dual link
  ⟨0x5800, 22, 22, 16, 1, 0, 0, 9, 1, 1, (.uns 8), .rw, true, (.g 59), .portReaders, .p0, 0, false, none, [.v 1], (.pieces [(0, 2), (4, 6)])⟩,
  -- 0x5800 + q×0x10:0A HDR_EOTF: 0 none sent, 1 SDR, 2 PQ, 3 HLG
  ⟨0x5800, 22, 22, 16, 1, 0, 0, 10, 1, 1, (.uns 8), .rw, true, (.g 59), .portReaders, .p0, 0, false, none, [.v 0], (.iv 0 3)⟩,
  -- 0x5800 + q×0x10:0B CLASS_A_LINK_REACTION: [0] drop SAFE_OK, [1] notify Twin, [2] Critical
  ⟨0x5800, 22, 22, 16, 1, 0, 0, 11, 1, 1, (.bits 32), .rw, true, (.g 59), .portReaders, .p0, 0, false, none, [.v 1], (.mask 0x7)⟩,
  -- 0x5800 + q×0x10:0C RETRAIN_MS
  ⟨0x5800, 22, 22, 16, 1, 0, 0, 12, 1, 1, (.uns 16), .rw, true, (.g 59), .portReaders, .p0, 0, false, none, [.v 1000], (.iv 100 60000)⟩,
  -- 0x5800 + q×0x10:0D LINK_GRACE_MS
  ⟨0x5800, 22, 22, 16, 1, 0, 0, 13, 1, 1, (.uns 16), .rw, true, (.g 59), .portReaders, .p0, 0, false, none, [.v 500], (.iv 50 10000)⟩,
  -- 0x5800 + q×0x10:0E PSR_IDLE_FRAMES
  ⟨0x5800, 22, 22, 16, 1, 0, 0, 14, 1, 1, (.uns 8), .rw, true, (.g 59), .portReaders, .p0, 0, false, none, [.v 4], (.iv 2 255)⟩,
  -- 0x5801 + q×0x10:00 PortState (highest sub-index)
  ⟨0x5801, 22, 22, 16, 1, 0, 0, 0, 1, 1, (.uns 8), .const, false, .none, .portReaders, .none, 0, false, none, [.v 8], .full⟩,
  -- 0x5801 + q×0x10:01 LINK_STATE: 0 reset, 1 no sink, 2 training, 3 up, 4 insufficient, 5 se
  ⟨0x5801, 22, 22, 16, 1, 0, 0, 1, 1, 1, (.uns 8), .ro, false, .none, .portReaders, .none, 0, false, none, [.v 0], (.iv 0 5)⟩,
  -- 0x5801 + q×0x10:02 LANES trained
  ⟨0x5801, 22, 22, 16, 1, 0, 0, 2, 1, 1, (.uns 8), .ro, false, .none, .portReaders, .none, 0, false, none, [.v 0], (.iv 0 4)⟩,
  -- 0x5801 + q×0x10:03 RATE_MBPS trained, or gear rate
  ⟨0x5801, 22, 22, 16, 1, 0, 0, 3, 1, 1, (.uns 32), .ro, false, .none, .portReaders, .none, 0, false, none, [.v 0], (.iv 0 20000)⟩,
  -- 0x5801 + q×0x10:04 BPC_CARRIED: bit b for b bpc
  ⟨0x5801, 22, 22, 16, 1, 0, 0, 4, 1, 1, (.bits 32), .ro, false, .none, .portReaders, .none, 0, false, none, [.bpc], (.mask 0x1540)⟩,
  -- 0x5801 + q×0x10:05 DSC_ACTIVE
  ⟨0x5801, 22, 22, 16, 1, 0, 0, 5, 1, 1, .bool, .ro, false, .none, .portReaders, .none, 0, false, none, [.v 0], (.iv 0 1)⟩,
  -- 0x5801 + q×0x10:06 HDCP_STATE: 0 off, 1 authenticating, 2 type 0, 3 type 1, 4 failed
  ⟨0x5801, 22, 22, 16, 1, 0, 0, 6, 1, 1, (.uns 8), .ro, false, .none, .portReaders, .none, 0, false, none, [.v 0], (.iv 0 4)⟩,
  -- 0x5801 + q×0x10:07 HPD
  ⟨0x5801, 22, 22, 16, 1, 0, 0, 7, 1, 1, .bool, .ro, false, .none, .portReaders, .none, 0, false, none, [.v 0], (.iv 0 1)⟩,
  -- 0x5801 + q×0x10:08 NEED_MBPS, N of R197
  ⟨0x5801, 22, 22, 16, 1, 0, 0, 8, 1, 1, (.uns 32), .ro, false, .none, .portReaders, .none, 0, false, none, [.v 0], .full⟩,
  -- 0x5802 + q×0x10:00 PortStatus (R46): [0] HOTPLUG, [1] UNPLUG, [2] TRAIN_FAIL, [3] INSUFFI
  ⟨0x5802, 22, 22, 16, 1, 0, 0, 0, 1, 1, (.bits 64), .rw, false, .none, .portReaders, .p0, 0, false, (some (.interval 10000000)), [.v 0], .full⟩,
  -- 0x5803 + q×0x10:00 PortCounters (highest sub-index)
  ⟨0x5803, 22, 22, 16, 1, 0, 0, 0, 1, 1, (.uns 8), .const, false, .none, .portReaders, .none, 0, false, none, [.v 5], .full⟩,
  -- 0x5803 + q×0x10:01–05 TRAININGS, TRAIN_FAILURES, LINK_LOSSES, HOTPLUGS, IRQ_HPDS
  ⟨0x5803, 22, 22, 16, 1, 0, 0, 1, 5, 1, (.uns 32), .ro, false, .none, .portReaders, .none, 0, false, none, [.v 0], .full⟩,
  -- 0x5804 + q×0x10:00 SinkId: EDID and extension blocks as read
  ⟨0x5804, 22, 22, 16, 1, 0, 0, 0, 1, 1, (.domain 32768), .ro, false, .none, .portReaders, .none, 0, false, none, [.v 0], .full⟩,
  -- 0x5805 + q×0x10:00 HdrMetadata, CTA-861 static metadata type 1, data bytes 1–26
  ⟨0x5805, 22, 22, 16, 1, 0, 0, 0, 1, 1, (.octet 26), .rw, true, (.g 59), .portReaders, .p0, 0, false, none, [.v 0], .full⟩,
  -- 0x5A00 + i×0x10:00 InputConfig (highest sub-index)
  ⟨0x5A00, 10, 10, 16, 1, 0, 0, 0, 1, 1, (.uns 8), .const, false, .none, .p0, .none, 0, false, none, [.v 7], .full⟩
  ]

/-- Rows from index 0x5A00. -/
def objRows19 : List Row := [
  -- 0x5A00 + i×0x10:01 ENABLE
  ⟨0x5A00, 10, 10, 16, 1, 0, 0, 1, 1, 1, .bool, .rw, true, (.g 59), .p0, .p0, 0, false, none, [.v 0], (.iv 0 1)⟩,
  -- 0x5A00 + i×0x10:02 VC, CSI-2 virtual channel
  ⟨0x5A00, 10, 10, 16, 1, 0, 0, 2, 1, 1, (.uns 8), .rw, true, (.g 59), .p0, .p0, 0, false, none, [.v 0], (.iv 0 15)⟩,
  -- 0x5A00 + i×0x10:03 DATA_TYPE: 0x1E, 0x22, 0x24; DP RX: 0x24 RGB 8, 0x2B RGB 10, 0x1E YCbC
  ⟨0x5A00, 10, 10, 16, 1, 0, 0, 3, 1, 1, (.uns 8), .rw, true, (.g 59), .p0, .p0, 0, false, none, [.v 36], (.special 7)⟩,
  -- 0x5A00 + i×0x10:04–05 CAPTURE_W, CAPTURE_H
  ⟨0x5A00, 10, 10, 16, 1, 0, 0, 4, 2, 1, (.uns 16), .rw, true, (.g 59), .p0, .p0, 0, false, none, [.v 0], (.iv 16 8192)⟩,
  -- 0x5A00 + i×0x10:06 TIMEOUT_MS
  ⟨0x5A00, 10, 10, 16, 1, 0, 0, 6, 1, 1, (.uns 16), .rw, true, (.g 59), .p0, .p0, 0, false, none, [.v 100], (.iv 20 10000)⟩,
  -- 0x5A00 + i×0x10:07 MAX_RATE, Mbit/s
  ⟨0x5A00, 10, 10, 16, 1, 0, 0, 7, 1, 1, (.uns 32), .rw, true, (.g 59), .p0, .p0, 0, false, none, [.v 16000], (.iv 2000 16000)⟩,
  -- 0x5A01 + i×0x10:00 InputState (highest sub-index)
  ⟨0x5A01, 10, 10, 16, 1, 0, 0, 0, 1, 1, (.uns 8), .const, false, .none, .p0, .none, 0, false, none, [.v 3], .full⟩,
  -- 0x5A01 + i×0x10:01 STATE: 0 disabled, 1 no signal, 2 locking, 3 capturing, 4 lost
  ⟨0x5A01, 10, 10, 16, 1, 0, 0, 1, 1, 1, (.uns 8), .ro, false, .none, .p0, .none, 0, false, none, [.v 0], (.iv 0 4)⟩,
  -- 0x5A01 + i×0x10:02 LAST_FRAME_TIME, device time of the last capture start
  ⟨0x5A01, 10, 10, 16, 1, 0, 0, 2, 1, 1, (.uns 64), .ro, false, .none, .p0, .none, 0, false, none, [.v 0], .full⟩,
  -- 0x5A01 + i×0x10:03 FRAME_RATE_MHZ, over the last second
  ⟨0x5A01, 10, 10, 16, 1, 0, 0, 3, 1, 1, (.uns 32), .ro, false, .none, .p0, .none, 0, false, none, [.v 0], (.iv 0 240000)⟩,
  -- 0x5A02 + i×0x10:00 InputStatus (R46): [0] LOST, [1] SIZE_MISMATCH, [2] CRC_ERROR, [3] FOR
  ⟨0x5A02, 10, 10, 16, 1, 0, 0, 0, 1, 1, (.bits 64), .rw, false, .none, .p0, .p0, 0, false, (some .perFrame), [.v 0], .full⟩,
  -- 0x5A03 + i×0x10:00 InputCounters (highest sub-index)
  ⟨0x5A03, 10, 10, 16, 1, 0, 0, 0, 1, 1, (.uns 8), .const, false, .none, .p0, .none, 0, false, none, [.v 5], .full⟩,
  -- 0x5A03 + i×0x10:01–05 FRAMES_CAPTURED, FRAMES_DROPPED (R166), FRAMES_DISCARDED, CRC_ERRORS, 
  ⟨0x5A03, 10, 10, 16, 1, 0, 0, 1, 5, 1, (.uns 32), .ro, false, .none, .p0, .none, 0, false, none, [.v 0], .full⟩
  ]

/-- Rows from index 0x6800. -/
def objRows20 : List Row := [
  -- 0x6800:00 IntegrityControl (highest sub-index)
  ⟨0x6800, 1, 1, 0, 1, 0, 0, 0, 1, 1, (.uns 8), .const, false, .none, .all, .none, 0, false, none, [.v 5], .full⟩,
  -- 0x6800:01 RELEASE_REGION, P0
  ⟨0x6800, 1, 1, 0, 1, 0, 0, 1, 1, 1, (.uns 16), .wo, false, (.g 0), .all, .p0, 0, false, none, [.v 0], (.iv 0 255)⟩,
  -- 0x6800:02 SENTINEL_STATE: 0 usable, 1 unusable
  ⟨0x6800, 1, 1, 0, 1, 0, 0, 2, 1, 1, (.uns 8), .ro, false, .none, .all, .none, 0, false, none, [.v 0], (.iv 0 1)⟩,
  -- 0x6800:03 SENTINEL_LOAD_PCT, plan load of 120 Mpix/s
  ⟨0x6800, 1, 1, 0, 1, 0, 0, 3, 1, 1, (.uns 8), .ro, false, .none, .all, .none, 0, false, none, [.v 0], (.iv 0 100)⟩,
  -- 0x6800:04 REGIONS_REACTING
  ⟨0x6800, 1, 1, 0, 1, 0, 0, 4, 1, 1, (.uns 16), .ro, false, .none, .all, .none, 0, false, none, [.v 0], (.iv 0 256)⟩,
  -- 0x6800:05 SAFE_OK_HOLD: [0] region reaction, [1] freshness
  ⟨0x6800, 1, 1, 0, 1, 0, 0, 5, 1, 1, (.bits 32), .ro, false, .none, .all, .none, 0, false, none, [.v 0], (.mask 0x3)⟩,
  -- 0x6801:00 IntegrityStatus (R46): [0] MISMATCH, [1] NO_VERDICT, [2] STALE, [3] SE
  ⟨0x6801, 1, 1, 0, 1, 0, 0, 0, 1, 1, (.bits 64), .rw, false, .none, .all, .p0, 0, false, (some .perEpoch), [.v 0], .full⟩,
  -- 0x6802:00 IntegrityCounters (highest sub-index)
  ⟨0x6802, 1, 1, 0, 1, 0, 0, 0, 1, 1, (.uns 8), .const, false, .none, .all, .none, 0, false, none, [.v 5], .full⟩,
  -- 0x6802:01–05 MISMATCH_FRAMES, NO_VERDICT_FRAMES, ONSETS, STALE_ONSETS, SENTINEL_LAT
  ⟨0x6802, 1, 1, 0, 1, 0, 0, 1, 5, 1, (.uns 32), .ro, false, .none, .all, .none, 0, false, none, [.v 0], .full⟩,
  -- 0x6810 + k:00 CvuSettings k, k = 0–63 (highest sub-index)
  ⟨0x6810, 64, 64, 1, 1, 0, 0, 0, 1, 1, (.uns 8), .const, false, .none, .all, .none, 0, false, none, [.v 5], .full⟩,
  -- 0x6810 + k:01–03 POLY, INIT, XOROUT
  ⟨0x6810, 64, 64, 1, 1, 0, 0, 1, 3, 1, (.uns 64), .ro, false, (.g 19), .all, .none, 0, false, none, [.v 0], .full⟩,
  -- 0x6810 + k:04 WIDTH
  ⟨0x6810, 64, 64, 1, 1, 0, 0, 4, 1, 1, (.uns 8), .ro, false, (.g 19), .all, .none, 0, false, none, [.v 0], (.iv 8 64)⟩,
  -- 0x6810 + k:05 FLAGS: [0] REFIN, [1] REFOUT
  ⟨0x6810, 64, 64, 1, 1, 0, 0, 5, 1, 1, (.bits 32), .ro, false, (.g 19), .all, .none, 0, false, none, [.v 0], (.mask 0x3)⟩,
  -- 0x6900 + n:00 RegionConfig n, n = 0–255 (0–127 Compact) (highest sub-index)
  ⟨0x6900, 256, 128, 1, 1, 0, 0, 0, 1, 1, (.uns 8), .const, false, .none, .regionOwners, .none, 0, false, none, [.v 13], .full⟩,
  -- 0x6900 + n:01 IN_PLAN
  ⟨0x6900, 256, 128, 1, 1, 0, 0, 1, 1, 1, .bool, .ro, false, (.g 19), .regionOwners, .none, 0, false, none, [.v 0], (.iv 0 1)⟩,
  -- 0x6900 + n:02–03 HEAD, POINT
  ⟨0x6900, 256, 128, 1, 1, 0, 0, 2, 2, 1, (.uns 8), .ro, false, (.g 19), .regionOwners, .none, 0, false, none, [.v 0], (.pieces [(0, 15), (0, 1)])⟩,
  -- 0x6900 + n:04 RECT: [15:0] X, [31:16] Y, [47:32] W, [63:48] H
  ⟨0x6900, 256, 128, 1, 1, 0, 0, 4, 1, 1, (.uns 64), .ro, false, (.g 19), .regionOwners, .none, 0, false, none, [.v 0], .full⟩,
  -- 0x6900 + n:05–06 CVU_SET, EXPECT
  ⟨0x6900, 256, 128, 1, 1, 0, 0, 5, 2, 1, (.uns 8), .ro, false, (.g 19), .regionOwners, .none, 0, false, none, [.v 0], (.pieces [(0, 63), (0, 3)])⟩,
  -- 0x6900 + n:07 PLAN_REACTIONS, as R226
  ⟨0x6900, 256, 128, 1, 1, 0, 0, 7, 1, 1, (.bits 32), .ro, false, (.g 19), .regionOwners, .none, 0, false, none, [.v 0], (.mask 0x7F)⟩,
  -- 0x6900 + n:08 REACT_ENABLE
  ⟨0x6900, 256, 128, 1, 1, 0, 0, 8, 1, 1, (.bits 32), .rw, false, (.g 57), .regionOwners, .markhor, 0, false, none, [.v 127], (.mask 0x7F)⟩,
  -- 0x6900 + n:09 STATE_SELECT
  ⟨0x6900, 256, 128, 1, 1, 0, 0, 9, 1, 1, (.uns 8), .rw, false, (.g 57), .regionOwners, .markhor, 0, false, none, [.v 0], (.iv 0 15)⟩,
  -- 0x6900 + n:0A CHIME_VOICE
  ⟨0x6900, 256, 128, 1, 1, 0, 0, 10, 1, 1, (.uns 8), .rw, false, (.g 57), .regionOwners, .markhor, 0, false, none, [.v 0], (.iv 0 15)⟩,
  -- 0x6900 + n:0B FAIL_FRAMES
  ⟨0x6900, 256, 128, 1, 1, 0, 0, 11, 1, 1, (.uns 8), .rw, false, (.g 57), .regionOwners, .markhor, 0, false, none, [.v 1], (.iv 1 8)⟩,
  -- 0x6900 + n:0C RECOVER_FRAMES, 0 latched
  ⟨0x6900, 256, 128, 1, 1, 0, 0, 12, 1, 1, (.uns 8), .rw, false, (.g 57), .regionOwners, .markhor, 0, false, none, [.v 3], (.iv 0 255)⟩,
  -- 0x6900 + n:0D NO_VERDICT_FRAMES
  ⟨0x6900, 256, 128, 1, 1, 0, 0, 13, 1, 1, (.uns 8), .rw, false, (.g 57), .regionOwners, .markhor, 0, false, none, [.v 2], (.iv 1 8)⟩,
  -- 0x6A00 + n:00 RegionResult n (highest sub-index)
  ⟨0x6A00, 256, 128, 1, 1, 0, 0, 0, 1, 1, (.uns 8), .const, false, .none, .regionOwners, .none, 0, false, none, [.v 10], .full⟩,
  -- 0x6A00 + n:01 VERDICT: 0 none yet, 1 pass, 2 mismatch, 3 no verdict, 4 recorded
  ⟨0x6A00, 256, 128, 1, 1, 0, 0, 1, 1, 1, (.uns 8), .ro, false, .none, .regionOwners, .none, 0, false, none, [.v 0], (.iv 0 4)⟩,
  -- 0x6A00 + n:02–03 LAST_VALUE V, LAST_EXPECTED Ef
  ⟨0x6A00, 256, 128, 1, 1, 0, 0, 2, 2, 1, (.uns 64), .ro, false, .none, .regionOwners, .none, 0, false, none, [.v 0], .full⟩,
  -- 0x6A00 + n:04 LAST_COUNTER, prefix COUNTER
  ⟨0x6A00, 256, 128, 1, 1, 0, 0, 4, 1, 1, (.uns 32), .ro, false, .none, .regionOwners, .none, 0, false, none, [.v 0], .full⟩,
  -- 0x6A00 + n:05 CURRENT_STATE
  ⟨0x6A00, 256, 128, 1, 1, 0, 0, 5, 1, 1, (.uns 8), .ro, false, .none, .regionOwners, .none, 0, false, none, [.v 0], (.iv 0 15)⟩
  ]

/-- Rows from index 0x6A00. -/
def objRows21 : List Row := [
  -- 0x6A00 + n:06 REACTION_ACTIVE, as R226
  ⟨0x6A00, 256, 128, 1, 1, 0, 0, 6, 1, 1, (.bits 32), .ro, false, .none, .regionOwners, .none, 0, false, none, [.v 0], (.mask 0x7F)⟩,
  -- 0x6A00 + n:07 MISMATCHES, 32-bit, saturates
  ⟨0x6A00, 256, 128, 1, 1, 0, 0, 7, 1, 1, (.uns 32), .ro, false, .none, .regionOwners, .none, 0, false, none, [.v 0], .full⟩,
  -- 0x6A00 + n:08 PASSES, 64-bit, does not wrap in service
  ⟨0x6A00, 256, 128, 1, 1, 0, 0, 8, 1, 1, (.uns 64), .ro, false, .none, .regionOwners, .none, 0, false, none, [.v 0], .full⟩,
  -- 0x6A00 + n:09 NO_VERDICTS, 32-bit, saturates
  ⟨0x6A00, 256, 128, 1, 1, 0, 0, 9, 1, 1, (.uns 32), .ro, false, .none, .regionOwners, .none, 0, false, none, [.v 0], .full⟩,
  -- 0x6A00 + n:0A LAST_ONSET_TIME, device time
  ⟨0x6A00, 256, 128, 1, 1, 0, 0, 10, 1, 1, (.uns 64), .ro, false, .none, .regionOwners, .none, 0, false, none, [.v 0], .full⟩,
  -- 0x6B00 + n:00 RegionRequest n (highest sub-index)
  ⟨0x6B00, 256, 128, 1, 1, 0, 0, 0, 1, 1, (.uns 8), .const, false, .none, .regionOwners, .none, 0, false, none, [.v 2], .full⟩,
  -- 0x6B00 + n:01 REQUESTED_STATE (R219)
  ⟨0x6B00, 256, 128, 1, 1, 0, 0, 1, 1, 1, (.uns 8), .rw, false, (.g 0), .regionOwners, .all, 0, false, none, [.v 0], (.iv 0 15)⟩,
  -- 0x6B00 + n:02 REQUEST_RESULT: 0 applied, 1 pending, else code
  ⟨0x6B00, 256, 128, 1, 1, 0, 0, 2, 1, 1, (.uns 32), .ro, false, .none, .regionOwners, .none, 0, false, none, [.v 0], .full⟩
  ]

/-- Rows from index 0x6C00. -/
def objRows22 : List Row := [
  -- 0x6C00 + n:00 LayerFreshness, layer slot n = 0–511 (0–255 Compact) (highest sub-inde
  ⟨0x6C00, 512, 256, 1, 1, 0, 0, 0, 1, 1, (.uns 8), .const, false, .none, .layerOwner, .none, 0, false, none, [.v 6], .full⟩,
  -- 0x6C00 + n:01 MONITORED
  ⟨0x6C00, 512, 256, 1, 1, 0, 0, 1, 1, 1, .bool, .ro, false, (.g 19), .layerOwner, .none, 0, false, none, [.v 0], (.iv 0 1)⟩,
  -- 0x6C00 + n:02 SOURCE_AGE_US at the last epoch, saturates
  ⟨0x6C00, 512, 256, 1, 1, 0, 0, 2, 1, 1, (.uns 32), .ro, false, .none, .layerOwner, .none, 0, false, none, [.v 0], .full⟩,
  -- 0x6C00 + n:03 FRAME_AGE at the last epoch, saturates
  ⟨0x6C00, 512, 256, 1, 1, 0, 0, 3, 1, 1, (.uns 32), .ro, false, .none, .layerOwner, .none, 0, false, none, [.v 0], .full⟩,
  -- 0x6C00 + n:04 STALE
  ⟨0x6C00, 512, 256, 1, 1, 0, 0, 4, 1, 1, .bool, .ro, false, .none, .layerOwner, .none, 0, false, none, [.v 0], (.iv 0 1)⟩,
  -- 0x6C00 + n:05 FRESH_REACTIONS: [0] event, [1] hide, [5] drop SAFE_OK, [6] notify Twi
  ⟨0x6C00, 512, 256, 1, 1, 0, 0, 5, 1, 1, (.bits 32), .rw, false, (.g 57), .layerOwner, .markhor, 0, false, none, [.v 1], (.mask 0x63)⟩,
  -- 0x6C00 + n:06 STALE_ONSETS, 32-bit, saturates
  ⟨0x6C00, 512, 256, 1, 1, 0, 0, 6, 1, 1, (.uns 32), .ro, false, .none, .layerOwner, .none, 0, false, none, [.v 0], .full⟩
  ]

/-- Rows from index 0x7000. -/
def objRows23 : List Row := [
  -- 0x7000:00 RenderEngine (highest sub-index)
  ⟨0x7000, 1, 1, 0, 1, 0, 0, 0, 1, 1, (.uns 8), .const, false, .none, .all, .none, 0, false, none, [.v 5], .full⟩,
  -- 0x7000:01 CLUSTERS_PRESENT
  ⟨0x7000, 1, 1, 0, 1, 0, 0, 1, 1, 1, (.bits 32), .const, false, .none, .all, .none, 0, false, none, [.clu], (.mask 0xFF)⟩,
  -- 0x7000:02 CLUSTERS_USABLE
  ⟨0x7000, 1, 1, 0, 1, 0, 0, 2, 1, 1, (.bits 32), .ro, false, .none, .all, .none, 0, false, none, [.clu], (.mask 0xFF)⟩,
  -- 0x7000:03 RAY_UNITS_PRESENT
  ⟨0x7000, 1, 1, 0, 1, 0, 0, 3, 1, 1, (.bits 32), .const, false, .none, .all, .none, 0, false, none, [.clu], (.mask 0xFF)⟩,
  -- 0x7000:04 RAY_UNITS_USABLE
  ⟨0x7000, 1, 1, 0, 1, 0, 0, 4, 1, 1, (.bits 32), .ro, false, .none, .all, .none, 0, false, none, [.clu], (.mask 0xFF)⟩,
  -- 0x7000:05 TRANSLATION_ID, translator version
  ⟨0x7000, 1, 1, 0, 1, 0, 0, 5, 1, 1, (.uns 32), .ro, false, .none, .all, .none, 0, false, none, [.v 0], .full⟩,
  -- 0x7001:00 RenderStatus (R46): [0] TIMEOUT, [1] BVH_FAULT, [2] TRANSLATION_FAILED
  ⟨0x7001, 1, 1, 0, 1, 0, 0, 0, 1, 1, (.bits 64), .rw, false, .none, .all, .p0, 0, false, (some (.interval 1000000)), [.v 0], .full⟩,
  -- 0x7002:00 RenderCounters (highest sub-index)
  ⟨0x7002, 1, 1, 0, 1, 0, 0, 0, 1, 1, (.uns 8), .const, false, .none, .all, .none, 0, false, none, [.v 6], .full⟩,
  -- 0x7002:01–06 TIMEOUTS, BVH_FAULTS, RAY_VISIT_LIMITS, PICKS, PICKS_INCOMPLETE, TRANS
  ⟨0x7002, 1, 1, 0, 1, 0, 0, 1, 6, 1, (.uns 32), .ro, false, .none, .all, .none, 0, false, none, [.v 0], .full⟩,
  -- 0x7004:00 RenderLimits (highest sub-index)
  ⟨0x7004, 1, 1, 0, 1, 0, 0, 0, 1, 1, (.uns 8), .const, false, .none, .all, .none, 0, false, none, [.v 4], .full⟩,
  -- 0x7004:01 TILE_TIME_LIMIT_US
  ⟨0x7004, 1, 1, 0, 1, 0, 0, 1, 1, 1, (.uns 32), .rw, true, (.g 17), .all, .p0, 0, false, none, [.v 1000], (.iv 100 100000)⟩,
  -- 0x7004:02 DRAW_TIME_LIMIT_US
  ⟨0x7004, 1, 1, 0, 1, 0, 0, 2, 1, 1, (.uns 32), .rw, true, (.g 17), .all, .p0, 0, false, none, [.v 5000], (.iv 500 1000000)⟩,
  -- 0x7004:03 RAY_MAX_VISITS
  ⟨0x7004, 1, 1, 0, 1, 0, 0, 3, 1, 1, (.uns 32), .rw, true, (.g 17), .all, .p0, 0, false, none, [.v 65536], (.iv 1024 1048576)⟩,
  -- 0x7004:04 PICK_MAX_VISITS
  ⟨0x7004, 1, 1, 0, 1, 0, 0, 4, 1, 1, (.uns 32), .rw, true, (.g 17), .all, .p0, 0, false, none, [.v 4096], (.iv 256 65536)⟩,
  -- 0x7010 + c:00 ShaderCluster c, c = 0–7 (0–3 Compact); P0 (highest sub-index)
  ⟨0x7010, 8, 4, 1, 1, 0, 0, 0, 1, 1, (.uns 8), .const, false, .none, .p0, .none, 0, false, none, [.v 3], .full⟩,
  -- 0x7010 + c:01 STATE: 0 usable, 1 unusable
  ⟨0x7010, 8, 4, 1, 1, 0, 0, 1, 1, 1, (.uns 8), .ro, false, .none, .p0, .none, 0, false, none, [.v 0], (.iv 0 1)⟩,
  -- 0x7010 + c:02 LOAD_PCT in the last epoch
  ⟨0x7010, 8, 4, 1, 1, 0, 0, 2, 1, 1, (.uns 8), .ro, false, .none, .p0, .none, 0, false, none, [.v 0], (.iv 0 100)⟩,
  -- 0x7010 + c:03 TILES_RENDERED, 64-bit, does not wrap in service
  ⟨0x7010, 8, 4, 1, 1, 0, 0, 3, 1, 1, (.uns 64), .ro, false, .none, .p0, .none, 0, false, none, [.v 0], .full⟩,
  -- 0x7020 + p:00 RenderShare p, p = 0–15 (0–7 Compact) (highest sub-index)
  ⟨0x7020, 16, 8, 1, 1, 0, 0, 0, 1, 1, (.uns 8), .const, false, .none, .inst, .none, 0, false, none, [.v 5], .full⟩,
  -- 0x7020 + p:01 SHARE_PCT, guaranteed
  ⟨0x7020, 16, 8, 1, 1, 0, 0, 1, 1, 1, (.uns 8), .rw, true, (.g 19), .inst, .p0, 0, false, none, [.v 0], (.iv 0 100)⟩,
  -- 0x7020 + p:02 USED_PCT in the last epoch
  ⟨0x7020, 16, 8, 1, 1, 0, 0, 2, 1, 1, (.uns 8), .ro, false, .none, .inst, .none, 0, false, none, [.v 0], (.iv 0 100)⟩,
  -- 0x7020 + p:03 CACHE_MIB, translation cache
  ⟨0x7020, 16, 8, 1, 1, 0, 0, 3, 1, 1, (.uns 16), .rw, true, (.g 17), .inst, .p0, 0, false, none, [.v 64], (.iv 8 1024)⟩,
  -- 0x7020 + p:04 PIPELINES_CACHED
  ⟨0x7020, 16, 8, 1, 1, 0, 0, 4, 1, 1, (.uns 16), .ro, false, .none, .inst, .none, 0, false, none, [.v 0], (.iv 0 65535)⟩,
  -- 0x7020 + p:05 DEVICE_LOST
  ⟨0x7020, 16, 8, 1, 1, 0, 0, 5, 1, 1, .bool, .ro, false, .none, .inst, .none, 0, false, none, [.v 0], (.iv 0 1)⟩,
  -- 0x7040 + r:00 RayUnit r, r = 0–7 (0–3 Compact); P0 (highest sub-index)
  ⟨0x7040, 8, 4, 1, 1, 0, 0, 0, 1, 1, (.uns 8), .const, false, .none, .p0, .none, 0, false, none, [.v 3], .full⟩,
  -- 0x7040 + r:01 STATE: 0 usable, 1 unusable
  ⟨0x7040, 8, 4, 1, 1, 0, 0, 1, 1, 1, (.uns 8), .ro, false, .none, .p0, .none, 0, false, none, [.v 0], (.iv 0 1)⟩,
  -- 0x7040 + r:02–03 BOX_TESTS, TRIANGLE_TESTS; 64-bit, do not wrap in service
  ⟨0x7040, 8, 4, 1, 1, 0, 0, 2, 2, 1, (.uns 64), .ro, false, .none, .p0, .none, 0, false, none, [.v 0], .full⟩,
  -- 0x7200 + n:00 PickRegistration, layer slot n = 0–511 (0–255 Compact) (highest sub-in
  ⟨0x7200, 512, 256, 1, 1, 0, 0, 0, 1, 1, (.uns 8), .const, false, .none, .layerOwner, .none, 0, false, none, [.v 6], .full⟩,
  -- 0x7200 + n:01 PICK_BVH
  ⟨0x7200, 512, 256, 1, 1, 0, 0, 1, 1, 1, (.domain 1048576), .rw, false, .none, .layerOwner, .layerOwner, 0, false, none, [.v 0], .full⟩,
  -- 0x7200 + n:02 PICK_INV, 16 × F32 row-major
  ⟨0x7200, 512, 256, 1, 1, 0, 0, 2, 1, 1, (.octet 64), .rw, false, .layer, .layerOwner, .layerOwner, 0, false, none, [.v 0], .full⟩
  ]

/-- Rows from index 0x7200. -/
def objRows24 : List Row := [
  -- 0x7200 + n:03 PICK_FLAGS: [1] CULL_BACK
  ⟨0x7200, 512, 256, 1, 1, 0, 0, 3, 1, 1, (.bits 32), .rw, false, .layer, .layerOwner, .layerOwner, 0, false, none, [.v 0], (.mask 0x2)⟩,
  -- 0x7200 + n:04 STATE: 0 none, 1 validating, 2 active, 3 rejected
  ⟨0x7200, 512, 256, 1, 1, 0, 0, 4, 1, 1, (.uns 8), .ro, false, .none, .layerOwner, .none, 0, false, none, [.v 0], (.iv 0 3)⟩,
  -- 0x7200 + n:05 RESULT: 0 or code of the last validation
  ⟨0x7200, 512, 256, 1, 1, 0, 0, 5, 1, 1, (.uns 32), .ro, false, .none, .layerOwner, .none, 0, false, none, [.v 0], .full⟩,
  -- 0x7200 + n:06 PICKS, 32-bit, saturates
  ⟨0x7200, 512, 256, 1, 1, 0, 0, 6, 1, 1, (.uns 32), .ro, false, .none, .layerOwner, .none, 0, false, none, [.v 0], .full⟩
  ]

/-- Rows from index 0x7400. -/
def objRows25 : List Row := [
  -- 0x7400 + p×0x10 + q:00 QueueConfig, q = 0–7 (highest sub-index)
  ⟨0x7400, 16, 8, 16, 8, 1, 0, 0, 1, 1, (.uns 8), .const, false, .none, .inst, .none, 0, false, none, [.v 10], .full⟩,
  -- 0x7400 + p×0x10 + q:01 ENABLE
  ⟨0x7400, 16, 8, 16, 8, 1, 0, 1, 1, 1, .bool, .rw, false, (.g 0), .inst, .inst, 0, false, none, [.v 0], (.iv 0 1)⟩,
  -- 0x7400 + p×0x10 + q:02 RING_BASE, bus address
  ⟨0x7400, 16, 8, 16, 8, 1, 0, 2, 1, 1, (.uns 64), .rw, false, (.g 0), .inst, .inst, 0, false, none, [.v 0], (.step 0 18446744073709547520 4096)⟩,
  -- 0x7400 + p×0x10 + q:03 RING_LOG2
  ⟨0x7400, 16, 8, 16, 8, 1, 0, 3, 1, 1, (.uns 8), .rw, false, (.g 0), .inst, .inst, 0, false, none, [.v 8], (.iv 6 16)⟩,
  -- 0x7400 + p×0x10 + q:04 CQ_BASE
  ⟨0x7400, 16, 8, 16, 8, 1, 0, 4, 1, 1, (.uns 64), .rw, false, (.g 0), .inst, .inst, 0, false, none, [.v 0], (.step 0 18446744073709547520 4096)⟩,
  -- 0x7400 + p×0x10 + q:05 MSI_VECTOR
  ⟨0x7400, 16, 8, 16, 8, 1, 0, 5, 1, 1, (.uns 16), .rw, false, (.g 0), .inst, .inst, 0, false, none, [.v 0], (.iv 0 2047)⟩,
  -- 0x7400 + p×0x10 + q:06 DOORBELL, new PRODUCER
  ⟨0x7400, 16, 8, 16, 8, 1, 0, 6, 1, 1, (.uns 32), .wo, false, (.g 0), .inst, .inst, 0, false, none, [.v 0], .full⟩,
  -- 0x7400 + p×0x10 + q:07 CQ_HEAD
  ⟨0x7400, 16, 8, 16, 8, 1, 0, 7, 1, 1, (.uns 32), .rw, false, (.g 0), .inst, .inst, 0, false, none, [.v 0], .full⟩,
  -- 0x7400 + p×0x10 + q:08 WEIGHT
  ⟨0x7400, 16, 8, 16, 8, 1, 0, 8, 1, 1, (.uns 8), .rw, true, (.g 17), .inst, .p0, 0, false, none, [.v 1], (.iv 1 255)⟩,
  -- 0x7400 + p×0x10 + q:09 PRIORITY, 0 highest
  ⟨0x7400, 16, 8, 16, 8, 1, 0, 9, 1, 1, (.uns 8), .rw, true, (.g 17), .inst, .p0, 0, false, none, [.v 2], (.iv 0 3)⟩,
  -- 0x7400 + p×0x10 + q:0A ABORT: write 1
  ⟨0x7400, 16, 8, 16, 8, 1, 0, 10, 1, 1, (.uns 8), .wo, false, (.g 0), .inst, .inst, 0, false, none, [.v 0], (.iv 1 1)⟩,
  -- 0x7408 + p×0x10 + q:00 QueueState (highest sub-index)
  ⟨0x7408, 16, 8, 16, 8, 1, 0, 0, 1, 1, (.uns 8), .const, false, .none, .inst, .none, 0, false, none, [.v 8], .full⟩,
  -- 0x7408 + p×0x10 + q:01 STATE: 0 disabled, 1 idle, 2 ready, 3 running, 4 waiting, 5 promoted, 
  ⟨0x7408, 16, 8, 16, 8, 1, 0, 1, 1, 1, (.uns 8), .ro, false, .none, .inst, .none, 0, false, none, [.v 0], (.iv 0 7)⟩,
  -- 0x7408 + p×0x10 + q:02–04 PRODUCER, CONSUMER, CQ_TAIL
  ⟨0x7408, 16, 8, 16, 8, 1, 0, 2, 3, 1, (.uns 32), .ro, false, .none, .inst, .none, 0, false, none, [.v 0], .full⟩,
  -- 0x7408 + p×0x10 + q:05 DEFICIT_US
  ⟨0x7408, 16, 8, 16, 8, 1, 0, 5, 1, 1, (.sgn 32), .ro, false, .none, .inst, .none, 0, false, none, [.v 0], .full⟩,
  -- 0x7408 + p×0x10 + q:06 WAITED_US, saturates
  ⟨0x7408, 16, 8, 16, 8, 1, 0, 6, 1, 1, (.uns 32), .ro, false, .none, .inst, .none, 0, false, none, [.v 0], .full⟩,
  -- 0x7408 + p×0x10 + q:07–08 PROMOTIONS, PREEMPTIONS; 32-bit, saturate
  ⟨0x7408, 16, 8, 16, 8, 1, 0, 7, 2, 1, (.uns 32), .ro, false, .none, .inst, .none, 0, false, none, [.v 0], .full⟩,
  -- 0x7600 + p:00 (highest sub-index)
  ⟨0x7600, 16, 8, 1, 1, 0, 0, 0, 1, 1, (.uns 8), .const, false, .none, .inst, .none, 0, false, none, [.v 255], .full⟩,
  -- 0x7600 + p:01–FF FenceValues: fence k = sub − 1; writes signal under R273
  ⟨0x7600, 16, 8, 1, 1, 0, 0, 1, 255, 1, (.uns 64), .rw, false, (.g 0), .inst, .inst, 0, false, none, [.v 0], .full⟩,
  -- 0x7610 + p:00 (highest sub-index)
  ⟨0x7610, 16, 8, 1, 1, 0, 0, 0, 1, 1, (.uns 8), .const, false, .none, .inst, .none, 0, false, none, [.v 255], .full⟩,
  -- 0x7610 + p:01–FF FenceStatus: STATUS of the last signal of fence k
  ⟨0x7610, 16, 8, 1, 1, 0, 0, 1, 255, 1, (.uns 32), .ro, false, .none, .inst, .none, 0, false, none, [.v 0], .full⟩,
  -- 0x7700:00 SchedulerControl, P0 (highest sub-index)
  ⟨0x7700, 1, 1, 0, 1, 0, 0, 0, 1, 1, (.uns 8), .const, false, .none, .all, .none, 0, false, none, [.v 3], .full⟩,
  -- 0x7700:01 QUANTUM_US
  ⟨0x7700, 1, 1, 0, 1, 0, 0, 1, 1, 1, (.uns 16), .rw, true, (.g 17), .all, .p0, 0, false, none, [.v 250], (.iv 50 10000)⟩,
  -- 0x7700:02 MAX_WAIT_MS
  ⟨0x7700, 1, 1, 0, 1, 0, 0, 2, 1, 1, (.uns 16), .rw, true, (.g 17), .all, .p0, 0, false, none, [.v 200], (.iv 10 10000)⟩,
  -- 0x7700:03 SLICE_US
  ⟨0x7700, 1, 1, 0, 1, 0, 0, 3, 1, 1, (.uns 16), .rw, true, (.g 17), .all, .p0, 0, false, none, [.v 1000], (.iv 100 20000)⟩,
  -- 0x7701:00 QueueStatus, banked (R46): [0] OVERFLOW, [1] BAD_COMMAND, [2] PROMOTED
  ⟨0x7701, 1, 1, 0, 1, 0, 0, 0, 1, 1, (.bits 64), .rw, false, .none, .all, .all, 0, true, (some (.interval 1000000)), [.v 0], .full⟩,
  -- 0x7702:00 QueueCounters, banked (highest sub-index)
  ⟨0x7702, 1, 1, 0, 1, 0, 0, 0, 1, 1, (.uns 8), .const, false, .none, .all, .none, 0, true, none, [.v 3], .full⟩,
  -- 0x7702:01 COMMANDS_COMPLETED, 64-bit, does not wrap in service
  ⟨0x7702, 1, 1, 0, 1, 0, 0, 1, 1, 1, (.uns 64), .ro, false, .none, .all, .none, 0, true, none, [.v 0], .full⟩,
  -- 0x7702:02–03 CVU_WAITS, FENCE_REGRESSIONS; 32-bit, saturate
  ⟨0x7702, 1, 1, 0, 1, 0, 0, 2, 2, 1, (.uns 32), .ro, false, .none, .all, .none, 0, true, none, [.v 0], .full⟩
  ]

/-- Rows from index 0x7800. -/
def objRows26 : List Row := [
  -- 0x7800:00 FabricConfig (highest sub-index)
  ⟨0x7800, 1, 1, 0, 1, 0, 0, 0, 1, 1, (.uns 8), .const, false, .none, .p0, .none, 0, false, none, [.v 10], .full⟩,
  -- 0x7800:01 TOPOLOGY: 0 single, 1 Twin, 2 ring, 3 torus; at next PD13 reset
  ⟨0x7800, 1, 1, 0, 1, 0, 0, 1, 1, 1, (.uns 8), .rw, true, (.g 55), .p0, .p0, 0, false, none, [.v 0], (.iv 0 3)⟩,
  -- 0x7800:02 RING_SIZE
  ⟨0x7800, 1, 1, 0, 1, 0, 0, 2, 1, 1, (.uns 8), .rw, true, (.g 55), .p0, .p0, 0, false, none, [.v 2], (.iv 2 16)⟩,
  -- 0x7800:03 WALL_COLS
  ⟨0x7800, 1, 1, 0, 1, 0, 0, 3, 1, 1, (.uns 8), .rw, true, (.g 55), .p0, .p0, 0, false, none, [.v 8], (.iv 4 8)⟩,
  -- 0x7800:04 WALL_ROWS
  ⟨0x7800, 1, 1, 0, 1, 0, 0, 4, 1, 1, (.uns 8), .rw, true, (.g 55), .p0, .p0, 0, false, none, [.v 8], (.iv 2 8)⟩,
  -- 0x7800:05 GATEWAY: 0 none, 1 primary, 2 secondary
  ⟨0x7800, 1, 1, 0, 1, 0, 0, 5, 1, 1, (.uns 8), .rw, true, (.g 55), .p0, .p0, 0, false, none, [.v 0], (.iv 0 2)⟩,
  -- 0x7800:06 NODE_TIMEOUT_MS
  ⟨0x7800, 1, 1, 0, 1, 0, 0, 6, 1, 1, (.uns 16), .rw, true, (.g 55), .p0, .p0, 0, false, none, [.v 10], (.iv 5 1000)⟩,
  -- 0x7800:07 E2E_TIMEOUT_US
  ⟨0x7800, 1, 1, 0, 1, 0, 0, 7, 1, 1, (.uns 32), .rw, true, (.g 55), .p0, .p0, 0, false, none, [.v 1000], (.iv 100 100000)⟩,
  -- 0x7800:08 FLOWLET_ENABLE
  ⟨0x7800, 1, 1, 0, 1, 0, 0, 8, 1, 1, .bool, .rw, true, (.g 55), .p0, .p0, 0, false, none, [.v 1], (.iv 0 1)⟩,
  -- 0x7800:09–0A CONTROL_WEIGHT, BULK_WEIGHT
  ⟨0x7800, 1, 1, 0, 1, 0, 0, 9, 2, 1, (.uns 8), .rw, true, (.g 55), .p0, .p0, 0, false, none, [.v 4, .v 1], (.iv 1 255)⟩,
  -- 0x7801:00 FabricStatus (R46): [0] LINK_DOWN, [1] LANES_REDUCED, [2] RETRAINED, [
  ⟨0x7801, 1, 1, 0, 1, 0, 0, 0, 1, 1, (.bits 64), .rw, false, .none, .p0, .p0, 0, false, (some (.interval 10000000)), [.v 0], .full⟩,
  -- 0x7810 + 4k:00 ChamoisPort k, k = 0–3 (0–1 Compact) (highest sub-index)
  ⟨0x7810, 4, 2, 4, 1, 0, 0, 0, 1, 1, (.uns 8), .const, false, .none, .p0, .none, 0, false, none, [.v 5], .full⟩,
  -- 0x7810 + 4k:01 ENABLE
  ⟨0x7810, 4, 2, 4, 1, 0, 0, 1, 1, 1, .bool, .rw, true, (.g 55), .p0, .p0, 0, false, none, [.v 1], (.iv 0 1)⟩,
  -- 0x7810 + 4k:02 MAX_RATE: 0 112G PAM4, 1 56G PAM4, 2 28G NRZ
  ⟨0x7810, 4, 2, 4, 1, 0, 0, 2, 1, 1, (.uns 8), .rw, true, (.g 55), .p0, .p0, 0, false, none, [.v 0], (.iv 0 2)⟩,
  -- 0x7810 + 4k:03 MAX_LANES
  ⟨0x7810, 4, 2, 4, 1, 0, 0, 3, 1, 1, (.uns 8), .rw, true, (.g 55), .p0, .p0, 0, false, none, [.v 4], (.pieces [(1, 1), (2, 2), (4, 4)])⟩,
  -- 0x7810 + 4k:04 ASYMMETRY_PS
  ⟨0x7810, 4, 2, 4, 1, 0, 0, 4, 1, 1, (.sgn 32), .rw, true, (.g 55), .p0, .p0, 0, false, none, [.v 0], (.iv (-100000) 100000)⟩,
  -- 0x7810 + 4k:05 LANE_MAP: [0] reverse, [7:4] invert RX polarity
  ⟨0x7810, 4, 2, 4, 1, 0, 0, 5, 1, 1, (.bits 32), .rw, true, (.g 55), .p0, .p0, 0, false, none, [.v 0], (.mask 0xF1)⟩,
  -- 0x7811 + 4k:00 PortLink (highest sub-index)
  ⟨0x7811, 4, 2, 4, 1, 0, 0, 0, 1, 1, (.uns 8), .const, false, .none, .p0, .none, 0, false, none, [.v 6], .full⟩,
  -- 0x7811 + 4k:01 STATE: 0 off, 1 training, 2 up, 3 reduced, 4 down
  ⟨0x7811, 4, 2, 4, 1, 0, 0, 1, 1, 1, (.uns 8), .ro, false, .none, .p0, .none, 0, false, none, [.v 0], (.iv 0 4)⟩,
  -- 0x7811 + 4k:02 LANES
  ⟨0x7811, 4, 2, 4, 1, 0, 0, 2, 1, 1, (.uns 8), .ro, false, .none, .p0, .none, 0, false, none, [.v 0], (.iv 0 4)⟩,
  -- 0x7811 + 4k:03 LANE_GBPS
  ⟨0x7811, 4, 2, 4, 1, 0, 0, 3, 1, 1, (.uns 8), .ro, false, .none, .p0, .none, 0, false, none, [.v 0], (.pieces [(0, 0), (28, 28), (56, 56), (112, 112)])⟩,
  -- 0x7811 + 4k:04–05 NEIGHBOUR_NODE, NEIGHBOUR_PORT; 0xFF none
  ⟨0x7811, 4, 2, 4, 1, 0, 0, 4, 2, 1, (.uns 8), .ro, false, .none, .p0, .none, 0, false, none, [.v 255], .full⟩,
  -- 0x7811 + 4k:06 LINK_DELAY_PS
  ⟨0x7811, 4, 2, 4, 1, 0, 0, 6, 1, 1, (.uns 32), .ro, false, .none, .p0, .none, 0, false, none, [.v 0], .full⟩,
  -- 0x7812 + 4k:00 PortCounters (highest sub-index)
  ⟨0x7812, 4, 2, 4, 1, 0, 0, 0, 1, 1, (.uns 8), .const, false, .none, .p0, .none, 0, false, none, [.v 6], .full⟩,
  -- 0x7812 + 4k:01 FEC_CORRECTED_CW, 64-bit, does not wrap in service
  ⟨0x7812, 4, 2, 4, 1, 0, 0, 1, 1, 1, (.uns 64), .ro, false, .none, .p0, .none, 0, false, none, [.v 0], .full⟩,
  -- 0x7812 + 4k:02–06 FEC_UNCORRECTABLE_CW, CRC_ERRORS, REPLAYS, RETRAINS, LINK_DOWNS
  ⟨0x7812, 4, 2, 4, 1, 0, 0, 2, 5, 1, (.uns 32), .ro, false, .none, .p0, .none, 0, false, none, [.v 0], .full⟩,
  -- 0x7813 + 4k:00 FoxgloveConfig k (highest sub-index)
  ⟨0x7813, 4, 2, 4, 1, 0, 0, 0, 1, 1, (.uns 8), .const, false, .none, .p0, .none, 0, false, none, [.v 8], .full⟩,
  -- 0x7813 + 4k:01 MODE, as R362
  ⟨0x7813, 4, 2, 4, 1, 0, 0, 1, 1, 1, (.bits 32), .rw, false, (.g 0), .p0, .p0, 0, false, none, [.v 0], (.mask 0x3F)⟩,
  -- 0x7813 + 4k:02 LAYER
  ⟨0x7813, 4, 2, 4, 1, 0, 0, 2, 1, 1, (.uns 8), .rw, false, (.g 0), .p0, .p0, 0, false, none, [.v 0], (.iv 0 1)⟩,
  -- 0x7813 + 4k:03 DROP_EVERY_N
  ⟨0x7813, 4, 2, 4, 1, 0, 0, 3, 1, 1, (.uns 32), .rw, false, (.g 0), .p0, .p0, 0, false, none, [.v 1000], (.iv 2 4294967295)⟩
  ]

/-- Rows from index 0x7813. -/
def objRows27 : List Row := [
  -- 0x7813 + 4k:04 DROP_PROB
  ⟨0x7813, 4, 2, 4, 1, 0, 0, 4, 1, 1, (.uns 32), .rw, false, (.g 0), .p0, .p0, 0, false, none, [.v 0], .full⟩,
  -- 0x7813 + 4k:05 CORRUPT_BITS
  ⟨0x7813, 4, 2, 4, 1, 0, 0, 5, 1, 1, (.uns 8), .rw, false, (.g 0), .p0, .p0, 0, false, none, [.v 1], (.iv 1 64)⟩,
  -- 0x7813 + 4k:06 DELAY_NS
  ⟨0x7813, 4, 2, 4, 1, 0, 0, 6, 1, 1, (.uns 32), .rw, false, (.g 0), .p0, .p0, 0, false, none, [.v 0], (.iv 0 1000000)⟩,
  -- 0x7813 + 4k:07 CLASS_MASK: bit c for class c
  ⟨0x7813, 4, 2, 4, 1, 0, 0, 7, 1, 1, (.bits 32), .rw, false, (.g 0), .p0, .p0, 0, false, none, [.v 15], (.mask 0xF)⟩,
  -- 0x7813 + 4k:08 INJECTED
  ⟨0x7813, 4, 2, 4, 1, 0, 0, 8, 1, 1, (.uns 32), .ro, false, .none, .p0, .none, 0, false, none, [.v 0], .full⟩,
  -- 0x7820:00 TimeSync (highest sub-index)
  ⟨0x7820, 1, 1, 0, 1, 0, 0, 0, 1, 1, (.uns 8), .const, false, .none, .p0, .none, 0, false, none, [.v 10], .full⟩,
  -- 0x7820:01 TIME_SOURCE: 0 Chamois parent, 1 802.1AS MAC 0, 2 802.1AS MAC 1, 3 fre
  ⟨0x7820, 1, 1, 0, 1, 0, 0, 1, 1, 1, (.uns 8), .rw, true, (.g 55), .p0, .p0, 0, false, none, [.v 0], (.iv 0 3)⟩,
  -- 0x7820:02 TIME_PRIORITY
  ⟨0x7820, 1, 1, 0, 1, 0, 0, 2, 1, 1, (.uns 8), .rw, true, (.g 55), .p0, .p0, 0, false, none, [.v 128], (.iv 0 255)⟩,
  -- 0x7820:03 STEP_NS
  ⟨0x7820, 1, 1, 0, 1, 0, 0, 3, 1, 1, (.uns 32), .rw, true, (.g 55), .p0, .p0, 0, false, none, [.v 1000], (.iv 100 1000000)⟩,
  -- 0x7820:04 SLEW_PPM
  ⟨0x7820, 1, 1, 0, 1, 0, 0, 4, 1, 1, (.uns 16), .rw, true, (.g 55), .p0, .p0, 0, false, none, [.v 100], (.iv 10 500)⟩,
  -- 0x7820:05 WALL_TIME_SET; accepted with TIME_SOURCE 3 only
  ⟨0x7820, 1, 1, 0, 1, 0, 0, 5, 1, 1, (.uns 64), .wo, false, (.g 0), .p0, .p0, 0, false, none, [.v 0], .full⟩,
  -- 0x7820:06 STATE: 0 none, 1 acquiring, 2 locked, 3 holdover, 4 master
  ⟨0x7820, 1, 1, 0, 1, 0, 0, 6, 1, 1, (.uns 8), .ro, false, .none, .p0, .none, 0, false, none, [.v 0], (.iv 0 4)⟩,
  -- 0x7820:07 MASTER_NODE; 0xFF none
  ⟨0x7820, 1, 1, 0, 1, 0, 0, 7, 1, 1, (.uns 8), .ro, false, .none, .p0, .none, 0, false, none, [.v 255], .full⟩,
  -- 0x7820:08 OFFSET_NS, last to parent
  ⟨0x7820, 1, 1, 0, 1, 0, 0, 8, 1, 1, (.sgn 32), .ro, false, .none, .p0, .none, 0, false, none, [.v 0], .full⟩,
  -- 0x7820:09 HOPS to master
  ⟨0x7820, 1, 1, 0, 1, 0, 0, 9, 1, 1, (.uns 8), .ro, false, .none, .p0, .none, 0, false, none, [.v 0], (.iv 0 8)⟩,
  -- 0x7820:0A NOT_TAI
  ⟨0x7820, 1, 1, 0, 1, 0, 0, 10, 1, 1, .bool, .ro, false, .none, .p0, .none, 0, false, none, [.v 0], (.iv 0 1)⟩,
  -- 0x7821:00 TimeStatus (R46): [0] LOCKED, [1] LOST, [2] STEPPED, [3] HOLDOVER, [4]
  ⟨0x7821, 1, 1, 0, 1, 0, 0, 0, 1, 1, (.bits 64), .rw, false, .none, .p0, .p0, 0, false, (some (.interval 100000000)), [.v 0], .full⟩,
  -- 0x7840:00 TwinConfig (highest sub-index)
  ⟨0x7840, 1, 1, 0, 1, 0, 0, 0, 1, 1, (.uns 8), .const, false, .none, .p0, .none, 0, false, none, [.v 8], .full⟩,
  -- 0x7840:01 WITNESS: 0 none, 1 CAN FD, 2 CAN XL, 3 UDP
  ⟨0x7840, 1, 1, 0, 1, 0, 0, 1, 1, 1, (.uns 8), .rw, true, (.g 55), .p0, .p0, 0, false, none, [.v 0], (.iv 0 3)⟩,
  -- 0x7840:02 WITNESS_TIMEOUT_MS
  ⟨0x7840, 1, 1, 0, 1, 0, 0, 2, 1, 1, (.uns 16), .rw, true, (.g 55), .p0, .p0, 0, false, none, [.v 300], (.iv 30 30000)⟩,
  -- 0x7840:03 HB_TIMEOUT_MS
  ⟨0x7840, 1, 1, 0, 1, 0, 0, 3, 1, 1, (.uns 8), .rw, true, (.g 55), .p0, .p0, 0, false, none, [.v 3], (.iv 2 8)⟩,
  -- 0x7840:04 PIN_TIMEOUT_MS
  ⟨0x7840, 1, 1, 0, 1, 0, 0, 4, 1, 1, (.uns 8), .rw, true, (.g 55), .p0, .p0, 0, false, none, [.v 2], (.special 2)⟩,
  -- 0x7840:05 RETURN_HOLD_MS
  ⟨0x7840, 1, 1, 0, 1, 0, 0, 5, 1, 1, (.uns 16), .rw, true, (.g 55), .p0, .p0, 0, false, none, [.v 1000], (.iv 100 60000)⟩,
  -- 0x7840:06 FAILOVER_ON_NOTICE
  ⟨0x7840, 1, 1, 0, 1, 0, 0, 6, 1, 1, .bool, .rw, true, (.g 55), .p0, .p0, 0, false, none, [.v 1], (.iv 0 1)⟩,
  -- 0x7840:07 STRAP_SENIOR level
  ⟨0x7840, 1, 1, 0, 1, 0, 0, 7, 1, 1, .bool, .ro, false, .none, .p0, .none, 0, false, none, [.v 0], (.iv 0 1)⟩,
  -- 0x7840:08 SENIOR, after R355
  ⟨0x7840, 1, 1, 0, 1, 0, 0, 8, 1, 1, .bool, .ro, false, .none, .p0, .none, 0, false, none, [.v 0], (.iv 0 1)⟩,
  -- 0x7841:00 TwinState (highest sub-index)
  ⟨0x7841, 1, 1, 0, 1, 0, 0, 0, 1, 1, (.uns 8), .const, false, .none, .all, .none, 0, false, none, [.v 7], .full⟩,
  -- 0x7841:01 PARTNER: 0 none, 1 alive, 2 link lost, 3 dead
  ⟨0x7841, 1, 1, 0, 1, 0, 0, 1, 1, 1, (.uns 8), .ro, false, .none, .all, .none, 0, false, none, [.v 0], (.iv 0 3)⟩,
  -- 0x7841:02 CHANNELS_LOST: [0] Chamois, [1] pin, [2] witness
  ⟨0x7841, 1, 1, 0, 1, 0, 0, 2, 1, 1, (.bits 32), .ro, false, .none, .all, .none, 0, false, none, [.v 0], (.mask 0x7)⟩,
  -- 0x7841:03 TAKEOVER: 0 none, 1 full, 2 partial
  ⟨0x7841, 1, 1, 0, 1, 0, 0, 3, 1, 1, (.uns 8), .ro, false, .none, .all, .none, 0, false, none, [.v 0], (.iv 0 2)⟩
  ]

/-- Rows from index 0x7841. -/
def objRows28 : List Row := [
  -- 0x7841:04 LAYOUTS_ACTIVE: bit k for layout k
  ⟨0x7841, 1, 1, 0, 1, 0, 0, 4, 1, 1, (.bits 32), .ro, false, .none, .all, .none, 0, false, none, [.v 0], (.mask 0x1FFFE)⟩,
  -- 0x7841:05 PARTNER_PLAN_ID_LOW
  ⟨0x7841, 1, 1, 0, 1, 0, 0, 5, 1, 1, (.uns 32), .ro, false, .none, .all, .none, 0, false, none, [.v 0], .full⟩,
  -- 0x7841:06 PARTNER_HEALTH, as R86
  ⟨0x7841, 1, 1, 0, 1, 0, 0, 6, 1, 1, (.uns 16), .ro, false, .none, .all, .none, 0, false, none, [.v 0], .full⟩,
  -- 0x7841:07 LAST_DECLARATION_TIME, device time
  ⟨0x7841, 1, 1, 0, 1, 0, 0, 7, 1, 1, (.uns 64), .ro, false, .none, .all, .none, 0, false, none, [.v 0], .full⟩,
  -- 0x7842:00 TwinStatus (R46): [0] PARTNER_DEAD, [1] PARTNER_RETURNED, [2] LINK_LOS
  ⟨0x7842, 1, 1, 0, 1, 0, 0, 0, 1, 1, (.bits 64), .rw, false, .none, .p0, .p0, 0, false, (some (.interval 10000000)), [.v 0], .full⟩,
  -- 0x7843:00 (highest sub-index)
  ⟨0x7843, 1, 1, 0, 1, 0, 0, 0, 1, 1, (.uns 8), .const, false, .none, .p0, .none, 0, false, none, [.v 6], .full⟩,
  -- 0x7843:01–06 TwinCounters: TAKEOVERS, PARTIAL_TAKEOVERS, LINK_LOSSES, PIN_FAULTS, W
  ⟨0x7843, 1, 1, 0, 1, 0, 0, 1, 6, 1, (.uns 32), .ro, false, .none, .p0, .none, 0, false, none, [.v 0], .full⟩,
  -- 0x7900:00 WallState (highest sub-index)
  ⟨0x7900, 1, 1, 0, 1, 0, 0, 0, 1, 1, (.uns 8), .const, false, .none, .all, .none, 0, false, none, [.v 4], .full⟩,
  -- 0x7900:01 ENUM_STATE: 0 idle, 1 enumerating, 2 complete, 3 faulted
  ⟨0x7900, 1, 1, 0, 1, 0, 0, 1, 1, 1, (.uns 8), .ro, false, .none, .all, .none, 0, false, none, [.v 0], (.iv 0 3)⟩,
  -- 0x7900:02–03 NODES_PRESENT, NODES_REACHABLE
  ⟨0x7900, 1, 1, 0, 1, 0, 0, 2, 2, 1, (.bits 64), .ro, false, .none, .all, .none, 0, false, none, [.v 0], .full⟩,
  -- 0x7900:04 GATEWAYS: [7:0] primary, [15:8] secondary; 0xFF none
  ⟨0x7900, 1, 1, 0, 1, 0, 0, 4, 1, 1, (.uns 16), .ro, false, .none, .all, .none, 0, false, none, [.v 65535], .full⟩,
  -- 0x7940 + n:00 WallNode n, n = 0–63 (highest sub-index)
  ⟨0x7940, 64, 64, 1, 1, 0, 0, 0, 1, 1, (.uns 8), .const, false, .none, .all, .none, 0, false, none, [.v 4], .full⟩,
  -- 0x7940 + n:01 STATE: 0 absent, 1 member, 2 excluded, 3 lost
  ⟨0x7940, 64, 64, 1, 1, 0, 0, 1, 1, 1, (.uns 8), .ro, false, .none, .all, .none, 0, false, none, [.v 0], (.iv 0 3)⟩,
  -- 0x7940 + n:02 SERIAL
  ⟨0x7940, 64, 64, 1, 1, 0, 0, 2, 1, 1, (.uns 64), .ro, false, .none, .all, .none, 0, false, none, [.v 0], .full⟩,
  -- 0x7940 + n:03 CONFIG: 0x46 or 0x43
  ⟨0x7940, 64, 64, 1, 1, 0, 0, 3, 1, 1, (.uns 8), .ro, false, .none, .all, .none, 0, false, none, [.v 0], .full⟩,
  -- 0x7940 + n:04 EXCLUDE_REASON: 0 none, 1 Compact, 2 cabling, 3 duplicate ID
  ⟨0x7940, 64, 64, 1, 1, 0, 0, 4, 1, 1, (.uns 8), .ro, false, .none, .all, .none, 0, false, none, [.v 0], (.iv 0 3)⟩,
  -- 0x7A00:00 PcieState (highest sub-index)
  ⟨0x7A00, 1, 1, 0, 1, 0, 0, 0, 1, 1, (.uns 8), .const, false, .none, .all, .none, 0, false, none, [.v 7], .full⟩,
  -- 0x7A00:01 GEN trained
  ⟨0x7A00, 1, 1, 0, 1, 0, 0, 1, 1, 1, (.uns 8), .ro, false, .none, .all, .none, 0, false, none, [.v 0], (.iv 0 6)⟩,
  -- 0x7A00:02 WIDTH trained
  ⟨0x7A00, 1, 1, 0, 1, 0, 0, 2, 1, 1, (.uns 8), .ro, false, .none, .all, .none, 0, false, none, [.v 0], (.iv 0 16)⟩,
  -- 0x7A00:03 FLIT_MODE
  ⟨0x7A00, 1, 1, 0, 1, 0, 0, 3, 1, 1, .bool, .ro, false, .none, .all, .none, 0, false, none, [.v 0], (.iv 0 1)⟩,
  -- 0x7A00:04 NUM_VFS enabled by the host
  ⟨0x7A00, 1, 1, 0, 1, 0, 0, 4, 1, 1, (.uns 8), .ro, false, .none, .all, .none, 0, false, none, [.v 0], (.iv 0 16)⟩,
  -- 0x7A00:05–07 LINK_DOWNS, AER_CORRECTABLE, AER_UNCORRECTABLE
  ⟨0x7A00, 1, 1, 0, 1, 0, 0, 5, 3, 1, (.uns 32), .ro, false, .none, .all, .none, 0, false, none, [.v 0], .full⟩
  ]

/-- Rows from index 0x8001. -/
def objRows29 : List Row := [
  -- 0x8001:00 TouchStatus (R46): [0] GLOVE_ENTERED, [1] BASELINE_RETAKEN, [2] SELFTE
  ⟨0x8001, 1, 1, 0, 1, 0, 0, 0, 1, 1, (.bits 64), .rw, false, .none, .all, .p0, 0, false, (some (.interval 10000000)), [.v 0], .full⟩,
  -- 0x8010 + k×8:00 TouchPortConfig (highest sub-index)
  ⟨0x8010, 4, 2, 8, 1, 0, 0, 0, 1, 1, (.uns 8), .const, false, .none, .touchOwners, .none, 0, false, none, [.v 22], .full⟩,
  -- 0x8010 + k×8:01 ENABLE
  ⟨0x8010, 4, 2, 8, 1, 0, 0, 1, 1, 1, .bool, .rw, true, (.g 52), .touchOwners, .p0, 0, false, none, [.v 0], (.iv 0 1)⟩,
  -- 0x8010 + k×8:02 GANG, R366
  ⟨0x8010, 4, 2, 8, 1, 0, 0, 2, 1, 1, (.uns 8), .rw, true, (.g 52), .touchOwners, .p0, 0, false, none, [.v 0], (.iv 0 3)⟩,
  -- 0x8010 + k×8:03 HEAD
  ⟨0x8010, 4, 2, 8, 1, 0, 0, 3, 1, 1, (.uns 8), .rw, true, (.g 52), .touchOwners, .p0, 0, false, none, [.inst], (.iv 0 15)⟩,
  -- 0x8010 + k×8:04 MODE: 0 auto, 1 finger, 2 glove, 3 hover
  ⟨0x8010, 4, 2, 8, 1, 0, 0, 4, 1, 1, (.uns 8), .rw, true, (.g 52), .touchOwners, .p0, 0, false, none, [.v 0], (.iv 0 3)⟩,
  -- 0x8010 + k×8:05 SCAN_HZ
  ⟨0x8010, 4, 2, 8, 1, 0, 0, 5, 1, 1, (.uns 16), .rw, true, (.g 52), .touchOwners, .p0, 0, false, none, [.v 120], (.iv 30 240)⟩,
  -- 0x8010 + k×8:06 INTEGRATION_US
  ⟨0x8010, 4, 2, 8, 1, 0, 0, 6, 1, 1, (.uns 16), .rw, true, (.g 52), .touchOwners, .p0, 0, false, none, [.v 40], (.iv 10 200)⟩,
  -- 0x8010 + k×8:07 TX_FREQ_KHZ
  ⟨0x8010, 4, 2, 8, 1, 0, 0, 7, 1, 1, (.uns 16), .rw, true, (.g 52), .touchOwners, .p0, 0, false, none, [.v 250], (.iv 100 500)⟩,
  -- 0x8010 + k×8:08–0A TOUCH_THRESHOLD, GLOVE_THRESHOLD, HOVER_THRESHOLD
  ⟨0x8010, 4, 2, 8, 1, 0, 0, 8, 3, 1, (.uns 16), .rw, true, (.g 52), .touchOwners, .p0, 0, false, none, [.v 200, .v 80, .v 400], (.iv 16 4095)⟩,
  -- 0x8010 + k×8:0B TOUCH_HYSTERESIS
  ⟨0x8010, 4, 2, 8, 1, 0, 0, 11, 1, 1, (.uns 16), .rw, true, (.g 52), .touchOwners, .p0, 0, false, none, [.v 40], (.iv 0 4094)⟩,
  -- 0x8010 + k×8:0C BASELINE_SHIFT
  ⟨0x8010, 4, 2, 8, 1, 0, 0, 12, 1, 1, (.uns 8), .rw, true, (.g 52), .touchOwners, .p0, 0, false, none, [.v 4], (.iv 1 8)⟩,
  -- 0x8010 + k×8:0D NEG_THRESHOLD
  ⟨0x8010, 4, 2, 8, 1, 0, 0, 13, 1, 1, (.uns 16), .rw, true, (.g 52), .touchOwners, .p0, 0, false, none, [.v 100], (.iv 16 4095)⟩,
  -- 0x8010 + k×8:0E–0F SCALE_X, SCALE_Y
  ⟨0x8010, 4, 2, 8, 1, 0, 0, 14, 2, 1, (.uns 32), .rw, true, (.g 52), .touchOwners, .p0, 0, false, none, [.v 6144, .v 3840], (.iv 256 524288)⟩,
  -- 0x8010 + k×8:10–11 OFFSET_X, OFFSET_Y
  ⟨0x8010, 4, 2, 8, 1, 0, 0, 16, 2, 1, (.sgn 16), .rw, true, (.g 52), .touchOwners, .p0, 0, false, none, [.v 0], (.iv (-8192) 8191)⟩,
  -- 0x8010 + k×8:12 ORIENT: [0] SWAP, [1] FLIP_X, [2] FLIP_Y
  ⟨0x8010, 4, 2, 8, 1, 0, 0, 18, 1, 1, (.bits 32), .rw, true, (.g 52), .touchOwners, .p0, 0, false, none, [.v 0], (.mask 0x7)⟩,
  -- 0x8010 + k×8:13 HAPTIC_CHANNEL, 0xFF none
  ⟨0x8010, 4, 2, 8, 1, 0, 0, 19, 1, 1, (.uns 8), .rw, true, (.g 52), .touchOwners, .p0, 0, false, none, [.v 255], (.pieces [(0, 7), (255, 255)])⟩,
  -- 0x8010 + k×8:14 GLOVE_EXIT_MS
  ⟨0x8010, 4, 2, 8, 1, 0, 0, 20, 1, 1, (.uns 16), .rw, true, (.g 52), .touchOwners, .p0, 0, false, none, [.v 2000], (.iv 100 60000)⟩,
  -- 0x8010 + k×8:15 TRACK_RADIUS nodes
  ⟨0x8010, 4, 2, 8, 1, 0, 0, 21, 1, 1, (.uns 8), .rw, true, (.g 52), .touchOwners, .p0, 0, false, none, [.v 4], (.iv 1 16)⟩,
  -- 0x8010 + k×8:16 OPEN_PCT [7:0], LEAK_PCT [15:8]
  ⟨0x8010, 4, 2, 8, 1, 0, 0, 22, 1, 1, (.uns 16), .rw, true, (.g 52), .touchOwners, .p0, 0, false, none, [.v 3860], (.special 1)⟩,
  -- 0x8011 + k×8:00 TouchPortState (highest sub-index)
  ⟨0x8011, 4, 2, 8, 1, 0, 0, 0, 1, 1, (.uns 8), .const, false, .none, .touchOwners, .none, 0, false, none, [.v 6], .full⟩,
  -- 0x8011 + k×8:01 STATE: 0 off, 1 self-test, 2 baseline, 3 scanning, 4 faulty, 5 unusabl
  ⟨0x8011, 4, 2, 8, 1, 0, 0, 1, 1, 1, (.uns 8), .ro, false, .none, .touchOwners, .none, 0, false, none, [.v 0], (.iv 0 5)⟩,
  -- 0x8011 + k×8:02 ACTIVE_MODE: 1 finger, 2 glove, 3 hover
  ⟨0x8011, 4, 2, 8, 1, 0, 0, 2, 1, 1, (.uns 8), .ro, false, .none, .touchOwners, .none, 0, false, none, [.v 1], (.iv 1 3)⟩,
  -- 0x8011 + k×8:03 EFFECTIVE_HZ
  ⟨0x8011, 4, 2, 8, 1, 0, 0, 3, 1, 1, (.uns 16), .ro, false, .none, .touchOwners, .none, 0, false, none, [.v 0], (.iv 0 240)⟩,
  -- 0x8011 + k×8:04 SCAN_COUNT, 32-bit, wraps
  ⟨0x8011, 4, 2, 8, 1, 0, 0, 4, 1, 1, (.uns 32), .ro, false, .none, .touchOwners, .none, 0, false, none, [.v 0], .full⟩,
  -- 0x8011 + k×8:05 TOUCHES now
  ⟨0x8011, 4, 2, 8, 1, 0, 0, 5, 1, 1, (.uns 8), .ro, false, .none, .touchOwners, .none, 0, false, none, [.v 0], (.iv 0 20)⟩,
  -- 0x8011 + k×8:06 FAULTY_ELECTRODES
  ⟨0x8011, 4, 2, 8, 1, 0, 0, 6, 1, 1, (.uns 16), .ro, false, .none, .touchOwners, .none, 0, false, none, [.v 0], (.iv 0 256)⟩,
  -- 0x8012 + k×8:00 (highest sub-index)
  ⟨0x8012, 4, 2, 8, 1, 0, 0, 0, 1, 1, (.uns 8), .const, false, .none, .touchOwners, .none, 0, false, none, [.v 6], .full⟩,
  -- 0x8012 + k×8:01–06 TouchPortCounters: NEG_DELTA_RETAKES, TOUCHES_DROPPED, GLOVE_ENTRIES, 
  ⟨0x8012, 4, 2, 8, 1, 0, 0, 1, 6, 1, (.uns 32), .ro, false, .none, .touchOwners, .none, 0, false, none, [.v 0], .full⟩,
  -- 0x8013 + k×8:00 SelfTestResult (highest sub-index)
  ⟨0x8013, 4, 2, 8, 1, 0, 0, 0, 1, 1, (.uns 8), .const, false, .none, .touchOwners, .none, 0, false, none, [.v 34], .full⟩
  ]

/-- Rows from index 0x8013. -/
def objRows30 : List Row := [
  -- 0x8013 + k×8:01 SELFTEST_RUN: write 1
  ⟨0x8013, 4, 2, 8, 1, 0, 0, 1, 1, 1, (.uns 8), .wo, false, (.g 0), .touchOwners, .p0, 0, false, none, [.v 0], (.iv 1 1)⟩,
  -- 0x8013 + k×8:02 ENTRIES
  ⟨0x8013, 4, 2, 8, 1, 0, 0, 2, 1, 1, (.uns 8), .ro, false, .none, .touchOwners, .none, 0, false, none, [.v 0], (.iv 0 32)⟩,
  -- 0x8013 + k×8:03–22 ENTRY j = sub − 3, R378
  ⟨0x8013, 4, 2, 8, 1, 0, 0, 3, 32, 1, (.uns 64), .ro, false, .none, .touchOwners, .none, 0, false, none, [.v 0], .full⟩,
  -- 0x8014 + k×8:00 DeltaFrame: I16 per node, TX-major; last frame; P0
  ⟨0x8014, 4, 2, 8, 1, 0, 0, 0, 1, 1, (.domain 30720), .ro, false, .none, .p0, .none, 0, false, none, [.v 0], .full⟩,
  -- 0x8040 + h×4:00 (highest sub-index)
  ⟨0x8040, 16, 8, 4, 1, 0, 0, 0, 1, 1, (.uns 8), .const, false, .none, .headOwners, .none, 0, false, none, [.v 64], .full⟩,
  -- 0x8040 + h×4:01–40 KeyThreshold, key j = sub − 1 (default: the plan THRESHOLD)
  ⟨0x8040, 16, 8, 4, 1, 0, 0, 1, 64, 1, (.uns 16), .rw, false, (.g 52), .headOwners, .keyOwner, 0, false, none, [.v 0], (.iv 16 4095)⟩,
  -- 0x8041 + h×4:00 (highest sub-index)
  ⟨0x8041, 16, 8, 4, 1, 0, 0, 0, 1, 1, (.uns 8), .const, false, .none, .headOwners, .none, 0, false, none, [.v 64], .full⟩,
  -- 0x8041 + h×4:01–40 KeyHysteresis (default: the plan HYSTERESIS)
  ⟨0x8041, 16, 8, 4, 1, 0, 0, 1, 64, 1, (.uns 16), .rw, false, (.g 52), .headOwners, .keyOwner, 0, false, none, [.v 0], (.iv 0 4094)⟩,
  -- 0x8042 + h×4:00 (highest sub-index)
  ⟨0x8042, 16, 8, 4, 1, 0, 0, 0, 1, 1, (.uns 8), .const, false, .none, .headOwners, .none, 0, false, none, [.v 64], .full⟩,
  -- 0x8042 + h×4:01–40 KeyDebounce, frames (default: the plan DEBOUNCE)
  ⟨0x8042, 16, 8, 4, 1, 0, 0, 1, 64, 1, (.uns 8), .rw, false, (.g 52), .headOwners, .keyOwner, 0, false, none, [.v 0], (.iv 1 16)⟩,
  -- 0x8043 + h×4:00 KeyState (highest sub-index)
  ⟨0x8043, 16, 8, 4, 1, 0, 0, 0, 1, 1, (.uns 8), .const, false, .none, .headOwners, .none, 0, false, none, [.v 3], .full⟩,
  -- 0x8043 + h×4:01–03 DOWN, DISABLED, UNAVAILABLE: bit j for key j
  ⟨0x8043, 16, 8, 4, 1, 0, 0, 1, 3, 1, (.bits 64), .ro, false, .none, .headOwners, .none, 0, false, none, [.v 0], .full⟩,
  -- 0x8080 + p:00 TouchRing p (highest sub-index)
  ⟨0x8080, 16, 8, 1, 1, 0, 0, 0, 1, 1, (.uns 8), .const, false, .none, .inst, .none, 0, false, none, [.v 7], .full⟩,
  -- 0x8080 + p:01 ENABLE
  ⟨0x8080, 16, 8, 1, 1, 0, 0, 1, 1, 1, .bool, .rw, false, (.g 0), .inst, .inst, 0, false, none, [.v 0], (.iv 0 1)⟩,
  -- 0x8080 + p:02 RING_BASE, bus address
  ⟨0x8080, 16, 8, 1, 1, 0, 0, 2, 1, 1, (.uns 64), .rw, false, (.g 0), .inst, .inst, 0, false, none, [.v 0], (.step 0 18446744073709547520 4096)⟩,
  -- 0x8080 + p:03 RING_LOG2
  ⟨0x8080, 16, 8, 1, 1, 0, 0, 3, 1, 1, (.uns 8), .rw, false, (.g 0), .inst, .inst, 0, false, none, [.v 8], (.iv 6 14)⟩,
  -- 0x8080 + p:04 PRODUCER
  ⟨0x8080, 16, 8, 1, 1, 0, 0, 4, 1, 1, (.uns 32), .ro, false, .none, .inst, .none, 0, false, none, [.v 0], .full⟩,
  -- 0x8080 + p:05 CONSUMER
  ⟨0x8080, 16, 8, 1, 1, 0, 0, 5, 1, 1, (.uns 32), .rw, false, (.g 0), .inst, .inst, 0, false, none, [.v 0], .full⟩,
  -- 0x8080 + p:06 MSI_VECTOR
  ⟨0x8080, 16, 8, 1, 1, 0, 0, 6, 1, 1, (.uns 16), .rw, false, (.g 0), .inst, .inst, 0, false, none, [.v 0], (.iv 0 2047)⟩,
  -- 0x8080 + p:07 DROPPED
  ⟨0x8080, 16, 8, 1, 1, 0, 0, 7, 1, 1, (.uns 32), .ro, false, .none, .inst, .none, 0, false, none, [.v 0], .full⟩,
  -- 0x8100 + n:00 LayerTouch, slot n = 0–511 (0–255 Compact) (highest sub-index)
  ⟨0x8100, 512, 256, 1, 1, 0, 0, 0, 1, 1, (.uns 8), .const, false, .none, .layerOwner, .none, 0, false, none, [.v 5], .full⟩,
  -- 0x8100 + n:01 TOUCH_ENABLE
  ⟨0x8100, 512, 256, 1, 1, 0, 0, 1, 1, 1, .bool, .rw, false, .layer, .layerOwner, .layerOwner, 0, false, none, [.v 0], (.iv 0 1)⟩,
  -- 0x8100 + n:02 MASK_CELL_LOG2
  ⟨0x8100, 512, 256, 1, 1, 0, 0, 2, 1, 1, (.uns 8), .rw, false, .layer, .layerOwner, .layerOwner, 0, false, none, [.v 0], (.iv 0 4)⟩,
  -- 0x8100 + n:03 HIT_MASK (R373)
  ⟨0x8100, 512, 256, 1, 1, 0, 0, 3, 1, 1, (.domain 8388608), .rw, false, .none, .layerOwner, .layerOwner, 0, false, none, [.v 0], .full⟩,
  -- 0x8100 + n:04 MASK_STATE: 0 none, 1 active, 2 mismatched
  ⟨0x8100, 512, 256, 1, 1, 0, 0, 4, 1, 1, (.uns 8), .ro, false, .none, .layerOwner, .none, 0, false, none, [.v 0], (.iv 0 2)⟩,
  -- 0x8100 + n:05 POINTS routed
  ⟨0x8100, 512, 256, 1, 1, 0, 0, 5, 1, 1, (.uns 32), .ro, false, .none, .layerOwner, .none, 0, false, none, [.v 0], .full⟩,
  -- 0x8300 + c×4:00 HapticConfig c (highest sub-index)
  ⟨0x8300, 8, 4, 4, 1, 0, 0, 0, 1, 1, (.uns 8), .const, false, .none, (.owner 0 2), .none, 0, false, none, [.v 12], .full⟩,
  -- 0x8300 + c×4:01 ENABLE
  ⟨0x8300, 8, 4, 4, 1, 0, 0, 1, 1, 1, .bool, .rw, true, (.g 53), (.owner 0 2), .p0, 0, false, none, [.v 0], (.iv 0 1)⟩,
  -- 0x8300 + c×4:02 OWNER
  ⟨0x8300, 8, 4, 4, 1, 0, 0, 2, 1, 1, (.uns 8), .rw, true, (.g 53), (.owner 0 2), .p0, 0, false, none, [.v 0], (.iv 0 15)⟩,
  -- 0x8300 + c×4:03 GAIN
  ⟨0x8300, 8, 4, 4, 1, 0, 0, 3, 1, 1, (.uns 16), .rw, true, (.g 53), (.owner 0 2), .p0, 0, false, none, [.v 65535], (.iv 0 65535)⟩
  ]

/-- Rows from index 0x8300. -/
def objRows31 : List Row := [
  -- 0x8300 + c×4:04 DEADTIME_NS
  ⟨0x8300, 8, 4, 4, 1, 0, 0, 4, 1, 1, (.uns 16), .rw, true, (.g 53), (.owner 0 2), .p0, 0, false, none, [.v 100], (.iv 20 500)⟩,
  -- 0x8300 + c×4:05 ILIMIT_MA
  ⟨0x8300, 8, 4, 4, 1, 0, 0, 5, 1, 1, (.uns 16), .rw, true, (.g 53), (.owner 0 2), .p0, 0, false, none, [.v 2000], (.iv 100 10000)⟩,
  -- 0x8300 + c×4:06 RES_NOMINAL_HZ
  ⟨0x8300, 8, 4, 4, 1, 0, 0, 6, 1, 1, (.uns 16), .rw, true, (.g 53), (.owner 0 2), .p0, 0, false, none, [.v 170], (.iv 50 500)⟩,
  -- 0x8300 + c×4:07 RES_MIN_HZ
  ⟨0x8300, 8, 4, 4, 1, 0, 0, 7, 1, 1, (.uns 16), .rw, true, (.g 53), (.owner 0 2), .p0, 0, false, none, [.v 120], (.iv 50 500)⟩,
  -- 0x8300 + c×4:08 RES_MAX_HZ
  ⟨0x8300, 8, 4, 4, 1, 0, 0, 8, 1, 1, (.uns 16), .rw, true, (.g 53), (.owner 0 2), .p0, 0, false, none, [.v 240], (.iv 50 500)⟩,
  -- 0x8300 + c×4:09 COIL_R_MOHM
  ⟨0x8300, 8, 4, 4, 1, 0, 0, 9, 1, 1, (.uns 32), .rw, true, (.g 53), (.owner 0 2), .p0, 0, false, none, [.v 4000], (.iv 100 100000)⟩,
  -- 0x8300 + c×4:0A COIL_L_UH
  ⟨0x8300, 8, 4, 4, 1, 0, 0, 10, 1, 1, (.uns 16), .rw, true, (.g 53), (.owner 0 2), .p0, 0, false, none, [.v 500], (.iv 1 10000)⟩,
  -- 0x8300 + c×4:0B BRAKE_THRESHOLD_MV
  ⟨0x8300, 8, 4, 4, 1, 0, 0, 11, 1, 1, (.uns 16), .rw, true, (.g 53), (.owner 0 2), .p0, 0, false, none, [.v 50], (.iv 1 5000)⟩,
  -- 0x8300 + c×4:0C BRAKE_MAX_MS
  ⟨0x8300, 8, 4, 4, 1, 0, 0, 12, 1, 1, (.uns 8), .rw, true, (.g 53), (.owner 0 2), .p0, 0, false, none, [.v 20], (.iv 1 100)⟩,
  -- 0x8301 + c×4:00 HapticPlay (highest sub-index)
  ⟨0x8301, 8, 4, 4, 1, 0, 0, 0, 1, 1, (.uns 8), .const, false, .none, (.owner 1 2), .none, 0, false, none, [.v 2], .full⟩,
  -- 0x8301 + c×4:01 PLAY: effect number; 0 stops with brake
  ⟨0x8301, 8, 4, 4, 1, 0, 0, 1, 1, 1, (.uns 8), .wo, false, (.g 0), (.owner 1 2), (.owner 1 2), 0, false, none, [.v 0], (.iv 0 191)⟩,
  -- 0x8301 + c×4:02 AMPLITUDE_SCALE
  ⟨0x8301, 8, 4, 4, 1, 0, 0, 2, 1, 1, (.uns 16), .rw, false, (.g 0), (.owner 1 2), (.owner 1 2), 0, false, none, [.v 65535], (.iv 0 65535)⟩,
  -- 0x8302 + c×4:00 HapticState (highest sub-index)
  ⟨0x8302, 8, 4, 4, 1, 0, 0, 0, 1, 1, (.uns 8), .const, false, .none, (.owner 2 2), .none, 0, false, none, [.v 8], .full⟩,
  -- 0x8302 + c×4:01 STATE: 0 off, 1 idle, 2 playing, 3 braking, 4 faulted
  ⟨0x8302, 8, 4, 4, 1, 0, 0, 1, 1, 1, (.uns 8), .ro, false, .none, (.owner 2 2), .none, 0, false, none, [.v 0], (.iv 0 4)⟩,
  -- 0x8302 + c×4:02 EFFECT_RUNNING
  ⟨0x8302, 8, 4, 4, 1, 0, 0, 2, 1, 1, (.uns 8), .ro, false, .none, (.owner 2 2), .none, 0, false, none, [.v 0], (.iv 0 191)⟩,
  -- 0x8302 + c×4:03 RES_TRACKED_HZ
  ⟨0x8302, 8, 4, 4, 1, 0, 0, 3, 1, 1, (.uns 16), .ro, false, .none, (.owner 2 2), .none, 0, false, none, [.v 170], (.iv 50 500)⟩,
  -- 0x8302 + c×4:04–08 STARTS, SUPERSEDED, REFUSED_STARTS, OVERCURRENTS, BRAKE_TIMEOUTS
  ⟨0x8302, 8, 4, 4, 1, 0, 0, 4, 5, 1, (.uns 32), .ro, false, .none, (.owner 2 2), .none, 0, false, none, [.v 0], .full⟩,
  -- 0x8303 + c×4:00 FAULT_CLEAR: write 1
  ⟨0x8303, 8, 4, 4, 1, 0, 0, 0, 1, 1, (.uns 8), .wo, false, (.g 0), (.owner 3 2), .p0, 0, false, none, [.v 0], (.iv 1 1)⟩,
  -- 0x8320:00 HapticStatus (R46): [0] OVERCURRENT, [1] BRAKE_TIMEOUT, [2] RES_OUT_OF
  ⟨0x8320, 1, 1, 0, 1, 0, 0, 0, 1, 1, (.bits 64), .rw, false, .none, .all, .p0, 0, false, (some (.interval 10000000)), [.v 0], .full⟩,
  -- 0x8330 + n:00 HapticTrigger n, n = 0–7 (highest sub-index)
  ⟨0x8330, 8, 8, 1, 1, 0, 0, 0, 1, 1, (.uns 8), .const, false, .none, .all, .none, 0, false, none, [.v 3], .full⟩,
  -- 0x8330 + n:01 CHANNEL, 0xFF none
  ⟨0x8330, 8, 8, 1, 1, 0, 0, 1, 1, 1, (.uns 8), .rw, true, (.g 53), .all, .p0, 0, false, none, [.v 255], (.pieces [(0, 7), (255, 255)])⟩,
  -- 0x8330 + n:02 EFFECT
  ⟨0x8330, 8, 8, 1, 1, 0, 0, 2, 1, 1, (.uns 8), .rw, true, (.g 53), .all, .p0, 0, false, none, [.v 1], (.iv 1 191)⟩,
  -- 0x8330 + n:03 EDGE: 0 rising, 1 falling, 2 both
  ⟨0x8330, 8, 8, 1, 1, 0, 0, 3, 1, 1, (.uns 8), .rw, true, (.g 53), .all, .p0, 0, false, none, [.v 0], (.iv 0 2)⟩,
  -- 0x8380 + e:00 EffectRecord e, e = 0–191; CONST for e < 128
  ⟨0x8380, 192, 192, 1, 1, 0, 0, 0, 1, 1, (.octet 64), .rw, true, (.g 53), .all, .p0, 0, false, none, [.v 0], .full⟩
  ]

/-- Rows from index 0x8500. -/
def objRows32 : List Row := [
  -- 0x8500 + a×0x10:00 AxisConfig a (highest sub-index)
  ⟨0x8500, 6, 2, 16, 1, 0, 0, 0, 1, 1, (.uns 8), .const, false, .none, (.owner 0 2), .none, 0, false, none, [.v 19], .full⟩,
  -- 0x8500 + a×0x10:01 MODE: 0 STO, 1 position, 2 knob
  ⟨0x8500, 6, 2, 16, 1, 0, 0, 1, 1, 1, (.uns 8), .rw, true, (.g 54), (.owner 0 2), .p0, 0, false, none, [.v 0], (.iv 0 2)⟩,
  -- 0x8500 + a×0x10:02 OWNER
  ⟨0x8500, 6, 2, 16, 1, 0, 0, 2, 1, 1, (.uns 8), .rw, true, (.g 54), (.owner 0 2), .p0, 0, false, none, [.v 0], (.iv 0 15)⟩,
  -- 0x8500 + a×0x10:03 OUTPUT_KIND
  ⟨0x8500, 6, 2, 16, 1, 0, 0, 3, 1, 1, (.uns 8), .rw, true, (.g 54), (.owner 0 2), .p0, 0, false, none, [.v 0], (.iv 0 2)⟩,
  -- 0x8500 + a×0x10:04 ENCODER, 0xFF none
  ⟨0x8500, 6, 2, 16, 1, 0, 0, 4, 1, 1, (.uns 8), .rw, true, (.g 54), (.owner 0 2), .p0, 0, false, none, [.v 255], (.pieces [(0, 7), (255, 255)])⟩,
  -- 0x8500 + a×0x10:05 RATE_HZ
  ⟨0x8500, 6, 2, 16, 1, 0, 0, 5, 1, 1, (.uns 16), .rw, true, (.g 54), (.owner 0 2), .p0, 0, false, none, [.v 5000], (.iv 1000 20000)⟩,
  -- 0x8500 + a×0x10:06 COUNTS_PER_REV
  ⟨0x8500, 6, 2, 16, 1, 0, 0, 6, 1, 1, (.uns 32), .rw, true, (.g 54), (.owner 0 2), .p0, 0, false, none, [.v 4096], (.iv 16 1048576)⟩,
  -- 0x8500 + a×0x10:07 POLE_PAIRS
  ⟨0x8500, 6, 2, 16, 1, 0, 0, 7, 1, 1, (.uns 8), .rw, true, (.g 54), (.owner 0 2), .p0, 0, false, none, [.v 4], (.iv 1 32)⟩,
  -- 0x8500 + a×0x10:08 ELEC_OFFSET, 65,536 = 360°
  ⟨0x8500, 6, 2, 16, 1, 0, 0, 8, 1, 1, (.uns 16), .rw, true, (.g 54), (.owner 0 2), .p0, 0, false, none, [.v 0], (.iv 0 65535)⟩,
  -- 0x8500 + a×0x10:09 PWM_KHZ
  ⟨0x8500, 6, 2, 16, 1, 0, 0, 9, 1, 1, (.uns 8), .rw, true, (.g 54), (.owner 0 2), .p0, 0, false, none, [.v 32], (.iv 16 50)⟩,
  -- 0x8500 + a×0x10:0A TORQUE_LIMIT
  ⟨0x8500, 6, 2, 16, 1, 0, 0, 10, 1, 1, (.uns 16), .rw, true, (.g 54), (.owner 0 2), .p0, 0, false, none, [.v 32767], (.iv 0 32767)⟩,
  -- 0x8500 + a×0x10:0B SPEED_MAX, counts/s
  ⟨0x8500, 6, 2, 16, 1, 0, 0, 11, 1, 1, (.uns 32), .rw, true, (.g 54), (.owner 0 2), .p0, 0, false, none, [.v 100000], (.iv 1 10000000)⟩,
  -- 0x8500 + a×0x10:0C ACCEL_MAX, counts/s²
  ⟨0x8500, 6, 2, 16, 1, 0, 0, 12, 1, 1, (.uns 32), .rw, true, (.g 54), (.owner 0 2), .p0, 0, false, none, [.v 1000000], (.iv 1 1000000000)⟩,
  -- 0x8500 + a×0x10:0D HANDOVER_MS
  ⟨0x8500, 6, 2, 16, 1, 0, 0, 13, 1, 1, (.uns 16), .rw, true, (.g 54), (.owner 0 2), .p0, 0, false, none, [.v 20], (.iv 1 1000)⟩,
  -- 0x8500 + a×0x10:0E HOME: [0] DIR toward LIM_HI, [1] HOME_ON_LIMIT, [2] REQUIRE_HOME, [3]–
  ⟨0x8500, 6, 2, 16, 1, 0, 0, 14, 1, 1, (.bits 32), .rw, true, (.g 54), (.owner 0 2), .p0, 0, false, none, [.v 0], (.mask 0x3F)⟩,
  -- 0x8500 + a×0x10:0F HOMING_SPEED, counts/s
  ⟨0x8500, 6, 2, 16, 1, 0, 0, 15, 1, 1, (.uns 32), .rw, true, (.g 54), (.owner 0 2), .p0, 0, false, none, [.v 10000], (.iv 1 10000000)⟩,
  -- 0x8500 + a×0x10:10 HOME_OFFSET
  ⟨0x8500, 6, 2, 16, 1, 0, 0, 16, 1, 1, (.sgn 32), .rw, true, (.g 54), (.owner 0 2), .p0, 0, false, none, [.v 0], .full⟩,
  -- 0x8500 + a×0x10:11 LIMIT_HYSTERESIS, counts
  ⟨0x8500, 6, 2, 16, 1, 0, 0, 17, 1, 1, (.uns 32), .rw, true, (.g 54), (.owner 0 2), .p0, 0, false, none, [.v 64], (.iv 1 1000000)⟩,
  -- 0x8500 + a×0x10:12 LIMIT_DEBOUNCE_US
  ⟨0x8500, 6, 2, 16, 1, 0, 0, 18, 1, 1, (.uns 16), .rw, true, (.g 54), (.owner 0 2), .p0, 0, false, none, [.v 200], (.iv 10 10000)⟩,
  -- 0x8500 + a×0x10:13 HOMING_TIMEOUT_MS
  ⟨0x8500, 6, 2, 16, 1, 0, 0, 19, 1, 1, (.uns 32), .rw, true, (.g 54), (.owner 0 2), .p0, 0, false, none, [.v 30000], (.iv 1000 600000)⟩,
  -- 0x8501 + a×0x10:00 AxisGains (highest sub-index)
  ⟨0x8501, 6, 2, 16, 1, 0, 0, 0, 1, 1, (.uns 8), .const, false, .none, (.owner 1 2), .none, 0, false, none, [.v 5], .full⟩,
  -- 0x8501 + a×0x10:01 KP_POS
  ⟨0x8501, 6, 2, 16, 1, 0, 0, 1, 1, 1, .f32, .rw, true, (.g 54), (.owner 1 2), .p0, 0, false, none, [.v 1092616192], (.f32 0 1232348160)⟩,
  -- 0x8501 + a×0x10:02 KI_POS
  ⟨0x8501, 6, 2, 16, 1, 0, 0, 2, 1, 1, .f32, .rw, true, (.g 54), (.owner 1 2), .p0, 0, false, none, [.v 0], (.f32 0 1232348160)⟩,
  -- 0x8501 + a×0x10:03 KP_VEL
  ⟨0x8501, 6, 2, 16, 1, 0, 0, 3, 1, 1, .f32, .rw, true, (.g 54), (.owner 1 2), .p0, 0, false, none, [.v 1056964608], (.f32 0 1232348160)⟩,
  -- 0x8501 + a×0x10:04 KI_VEL
  ⟨0x8501, 6, 2, 16, 1, 0, 0, 4, 1, 1, .f32, .rw, true, (.g 54), (.owner 1 2), .p0, 0, false, none, [.v 1084227584], (.f32 0 1232348160)⟩,
  -- 0x8501 + a×0x10:05 EST_BW_HZ
  ⟨0x8501, 6, 2, 16, 1, 0, 0, 5, 1, 1, (.uns 16), .rw, true, (.g 54), (.owner 1 2), .p0, 0, false, none, [.v 500], (.iv 50 5000)⟩,
  -- 0x8502 + a×0x10:00 AxisCommand (highest sub-index)
  ⟨0x8502, 6, 2, 16, 1, 0, 0, 0, 1, 1, (.uns 8), .const, false, .none, (.owner 2 2), .none, 0, false, none, [.v 3], .full⟩,
  -- 0x8502 + a×0x10:01 TARGET_POS
  ⟨0x8502, 6, 2, 16, 1, 0, 0, 1, 1, 1, (.sgn 32), .rw, false, (.g 54), (.owner 2 2), (.owner 2 2), 0, false, none, [.v 0], .full⟩,
  -- 0x8502 + a×0x10:02 HOME_REQUEST: write 1
  ⟨0x8502, 6, 2, 16, 1, 0, 0, 2, 1, 1, (.uns 8), .wo, false, (.g 0), (.owner 2 2), (.owner 2 2), 0, false, none, [.v 0], (.iv 1 1)⟩,
  -- 0x8502 + a×0x10:03 FAULT_CLEAR: write 1
  ⟨0x8502, 6, 2, 16, 1, 0, 0, 3, 1, 1, (.uns 8), .wo, false, (.g 0), (.owner 2 2), .p0, 0, false, none, [.v 0], (.iv 1 1)⟩
  ]

/-- Rows from index 0x8503. -/
def objRows33 : List Row := [
  -- 0x8503 + a×0x10:00 AxisState (highest sub-index)
  ⟨0x8503, 6, 2, 16, 1, 0, 0, 0, 1, 1, (.uns 8), .const, false, .none, (.owner 3 2), .none, 0, false, none, [.v 8], .full⟩,
  -- 0x8503 + a×0x10:01 STATE: 0 STO, 1 position, 2 knob, 3 homing, 4 hold, 5 hand-over
  ⟨0x8503, 6, 2, 16, 1, 0, 0, 1, 1, 1, (.uns 8), .ro, false, .none, (.owner 3 2), .none, 0, false, none, [.v 0], (.iv 0 5)⟩,
  -- 0x8503 + a×0x10:02 POSITION, 32-bit, wraps
  ⟨0x8503, 6, 2, 16, 1, 0, 0, 2, 1, 1, (.sgn 32), .ro, false, .none, (.owner 3 2), .none, 0, false, none, [.v 0], .full⟩,
  -- 0x8503 + a×0x10:03 VELOCITY, counts/s
  ⟨0x8503, 6, 2, 16, 1, 0, 0, 3, 1, 1, (.sgn 32), .ro, false, .none, (.owner 3 2), .none, 0, false, none, [.v 0], .full⟩,
  -- 0x8503 + a×0x10:04 OUTPUT
  ⟨0x8503, 6, 2, 16, 1, 0, 0, 4, 1, 1, (.sgn 16), .ro, false, .none, (.owner 3 2), .none, 0, false, none, [.v 0], (.iv (-32767) 32767)⟩,
  -- 0x8503 + a×0x10:05 HOMED
  ⟨0x8503, 6, 2, 16, 1, 0, 0, 5, 1, 1, .bool, .ro, false, .none, (.owner 3 2), .none, 0, false, none, [.v 0], (.iv 0 1)⟩,
  -- 0x8503 + a×0x10:06 LIMITS: [0] LO latched, [1] HI latched, [2] HOME level
  ⟨0x8503, 6, 2, 16, 1, 0, 0, 6, 1, 1, (.bits 32), .ro, false, .none, (.owner 3 2), .none, 0, false, none, [.v 0], (.mask 0x7)⟩,
  -- 0x8503 + a×0x10:07 FAULT: 0 none, 1 overrun, 2 opposite limit, 3 both limits, 4 encoder, 
  ⟨0x8503, 6, 2, 16, 1, 0, 0, 7, 1, 1, (.uns 8), .ro, false, .none, (.owner 3 2), .none, 0, false, none, [.v 0], (.iv 0 6)⟩,
  -- 0x8503 + a×0x10:08 HANDOVER_LEFT_MS
  ⟨0x8503, 6, 2, 16, 1, 0, 0, 8, 1, 1, (.uns 16), .ro, false, .none, (.owner 3 2), .none, 0, false, none, [.v 0], (.iv 0 1000)⟩,
  -- 0x8504 + a×0x10:00 (highest sub-index)
  ⟨0x8504, 6, 2, 16, 1, 0, 0, 0, 1, 1, (.uns 8), .const, false, .none, (.owner 4 2), .none, 0, false, none, [.v 5], .full⟩,
  -- 0x8504 + a×0x10:01–05 AxisCounters: OVERRUNS, LIMIT_TRIPS, CHATTERS, STO_ENTRIES, HOMINGS_FA
  ⟨0x8504, 6, 2, 16, 1, 0, 0, 1, 5, 1, (.uns 32), .ro, false, .none, (.owner 4 2), .none, 0, false, none, [.v 0], .full⟩,
  -- 0x8505 + a×0x10:00 KnobConfig (highest sub-index)
  ⟨0x8505, 6, 2, 16, 1, 0, 0, 0, 1, 1, (.uns 8), .const, false, .none, (.owner 5 2), .none, 0, false, none, [.v 4], .full⟩,
  -- 0x8505 + a×0x10:01 MIN_POS
  ⟨0x8505, 6, 2, 16, 1, 0, 0, 1, 1, 1, (.sgn 32), .rw, false, (.g 54), (.owner 5 2), (.owner 5 2), 0, false, none, [.v (-2147483648)], .full⟩,
  -- 0x8505 + a×0x10:02 MAX_POS
  ⟨0x8505, 6, 2, 16, 1, 0, 0, 2, 1, 1, (.sgn 32), .rw, false, (.g 54), (.owner 5 2), (.owner 5 2), 0, false, none, [.v 2147483647], .full⟩,
  -- 0x8505 + a×0x10:03 WALL_GAIN
  ⟨0x8505, 6, 2, 16, 1, 0, 0, 3, 1, 1, .f32, .rw, false, (.g 54), (.owner 5 2), (.owner 5 2), 0, false, none, [.v 0], (.f32 0 1232348160)⟩,
  -- 0x8505 + a×0x10:04 DETENTS_PER_REV
  ⟨0x8505, 6, 2, 16, 1, 0, 0, 4, 1, 1, (.uns 16), .rw, false, (.g 54), (.owner 5 2), (.owner 5 2), 0, false, none, [.v 24], (.iv 1 1024)⟩,
  -- 0x8506 + a×0x10:00 DetentTable: 1,024 × I16
  ⟨0x8506, 6, 2, 16, 1, 0, 0, 0, 1, 1, (.octet 2048), .rw, true, (.g 54), (.owner 6 2), .p0, 0, false, none, [.v 0], .full⟩,
  -- 0x8507 + a×0x10:00 KnobState (highest sub-index)
  ⟨0x8507, 6, 2, 16, 1, 0, 0, 0, 1, 1, (.uns 8), .const, false, .none, (.owner 7 2), .none, 0, false, none, [.v 2], .full⟩,
  -- 0x8507 + a×0x10:01 DETENT_INDEX
  ⟨0x8507, 6, 2, 16, 1, 0, 0, 1, 1, 1, (.sgn 32), .ro, false, .none, (.owner 7 2), .none, 0, false, none, [.v 0], .full⟩,
  -- 0x8507 + a×0x10:02 FROZEN
  ⟨0x8507, 6, 2, 16, 1, 0, 0, 2, 1, 1, .bool, .ro, false, .none, (.owner 7 2), .none, 0, false, none, [.v 0], (.iv 0 1)⟩,
  -- 0x8580 + k×4:00 EncoderConfig k, k = 0–7 (highest sub-index)
  ⟨0x8580, 8, 8, 4, 1, 0, 0, 0, 1, 1, (.uns 8), .const, false, .none, .all, .none, 0, false, none, [.v 3], .full⟩,
  -- 0x8580 + k×4:01 FILTER_SAMPLES
  ⟨0x8580, 8, 8, 4, 1, 0, 0, 1, 1, 1, (.uns 8), .rw, true, (.g 54), .all, .p0, 0, false, none, [.v 4], (.iv 1 31)⟩,
  -- 0x8580 + k×4:02 INVERT: [0] swap A and B, [1] invert index
  ⟨0x8580, 8, 8, 4, 1, 0, 0, 2, 1, 1, (.bits 32), .rw, true, (.g 54), .all, .p0, 0, false, none, [.v 0], (.mask 0x3)⟩,
  -- 0x8580 + k×4:03 ENC_CLEAR: write 1
  ⟨0x8580, 8, 8, 4, 1, 0, 0, 3, 1, 1, (.uns 8), .wo, false, (.g 0), .all, .p0, 0, false, none, [.v 0], (.iv 1 1)⟩,
  -- 0x8581 + k×4:00 EncoderState (highest sub-index)
  ⟨0x8581, 8, 8, 4, 1, 0, 0, 0, 1, 1, (.uns 8), .const, false, .none, .all, .none, 0, false, none, [.v 4], .full⟩,
  -- 0x8581 + k×4:01–02 COUNT, INDEX_LATCH; 32-bit, wrap
  ⟨0x8581, 8, 8, 4, 1, 0, 0, 1, 2, 1, (.sgn 32), .ro, false, .none, .all, .none, 0, false, none, [.v 0], .full⟩,
  -- 0x8581 + k×4:03 FAULTY
  ⟨0x8581, 8, 8, 4, 1, 0, 0, 3, 1, 1, .bool, .ro, false, .none, .all, .none, 0, false, none, [.v 0], (.iv 0 1)⟩,
  -- 0x8581 + k×4:04 PHASE_ERRORS
  ⟨0x8581, 8, 8, 4, 1, 0, 0, 4, 1, 1, (.uns 32), .ro, false, .none, .all, .none, 0, false, none, [.v 0], .full⟩,
  -- 0x85A0:00 LoopEngine (highest sub-index)
  ⟨0x85A0, 1, 1, 0, 1, 0, 0, 0, 1, 1, (.uns 8), .const, false, .none, .all, .none, 0, false, none, [.v 3], .full⟩,
  -- 0x85A0:01–02 PLANNED_LOAD_BP, MEASURED_LOAD_BP
  ⟨0x85A0, 1, 1, 0, 1, 0, 0, 1, 2, 1, (.uns 16), .ro, false, .none, .all, .none, 0, false, none, [.v 0], (.iv 0 10000)⟩
  ]

/-- Rows from index 0x85A0. -/
def objRows34 : List Row := [
  -- 0x85A0:03 CLOCK_HZ
  ⟨0x85A0, 1, 1, 0, 1, 0, 0, 3, 1, 1, (.uns 32), .const, false, .none, .all, .none, 0, false, none, [.v 192000000], .full⟩,
  -- 0x85A1:00 MotionStatus (R46): [0] LIMIT, [1] CHATTER, [2] PHASE_ERROR, [3] ENCOD
  ⟨0x85A1, 1, 1, 0, 1, 0, 0, 0, 1, 1, (.bits 64), .rw, false, .none, .all, .p0, 0, false, (some (.interval 10000000)), [.v 0], .full⟩
  ]

/-- Rows from index 0x8800. -/
def objRows35 : List Row := [
  -- 0x8800:00 AudioConfig (highest sub-index)
  ⟨0x8800, 1, 1, 0, 1, 0, 0, 0, 1, 1, (.uns 8), .const, false, .none, .all, .none, 0, false, none, [.v 5], .full⟩,
  -- 0x8800:01 MIX_RATE; at next PD17 reset
  ⟨0x8800, 1, 1, 0, 1, 0, 0, 1, 1, 1, (.uns 32), .rw, true, (.g 18), .all, .p0, 0, false, none, [.v 48000], (.pieces [(48000, 48000), (96000, 96000)])⟩,
  -- 0x8800:02 MEDIA_CLOCK: 0 CK2, 1 Wall time
  ⟨0x8800, 1, 1, 0, 1, 0, 0, 2, 1, 1, (.uns 8), .rw, true, (.g 18), .all, .p0, 0, false, none, [.v 0], (.iv 0 1)⟩,
  -- 0x8800:03 SILENCE_LEVEL, Q8.24 (531 ≈ −90 dBFS)
  ⟨0x8800, 1, 1, 0, 1, 0, 0, 3, 1, 1, (.uns 32), .rw, true, (.g 18), .all, .p0, 0, false, none, [.v 531], (.iv 17 167772)⟩,
  -- 0x8800:04 SILENCE_HOLD_MS
  ⟨0x8800, 1, 1, 0, 1, 0, 0, 4, 1, 1, (.uns 16), .rw, true, (.g 18), .all, .p0, 0, false, none, [.v 2000], (.iv 10 60000)⟩,
  -- 0x8800:05 ASRC_IN_USE
  ⟨0x8800, 1, 1, 0, 1, 0, 0, 5, 1, 1, (.uns 8), .ro, false, .none, .all, .none, 0, false, none, [.v 0], (.iv 0 32)⟩,
  -- 0x8801:00 AudioStatus (R46): [0] CLIP, [1] LIMIT_CLAMP, [2] SOURCE_LOST, [3] RIN
  ⟨0x8801, 1, 1, 0, 1, 0, 0, 0, 1, 1, (.bits 64), .rw, false, .none, .all, .p0, 0, false, (some (.interval 10000000)), [.v 0], .full⟩,
  -- 0x8802:00 (highest sub-index)
  ⟨0x8802, 1, 1, 0, 1, 0, 0, 0, 1, 1, (.uns 8), .const, false, .none, .all, .none, 0, false, none, [.v 6], .full⟩,
  -- 0x8802:01–06 AudioCounters: MIX_CLIPS, LIMIT_CLAMPS, RING_UNDERRUNS, AVB_LATE_PACKE
  ⟨0x8802, 1, 1, 0, 1, 0, 0, 1, 6, 1, (.uns 32), .ro, false, .none, .all, .none, 0, false, none, [.v 0], .full⟩,
  -- 0x8810 + k:00 (highest sub-index)
  ⟨0x8810, 4, 4, 1, 1, 0, 0, 0, 1, 1, (.uns 8), .const, false, .none, .all, .none, 0, false, none, [.v 6], .full⟩,
  -- 0x8810 + k:01 ENABLE
  ⟨0x8810, 4, 4, 1, 1, 0, 0, 1, 1, 1, (.uns 32), .rw, true, (.g 18), .all, .p0, 0, false, none, [.v 0], (.iv 0 1)⟩,
  -- 0x8810 + k:02 ROLE
  ⟨0x8810, 4, 4, 1, 1, 0, 0, 2, 1, 1, (.uns 32), .rw, true, (.g 18), .all, .p0, 0, false, none, [.v 1], (.iv 0 1)⟩,
  -- 0x8810 + k:03 RATE_HZ
  ⟨0x8810, 4, 4, 1, 1, 0, 0, 3, 1, 1, (.uns 32), .rw, true, (.g 18), .all, .p0, 0, false, none, [.v 48000], (.pieces [(44100, 44100), (48000, 48000), (88200, 88200), (96000, 96000)])⟩,
  -- 0x8810 + k:04 SLOTS
  ⟨0x8810, 4, 4, 1, 1, 0, 0, 4, 1, 1, (.uns 32), .rw, true, (.g 18), .all, .p0, 0, false, none, [.v 8], (.iv 2 16)⟩,
  -- 0x8810 + k:05 SLOT_BITS
  ⟨0x8810, 4, 4, 1, 1, 0, 0, 5, 1, 1, (.uns 32), .rw, true, (.g 18), .all, .p0, 0, false, none, [.v 32], (.pieces [(16, 16), (24, 24), (32, 32)])⟩,
  -- 0x8810 + k:06 FORMAT
  ⟨0x8810, 4, 4, 1, 1, 0, 0, 6, 1, 1, (.uns 32), .rw, true, (.g 18), .all, .p0, 0, false, none, [.v 1], (.iv 0 3)⟩,
  -- 0x8818 + k:00 (highest sub-index)
  ⟨0x8818, 4, 4, 1, 1, 0, 0, 0, 1, 1, (.uns 8), .const, false, .none, .all, .none, 0, false, none, [.v 2], .full⟩,
  -- 0x8818 + k:01 ENABLE
  ⟨0x8818, 4, 4, 1, 1, 0, 0, 1, 1, 1, (.uns 32), .rw, true, (.g 18), .all, .p0, 0, false, none, [.v 0], (.iv 0 1)⟩,
  -- 0x8818 + k:02 CLK_KHZ
  ⟨0x8818, 4, 4, 1, 1, 0, 0, 2, 1, 1, (.uns 32), .rw, true, (.g 18), .all, .p0, 0, false, none, [.v 3072], (.iv 768 6144)⟩,
  -- 0x8820 + s:00 (highest sub-index)
  ⟨0x8820, 16, 16, 1, 1, 0, 0, 0, 1, 1, (.uns 8), .const, false, .none, .all, .none, 0, false, none, [.v 6], .full⟩,
  -- 0x8820 + s:01 ENABLE
  ⟨0x8820, 16, 16, 1, 1, 0, 0, 1, 1, 1, (.uns 64), .rw, true, (.g 18), .all, .p0, 0, false, none, [.v 0], (.iv 0 1)⟩,
  -- 0x8820 + s:02 MAC
  ⟨0x8820, 16, 16, 1, 1, 0, 0, 2, 1, 1, (.uns 64), .rw, true, (.g 18), .all, .p0, 0, false, none, [.v 0], (.iv 0 1)⟩,
  -- 0x8820 + s:03 CHANNELS
  ⟨0x8820, 16, 16, 1, 1, 0, 0, 3, 1, 1, (.uns 64), .rw, true, (.g 18), .all, .p0, 0, false, none, [.v 2], (.iv 1 8)⟩,
  -- 0x8820 + s:04 STREAM_ID
  ⟨0x8820, 16, 16, 1, 1, 0, 0, 4, 1, 1, (.uns 64), .rw, true, (.g 18), .all, .p0, 0, false, none, [.v 0], .full⟩,
  -- 0x8820 + s:05 DEST_MAC
  ⟨0x8820, 16, 16, 1, 1, 0, 0, 5, 1, 1, (.uns 64), .rw, true, (.g 18), .all, .p0, 0, false, none, [.v 0], (.iv 0 281474976710655)⟩,
  -- 0x8820 + s:06 PRESENTATION_US
  ⟨0x8820, 16, 16, 1, 1, 0, 0, 6, 1, 1, (.uns 64), .rw, true, (.g 18), .all, .p0, 0, false, none, [.v 2000], (.iv 2000 50000)⟩,
  -- 0x8840 + i:00 (highest sub-index)
  ⟨0x8840, 64, 64, 1, 1, 0, 0, 0, 1, 1, (.uns 8), .const, false, .none, (.owner 0 5), .none, 0, false, none, [.v 7], .full⟩,
  -- 0x8840 + i:01 KIND (R405)
  ⟨0x8840, 64, 64, 1, 1, 0, 0, 1, 1, 1, (.uns 8), .rw, true, (.g 18), (.owner 0 5), .p0, 0, false, none, [.v 0], (.iv 0 6)⟩,
  -- 0x8840 + i:02 PORT
  ⟨0x8840, 64, 64, 1, 1, 0, 0, 2, 1, 1, (.uns 8), .rw, true, (.g 18), (.owner 0 5), .p0, 0, false, none, [.v 0], (.special 18)⟩,
  -- 0x8840 + i:03 SLOT
  ⟨0x8840, 64, 64, 1, 1, 0, 0, 3, 1, 1, (.uns 8), .rw, true, (.g 18), (.owner 0 5), .p0, 0, false, none, [.v 0], (.special 19)⟩
  ]

/-- Rows from index 0x8840. -/
def objRows36 : List Row := [
  -- 0x8840 + i:04 GAIN, Q8.24
  ⟨0x8840, 64, 64, 1, 1, 0, 0, 4, 1, 1, (.sgn 32), .rw, false, (.g 0), (.owner 0 5), (.owner 0 5), 0, false, none, [.v 16777216], .full⟩,
  -- 0x8840 + i:05 OWNER
  ⟨0x8840, 64, 64, 1, 1, 0, 0, 5, 1, 1, (.uns 8), .rw, true, (.g 18), (.owner 0 5), .p0, 0, false, none, [.v 0], (.iv 0 15)⟩,
  -- 0x8840 + i:06 PEAK over the last block
  ⟨0x8840, 64, 64, 1, 1, 0, 0, 6, 1, 1, (.uns 32), .ro, false, .none, (.owner 0 5), .none, 0, false, none, [.v 0], .full⟩,
  -- 0x8840 + i:07 SILENT
  ⟨0x8840, 64, 64, 1, 1, 0, 0, 7, 1, 1, .bool, .ro, false, .none, (.owner 0 5), .none, 0, false, none, [.v 0], .full⟩,
  -- 0x8880 + o:00 (highest sub-index)
  ⟨0x8880, 32, 32, 1, 1, 0, 0, 0, 1, 1, (.uns 8), .const, false, .none, (.owner 0 4), .none, 0, false, none, [.v 9], .full⟩,
  -- 0x8880 + o:01 KIND (R405)
  ⟨0x8880, 32, 32, 1, 1, 0, 0, 1, 1, 1, (.uns 8), .rw, true, (.g 18), (.owner 0 4), .p0, 0, false, none, [.v 0], (.iv 0 3)⟩,
  -- 0x8880 + o:02 PORT
  ⟨0x8880, 32, 32, 1, 1, 0, 0, 2, 1, 1, (.uns 8), .rw, true, (.g 18), (.owner 0 4), .p0, 0, false, none, [.v 0], (.special 20)⟩,
  -- 0x8880 + o:03 SLOT
  ⟨0x8880, 32, 32, 1, 1, 0, 0, 3, 1, 1, (.uns 8), .rw, true, (.g 18), (.owner 0 4), .p0, 0, false, none, [.v 0], (.special 21)⟩,
  -- 0x8880 + o:04 OWNER
  ⟨0x8880, 32, 32, 1, 1, 0, 0, 4, 1, 1, (.uns 8), .rw, true, (.g 18), (.owner 0 4), .p0, 0, false, none, [.v 0], (.iv 0 15)⟩,
  -- 0x8880 + o:05 GAIN, Q8.24
  ⟨0x8880, 32, 32, 1, 1, 0, 0, 5, 1, 1, (.sgn 32), .rw, false, (.g 0), (.owner 0 4), (.owner 0 4), 0, false, none, [.v 16777216], .full⟩,
  -- 0x8880 + o:06 MUTE
  ⟨0x8880, 32, 32, 1, 1, 0, 0, 6, 1, 1, .bool, .rw, false, (.g 0), (.owner 0 4), (.owner 0 4), 0, false, none, [.v 0], (.iv 0 1)⟩,
  -- 0x8880 + o:07 DELAY_SAMPLES
  ⟨0x8880, 32, 32, 1, 1, 0, 0, 7, 1, 1, (.uns 16), .rw, true, (.g 18), (.owner 0 4), .p0, 0, false, none, [.v 0], (.iv 0 1920)⟩,
  -- 0x8880 + o:08 PEAK
  ⟨0x8880, 32, 32, 1, 1, 0, 0, 8, 1, 1, (.uns 32), .ro, false, .none, (.owner 0 4), .none, 0, false, none, [.v 0], .full⟩,
  -- 0x8880 + o:09 SILENT
  ⟨0x8880, 32, 32, 1, 1, 0, 0, 9, 1, 1, .bool, .ro, false, .none, (.owner 0 4), .none, 0, false, none, [.v 0], .full⟩,
  -- 0x88A0 + o:00 OutputBiquads: 10 × (b0, b1, b2, a1, a2) I32
  ⟨0x88A0, 32, 32, 1, 1, 0, 0, 0, 1, 1, (.octet 200), .rw, true, (.g 18), .all, .p0, 0, false, none, [.v 0], .full⟩,
  -- 0x88C0 + o:00 (highest sub-index)
  ⟨0x88C0, 32, 32, 1, 1, 0, 0, 0, 1, 1, (.uns 8), .const, false, .none, .all, .none, 0, false, none, [.v 7], .full⟩,
  -- 0x88C0 + o:01 COMP_THRESHOLD
  ⟨0x88C0, 32, 32, 1, 1, 0, 0, 1, 1, 1, (.uns 32), .rw, true, (.g 18), .all, .p0, 0, false, none, [.v 16777216], .full⟩,
  -- 0x88C0 + o:02 COMP_RATIO (x16)
  ⟨0x88C0, 32, 32, 1, 1, 0, 0, 2, 1, 1, (.uns 32), .rw, true, (.g 18), .all, .p0, 0, false, none, [.v 16], (.iv 16 320)⟩,
  -- 0x88C0 + o:03 ATTACK_MS
  ⟨0x88C0, 32, 32, 1, 1, 0, 0, 3, 1, 1, (.uns 32), .rw, true, (.g 18), .all, .p0, 0, false, none, [.v 5], (.iv 1 1000)⟩,
  -- 0x88C0 + o:04 RELEASE_MS
  ⟨0x88C0, 32, 32, 1, 1, 0, 0, 4, 1, 1, (.uns 32), .rw, true, (.g 18), .all, .p0, 0, false, none, [.v 100], (.iv 1 1000)⟩,
  -- 0x88C0 + o:05 MAKEUP
  ⟨0x88C0, 32, 32, 1, 1, 0, 0, 5, 1, 1, (.uns 32), .rw, true, (.g 18), .all, .p0, 0, false, none, [.v 16777216], .full⟩,
  -- 0x88C0 + o:06 LIMIT_CEILING (P0)
  ⟨0x88C0, 32, 32, 1, 1, 0, 0, 6, 1, 1, (.uns 32), .rw, true, (.g 18), .all, .p0, 0, false, none, [.v 16777215], (.iv 4194304 16777215)⟩,
  -- 0x88C0 + o:07 LIMIT_RELEASE_MS
  ⟨0x88C0, 32, 32, 1, 1, 0, 0, 7, 1, 1, (.uns 32), .rw, true, (.g 18), .all, .p0, 0, false, none, [.v 50], (.iv 5 1000)⟩,
  -- 0x8900 + i:00 (highest sub-index)
  ⟨0x8900, 64, 64, 1, 1, 0, 0, 0, 1, 1, (.uns 8), .const, false, .none, (.owner 192 5), .none, 0, false, none, [.v 32], .full⟩,
  -- 0x8900 + i:01–20 MixerRow i: gain to output j = sub − 1, Q8.24
  ⟨0x8900, 64, 64, 1, 1, 0, 0, 1, 32, 1, (.sgn 32), .rw, false, (.g 0), (.owner 192 5), (.owner 192 5), 0, false, none, [.v 0], .full⟩,
  -- 0x8980 + p:00 (highest sub-index)
  ⟨0x8980, 16, 8, 1, 1, 0, 0, 0, 1, 1, (.uns 8), .const, false, .none, .inst, .none, 0, false, none, [.v 7], .full⟩,
  -- 0x8980 + p:01 ENABLE
  ⟨0x8980, 16, 8, 1, 1, 0, 0, 1, 1, 1, (.uns 64), .rw, false, (.g 0), .inst, .inst, 0, false, none, [.v 0], (.iv 0 1)⟩,
  -- 0x8980 + p:02 RING_BASE
  ⟨0x8980, 16, 8, 1, 1, 0, 0, 2, 1, 1, (.uns 64), .rw, false, (.g 0), .inst, .inst, 0, false, none, [.v 0], (.step 0 18446744073709547520 4096)⟩,
  -- 0x8980 + p:03 RING_LOG2
  ⟨0x8980, 16, 8, 1, 1, 0, 0, 3, 1, 1, (.uns 64), .rw, false, (.g 0), .inst, .inst, 0, false, none, [.v 4], (.iv 2 10)⟩,
  -- 0x8980 + p:04 CHANNELS
  ⟨0x8980, 16, 8, 1, 1, 0, 0, 4, 1, 1, (.uns 64), .rw, false, (.g 0), .inst, .inst, 0, false, none, [.v 2], (.iv 1 8)⟩
  ]

/-- Rows from index 0x8980. -/
def objRows37 : List Row := [
  -- 0x8980 + p:05 PRODUCER
  ⟨0x8980, 16, 8, 1, 1, 0, 0, 5, 1, 1, (.uns 64), .rw, false, (.g 0), .inst, .inst, 0, false, none, [.v 0], (.iv 0 4294967295)⟩,
  -- 0x8980 + p:06 CONSUMER
  ⟨0x8980, 16, 8, 1, 1, 0, 0, 6, 1, 1, (.uns 64), .ro, false, .none, .inst, .none, 0, false, none, [.v 0], (.iv 0 4294967295)⟩,
  -- 0x8980 + p:07 MSI_VECTOR
  ⟨0x8980, 16, 8, 1, 1, 0, 0, 7, 1, 1, (.uns 64), .rw, false, (.g 0), .inst, .inst, 0, false, none, [.v 0], (.iv 0 2047)⟩,
  -- 0x89A0:00 (highest sub-index)
  ⟨0x89A0, 1, 1, 0, 1, 0, 0, 0, 1, 1, (.uns 8), .const, false, .none, .all, .none, 0, false, none, [.v 10], .full⟩,
  -- 0x89A0:01–08 AmpControl: AMP_MAP n = sub − 1, bit o for output o
  ⟨0x89A0, 1, 1, 0, 1, 0, 0, 1, 8, 1, (.bits 32), .rw, true, (.g 18), .all, .p0, 0, false, none, [.v 0], (.mask 0xFFFFFFFF)⟩,
  -- 0x89A0:09 AMP_FORCE: bit n
  ⟨0x89A0, 1, 1, 0, 1, 0, 0, 9, 1, 1, (.bits 32), .rw, false, (.g 0), .all, .p0, 0, false, none, [.v 0], (.mask 0xFF)⟩,
  -- 0x89A0:0A AMP_STATE: bit n high
  ⟨0x89A0, 1, 1, 0, 1, 0, 0, 10, 1, 1, (.bits 32), .ro, false, .none, .all, .none, 0, false, none, [.v 0], (.mask 0xFF)⟩,
  -- 0x89C0:00 (highest sub-index)
  ⟨0x89C0, 1, 1, 0, 1, 0, 0, 0, 1, 1, (.uns 8), .const, false, .none, .all, .none, 0, false, none, [.v 5], .full⟩,
  -- 0x89C0:01 ChimeControl: CHIME_OUTPUTS
  ⟨0x89C0, 1, 1, 0, 1, 0, 0, 1, 1, 1, (.bits 32), .rw, true, (.g 57), .all, .markhor, 0, false, none, [.v 0], (.mask 0xFFFFFFFF)⟩,
  -- 0x89C0:02 CHIME_GAIN, Q8.24
  ⟨0x89C0, 1, 1, 0, 1, 0, 0, 2, 1, 1, (.uns 32), .rw, true, (.g 57), .all, .markhor, 0, false, none, [.v 8388608], (.iv 1058571 16777216)⟩,
  -- 0x89C0:03 DUCK_GAIN, Q8.24
  ⟨0x89C0, 1, 1, 0, 1, 0, 0, 3, 1, 1, (.uns 32), .rw, true, (.g 57), .all, .markhor, 0, false, none, [.v 1677722], (.iv 0 16777216)⟩,
  -- 0x89C0:04 DUCK_RELEASE_MS
  ⟨0x89C0, 1, 1, 0, 1, 0, 0, 4, 1, 1, (.uns 16), .rw, true, (.g 57), .all, .markhor, 0, false, none, [.v 200], (.iv 10 5000)⟩,
  -- 0x89C0:05 VOICES_ACTIVE: bit v
  ⟨0x89C0, 1, 1, 0, 1, 0, 0, 5, 1, 1, (.bits 32), .ro, false, .none, .all, .none, 0, false, none, [.v 0], (.mask 0xFFFF)⟩
  ]

/-- Rows from index 0x8C00. -/
def objRows38 : List Row := [
  -- 0x8C00:00 EventControl (highest sub-index)
  ⟨0x8C00, 1, 1, 0, 1, 0, 0, 0, 1, 1, (.uns 8), .const, false, .none, .p0, .none, 0, false, none, [.v 2], .full⟩,
  -- 0x8C00:01 COALESCE_MS
  ⟨0x8C00, 1, 1, 0, 1, 0, 0, 1, 1, 1, (.uns 16), .rw, true, (.g 60), .p0, .p0, 0, false, none, [.v 1000], (.iv 10 60000)⟩,
  -- 0x8C00:02 PATH_LIMIT
  ⟨0x8C00, 1, 1, 0, 1, 0, 0, 2, 1, 1, (.uns 16), .rw, true, (.g 60), .p0, .p0, 0, false, none, [.v 1024], (.iv 64 4096)⟩,
  -- 0x8C01:00 EventStatus (R46): [0] DROPPED, [1] CRITICAL_MERGED, [2] COALESCE_FULL
  ⟨0x8C01, 1, 1, 0, 1, 0, 0, 0, 1, 1, (.bits 64), .rw, false, .none, .p0, .p0, 0, false, (some (.interval 10000000)), [.v 0], .full⟩,
  -- 0x8C02:00 EventCounters (highest sub-index)
  ⟨0x8C02, 1, 1, 0, 1, 0, 0, 0, 1, 1, (.uns 8), .const, false, .none, .p0, .none, 0, false, none, [.v 10], .full⟩,
  -- 0x8C02:01 GENERATED, occurrences, 64-bit, does not wrap in service
  ⟨0x8C02, 1, 1, 0, 1, 0, 0, 1, 1, 1, (.uns 64), .ro, false, .none, .p0, .none, 0, false, none, [.v 0], .full⟩,
  -- 0x8C02:02–06 DROPPED per severity, Error to Debug
  ⟨0x8C02, 1, 1, 0, 1, 0, 0, 2, 5, 1, (.uns 32), .ro, false, .none, .p0, .none, 0, false, none, [.v 0], .full⟩,
  -- 0x8C02:07–0A BUCKET_DROPS, COALESCED, CRITICAL_MERGED, COALESCE_FULL
  ⟨0x8C02, 1, 1, 0, 1, 0, 0, 7, 4, 1, (.uns 32), .ro, false, .none, .p0, .none, 0, false, none, [.v 0], .full⟩,
  -- 0x8C03:00 EventStore (highest sub-index)
  ⟨0x8C03, 1, 1, 0, 1, 0, 0, 0, 1, 1, (.uns 8), .const, false, .none, .p0, .none, 0, false, none, [.v 3], .full⟩,
  -- 0x8C03:01–03 CRITICAL_IN_USE, SHARED_IN_USE, SHARED_PEAK
  ⟨0x8C03, 1, 1, 0, 1, 0, 0, 1, 3, 1, (.uns 16), .ro, false, .none, .p0, .none, 0, false, none, [.v 0], (.iv 0 4096)⟩,
  -- 0x8C10 + c:00 EventSourceClass c, c = 0–15 (highest sub-index)
  ⟨0x8C10, 16, 16, 1, 1, 0, 0, 0, 1, 1, (.uns 8), .const, false, .none, .p0, .none, 0, false, none, [.v 3], .full⟩,
  -- 0x8C10 + c:01 RATE_PER_S
  ⟨0x8C10, 16, 16, 1, 1, 0, 0, 1, 1, 1, (.uns 16), .rw, true, (.g 60), .p0, .p0, 0, false, none, [.v 100], (.iv 1 10000)⟩,
  -- 0x8C10 + c:02 BURST
  ⟨0x8C10, 16, 16, 1, 1, 0, 0, 2, 1, 1, (.uns 16), .rw, true, (.g 60), .p0, .p0, 0, false, none, [.v 50], (.iv 1 4096)⟩,
  -- 0x8C10 + c:03 MIN_SEVERITY
  ⟨0x8C10, 16, 16, 1, 1, 0, 0, 3, 1, 1, (.uns 8), .rw, true, (.g 60), .p0, .p0, 0, false, none, [.v 4], (.iv 1 5)⟩,
  -- 0x8C40 + p:00 EventRing p, p = 0–15 (0–7 Compact); read and written by p and P0 (hig
  ⟨0x8C40, 16, 8, 1, 1, 0, 0, 0, 1, 1, (.uns 8), .const, false, .none, .inst, .none, 0, false, none, [.v 9], .full⟩,
  -- 0x8C40 + p:01 ENABLE
  ⟨0x8C40, 16, 8, 1, 1, 0, 0, 1, 1, 1, .bool, .rw, false, (.g 0), .inst, .inst, 0, false, none, [.v 0], (.iv 0 1)⟩,
  -- 0x8C40 + p:02 RING_BASE, bus address
  ⟨0x8C40, 16, 8, 1, 1, 0, 0, 2, 1, 1, (.uns 64), .rw, false, (.g 0), .inst, .inst, 0, false, none, [.v 0], (.step 0 18446744073709547520 4096)⟩,
  -- 0x8C40 + p:03 RING_LOG2
  ⟨0x8C40, 16, 8, 1, 1, 0, 0, 3, 1, 1, (.uns 8), .rw, false, (.g 0), .inst, .inst, 0, false, none, [.v 8], (.iv 6 16)⟩,
  -- 0x8C40 + p:04 PRODUCER
  ⟨0x8C40, 16, 8, 1, 1, 0, 0, 4, 1, 1, (.uns 32), .ro, false, .none, .inst, .none, 0, false, none, [.v 0], .full⟩,
  -- 0x8C40 + p:05 CONSUMER
  ⟨0x8C40, 16, 8, 1, 1, 0, 0, 5, 1, 1, (.uns 32), .rw, false, (.g 0), .inst, .inst, 0, false, none, [.v 0], .full⟩,
  -- 0x8C40 + p:06 MSI_VECTOR
  ⟨0x8C40, 16, 8, 1, 1, 0, 0, 6, 1, 1, (.uns 16), .rw, false, (.g 0), .inst, .inst, 0, false, none, [.v 0], (.iv 0 2047)⟩,
  -- 0x8C40 + p:07 MIN_SEVERITY
  ⟨0x8C40, 16, 8, 1, 1, 0, 0, 7, 1, 1, (.uns 8), .rw, false, (.g 0), .inst, .inst, 0, false, none, [.v 4], (.iv 0 5)⟩,
  -- 0x8C40 + p:08–09 DROPPED, LOSS_SUMMARIES
  ⟨0x8C40, 16, 8, 1, 1, 0, 0, 8, 2, 1, (.uns 32), .ro, false, .none, .inst, .none, 0, false, none, [.v 0], .full⟩,
  -- 0x8C60:00 SafeOkState, readable by all (highest sub-index)
  ⟨0x8C60, 1, 1, 0, 1, 0, 0, 0, 1, 1, (.uns 8), .const, false, .none, .all, .none, 0, false, none, [.v 4], .full⟩,
  -- 0x8C60:01 HOLD, R432
  ⟨0x8C60, 1, 1, 0, 1, 0, 0, 1, 1, 1, (.bits 32), .ro, false, .none, .all, .none, 0, false, none, [.v 32], (.mask 0x3F)⟩,
  -- 0x8C60:02 LEVEL
  ⟨0x8C60, 1, 1, 0, 1, 0, 0, 2, 1, 1, .bool, .ro, false, .none, .all, .none, 0, false, none, [.v 0], (.iv 0 1)⟩,
  -- 0x8C60:03 FALLS
  ⟨0x8C60, 1, 1, 0, 1, 0, 0, 3, 1, 1, (.uns 32), .ro, false, .none, .all, .none, 0, false, none, [.v 0], .full⟩,
  -- 0x8C60:04 LAST_FALL_TIME, device time
  ⟨0x8C60, 1, 1, 0, 1, 0, 0, 4, 1, 1, (.uns 64), .ro, false, .none, .all, .none, 0, false, none, [.v 0], .full⟩,
  -- 0x8D00:00 PerfControl (highest sub-index)
  ⟨0x8D00, 1, 1, 0, 1, 0, 0, 0, 1, 1, (.uns 8), .const, false, .none, .p0, .none, 0, false, none, [.v 3], .full⟩,
  -- 0x8D00:01 PERF_MSI_VECTOR
  ⟨0x8D00, 1, 1, 0, 1, 0, 0, 1, 1, 1, (.uns 16), .rw, false, (.g 0), .p0, .p0, 0, false, none, [.v 0], (.iv 0 2047)⟩
  ]

/-- Rows from index 0x8D00. -/
def objRows39 : List Row := [
  -- 0x8D00:02 OVF_PENDING: bit k; write 1 clears
  ⟨0x8D00, 1, 1, 0, 1, 0, 0, 2, 1, 1, (.octet 128), .rw, false, (.g 0), .p0, .p0, 0, false, none, [.v 0], .full⟩,
  -- 0x8D00:03 DUMPS_SKIPPED
  ⟨0x8D00, 1, 1, 0, 1, 0, 0, 3, 1, 1, (.uns 32), .ro, false, .none, .p0, .none, 0, false, none, [.v 0], .full⟩,
  -- 0x8D10:00 PerfCatalogue (R434)
  ⟨0x8D10, 1, 1, 0, 1, 0, 0, 0, 1, 1, (.domain 4294967295), .ro, false, .none, .p0, .none, 0, false, none, [.v 0], .full⟩,
  -- 0x8D20:00 DumpControl (highest sub-index)
  ⟨0x8D20, 1, 1, 0, 1, 0, 0, 0, 1, 1, (.uns 8), .const, false, .none, .p0, .none, 0, false, none, [.v 4], .full⟩,
  -- 0x8D20:01 DUMP_ENABLE
  ⟨0x8D20, 1, 1, 0, 1, 0, 0, 1, 1, 1, .bool, .rw, false, (.g 17), .p0, .p0, 0, false, none, [.v 0], (.iv 0 1)⟩,
  -- 0x8D20:02 DUMP_PERIOD_US
  ⟨0x8D20, 1, 1, 0, 1, 0, 0, 2, 1, 1, (.uns 32), .rw, false, (.g 17), .p0, .p0, 0, false, none, [.v 1000], (.iv 100 1000000)⟩,
  -- 0x8D20:03 DUMP_RING
  ⟨0x8D20, 1, 1, 0, 1, 0, 0, 3, 1, 1, (.uns 8), .rw, false, (.g 17), .p0, .p0, 0, false, none, [.v 0], (.iv 0 7)⟩,
  -- 0x8D20:04 DUMP_SET: bit k
  ⟨0x8D20, 1, 1, 0, 1, 0, 0, 4, 1, 1, (.octet 128), .rw, false, (.g 17), .p0, .p0, 0, false, none, [.v 0], .full⟩,
  -- 0x8E00 + g:00 PerfCounters g, counters k = 16g to 16g + 15, g = 0–63 (highest sub-in
  ⟨0x8E00, 64, 64, 1, 1, 0, 0, 0, 1, 1, (.uns 8), .const, false, .none, .p0, .none, 0, false, none, [.v 64], .full⟩,
  -- 0x8E00 + g:1 + 4j CONFIG of k = 16g + j: [7:0] EVENT, [15:8] BLOCK, [16] level mode, [17
  ⟨0x8E00, 64, 64, 1, 1, 0, 0, 1, 16, 4, (.bits 32), .rw, false, (.g 0), .p0, .p0, 0, false, none, [.v 0], (.mask 0xFFFFF)⟩,
  -- 0x8E00 + g:2 + 4j PRELOAD, 48-bit
  ⟨0x8E00, 64, 64, 1, 1, 0, 0, 2, 16, 4, (.uns 64), .rw, false, (.g 0), .p0, .p0, 0, false, none, [.v 0], (.iv 0 281474976710655)⟩,
  -- 0x8E00 + g:3 + 4j VALUE, 48-bit, wraps (R435)
  ⟨0x8E00, 64, 64, 1, 1, 0, 0, 3, 16, 4, (.uns 64), .rw, false, (.g 0), .p0, .p0, 0, false, none, [.v 0], (.iv 0 281474976710655)⟩,
  -- 0x8E00 + g:4 + 4j OVERFLOWS, 16-bit, saturates
  ⟨0x8E00, 64, 64, 1, 1, 0, 0, 4, 16, 4, (.uns 16), .ro, false, .none, .p0, .none, 0, false, none, [.v 0], (.iv 0 65535)⟩,
  -- 0x8F00 + r:00 TraceRing r, r = 0–7 (highest sub-index)
  ⟨0x8F00, 8, 8, 1, 1, 0, 0, 0, 1, 1, (.uns 8), .const, false, .none, .p0, .none, 0, false, none, [.v 11], .full⟩,
  -- 0x8F00 + r:01 ENABLE
  ⟨0x8F00, 8, 8, 1, 1, 0, 0, 1, 1, 1, .bool, .rw, false, (.g 0), .p0, .p0, 0, false, none, [.v 0], (.iv 0 1)⟩,
  -- 0x8F00 + r:02 SOURCE: 0 none, 1 counter dumps, 2 event mirror, 3 planner trace, 4 Ch
  ⟨0x8F00, 8, 8, 1, 1, 0, 0, 2, 1, 1, (.uns 8), .rw, false, (.g 0), .p0, .p0, 0, false, none, [.v 0], (.iv 0 5)⟩,
  -- 0x8F00 + r:03 POLICY: 0 drop-newest, 1 overwrite-oldest
  ⟨0x8F00, 8, 8, 1, 1, 0, 0, 3, 1, 1, (.uns 8), .rw, false, (.g 0), .p0, .p0, 0, false, none, [.v 0], (.iv 0 1)⟩,
  -- 0x8F00 + r:04 RING_BASE
  ⟨0x8F00, 8, 8, 1, 1, 0, 0, 4, 1, 1, (.uns 64), .rw, false, (.g 0), .p0, .p0, 0, false, none, [.v 0], (.step 0 18446744073709547520 4096)⟩,
  -- 0x8F00 + r:05 PAGES_LOG2
  ⟨0x8F00, 8, 8, 1, 1, 0, 0, 5, 1, 1, (.uns 8), .rw, false, (.g 0), .p0, .p0, 0, false, none, [.v 8], (.iv 2 16)⟩,
  -- 0x8F00 + r:06 PRODUCER
  ⟨0x8F00, 8, 8, 1, 1, 0, 0, 6, 1, 1, (.uns 32), .ro, false, .none, .p0, .none, 0, false, none, [.v 0], .full⟩,
  -- 0x8F00 + r:07 CONSUMER
  ⟨0x8F00, 8, 8, 1, 1, 0, 0, 7, 1, 1, (.uns 32), .rw, false, (.g 0), .p0, .p0, 0, false, none, [.v 0], .full⟩,
  -- 0x8F00 + r:08 FLUSH_MS
  ⟨0x8F00, 8, 8, 1, 1, 0, 0, 8, 1, 1, (.uns 16), .rw, false, (.g 0), .p0, .p0, 0, false, none, [.v 100], (.iv 1 10000)⟩,
  -- 0x8F00 + r:09–0B LOST, TRUNCATIONS, OVERWRITES
  ⟨0x8F00, 8, 8, 1, 1, 0, 0, 9, 3, 1, (.uns 32), .ro, false, .none, .p0, .none, 0, false, none, [.v 0], .full⟩,
  -- 0x8F40 + h:00 FrameCapture h, h = 0–15 (0–7 Compact) (highest sub-index)
  ⟨0x8F40, 16, 8, 1, 1, 0, 0, 0, 1, 1, (.uns 8), .const, false, .none, .p0, .none, 0, false, none, [.v 10], .full⟩,
  -- 0x8F40 + h:01 ENABLE
  ⟨0x8F40, 16, 8, 1, 1, 0, 0, 1, 1, 1, .bool, .rw, false, .head, .p0, .p0, 0, false, none, [.v 0], (.iv 0 1)⟩,
  -- 0x8F40 + h:02 POINT: 0 store, 1 wire
  ⟨0x8F40, 16, 8, 1, 1, 0, 0, 2, 1, 1, (.uns 8), .rw, false, .head, .p0, .p0, 0, false, none, [.v 1], (.iv 0 1)⟩,
  -- 0x8F40 + h:03 EVERY_N
  ⟨0x8F40, 16, 8, 1, 1, 0, 0, 3, 1, 1, (.uns 16), .rw, false, .head, .p0, .p0, 0, false, none, [.v 1], (.iv 1 65535)⟩,
  -- 0x8F40 + h:04 BUF_BASE
  ⟨0x8F40, 16, 8, 1, 1, 0, 0, 4, 1, 1, (.uns 64), .rw, false, .head, .p0, .p0, 0, false, none, [.v 0], (.step 0 18446744073709547520 4096)⟩,
  -- 0x8F40 + h:05 BUF_STRIDE
  ⟨0x8F40, 16, 8, 1, 1, 0, 0, 5, 1, 1, (.uns 32), .rw, false, .head, .p0, .p0, 0, false, none, [.v 0], (.step 0 4294963200 4096)⟩,
  -- 0x8F40 + h:06 BUF_COUNT
  ⟨0x8F40, 16, 8, 1, 1, 0, 0, 6, 1, 1, (.uns 8), .rw, false, .head, .p0, .p0, 0, false, none, [.v 2], (.iv 2 64)⟩
  ]

/-- Rows from index 0x8F40. -/
def objRows40 : List Row := [
  -- 0x8F40 + h:07 PRODUCER
  ⟨0x8F40, 16, 8, 1, 1, 0, 0, 7, 1, 1, (.uns 32), .ro, false, .none, .p0, .none, 0, false, none, [.v 0], .full⟩,
  -- 0x8F40 + h:08 CONSUMER
  ⟨0x8F40, 16, 8, 1, 1, 0, 0, 8, 1, 1, (.uns 32), .rw, false, (.g 0), .p0, .p0, 0, false, none, [.v 0], .full⟩,
  -- 0x8F40 + h:09–0A FRAMES_DROPPED, FRAMES_ABANDONED
  ⟨0x8F40, 16, 8, 1, 1, 0, 0, 9, 2, 1, (.uns 32), .ro, false, .none, .p0, .none, 0, false, none, [.v 0], .full⟩
  ]

/-- Rows from index 0x9000. -/
def objRows41 : List Row := [
  -- 0x9000 + d:00 PowerDomain d, d = 0–19 (highest sub-index)
  ⟨0x9000, 20, 20, 1, 1, 0, 0, 0, 1, 1, (.uns 8), .const, false, .none, .p0, .none, 0, false, none, [.v 5], .full⟩,
  -- 0x9000 + d:01 STATE: 0 off, 1 powering on, 2 on, 3 powering off, 4 permanently off, 
  ⟨0x9000, 20, 20, 1, 1, 0, 0, 1, 1, 1, (.uns 8), .ro, false, .none, .all, .none, 0, false, none, [.pdState], (.iv 0 5)⟩,
  -- 0x9000 + d:02 REQUEST: 0 off, 1 on
  ⟨0x9000, 20, 20, 1, 1, 0, 0, 2, 1, 1, (.uns 8), .rw, true, (.g 58), .p0, .p0, 0, false, none, [.v 1], (.iv 0 1)⟩,
  -- 0x9000 + d:03 SWITCHABLE, from R442 and the secure policy (R291)
  ⟨0x9000, 20, 20, 1, 1, 0, 0, 3, 1, 1, .bool, .ro, false, .none, .p0, .none, 0, false, none, [.pdSwitch], (.iv 0 1)⟩,
  -- 0x9000 + d:04 IN_PLAN_USE
  ⟨0x9000, 20, 20, 1, 1, 0, 0, 4, 1, 1, .bool, .ro, false, .none, .p0, .none, 0, false, none, [.v 0], (.iv 0 1)⟩,
  -- 0x9000 + d:05 SWITCHES
  ⟨0x9000, 20, 20, 1, 1, 0, 0, 5, 1, 1, (.uns 32), .ro, false, .none, .p0, .none, 0, false, none, [.v 0], .full⟩,
  -- 0x9018:00 PowerStatus (R46): [0] DOMAIN_OFF, [1] DOMAIN_ON, [2] CLOCK_FAULT, [3]
  ⟨0x9018, 1, 1, 0, 1, 0, 0, 0, 1, 1, (.bits 64), .rw, false, .none, .p0, .p0, 0, false, (some (.interval 10000000)), [.v 0], .full⟩,
  -- 0x9020:00 ResetControl (highest sub-index)
  ⟨0x9020, 1, 1, 0, 1, 0, 0, 0, 1, 1, (.uns 8), .const, false, .none, .p0, .none, 0, false, none, [.v 2], .full⟩,
  -- 0x9020:01 DOMAIN_RESET: domain number
  ⟨0x9020, 1, 1, 0, 1, 0, 0, 1, 1, 1, (.uns 8), .wo, false, (.g 0), .p0, .p0, 0, false, none, [.v 0], (.pieces [(4, 7), (9, 19)])⟩,
  -- 0x9020:02 DEVICE_RESET: write 1
  ⟨0x9020, 1, 1, 0, 1, 0, 0, 2, 1, 1, (.uns 8), .wo, false, (.g 0), .p0, .p0, 0, false, none, [.v 0], (.iv 1 1)⟩,
  -- 0x9021:00 ResetInfo (highest sub-index)
  ⟨0x9021, 1, 1, 0, 1, 0, 0, 0, 1, 1, (.uns 8), .const, false, .none, .p0, .none, 0, false, none, [.v 4], .full⟩,
  -- 0x9021:01 LAST_CAUSE: 0 power-on, 1 RESET_N, 2 software, 3 clock fault
  ⟨0x9021, 1, 1, 0, 1, 0, 0, 1, 1, 1, (.uns 8), .ro, false, .none, .p0, .none, 0, false, none, [.v 0], (.iv 0 3)⟩,
  -- 0x9021:02 DEVICE_RESETS since power-on
  ⟨0x9021, 1, 1, 0, 1, 0, 0, 2, 1, 1, (.uns 32), .ro, false, .none, .p0, .none, 0, false, none, [.v 0], .full⟩,
  -- 0x9021:03 PLANNER_RESTARTS
  ⟨0x9021, 1, 1, 0, 1, 0, 0, 3, 1, 1, (.uns 32), .ro, false, .none, .p0, .none, 0, false, none, [.v 0], .full⟩,
  -- 0x9021:04 LAST_RESET_TIME, device time
  ⟨0x9021, 1, 1, 0, 1, 0, 0, 4, 1, 1, (.uns 64), .ro, false, .none, .p0, .none, 0, false, none, [.v 0], .full⟩,
  -- 0x9028:00 Straps (highest sub-index)
  ⟨0x9028, 1, 1, 0, 1, 0, 0, 0, 1, 1, (.uns 8), .const, false, .none, .all, .none, 0, false, none, [.v 3], .full⟩,
  -- 0x9028:01 STRAP_NODE
  ⟨0x9028, 1, 1, 0, 1, 0, 0, 1, 1, 1, (.uns 8), .ro, false, .none, .all, .none, 0, false, none, [.v 0], (.iv 0 63)⟩,
  -- 0x9028:02 STRAP_SENIOR
  ⟨0x9028, 1, 1, 0, 1, 0, 0, 2, 1, 1, (.uns 8), .ro, false, .none, .all, .none, 0, false, none, [.v 0], (.iv 0 1)⟩,
  -- 0x9028:03 BOOT_MODE
  ⟨0x9028, 1, 1, 0, 1, 0, 0, 3, 1, 1, (.uns 8), .ro, false, .none, .all, .none, 0, false, none, [.v 0], (.iv 0 7)⟩,
  -- 0x9030:00 StartupTimes (highest sub-index)
  ⟨0x9030, 1, 1, 0, 1, 0, 0, 0, 1, 1, (.uns 8), .const, false, .none, .all, .none, 0, false, none, [.v 6], .full⟩,
  -- 0x9030:01–06 MARKHOR_US, PLANNER_RELEASE_US, BIST_DONE_US, EARLY_PLAN_US, DRAM_READ
  ⟨0x9030, 1, 1, 0, 1, 0, 0, 1, 6, 1, (.uns 32), .ro, false, .none, .all, .none, 0, false, none, [.v 0], .full⟩,
  -- 0x9040:00 PlannerWatchdog (highest sub-index)
  ⟨0x9040, 1, 1, 0, 1, 0, 0, 0, 1, 1, (.uns 8), .const, false, .none, .p0, .none, 0, false, none, [.v 1], .full⟩,
  -- 0x9040:01 TIMEOUT_MS
  ⟨0x9040, 1, 1, 0, 1, 0, 0, 1, 1, 1, (.uns 16), .rw, true, (.g 58), .p0, .p0, 0, false, none, [.v 100], (.iv 20 1000)⟩,
  -- 0x9050 + p:00 PartitionRestart p, p = 1–15 (1–7 Compact); written and read by p and 
  ⟨0x9051, 15, 7, 1, 1, 0, 1, 0, 1, 1, (.uns 8), .const, false, .none, .inst, .none, 0, false, none, [.v 4], .full⟩,
  -- 0x9050 + p:01 RESTART: write 1
  ⟨0x9051, 15, 7, 1, 1, 0, 1, 1, 1, 1, (.uns 8), .wo, false, (.g 0), .inst, .inst, 0, false, none, [.v 0], (.iv 1 1)⟩,
  -- 0x9050 + p:02 STATE: 0 idle, 1 restarting
  ⟨0x9051, 15, 7, 1, 1, 0, 1, 2, 1, 1, (.uns 8), .ro, false, .none, .inst, .none, 0, false, none, [.v 0], (.iv 0 1)⟩,
  -- 0x9050 + p:03 RESTARTS
  ⟨0x9051, 15, 7, 1, 1, 0, 1, 3, 1, 1, (.uns 32), .ro, false, .none, .inst, .none, 0, false, none, [.v 0], .full⟩,
  -- 0x9050 + p:04 LAST_TIME, device time
  ⟨0x9051, 15, 7, 1, 1, 0, 1, 4, 1, 1, (.uns 64), .ro, false, .none, .inst, .none, 0, false, none, [.v 0], .full⟩,
  -- 0x9060:00 TimeBase (highest sub-index)
  ⟨0x9060, 1, 1, 0, 1, 0, 0, 0, 1, 1, (.uns 8), .const, false, .none, .all, .none, 0, false, none, [.v 7], .full⟩,
  -- 0x9060:01 DEVICE_TIME
  ⟨0x9060, 1, 1, 0, 1, 0, 0, 1, 1, 1, (.uns 64), .ro, false, .none, .all, .none, 0, false, none, [.v 0], .full⟩
  ]

/-- Rows from index 0x9060. -/
def objRows42 : List Row := [
  -- 0x9060:02 WALL_TIME
  ⟨0x9060, 1, 1, 0, 1, 0, 0, 2, 1, 1, (.uns 64), .ro, false, .none, .all, .none, 0, false, none, [.v 0], .full⟩,
  -- 0x9060:03 WALL_VALID
  ⟨0x9060, 1, 1, 0, 1, 0, 0, 3, 1, 1, .bool, .ro, false, .none, .all, .none, 0, false, none, [.v 0], (.iv 0 1)⟩,
  -- 0x9060:04 EPOCH_PERIOD_NS, from plan
  ⟨0x9060, 1, 1, 0, 1, 0, 0, 4, 1, 1, (.uns 32), .ro, false, (.g 19), .all, .none, 0, false, none, [.v 16666667], (.iv 4166667 100000000)⟩,
  -- 0x9060:05 EPOCH_COUNT, wraps as R22
  ⟨0x9060, 1, 1, 0, 1, 0, 0, 5, 1, 1, (.uns 32), .ro, false, .none, .all, .none, 0, false, none, [.v 0], .full⟩,
  -- 0x9060:06 EPOCH_SOURCE, from plan: 0 device time, 1 Wall time
  ⟨0x9060, 1, 1, 0, 1, 0, 0, 6, 1, 1, (.uns 8), .ro, false, (.g 19), .all, .none, 0, false, none, [.v 0], (.iv 0 1)⟩,
  -- 0x9060:07 EPOCH_ON_WALL: 1 while epochs fall on the Wall-time grid (R23)
  ⟨0x9060, 1, 1, 0, 1, 0, 0, 7, 1, 1, .bool, .ro, false, .none, .all, .none, 0, false, none, [.v 0], (.iv 0 1)⟩,
  -- 0x9070:00 D2dLinkStatus (highest sub-index)
  ⟨0x9070, 1, 1, 0, 1, 0, 0, 0, 1, 1, (.uns 8), .const, false, .none, .all, .none, 0, false, none, [.v 4], .full⟩,
  -- 0x9070:01 CRC_ERRORS, 32-bit, saturates at 0xFFFF_FFFF
  ⟨0x9070, 1, 1, 0, 1, 0, 0, 1, 1, 1, (.uns 32), .ro, false, .none, .all, .none, 0, false, none, [.v 0], .full⟩,
  -- 0x9070:02 REPLAYS, 32-bit, saturates
  ⟨0x9070, 1, 1, 0, 1, 0, 0, 2, 1, 1, (.uns 32), .ro, false, .none, .all, .none, 0, false, none, [.v 0], .full⟩,
  -- 0x9070:03 SPARES_USED
  ⟨0x9070, 1, 1, 0, 1, 0, 0, 3, 1, 1, (.uns 8), .ro, false, .none, .all, .none, 0, false, none, [.v 0], (.iv 0 2)⟩,
  -- 0x9070:04 WORST_REPLAY_NS, largest replay delay since reset, saturates
  ⟨0x9070, 1, 1, 0, 1, 0, 0, 4, 1, 1, (.uns 32), .ro, false, .none, .all, .none, 0, false, none, [.v 0], .full⟩,
  -- 0x9080 + k:00 ClockDomain k, k = 1–40 (highest sub-index)
  ⟨0x9081, 40, 40, 1, 1, 0, 1, 0, 1, 1, (.uns 8), .const, false, .none, .p0, .none, 0, false, none, [.v 4], .full⟩,
  -- 0x9080 + k:01 SOURCE: 0 CK1 oscillator, 1 CK2 input, 2 PLL
  ⟨0x9081, 40, 40, 1, 1, 0, 1, 1, 1, 1, (.uns 8), .ro, false, .none, .p0, .none, 0, false, none, [.v 0], (.iv 0 2)⟩,
  -- 0x9080 + k:02 FREQ_HZ, current
  ⟨0x9081, 40, 40, 1, 1, 0, 1, 2, 1, 1, (.uns 32), .ro, false, .none, .p0, .none, 0, false, none, [.v 0], .full⟩,
  -- 0x9080 + k:03 STATE: 0 off, 1 locking, 2 running, 3 fault
  ⟨0x9081, 40, 40, 1, 1, 0, 1, 3, 1, 1, (.uns 8), .ro, false, .none, .p0, .none, 0, false, none, [.v 0], (.iv 0 3)⟩,
  -- 0x9080 + k:04 LOCK_LOSSES
  ⟨0x9081, 40, 40, 1, 1, 0, 1, 4, 1, 1, (.uns 32), .ro, false, .none, .p0, .none, 0, false, none, [.v 0], .full⟩,
  -- 0x9100:00 BistControl (highest sub-index)
  ⟨0x9100, 1, 1, 0, 1, 0, 0, 0, 1, 1, (.uns 8), .const, false, .none, .p0, .none, 0, false, none, [.v 4], .full⟩,
  -- 0x9100:01 RUN: bit d for domain d
  ⟨0x9100, 1, 1, 0, 1, 0, 0, 1, 1, 1, (.bits 32), .wo, false, (.g 0), .p0, .p0, 0, false, none, [.v 0], (.mask 0xFFFFF)⟩,
  -- 0x9100:02 STATE: 0 idle, 1 running
  ⟨0x9100, 1, 1, 0, 1, 0, 0, 2, 1, 1, (.uns 8), .ro, false, .none, .p0, .none, 0, false, none, [.v 0], (.iv 0 1)⟩,
  -- 0x9100:03 RESULT: 0 or code
  ⟨0x9100, 1, 1, 0, 1, 0, 0, 3, 1, 1, (.uns 32), .ro, false, .none, .p0, .none, 0, false, none, [.v 0], .full⟩,
  -- 0x9100:04 LAST_RUN_TIME, device time
  ⟨0x9100, 1, 1, 0, 1, 0, 0, 4, 1, 1, (.uns 64), .ro, false, .none, .p0, .none, 0, false, none, [.v 0], .full⟩,
  -- 0x9110 + k:00 BistUnits of kind k, k = 0–15 (highest sub-index)
  ⟨0x9110, 16, 16, 1, 1, 0, 0, 0, 1, 1, (.uns 8), .const, false, .none, .p0, .none, 0, false, none, [.v 32], .full⟩,
  -- 0x9110 + k:01–20 Instance i = sub − 1: 0 absent, 1 pass, 2 repaired, 3 logic fail, 4 me
  ⟨0x9110, 16, 16, 1, 1, 0, 0, 1, 32, 1, (.uns 8), .ro, false, .none, .p0, .none, 0, false, none, [.v 5], (.iv 0 5)⟩,
  -- 0x9130:00 BistRepair (highest sub-index)
  ⟨0x9130, 1, 1, 0, 1, 0, 0, 0, 1, 1, (.uns 8), .const, false, .none, .p0, .none, 0, false, none, [.v 4], .full⟩,
  -- 0x9130:01 REPAIRS_STORED
  ⟨0x9130, 1, 1, 0, 1, 0, 0, 1, 1, 1, (.uns 16), .ro, false, .none, .p0, .none, 0, false, none, [.v 0], (.iv 0 512)⟩,
  -- 0x9130:02 REPAIR_CAPACITY
  ⟨0x9130, 1, 1, 0, 1, 0, 0, 2, 1, 1, (.uns 16), .const, false, .none, .p0, .none, 0, false, none, [.v 512], .full⟩,
  -- 0x9130:03 LOG_NEXT, entry j written next
  ⟨0x9130, 1, 1, 0, 1, 0, 0, 3, 1, 1, (.uns 8), .ro, false, .none, .p0, .none, 0, false, none, [.v 0], (.iv 0 31)⟩,
  -- 0x9130:04 LOG_TOTAL, failing cells found since power-on
  ⟨0x9130, 1, 1, 0, 1, 0, 0, 4, 1, 1, (.uns 32), .ro, false, .none, .p0, .none, 0, false, none, [.v 0], .full⟩,
  -- 0x9140 + j:00 BistLogEntry j, j = 0–31; ring overwriting its oldest (highest sub-ind
  ⟨0x9140, 32, 32, 1, 1, 0, 0, 0, 1, 1, (.uns 8), .const, false, .none, .p0, .none, 0, false, none, [.v 6], .full⟩,
  -- 0x9140 + j:01 UNIT: [15:8] kind, [7:0] instance
  ⟨0x9140, 32, 32, 1, 1, 0, 0, 1, 1, 1, (.uns 16), .ro, false, .none, .p0, .none, 0, false, none, [.v 0], .full⟩
  ]

/-- Rows from index 0x9140. -/
def objRows43 : List Row := [
  -- 0x9140 + j:02 MEMORY instance within the unit
  ⟨0x9140, 32, 32, 1, 1, 0, 0, 2, 1, 1, (.uns 16), .ro, false, .none, .p0, .none, 0, false, none, [.v 0], (.iv 0 65535)⟩,
  -- 0x9140 + j:03 ADDRESS
  ⟨0x9140, 32, 32, 1, 1, 0, 0, 3, 1, 1, (.uns 32), .ro, false, .none, .p0, .none, 0, false, none, [.v 0], .full⟩,
  -- 0x9140 + j:04 BIT
  ⟨0x9140, 32, 32, 1, 1, 0, 0, 4, 1, 1, (.uns 16), .ro, false, .none, .p0, .none, 0, false, none, [.v 0], (.iv 0 1023)⟩,
  -- 0x9140 + j:05 OUTCOME: 0 row repaired, 1 column repaired, 2 unrepairable
  ⟨0x9140, 32, 32, 1, 1, 0, 0, 5, 1, 1, (.uns 8), .ro, false, .none, .p0, .none, 0, false, none, [.v 0], (.iv 0 2)⟩,
  -- 0x9140 + j:06 TIME, device time
  ⟨0x9140, 32, 32, 1, 1, 0, 0, 6, 1, 1, (.uns 64), .ro, false, .none, .p0, .none, 0, false, none, [.v 0], .full⟩,
  -- 0x9180:00 RngState (highest sub-index)
  ⟨0x9180, 1, 1, 0, 1, 0, 0, 0, 1, 1, (.uns 8), .const, false, .none, .all, .none, 0, false, none, [.v 3], .full⟩,
  -- 0x9180:01 READY
  ⟨0x9180, 1, 1, 0, 1, 0, 0, 1, 1, 1, .bool, .ro, false, .none, .all, .none, 0, false, none, [.v 0], (.iv 0 1)⟩,
  -- 0x9180:02 HEALTH_FAILURES, 32-bit, saturates
  ⟨0x9180, 1, 1, 0, 1, 0, 0, 2, 1, 1, (.uns 32), .ro, false, .none, .all, .none, 0, false, none, [.v 0], .full⟩,
  -- 0x9180:03 FAILED_PERMANENT
  ⟨0x9180, 1, 1, 0, 1, 0, 0, 3, 1, 1, .bool, .ro, false, .none, .all, .none, 0, false, none, [.v 0], (.iv 0 1)⟩,
  -- 0x9181:00 RngData, banked (highest sub-index)
  ⟨0x9181, 1, 1, 0, 1, 0, 0, 0, 1, 1, (.uns 8), .const, false, .none, .all, .none, 0, true, none, [.v 2], .full⟩,
  -- 0x9181:01 DATA: 64 fresh bits, or zero while READY is 0; each read answered with
  ⟨0x9181, 1, 1, 0, 1, 0, 0, 1, 1, 1, (.uns 64), .ro, false, .none, .all, .none, 0, true, none, [.v 0], .full⟩,
  -- 0x9181:02 VALID_LAST: the partition's last DATA read carried output
  ⟨0x9181, 1, 1, 0, 1, 0, 0, 2, 1, 1, .bool, .ro, false, .none, .all, .none, 0, true, none, [.v 0], (.iv 0 1)⟩,
  -- 0x9182:00 RngStatus (R46): [0] ES_ALARM, [1] RESEEDED_AFTER_FAILURE, [2] SEED_RE
  ⟨0x9182, 1, 1, 0, 1, 0, 0, 0, 1, 1, (.bits 64), .rw, false, .none, .all, .p0, 0, false, (some (.interval 100000000)), [.v 0], .full⟩,
  -- 0x9200:00 ElectricalState (highest sub-index)
  ⟨0x9200, 1, 1, 0, 1, 0, 0, 0, 1, 1, (.uns 8), .const, false, .none, .all, .none, 0, false, none, [.v 9], .full⟩,
  -- 0x9200:01 TJ_Q2, hottest sensor in 0.25 °C units
  ⟨0x9200, 1, 1, 0, 1, 0, 0, 1, 1, 1, (.sgn 16), .ro, false, .none, .all, .none, 0, false, none, [.v 0], (.iv (-220) 600)⟩,
  -- 0x9200:02 HOTTEST_SENSOR
  ⟨0x9200, 1, 1, 0, 1, 0, 0, 2, 1, 1, (.uns 8), .ro, false, .none, .all, .none, 0, false, none, [.v 0], (.iv 0 15)⟩,
  -- 0x9200:03 THROTTLE: 0 none, 1 CK8 halved, 2 render stopped
  ⟨0x9200, 1, 1, 0, 1, 0, 0, 3, 1, 1, (.uns 8), .ro, false, .none, .all, .none, 0, false, none, [.v 0], (.iv 0 2)⟩,
  -- 0x9200:04 THROTTLE_OFFSET_C
  ⟨0x9200, 1, 1, 0, 1, 0, 0, 4, 1, 1, (.uns 8), .rw, true, (.g 58), .all, .p0, 0, false, none, [.v 5], (.iv 2 20)⟩,
  -- 0x9200:05 VIN_MV
  ⟨0x9200, 1, 1, 0, 1, 0, 0, 5, 1, 1, (.uns 16), .ro, false, .none, .all, .none, 0, false, none, [.v 0], (.iv 0 4000)⟩,
  -- 0x9200:06 VIN_MA
  ⟨0x9200, 1, 1, 0, 1, 0, 0, 6, 1, 1, (.uns 32), .ro, false, .none, .all, .none, 0, false, none, [.v 0], (.iv 0 50000)⟩,
  -- 0x9200:07 THERMAL_TRIPS
  ⟨0x9200, 1, 1, 0, 1, 0, 0, 7, 1, 1, (.uns 32), .ro, false, .none, .all, .none, 0, false, none, [.v 0], .full⟩,
  -- 0x9200:08 VIN_BROWNOUTS
  ⟨0x9200, 1, 1, 0, 1, 0, 0, 8, 1, 1, (.uns 32), .ro, false, .none, .all, .none, 0, false, none, [.v 0], .full⟩,
  -- 0x9200:09 OVERCURRENT_TRIPS [31:16], VIN_HIGH_TRIPS [15:0]; each 16-bit, saturat
  ⟨0x9200, 1, 1, 0, 1, 0, 0, 9, 1, 1, (.uns 32), .ro, false, .none, .all, .none, 0, false, none, [.v 0], .full⟩,
  -- 0x9201:00 ElectricalStatus (R46): [0] THERMAL_THROTTLE, [1] RENDER_STOPPED, [2] 
  ⟨0x9201, 1, 1, 0, 1, 0, 0, 0, 1, 1, (.bits 64), .rw, false, .none, .all, .p0, 0, false, (some (.interval 100000000)), [.v 0], .full⟩,
  -- 0x9210 + s:00 TempSensor s, s = 0–15: junction temperature in 0.25 °C units
  ⟨0x9210, 16, 16, 1, 1, 0, 0, 0, 1, 1, (.sgn 16), .ro, false, .none, .all, .none, 0, false, none, [.v 0], (.iv (-220) 600)⟩
  ]

/-- Rows from index 0x9401. -/
def objRows44 : List Row := [
  -- 0x9401:00 LowSpeedStatus (R46): [0] BUS_STUCK, [1] I2C_RECOVERED, [2] CAN_BUS_OF
  ⟨0x9401, 1, 1, 0, 1, 0, 0, 0, 1, 1, (.bits 64), .rw, false, .none, .all, .p0, 0, false, (some (.interval 10000000)), [.v 0], .full⟩,
  -- 0x9410 + b×2:00 (highest sub-index)
  ⟨0x9410, 16, 16, 2, 1, 0, 0, 0, 1, 1, (.uns 8), .const, false, .none, .all, .none, 0, false, none, [.v 7], .full⟩,
  -- 0x9410 + b×2:01 ENABLE
  ⟨0x9410, 16, 16, 2, 1, 0, 0, 1, 1, 1, (.uns 16), .rw, true, (.g 59), .all, .p0, 0, false, none, [.v 0], (.iv 0 1)⟩,
  -- 0x9410 + b×2:02 OWNER
  ⟨0x9410, 16, 16, 2, 1, 0, 0, 2, 1, 1, (.uns 16), .rw, true, (.g 59), .all, .p0, 0, false, none, [.v 0], (.iv 0 15)⟩,
  -- 0x9410 + b×2:03 SPEED
  ⟨0x9410, 16, 16, 2, 1, 0, 0, 3, 1, 1, (.uns 16), .rw, true, (.g 59), .all, .p0, 0, false, none, [.v 1], (.iv 0 2)⟩,
  -- 0x9410 + b×2:04 TIMEOUT_MS
  ⟨0x9410, 16, 16, 2, 1, 0, 0, 4, 1, 1, (.uns 16), .rw, true, (.g 59), .all, .p0, 0, false, none, [.v 25], (.iv 1 1000)⟩,
  -- 0x9410 + b×2:05 RESET_GPIO
  ⟨0x9410, 16, 16, 2, 1, 0, 0, 5, 1, 1, (.uns 16), .rw, true, (.g 59), .all, .p0, 0, false, none, [.v 255], (.pieces [(76, 127), (255, 255)])⟩,
  -- 0x9410 + b×2:06 RESET_PULSE_US
  ⟨0x9410, 16, 16, 2, 1, 0, 0, 6, 1, 1, (.uns 16), .rw, true, (.g 59), .all, .p0, 0, false, none, [.v 100], (.iv 1 10000)⟩,
  -- 0x9410 + b×2:07 RESET_WAIT_MS
  ⟨0x9410, 16, 16, 2, 1, 0, 0, 7, 1, 1, (.uns 16), .rw, true, (.g 59), .all, .p0, 0, false, none, [.v 10], (.iv 0 1000)⟩,
  -- 0x9411 + b×2:00 (highest sub-index)
  ⟨0x9411, 16, 16, 2, 1, 0, 0, 0, 1, 1, (.uns 8), .const, false, .none, .all, .none, 0, false, none, [.v 11], .full⟩,
  -- 0x9411 + b×2:01 ADDR
  ⟨0x9411, 16, 16, 2, 1, 0, 0, 1, 1, 1, (.uns 8), .rw, false, (.g 0), .all, (.owner 1 2), 0, false, none, [.v 0], (.iv 0 127)⟩,
  -- 0x9411 + b×2:02 WRITE_LEN
  ⟨0x9411, 16, 16, 2, 1, 0, 0, 2, 1, 1, (.uns 8), .rw, false, (.g 0), .all, (.owner 1 2), 0, false, none, [.v 0], (.iv 0 32)⟩,
  -- 0x9411 + b×2:03 READ_LEN
  ⟨0x9411, 16, 16, 2, 1, 0, 0, 3, 1, 1, (.uns 8), .rw, false, (.g 0), .all, (.owner 1 2), 0, false, none, [.v 0], (.iv 0 32)⟩,
  -- 0x9411 + b×2:04 WDATA
  ⟨0x9411, 16, 16, 2, 1, 0, 0, 4, 1, 1, (.octet 32), .rw, false, (.g 0), .all, (.owner 1 2), 0, false, none, [.v 0], .full⟩,
  -- 0x9411 + b×2:05–06 GO, write 1; RECOVER, write 1
  ⟨0x9411, 16, 16, 2, 1, 0, 0, 5, 2, 1, (.uns 8), .wo, false, (.g 0), .all, (.owner 1 2), 0, false, none, [.v 0], (.iv 1 1)⟩,
  -- 0x9411 + b×2:07 RDATA
  ⟨0x9411, 16, 16, 2, 1, 0, 0, 7, 1, 1, (.octet 32), .ro, false, .none, .all, .none, 0, false, none, [.v 0], .full⟩,
  -- 0x9411 + b×2:08 STATE (0 off, 1 idle, 2 busy, 3 stuck)
  ⟨0x9411, 16, 16, 2, 1, 0, 0, 8, 1, 1, (.uns 32), .ro, false, .none, .all, .none, 0, false, none, [.v 0], (.iv 0 3)⟩,
  -- 0x9411 + b×2:09 RESULT (0 or code)
  ⟨0x9411, 16, 16, 2, 1, 0, 0, 9, 1, 1, (.uns 32), .ro, false, .none, .all, .none, 0, false, none, [.v 0], .full⟩,
  -- 0x9411 + b×2:0A–0B RECOVERIES, STUCKS
  ⟨0x9411, 16, 16, 2, 1, 0, 0, 10, 2, 1, (.uns 32), .ro, false, .none, .all, .none, 0, false, none, [.v 0], .full⟩,
  -- 0x9440 + s×2:00 (highest sub-index)
  ⟨0x9440, 4, 4, 2, 1, 0, 0, 0, 1, 1, (.uns 8), .const, false, .none, .all, .none, 0, false, none, [.v 4], .full⟩,
  -- 0x9440 + s×2:01 ENABLE
  ⟨0x9440, 4, 4, 2, 1, 0, 0, 1, 1, 1, (.uns 32), .rw, true, (.g 59), .all, .p0, 0, false, none, [.v 0], (.iv 0 1)⟩,
  -- 0x9440 + s×2:02 OWNER
  ⟨0x9440, 4, 4, 2, 1, 0, 0, 2, 1, 1, (.uns 32), .rw, true, (.g 59), .all, .p0, 0, false, none, [.v 0], (.iv 0 15)⟩,
  -- 0x9440 + s×2:03 MODE
  ⟨0x9440, 4, 4, 2, 1, 0, 0, 3, 1, 1, (.uns 32), .rw, true, (.g 59), .all, .p0, 0, false, none, [.v 0], (.iv 0 3)⟩,
  -- 0x9440 + s×2:04 CLK_KHZ
  ⟨0x9440, 4, 4, 2, 1, 0, 0, 4, 1, 1, (.uns 32), .rw, true, (.g 59), .all, .p0, 0, false, none, [.v 1000], (.iv 100 50000)⟩,
  -- 0x9441 + s×2:00 (highest sub-index)
  ⟨0x9441, 4, 4, 2, 1, 0, 0, 0, 1, 1, (.uns 8), .const, false, .none, .all, .none, 0, false, none, [.v 6], .full⟩,
  -- 0x9441 + s×2:01 CS
  ⟨0x9441, 4, 4, 2, 1, 0, 0, 1, 1, 1, (.uns 8), .rw, false, (.g 0), .all, (.owner 1 2), 0, false, none, [.v 0], (.iv 0 1)⟩,
  -- 0x9441 + s×2:02 TX_LEN
  ⟨0x9441, 4, 4, 2, 1, 0, 0, 2, 1, 1, (.uns 8), .rw, false, (.g 0), .all, (.owner 1 2), 0, false, none, [.v 1], (.iv 1 64)⟩,
  -- 0x9441 + s×2:03 GO
  ⟨0x9441, 4, 4, 2, 1, 0, 0, 3, 1, 1, (.uns 8), .wo, false, (.g 0), .all, (.owner 1 2), 0, false, none, [.v 0], (.iv 1 1)⟩,
  -- 0x9441 + s×2:04 TXDATA
  ⟨0x9441, 4, 4, 2, 1, 0, 0, 4, 1, 1, (.octet 64), .rw, false, (.g 0), .all, (.owner 1 2), 0, false, none, [.v 0], .full⟩,
  -- 0x9441 + s×2:05 RXDATA
  ⟨0x9441, 4, 4, 2, 1, 0, 0, 5, 1, 1, (.octet 64), .ro, false, .none, .all, .none, 0, false, none, [.v 0], .full⟩
  ]

/-- Rows from index 0x9441. -/
def objRows45 : List Row := [
  -- 0x9441 + s×2:06 RESULT
  ⟨0x9441, 4, 4, 2, 1, 0, 0, 6, 1, 1, (.uns 32), .ro, false, .none, .all, .none, 0, false, none, [.v 0], .full⟩,
  -- 0x9460 + u×2:00 (highest sub-index)
  ⟨0x9460, 4, 4, 2, 1, 0, 0, 0, 1, 1, (.uns 8), .const, false, .none, .all, .none, 0, false, none, [.v 7], .full⟩,
  -- 0x9460 + u×2:01 ENABLE
  ⟨0x9460, 4, 4, 2, 1, 0, 0, 1, 1, 1, (.uns 32), .rw, true, (.g 59), .all, .p0, 0, false, none, [.v 0], (.iv 0 1)⟩,
  -- 0x9460 + u×2:02 OWNER
  ⟨0x9460, 4, 4, 2, 1, 0, 0, 2, 1, 1, (.uns 32), .rw, true, (.g 59), .all, .p0, 0, false, none, [.v 0], (.iv 0 15)⟩,
  -- 0x9460 + u×2:03 BAUD
  ⟨0x9460, 4, 4, 2, 1, 0, 0, 3, 1, 1, (.uns 32), .rw, true, (.g 59), .all, .p0, 0, false, none, [.v 115200], (.iv 1200 4000000)⟩,
  -- 0x9460 + u×2:04 DATA_BITS
  ⟨0x9460, 4, 4, 2, 1, 0, 0, 4, 1, 1, (.uns 32), .rw, true, (.g 59), .all, .p0, 0, false, none, [.v 8], (.iv 7 8)⟩,
  -- 0x9460 + u×2:05 PARITY
  ⟨0x9460, 4, 4, 2, 1, 0, 0, 5, 1, 1, (.uns 32), .rw, true, (.g 59), .all, .p0, 0, false, none, [.v 0], (.iv 0 2)⟩,
  -- 0x9460 + u×2:06 STOP_BITS
  ⟨0x9460, 4, 4, 2, 1, 0, 0, 6, 1, 1, (.uns 32), .rw, true, (.g 59), .all, .p0, 0, false, none, [.v 1], (.iv 1 2)⟩,
  -- 0x9460 + u×2:07 FLOW: RTS and CTS
  ⟨0x9460, 4, 4, 2, 1, 0, 0, 7, 1, 1, .bool, .rw, true, (.g 59), .all, .p0, 0, false, none, [.v 0], (.iv 0 1)⟩,
  -- 0x9461 + u×2:00 (highest sub-index)
  ⟨0x9461, 4, 4, 2, 1, 0, 0, 0, 1, 1, (.uns 8), .const, false, .none, .all, .none, 0, false, none, [.v 5], .full⟩,
  -- 0x9461 + u×2:01 TXDATA
  ⟨0x9461, 4, 4, 2, 1, 0, 0, 1, 1, 1, (.octet 64), .rw, false, (.g 0), .all, (.owner 1 2), 0, false, none, [.v 0], .full⟩,
  -- 0x9461 + u×2:02 TX_LEN (write sends)
  ⟨0x9461, 4, 4, 2, 1, 0, 0, 2, 1, 1, (.uns 8), .rw, false, (.g 0), .all, (.owner 1 2), 0, false, none, [.v 0], (.iv 1 64)⟩,
  -- 0x9461 + u×2:03 RXDATA, 4 KiB buffer
  ⟨0x9461, 4, 4, 2, 1, 0, 0, 3, 1, 1, (.domain 4096), .ro, false, .none, .all, .none, 0, false, none, [.v 0], .full⟩,
  -- 0x9461 + u×2:04–05 OVERFLOWS, LINE_ERRORS
  ⟨0x9461, 4, 4, 2, 1, 0, 0, 4, 2, 1, (.uns 32), .ro, false, .none, .all, .none, 0, false, none, [.v 0], .full⟩,
  -- 0x9480 + c×2:00 (highest sub-index)
  ⟨0x9480, 4, 4, 2, 1, 0, 0, 0, 1, 1, (.uns 8), .const, false, .none, .all, .none, 0, false, none, [.v 5], .full⟩,
  -- 0x9480 + c×2:01 ENABLE
  ⟨0x9480, 4, 4, 2, 1, 0, 0, 1, 1, 1, (.uns 32), .rw, true, (.g 59), .all, .p0, 0, false, none, [.v 0], (.iv 0 1)⟩,
  -- 0x9480 + c×2:02 NOMINAL_KBPS
  ⟨0x9480, 4, 4, 2, 1, 0, 0, 2, 1, 1, (.uns 32), .rw, true, (.g 59), .all, .p0, 0, false, none, [.v 500], (.iv 10 1000)⟩,
  -- 0x9480 + c×2:03 FD_DATA_KBPS
  ⟨0x9480, 4, 4, 2, 1, 0, 0, 3, 1, 1, (.uns 32), .rw, true, (.g 59), .all, .p0, 0, false, none, [.v 2000], (.iv 0 8000)⟩,
  -- 0x9480 + c×2:04 XL_DATA_KBPS
  ⟨0x9480, 4, 4, 2, 1, 0, 0, 4, 1, 1, (.uns 32), .rw, true, (.g 59), .all, .p0, 0, false, none, [.v 0], (.iv 0 10000)⟩,
  -- 0x9480 + c×2:05 SAMPLE_POINT_PERMILLE
  ⟨0x9480, 4, 4, 2, 1, 0, 0, 5, 1, 1, (.uns 32), .rw, true, (.g 59), .all, .p0, 0, false, none, [.v 800], (.iv 500 900)⟩,
  -- 0x9481 + c×2:00 (highest sub-index)
  ⟨0x9481, 4, 4, 2, 1, 0, 0, 0, 1, 1, (.uns 8), .const, false, .none, .all, .none, 0, false, none, [.v 5], .full⟩,
  -- 0x9481 + c×2:01 STATE
  ⟨0x9481, 4, 4, 2, 1, 0, 0, 1, 1, 1, (.uns 8), .ro, false, .none, .all, .none, 0, false, none, [.v 0], (.iv 0 3)⟩,
  -- 0x9481 + c×2:02–03 TEC, REC
  ⟨0x9481, 4, 4, 2, 1, 0, 0, 2, 2, 1, (.uns 8), .ro, false, .none, .all, .none, 0, false, none, [.v 0], (.iv 0 255)⟩,
  -- 0x9481 + c×2:04–05 BUS_OFFS, HB_DROPPED
  ⟨0x9481, 4, 4, 2, 1, 0, 0, 4, 2, 1, (.uns 32), .ro, false, .none, .all, .none, 0, false, none, [.v 0], .full⟩,
  -- 0x94A0 + m×4:00 (highest sub-index)
  ⟨0x94A0, 2, 2, 4, 1, 0, 0, 0, 1, 1, (.uns 8), .const, false, .none, .all, .none, 0, false, none, [.v 10], .full⟩,
  -- 0x94A0 + m×4:01 ENABLE
  ⟨0x94A0, 2, 2, 4, 1, 0, 0, 1, 1, 1, (.uns 32), .rw, true, (.g 59), .all, .p0, 0, false, none, [.v 0], (.iv 0 1)⟩,
  -- 0x94A0 + m×4:02 INTERFACE
  ⟨0x94A0, 2, 2, 4, 1, 0, 0, 2, 1, 1, (.uns 32), .rw, true, (.g 59), .all, .p0, 0, false, none, [.v 0], (.iv 0 2)⟩,
  -- 0x94A0 + m×4:03 SPEED_MBPS
  ⟨0x94A0, 2, 2, 4, 1, 0, 0, 3, 1, 1, (.uns 32), .rw, true, (.g 59), .all, .p0, 0, false, none, [.v 1000], (.iv 10 10000)⟩,
  -- 0x94A0 + m×4:04 MAC_ADDR [47:0]; default from SERIAL
  ⟨0x94A0, 2, 2, 4, 1, 0, 0, 4, 1, 1, (.uns 64), .rw, true, (.g 59), .all, .p0, 0, false, none, [.ident 48], (.iv 0 281474976710655)⟩,
  -- 0x94A0 + m×4:05 IP_ADDR
  ⟨0x94A0, 2, 2, 4, 1, 0, 0, 5, 1, 1, (.octet 16), .rw, true, (.g 59), .all, .p0, 0, false, none, [.v 0], .full⟩
  ]

/-- Rows from index 0x94A0. -/
def objRows46 : List Row := [
  -- 0x94A0 + m×4:06 PREFIX_LEN
  ⟨0x94A0, 2, 2, 4, 1, 0, 0, 6, 1, 1, (.uns 8), .rw, true, (.g 59), .all, .p0, 0, false, none, [.v 64], (.iv 0 128)⟩,
  -- 0x94A0 + m×4:07 VLAN_ID
  ⟨0x94A0, 2, 2, 4, 1, 0, 0, 7, 1, 1, (.uns 16), .rw, true, (.g 59), .all, .p0, 0, false, none, [.v 0], (.iv 0 4094)⟩,
  -- 0x94A0 + m×4:08 PCP
  ⟨0x94A0, 2, 2, 4, 1, 0, 0, 8, 1, 1, (.uns 16), .rw, true, (.g 59), .all, .p0, 0, false, none, [.v 5], (.iv 0 7)⟩,
  -- 0x94A0 + m×4:09–0A TX_DELAY_NS, RX_DELAY_NS
  ⟨0x94A0, 2, 2, 4, 1, 0, 0, 9, 2, 1, (.uns 16), .rw, true, (.g 59), .all, .p0, 0, false, none, [.v 0], (.iv 0 2000)⟩,
  -- 0x94A1 + m×4:00 (highest sub-index)
  ⟨0x94A1, 2, 2, 4, 1, 0, 0, 0, 1, 1, (.uns 8), .const, false, .none, .all, .none, 0, false, none, [.v 5], .full⟩,
  -- 0x94A1 + m×4:01–02 EthState m: LINK (0 down, 1 up); SPEED_MBPS
  ⟨0x94A1, 2, 2, 4, 1, 0, 0, 1, 2, 1, (.uns 32), .ro, false, .none, .all, .none, 0, false, none, [.v 0], .full⟩,
  -- 0x94A1 + m×4:03–05 RX_FRAMES, TX_FRAMES, CRC_ERRORS
  ⟨0x94A1, 2, 2, 4, 1, 0, 0, 3, 3, 1, (.uns 32), .ro, false, .none, .all, .none, 0, false, none, [.v 0], .full⟩,
  -- 0x94A2 + m×4:00 (highest sub-index)
  ⟨0x94A2, 2, 2, 4, 1, 0, 0, 0, 1, 1, (.uns 8), .const, false, .none, .all, .none, 0, false, none, [.v 4], .full⟩,
  -- 0x94A2 + m×4:01 CYCLE_NS
  ⟨0x94A2, 2, 2, 4, 1, 0, 0, 1, 1, 1, (.uns 64), .rw, true, (.g 59), .all, .p0, 0, false, none, [.v 1000000], (.iv 1000 1000000000)⟩,
  -- 0x94A2 + m×4:02 BASE_TIME
  ⟨0x94A2, 2, 2, 4, 1, 0, 0, 2, 1, 1, (.uns 64), .rw, true, (.g 59), .all, .p0, 0, false, none, [.v 0], .full⟩,
  -- 0x94A2 + m×4:03 GCL, 64 entries (R469)
  ⟨0x94A2, 2, 2, 4, 1, 0, 0, 3, 1, 1, (.octet 512), .rw, true, (.g 59), .all, .p0, 0, false, none, [.v 0], .full⟩,
  -- 0x94A2 + m×4:04 GCL_COUNT
  ⟨0x94A2, 2, 2, 4, 1, 0, 0, 4, 1, 1, (.uns 8), .rw, true, (.g 59), .all, .p0, 0, false, none, [.v 1], (.iv 1 64)⟩,
  -- 0x9500 + k:00 (highest sub-index)
  ⟨0x9500, 8, 8, 1, 1, 0, 0, 0, 1, 1, (.uns 8), .const, false, .none, .all, .none, 0, false, none, [.v 4], .full⟩,
  -- 0x9500 + k:01 OUT
  ⟨0x9500, 8, 8, 1, 1, 0, 0, 1, 1, 1, (.bits 32), .rw, false, (.g 0), .all, .all, 0, false, none, [.v 0], (.mask 0xFFFF)⟩,
  -- 0x9500 + k:02 IN
  ⟨0x9500, 8, 8, 1, 1, 0, 0, 2, 1, 1, (.bits 32), .ro, false, .none, .all, .none, 0, false, none, [.v 0], (.mask 0xFFFF)⟩,
  -- 0x9500 + k:03 VIO_MV
  ⟨0x9500, 8, 8, 1, 1, 0, 0, 3, 1, 1, (.uns 16), .ro, false, .none, .all, .none, 0, false, none, [.v 0], (.iv 0 3700)⟩,
  -- 0x9500 + k:04 STATE
  ⟨0x9500, 8, 8, 1, 1, 0, 0, 4, 1, 1, (.uns 16), .ro, false, .none, .all, .none, 0, false, none, [.v 0], (.iv 0 1)⟩,
  -- 0x9600 + n:00 (highest sub-index)
  ⟨0x9600, 128, 128, 1, 1, 0, 0, 0, 1, 1, (.uns 8), .const, false, .none, .all, .none, 0, false, none, [.v 5], .full⟩,
  -- 0x9600 + n:01 MODE
  ⟨0x9600, 128, 128, 1, 1, 0, 0, 1, 1, 1, (.uns 8), .rw, true, (.g 59), .all, .all, 0, false, none, [.v 0], (.iv 0 3)⟩,
  -- 0x9600 + n:02 DRIVE_MA
  ⟨0x9600, 128, 128, 1, 1, 0, 0, 2, 1, 1, (.uns 8), .rw, true, (.g 59), .all, .all, 0, false, none, [.v 4], (.pieces [(2, 2), (4, 4), (8, 8), (12, 12)])⟩,
  -- 0x9600 + n:03 PULL
  ⟨0x9600, 128, 128, 1, 1, 0, 0, 3, 1, 1, (.uns 8), .rw, true, (.g 59), .all, .all, 0, false, none, [.v 0], (.iv 0 2)⟩,
  -- 0x9600 + n:04 DEBOUNCE_US
  ⟨0x9600, 128, 128, 1, 1, 0, 0, 4, 1, 1, (.uns 16), .rw, true, (.g 59), .all, .all, 0, false, none, [.v 0], (.iv 0 10000)⟩,
  -- 0x9600 + n:05 IRQ_EDGE
  ⟨0x9600, 128, 128, 1, 1, 0, 0, 5, 1, 1, (.uns 16), .rw, true, (.g 59), .all, .all, 0, false, none, [.v 0], (.iv 0 3)⟩,
  -- 0x9700:00 (highest sub-index)
  ⟨0x9700, 1, 1, 0, 1, 0, 0, 0, 1, 1, (.uns 8), .const, false, .none, .all, .none, 0, false, none, [.v 2], .full⟩,
  -- 0x9700:01 SpecialPins: LEVELS [0] SAFE_OK, [1] ALIVE, [2] TWIN_ALIVE_IN, [3] TWI
  ⟨0x9700, 1, 1, 0, 1, 0, 0, 1, 1, 1, (.bits 32), .ro, false, .none, .all, .none, 0, false, none, [.v 0], (.mask 0x1FFFFF)⟩,
  -- 0x9700:02 COMMIT_IN_EDGES
  ⟨0x9700, 1, 1, 0, 1, 0, 0, 2, 1, 1, (.uns 32), .ro, false, .none, .all, .none, 0, false, none, [.v 0], .full⟩
  ]

/-- Rows from index 0xC000. -/
def objRows47 : List Row := [
  -- 0xC000 + u:00 WearCounter u, u = 0–255
  ⟨0xC000, 256, 256, 1, 1, 0, 0, 0, 1, 1, (.uns 64), .rw, false, (.g 0), .all, .all, 0, false, none, [.v 0], .full⟩,
  -- 0xC100 + w:00 UserWord w, w = 0–15,871
  ⟨0xC100, 15872, 15872, 1, 1, 0, 0, 0, 1, 1, (.uns 64), .rw, false, (.g 0), .all, .all, 0, false, none, [.v 0], .full⟩
  ]

/-- Rows from index 0xFF00. -/
def objRows48 : List Row := [
  -- 0xFF00 + k:00 UserBlock k, k = 0–127
  ⟨0xFF00, 128, 128, 1, 1, 0, 0, 0, 1, 1, (.octet 1024), .rw, false, (.g 0), .all, .all, 0, false, none, [.v 0], .full⟩
  ]

/-- The rows that may hold an index, chosen by range so that a look-up need not walk the whole table. -/
def rowsFor (idx : Nat) : List Row :=
  if idx < 0x1000 then objRows0
  else
  if idx < 0x1100 then objRows1 ++ objRows2
  else
  if idx < 0x2000 then objRows2 ++ objRows3 ++ objRows4
  else
  if idx < 0x3000 then objRows5 ++ objRows6
  else
  if idx < 0x3400 then objRows7 ++ objRows8 ++ objRows9
  else
  if idx < 0x4000 then objRows10 ++ objRows11
  else
  if idx < 0x5000 then objRows12 ++ objRows13 ++ objRows14
  else
  if idx < 0x5700 then objRows15 ++ objRows16
  else
  if idx < 0x5800 then objRows17
  else
  if idx < 0x6800 then objRows18 ++ objRows19
  else
  if idx < 0x6900 then objRows20
  else
  if idx < 0x7000 then objRows20 ++ objRows21 ++ objRows22
  else
  if idx < 0x7400 then objRows23 ++ objRows24
  else
  if idx < 0x7800 then objRows25
  else
  if idx < 0x8000 then objRows26 ++ objRows27 ++ objRows28
  else
  if idx < 0x8300 then objRows29 ++ objRows30
  else
  if idx < 0x8500 then objRows30 ++ objRows31
  else
  if idx < 0x8800 then objRows32 ++ objRows33 ++ objRows34
  else
  if idx < 0x8C00 then objRows35 ++ objRows36 ++ objRows37
  else
  if idx < 0x8E00 then objRows38 ++ objRows39
  else
  if idx < 0x9000 then objRows39 ++ objRows40
  else
  if idx < 0x9180 then objRows41 ++ objRows42 ++ objRows43
  else
  if idx < 0x9200 then objRows43
  else
  if idx < 0x9400 then objRows43
  else
  if idx < 0xA000 then objRows44 ++ objRows45 ++ objRows46
  else
  if idx < 0xC000 then []
  else
  if idx < 0x10000 then objRows47 ++ objRows48
  else []

end Sys2Proof.Machine
end

