-- ==== Sys2Proof/Machine/State.lean ====
section
/-!
DEFINITION. The state of the SX16 as plain data. The dictionary registers of every chapter are held in sparse maps
from an object's key to its value, where an object that is not listed holds its Default (DESIGN CHOICE, log entry 7); everything the
spec gives the machine beside its dictionary (queues, engines, sessions, latches, buffers, pins) is in the records
below, chapter by chapter.
-/
namespace Sys2Proof.Machine

/-- No command of this block faults: to every access the spec forbids it gives an effect of its own (a refusal that
is counted and recorded, or zero data and a counted violation). -/
inductive Fault where
  deriving DecidableEq, Repr

/-- Why a command has no meaning in the model. -/
inductive Refusal where
  /-- The command of this mnemonic has no meaning yet: raised by `exec` alone, safe. -/
  | notModelled (mnemonic : String)
  deriving DecidableEq, Repr

/-- What is fixed in one device: its ordering code (R1, R3) and the DRAM fitted on its board (R315). `dramGen` is 1
LP4X, 2 LP5, 3 LP5X, 4 LP6; `dramMib` the MiB per channel; `dramFitted` one bit for each channel fitted. -/
structure Cfg where
  compact : Bool
  gradeI : Bool
  dramGen : Nat
  dramMib : Nat
  dramFitted : Nat
  deriving DecidableEq, Repr

/-! ## The object dictionary (chapter 02) -/

/-- Rate limiting of one status object (R47): `key` of the object, time of its last advance, a pending advance, and
for a limit per flag the flags that have advanced in the running epoch or frame and those with a pending advance. -/
structure StatusMeta where
  key : Nat
  last : Nat
  pend : Bool
  used : Nat
  pendFlags : Nat
  deriving DecidableEq, Repr

/-- A half latch (R58): the partition and world it belongs to, the slot it holds and the held half. -/
structure HalfLatch where
  part : Nat
  secure : Bool
  slot : Nat
  half : Nat
  deriving DecidableEq, Repr

/-- One group's pending or armed set (R49, R53): the group, the committing partition and commit number, ALIGN, the
release conditions while it is armed, the copied values and blocks, the Tilsol binding a report is pushed to with the tag of its Commit,
and when the commit was accepted or its armed set released (R50, R53). -/
structure PendingSet where
  group : Nat
  part : Nat
  commit : Nat
  align : Bool
  armed : Bool
  onPin : Bool
  atTime : Option Nat
  pinDeadline : Option Nat
  vals : List (Nat × Word)
  blks : List (Nat × Block)
  client : Option (Nat × Nat)
  at_ : Nat
  /-- A CG_INTEGRITY set that Markhor has not accepted yet (R294), and the regions whose STATE_SELECT it commits (R219). -/
  markhor : Bool
  selects : List Nat
  deriving DecidableEq, Repr

/-- A running STORE (R36): the groups, the storing partition and the new records beside the previous ones. -/
structure StoreOp where
  groups : Nat
  part : Nat
  vals : List (Nat × Word)
  blks : List (Nat × Block)
  deriving DecidableEq, Repr

/-- The selection of a partition's DomainPort (R61): key of the block object, next read offset, generation at the
selection, and the bytes staged. -/
structure PortSel where
  part : Nat
  key : Nat
  offset : Nat
  gen : Nat
  ended : Bool
  staged : List Byte
  deriving DecidableEq, Repr

/-- The values of a group that a head's raster still uses (R52): an ALIGN commit has made others active at the epoch, and
the head takes them at its next vertical blank. -/
structure RasterHold where
  group : Nat
  head : Nat
  vals : List (Nat × Word)
  blks : List (Nat × Block)
  deriving DecidableEq, Repr

structure DictState where
  status : List StatusMeta
  readLatches : List HalfLatch
  writeLatches : List HalfLatch
  sets : List PendingSet
  nextCommit : Nat
  rasters : List RasterHold
  store : Option StoreOp
  /-- Snapshot sets, one for each trigger that waits behind a running capture (R59). -/
  deferred : List Nat
  ports : List PortSel
  /-- RWO objects written since their clear event (R33). -/
  written : List Nat
  deriving DecidableEq, Repr

/-! ## Events (chapter 18) -/

/-- A delivery path of R424: the event ring of a partition, a Tilsol subscription by its identity, the emergency
frame of a transport. -/
inductive EvPath where
  | ring (p : Nat)
  | sub (id : Nat)
  | emcy (transport : Nat)
  deriving DecidableEq, Repr

/-- What an event occurrence says: SOURCE, CODE and PARTITION, its key (R426), and severity and payload (R421). -/
structure Occ where
  source : Nat
  code : Nat
  part : Nat
  sev : Nat
  payload : List Byte
  deriving DecidableEq, Repr

/-- A coalescing slot (R426): `count` occurrences are counted in it since its record was delivered, the first at
`first`, the last at `last`; `payload` is the first counted occurrence's. -/
structure EvSlot where
  source : Nat
  code : Nat
  part : Nat
  sev : Nat
  ends : Nat
  count : Nat
  first : Nat
  last : Nat
  payload : List Byte
  deriving DecidableEq, Repr

/-- A token bucket (R427): the level in units of 10⁻⁹ tokens at the time `at`. -/
structure EvBucket where
  source : Nat
  level : Nat
  at_ : Nat
  deriving DecidableEq, Repr

/-- A record in the store (R421, R428): its fields, the count it stands for and the time of the last occurrence, the
paths it still waits on, and whether a path has taken or dropped it. -/
structure EvRec where
  time : Nat
  source : Nat
  sev : Nat
  part : Nat
  coalesced : Bool
  merged : Bool
  code : Nat
  seq : Nat
  payload : List Byte
  count : Nat
  last : Nat
  paths : List EvPath
  delivered : Bool
  deriving DecidableEq, Repr

/-- What a path has lost since its last loss summary (R430): per severity Error to Debug, Critical folds, and the
times of the first and last loss. -/
structure PathLoss where
  path : EvPath
  lost : List Nat
  folds : Nat
  first : Nat
  last : Nat
  deriving DecidableEq, Repr

structure EvState where
  slots : List EvSlot
  buckets : List EvBucket
  store : List EvRec
  /-- The next SEQ of each PARTITION value, held in PD0 (R423, R431). -/
  seqs : List Nat
  losses : List PathLoss
  reserveFull : Bool
  /-- When the last Emergency frame of each transport went out (R87). -/
  emcyLast : List (Nat × Nat)
  alivePin : Bool
  deriving DecidableEq, Repr

/-! ## Time base and die-to-die link (chapter 01) -/

/-- `wallOff` is Wall time minus device time, modulo 2^64, while Wall time is valid. `lastEpoch` and `nextEpoch` are
the instants of the last and of the next frame epoch in device time. `spare` counts failed die-to-die lanes whose
switch to a spare lane waits for the epoch, `edgeLost` tells that the edge die is unreachable (R15). `realign` tells that
the next epoch realigns to the Wall-time grid (R23). `good` and `bad` count time flits in a row within and outside
±10 ns, and `syncAt` is when the last one was taken (R348). -/
structure TimeState where
  wallOff : Nat
  lastEpoch : Nat
  nextEpoch : Nat
  spare : Nat
  edgeLost : Bool
  realign : Bool
  good : Nat
  bad : Nat
  syncAt : Nat
  deriving DecidableEq, Repr



/-! ## Tilsol sessions (chapter 03) -/

/-- A subscription (R82): its SUB_ID, client binding, kind, the object it names, minimum interval and severity, the
value last pushed and when; `tag` is the Subscribe's, which its pushes carry (DESIGN CHOICE, log entry 92). -/
structure TilSub where
  id : Nat
  binding : Nat
  kind : Nat
  key : Nat
  intervalMs : Nat
  sev : Nat
  lastValue : Word
  lastPush : Option Nat
  tag : Nat
  deriving DecidableEq, Repr

/-- A staged WriteSeg transfer (R80): who opened it with which tag, the object, TOTAL_LEN, the bytes staged, the
OFFSET of the last segment and when it came. -/
structure TilXfer where
  binding : Nat
  tag : Nat
  key : Nat
  total : Nat
  staged : List Byte
  lastOff : Nat
  lastAt : Nat
  deriving DecidableEq, Repr

/-- A request that has been taken and not answered (R84): `node` is the node a forwarded request went to, `key` the
object whose write is answered when its run ends, `payload` what a successful answer then carries. -/
structure TilReq where
  binding : Nat
  head : TilHead
  node : Option Nat
  key : Nat
  payload : List Byte
  started : Bool
  deriving DecidableEq, Repr

/-- An accepted counter of a binding with its cached response, once there is one (R74): what it echoes, STATUS and what
follows. -/
structure TilCached where
  binding : Nat
  counter : Nat
  answer : Option (TilHead × Nat × List Byte)
  deriving DecidableEq, Repr

/-- A mailbox request that has no answer yet (R71): the partition of its function, the bytes that the device has read, and
whether the request has been taken. -/
structure Mail where
  part : Nat
  data : List Byte
  taken : Bool
  deriving DecidableEq, Repr

structure TilState where
  subs : List TilSub
  xfers : List TilXfer
  reqs : List TilReq
  cached : List TilCached
  /-- Stored RX_COUNTER and PUSH_COUNTER of each binding in eMRAM (R75). -/
  rxStored : List (Nat × Nat)
  pushStored : List (Nat × Nat)
  /-- The broadcast counter, its stored value, KEY_GEN, whether the next generation is derived, whether broadcasts
  have stopped (R88). -/
  bcast : Nat
  bcastStored : Nat
  bcastGen : Nat
  bcastNext : Bool
  bcastStopped : Bool
  /-- When the last heartbeat was sent. -/
  hbLast : Option Nat
  mailbox : List Mail
  /-- Bindings whose re-key Markhor is working on (R309). -/
  rekeying : List Nat
  /-- The keys that the bindings' key slots hold, slot k for binding k, and the broadcast key of generation KEY_GEN (R72, R88). No
  interface reads them. -/
  keys : List (Nat × Nat)
  bcastKey : Nat
  /-- How each binding's last accepted request came: transport, and CAN controller, sender, partition or node; pushes go the same
  way (DESIGN CHOICE, log entry 92). -/
  ways : List (Nat × Nat × Nat)
  deriving DecidableEq, Repr


/-! ## Plans (chapter 04): a plan image as its sections say -/

/-- A PARTITIONS entry (R95). -/
structure PlanPart where
  part : Nat
  maxClass : Nat
  deriving DecidableEq, Repr

/-- A GROUPS entry (R95). -/
structure PlanGroup where
  group : Nat
  boundary : Nat
  head : Nat
  rights : Nat
  deriving DecidableEq, Repr

/-- A HEADS entry (R96). -/
structure PlanHead where
  head : Nat
  flags : Nat
  port : Nat
  clone : Nat
  mult : Nat
  clockKhz : Nat
  hActive : Nat
  hTotal : Nat
  hSyncStart : Nat
  hSyncWidth : Nat
  vActive : Nat
  vTotal : Nat
  vSyncStart : Nat
  vSyncWidth : Nat
  phaseNs : Nat
  vrrMin : Nat
  vrrMax : Nat
  dirFirst : Nat
  cols : Nat
  rows : Nat
  scan4k : Nat
  deriving DecidableEq, Repr

/-- A LAYERS entry (R97). -/
structure PlanLayer where
  slot : Nat
  z : Nat
  head : Nat
  owner : Nat
  cls : Nat
  blend : Nat
  kind : Nat
  format : Nat
  flags : Nat
  group : Nat
  width : Nat
  height : Nat
  xMin : Int
  yMin : Int
  xMax : Int
  yMax : Int
  srcXMax : Nat
  srcYMax : Nat
  alphaMin : Nat
  alphaMax : Nat
  initX : Int
  initY : Int
  initSrcX : Nat
  initSrcY : Nat
  initAlpha : Nat
  maxFrameAge : Nat
  sourceRef : Nat
  maxSourceAge : Nat
  deriving DecidableEq, Repr

/-- A batch of a SLOT_TABLE block (R103). -/
structure PlanBatch where
  engine : Nat
  layout : Nat
  head : Nat
  flags : Nat
  firstTile : Nat
  tiles : Nat
  startSlot : Nat
  endSlot : Nat
  dram4k : Nat
  fabric4k : Nat
  deriving DecidableEq, Repr

/-- A CVU_SETTINGS entry (R106). -/
structure PlanCvu where
  poly : Nat
  init : Nat
  xorout : Nat
  width : Nat
  refin : Bool
  refout : Bool
  deriving DecidableEq, Repr

/-- A REGIONS entry (R106). -/
structure PlanRegion where
  region : Nat
  head : Nat
  point : Nat
  x : Nat
  y : Nat
  w : Nat
  h : Nat
  cvu : Nat
  expect : Nat
  table : Nat
  golden : Nat
  reactions : Nat
  fallback : Nat
  deriving DecidableEq, Repr

/-- A state of a STATE_TABLES entry, and the entry (R106). -/
structure PlanStateRow where
  golden : Nat
  dwell : Nat
  next : Nat
  deriving DecidableEq, Repr

structure PlanTable where
  count : Nat
  initial : Nat
  states : List PlanStateRow
  deriving DecidableEq, Repr

/-- A FALLBACK_IMAGES entry with its data (R107). -/
structure PlanImage where
  image : Nat
  format : Nat
  whereIs : Nat
  width : Nat
  height : Nat
  libraryId : Nat
  data : List Byte
  deriving DecidableEq, Repr

/-- A FAILOVER_LAYOUTS entry (R108). -/
structure PlanFailover where
  layout : Nat
  localHead : Nat
  partnerHead : Nat
  partnerPlan : Nat
  dirFirst : Nat
  fallbackDirFirst : Nat
  deriving DecidableEq, Repr

/-- A TOUCH_KEYS entry (R109). -/
structure PlanKey where
  head : Nat
  key : Nat
  flags : Nat
  owner : Nat
  x : Nat
  y : Nat
  w : Nat
  h : Nat
  threshold : Nat
  hysteresis : Nat
  debounce : Nat
  effect : Nat
  port : Nat
  deriving DecidableEq, Repr

/-- A plan image read for one node: header fields of R91 and sections. -/
structure Plan where
  formatVersion : Nat
  planId : Nat
  length : Nat
  securityVersion : Nat
  target : Nat
  kind : Nat
  partner : Nat
  topology : Nat
  wallCols : Nat
  wallRows : Nat
  nodeCount : Nat
  epochSource : Nat
  epochPeriod : Nat
  parts : List PlanPart
  groups : List PlanGroup
  heads : List PlanHead
  layers : List PlanLayer
  dir : List Nat
  steps : List Nat
  masks : List (List Byte)
  batches : List PlanBatch
  cvus : List PlanCvu
  regions : List PlanRegion
  tables : List PlanTable
  images : List PlanImage
  failovers : List PlanFailover
  keys : List PlanKey
  /-- The remote-stream layers of other nodes whose source is this node, with their nodes; 0xFF is the partner of a Twin
  (R93, R138). -/
  remote : List (Nat × PlanLayer)
  deriving DecidableEq, Repr

/-- A prepared plan (R114): the physical engine of each logical engine, the layers shed, the spaces of the frame stores
that are new, by head, and the surfaces of the preloaded images. -/
structure Prepared where
  binding : List Nat
  shed : List Nat
  stores : List (Nat × Nat)
  images : List Nat
  deriving DecidableEq, Repr

structure PlanState where
  /-- The plan in force, and whether it is the early plan. -/
  active : Option Plan
  early : Bool
  /-- The staged image as validation read it, once STATE is valid. -/
  valid : Option Plan
  /-- The running long action (R114): 0 none, 1 re-validate, 2 store, 3 load, 7 erase. -/
  action : Nat
  /-- The slot that TARGET_SLOT named when it started. -/
  actionSlot : Nat
  /-- Preparation ends in a swap (ACTION 4); the time a ready image is held until; the Wall time of a swap. -/
  swapWhenReady : Bool
  readyUntil : Nat
  swapAt : Option Nat
  /-- The images in the four eMRAM slots, and the image of the early staging area. -/
  slots : List (Nat × List Byte)
  earlyImage : List Byte
  /-- The SECURITY_VERSION still to be fused for the active plan (R113). -/
  raiseLevel : Option Nat
  /-- What preparation has made for the plan that waits for its swap. -/
  prep : Option Prepared
  /-- The running validation or preparation is that of the plan that start-up loads from BOOT_SLOT (R453). -/
  boot : Bool
  /-- The failover layout each local head composes under (R108); absent 0. -/
  layouts : List (Nat × Nat)
  deriving DecidableEq, Repr

/-! ## Surfaces and placement (chapter 05) -/

/-- A surface, or the space of a frame store (`owner` 255). `loc` is 0 tile store, 1 DRAM group, 2 remote node; `group`
the group or node; `addr` and `hdr` the internal addresses of its data and header areas; `ctx` the hash context it was
placed under; `clear` the recorded clear colour (R154); `hot` its accesses in the running window. -/
structure Surf where
  id : Nat
  owner : Nat
  w : Nat
  h : Nat
  format : Nat
  layout : Nat
  cls : Nat
  size : Nat
  hdrSize : Nat
  loc : Nat
  group : Nat
  addr : Nat
  hdr : Nat
  ctx : Nat
  clear : Nat
  lost : Bool
  homeless : Bool
  image : Option Nat
  hot : Nat
  deriving DecidableEq, Repr

/-- A slot of a partition's surface table (R120, R121). `rights` is 0 for the owner's handle, 1 a grant to read, 2 a
grant to read and write; `aper` the aperture offset. -/
structure Handle where
  part : Nat
  slot : Nat
  gen : Nat
  live : Bool
  retired : Bool
  surf : Nat
  rights : Nat
  aper : Nat
  deriving DecidableEq, Repr

/-- A freed aperture range (R126), with the epoch count at the end of which it may be assigned again. -/
structure Quarantine where
  part : Nat
  aper : Nat
  size : Nat
  left : Nat
  deriving DecidableEq, Repr

/-- A hash context of a group (R128, R129): bits [31:8] of the eight masks, the channels its CHMAP is made of, and
when it was created. -/
structure HashCtx where
  group : Nat
  ctx : Nat
  masks : List Nat
  chans : List Nat
  made : Nat
  deriving DecidableEq, Repr

/-- A migration (R131): `phase` 0 bulk copy, 1 dirty passes, 2 waiting for the hold, 3 held; the new place, the
passes made, the 64 KiB pages the running pass copies and those dirtied since. `channel` is the hot channel it runs for. -/
structure Migration where
  surf : Nat
  phase : Nat
  group : Nat
  loc : Nat
  addr : Nat
  hdr : Nat
  ctx : Nat
  passes : Nat
  copying : List Nat
  dirty : List Nat
  channel : Option Nat
  deriving DecidableEq, Repr

/-- A tile of a source column that a receiving node waits for (R139): the frame of a remote stream. -/
structure StreamTile where
  tile : Nat
  header : Nat
  data : List Byte
  deriving DecidableEq, Repr

/-- A remote stream (R139, R165): the complete frame it shows and the one that is arriving, for epoch `want`. -/
structure Stream where
  node : Nat
  stream : Nat
  tiles : List StreamTile
  epoch : Nat
  next : List StreamTile
  want : Nat
  need : List Nat
  late : Bool
  time : Nat
  deriving DecidableEq, Repr

/-- A write that waits at its port while its surface is in the hold of its migration (R131): bytes of the data area, or of the
header area, from an offset on. -/
structure HeldWrite where
  surf : Nat
  header : Bool
  off : Nat
  data : List Byte
  deriving DecidableEq, Repr

structure PlaceState where
  surfs : List Surf
  nextId : Nat
  handles : List Handle
  quarantine : List Quarantine
  ctxs : List HashCtx
  migs : List Migration
  /-- Channels for which the balance migration of R130 goes on. -/
  campaigns : List Nat
  /-- Surfaces whose migration was abandoned, with the time from which it may be tried again. -/
  retry : List (Nat × Nat)
  heldWrites : List HeldWrite
  /-- Groups whose re-key waits until their oldest context is free (R129). -/
  rekeyDue : List Nat
  /-- When each group was last re-keyed, and when a migration of it last ended. -/
  rekeyed : List (Nat × Nat)
  migEnded : List (Nat × Nat)
  /-- Units marked unusable (R27): kind and instance. -/
  lost : List (UnitKind × Nat)
  /-- A binding that has been computed and waits for the epoch (R136): physical engine of each logical engine, and
  the layers it sheds and drops. -/
  binding : Option (List Nat × List Nat × List Nat)
  /-- The units whose loss makes a computation of a binding due (R136). -/
  rebinding : List (UnitKind × Nat)
  /-- Layers shed, and class B layers dropped, until the next plan swap. -/
  shed : List Nat
  dropped : List Nat
  /-- The applied VF_BAR2_LOG2 (R125). -/
  vfBar : Nat
  streams : List Stream
  deriving DecidableEq, Repr


/-! ## Composition (chapter 06) -/

/-- The live geometry of a layer. -/
structure Geom where
  x : Int
  y : Int
  srcX : Nat
  srcY : Nat
  alpha : Nat
  visible : Bool
  deriving DecidableEq, Repr

/-- What a layer reads (R165). -/
inductive LSrc where
  | none
  | surf (id : Nat)
  | image (n : Nat)
  | ring (input entry : Nat)
  | stream (node stream : Nat)
  | const
  deriving DecidableEq, Repr

/-- A layer slot in composition: its source, the damage of the frame in surface coordinates (`whole` for all of the
layer), the geometry of the last frame and of this one (a layer that is shed or hidden counts as not visible), and the
number of the re-placement of R137 that last moved its source, 0 for none. -/
structure LayerSt where
  slot : Nat
  src : LSrc
  damage : List Rect
  whole : Bool
  old : Geom
  geom : Geom
  replaced : Nat
  time : Nat
  deriving DecidableEq, Repr

/-- A tile of a frame store (R160): which copy is current, the pending state (0 IDLE, 1 WRITING, 2 COMPLETE), the
header and the stored words of each copy, whether its last composition was an overrun, whether it has been composed
since the last swap, the frame number of each copy's content, and how many re-placements there had been when its last
composition began (R164). -/
structure FTile where
  cur : Bool
  pend : Nat
  hdr0 : Nat
  px0 : List Nat
  hdr1 : Nat
  px1 : List Nat
  overrun : Bool
  composed : Bool
  frame0 : Nat
  frame1 : Nat
  repl : Nat
  deriving DecidableEq, Repr

/-- The frame store of a head; `surf` is the space it occupies, `done` the tiles composed in the running frame,
`late` the overrun tiles of the frame so far, `evented` whether the frame has raised its overrun event. -/
structure FStore where
  head : Nat
  surf : Nat
  tiles : List FTile
  done : Nat
  late : Nat
  evented : Bool
  deriving DecidableEq, Repr

/-- A tile an engine has in flight: head, tile number and the composed words. -/
structure Flight where
  head : Nat
  tile : Nat
  words : List Nat
  /-- The composition frame and the sub-frame of the batch that produced it (R216). -/
  frame : Nat
  sub : Nat
  deriving DecidableEq, Repr

/-- A physical engine: the batch it runs (its position in the plan's list), the next tile of it and the tiles in
flight, oldest first; `waits` names the clone heads that its next tile has waited for (R184); `busy` clocks of the running epoch;
`stuck` once it is lost or reset during the batch, whose remaining tiles it will not complete (R162); `frame` the
composition frame in which the batch began. -/
structure Engine where
  engine : Nat
  batch : Option Nat
  next : Nat
  waits : List Nat
  flight : List Flight
  busy : Nat
  stuck : Bool
  frame : Nat
  deriving DecidableEq, Repr

/-- An entry of a video input's ring (R166): `st` 0 free, 1 being written, 2 complete; whether it was ever latched,
and whether it is latched now; the time its capture began; its size and layer format; and the header and data of each tile,
COMPRESSED, or TILED for YUY2 (R205). -/
structure RingEntry where
  st : Nat
  seen : Bool
  held : Bool
  time : Nat
  w : Nat
  h : Nat
  format : Nat
  tiles : List (Nat × List Byte)
  order : Nat
  deriving DecidableEq, Repr

structure VideoRing where
  input : Nat
  entries : List RingEntry
  deriving DecidableEq, Repr

structure CompState where
  layers : List LayerSt
  stores : List FStore
  engines : List Engine
  /-- Batches of the running frame whose every tile was composed or passed over in time. -/
  ran : List Nat
  rings : List VideoRing
  /-- Re-placements of layer sources under R137 so far. -/
  repls : Nat
  deriving DecidableEq, Repr



/-! ## Scan-out (chapter 07) -/

/-- A head with its timing running (R171 to R185): in vertical blank or scanning; when the last vertical blank started;
the next active position due; the frame-store words fetched for the frame in raster order; for a clone the latched
current bits; the triple last delivered; whether the line and the frame have an underrun; the class and panic of its
fetches; the counts behind LOCK_STATE; and whether its first vertical blank is still to come. `extra` is the number of
lines that a re-phase adds to the running blank (R176), `badTiles` the tiles that this frame shows as decode errors (R179),
and `used` the bytes fetched in the slot `slot`, counted through all composition frames (R180). -/
structure HeadRun where
  head : Nat
  blank : Bool
  blankAt : Nat
  scan : Nat
  buf : List Nat
  view : List Bool
  last : Option (Nat × Nat × Nat)
  underLine : Bool
  underFrame : Bool
  urgent : Bool
  panic : Bool
  good : Nat
  bad : Nat
  first : Bool
  extra : Nat
  badTiles : List Nat
  slot : Nat
  used : Nat
  deriving DecidableEq, Repr

structure ScanState where
  heads : List HeadRun
  deriving DecidableEq, Repr



/-! ## Display and video links (chapter 08) -/

/-- What a port has read of its sink (R202): whether it is known, its lanes, highest lane rate in Mbit/s (0 for an HDMI
sink without FRL), DSC support, whether its EDID base block is valid, and the timings it lists. -/
structure Sink where
  known : Bool
  lanes : Nat
  rate : Nat
  dsc : Bool
  edid : Bool
  modes : List SinkMode
  deriving DecidableEq, Repr

/-- An output port at work (R193 to R209): its sink, the lanes, rate and number of the running training attempt,
whether all attempts have failed, when it last tried, the heads whose video it sends, since when the link of class A content
is down, whether the link reaction is active, frames in a row without a flip, when an HDCP authentication last failed,
whether a plan swap has left a rule of R201 unmet for it, and the fields that apply from a vertical-blank start as they stood
at the last one: sub-indices 07, 08 and 0A to 0E of PortConfig, none before the first, and HdrMetadata. -/
structure LinkRun where
  port : Nat
  sink : Sink
  lanes : Nat
  rate : Nat
  attempts : Nat
  failed : Bool
  triedAt : Nat
  video : List Nat
  downAt : Option Nat
  reacting : Bool
  idle : Nat
  hdcpAt : Nat
  barred : Bool
  eff : List Nat
  hdr : List Byte
  deriving DecidableEq, Repr

/-- A video input (R205, R206): when it was enabled or a complete frame last arrived, and the starts of the captures of
the last second. -/
structure InputRun where
  input : Nat
  lastAt : Nat
  starts : List Nat
  deriving DecidableEq, Repr

structure LinkState where
  ports : List LinkRun
  inputs : List InputRun
  /-- Layer slots that a swap left with an input that does not match them (R208). -/
  mismatched : List Nat
  deriving DecidableEq, Repr



/-! ## Content integrity (chapter 09) -/

/-- A value that a region unit has delivered and the comparator has not taken (R223): the COUNTER and SUB of the frame that is
compared, V, whether its frame holds older tiles, the composition frame whose expected value applies, the payload's length
in bytes, the head's values of a wire-point Sentinel region's frame, and when it was delivered. -/
structure RegionCap where
  counter : Nat
  sub : Nat
  value : Nat
  older : Bool
  shown : Nat
  len : Nat
  pipe : Option RasterHold
  at_ : Nat
  deriving DecidableEq, Repr

/-- A signature region of the active plan at work (R213 to R227): the composition frame it starts with; for the store
point the tiles that the running sub-frame has not settled, its number, and the N and s of the first write-back fed to it
(R216); for the wire point the register, the pixels fed, the head frame, whether a frame is being fed, and the newest
composition frame it shows and whether it shows older tiles; values to be compared; the Sentinel's recomposed words with the
time they were ready, and the guest's values, by composition frame, newest first; committed states by their frames; the state
table's state and dwell count; Ep of the previous compared frame; consecutive failure frames, passes and no-verdict frames;
whether reactions are active; the pixel reactions in force since the last onsets and lifts, newest first; those of the running
head frame; and whether the region fails for good. -/
structure RegionRun where
  region : Nat
  from_ : Nat
  left : List Nat
  sub : Nat
  stamp : Option (Nat × Nat)
  crc : Nat
  fed : Nat
  counter : Nat
  open_ : Bool
  shown : Nat
  older : Bool
  got : List RegionCap
  sent : List (Nat × Nat × List Nat)
  guest : List (Nat × Nat)
  pend : List (Nat × Nat)
  state : Nat
  dwell : Nat
  prevEp : Option Nat
  fails : Nat
  passes : Nat
  noVerdicts : Nat
  failing : Bool
  edges : List (Nat × Nat)
  pixels : Nat
  dead : Bool
  deriving DecidableEq, Repr

/-- A request for a region state at Markhor's integrity service (R219): region, state, the epoch it is for, and whether
Markhor has committed it. -/
structure RegionReq where
  region : Nat
  state : Nat
  target : Nat
  done : Bool
  deriving DecidableEq, Repr

/-- A replacement that a region of the former plan still makes in the running frame of its head (R229): the region, its pixel
reactions, and its fallback image with its data. -/
structure RegionTail where
  region : PlanRegion
  pixels : Nat
  image : Option (PlanImage × List Byte)
  deriving DecidableEq, Repr

structure IntegState where
  runs : List RegionRun
  reqs : List RegionReq
  /-- Time and EPOCH_COUNT of the last swap, and the layer slots that have latched since (R230). -/
  swapTime : Nat
  swapEpoch : Nat
  latched : List Nat
  tails : List RegionTail
  /-- Regions whose STATE_SELECT has been written and that no CG_INTEGRITY commit holds, and those of the commit that applies
  now. -/
  selects : List Nat
  committing : List Nat
  deriving DecidableEq, Repr



/-! ## Render engine (chapter 10) -/

/-- A translated pipeline in a partition's cache (R237): its size in KiB. The newest used stands first. -/
structure Pipeline where
  part : Nat
  id : Nat
  kib : Nat
  deriving DecidableEq, Repr

structure RenderState where
  /-- Cluster time used in the running epoch by partition, in ns. -/
  used : List (Nat × Nat)
  cache : List Pipeline
  nextPipe : Nat
  deriving DecidableEq, Repr

/-! ## Queues (chapter 11) -/

/-- What a command at the head of a queue does on an engine (R271, R242, R273). -/
inductive QOp where
  | copy (src dst srcX srcY dstX dstY w h : Nat)
  | fill (dst dstX dstY w h value : Nat)
  | convert (src dst srcX srcY dstX dstY w h : Nat)
  | check (handle x y w h : Nat)
  | render (job : List RenderOp)
  | wait (fence value deadline : Nat)
  deriving DecidableEq, Repr

/-- The command at the head of a queue that waits or runs: its fields, the clip status found at its start, the tiles
done and the interrupts counted in PROGRESS, the check value so far, and the settings its command unit took at the start. -/
structure HeadCmd where
  hdr : QHdr
  op : QOp
  clip : Nat
  started : Bool
  next : Nat
  interrupts : Nat
  crc : Nat
  fed : Nat
  unitHeld : Bool
  cvu : Option PlanCvu
  deriving DecidableEq, Repr

/-- A completion record (R265) and whether it raises the interrupt. -/
structure CqRec where
  tag : Nat
  status : Nat
  r0 : Nat
  r1 : Nat
  time : Nat
  irq : Bool
  deriving DecidableEq, Repr

/-- A queue: the ring fields it started with, the command at its head, the engine it runs on (0 and 1 the copy
engines, 2 the render engine) and since when, the records that wait for space, since when it is ready without running, its
deficit in ns (R274), whether it is promoted, and the end of the slice it runs as a promoted queue (R276). -/
structure QueueSt where
  part : Nat
  queue : Nat
  base : Nat
  log2 : Nat
  cqBase : Nat
  head : Option HeadCmd
  engine : Option Nat
  runFrom : Nat
  waiting : List CqRec
  ready : Option Nat
  deficit : Int
  promoted : Bool
  sliceEnd : Option Nat
  deriving DecidableEq, Repr

/-- A present that a layer holds or has latched (R269, R270): the surface, the damage, when it was accepted and from
when it is eligible, the expected check value it carries; `epoch` and `time` are those of its latch.
composition frames until a replaced present is released. -/
structure Present where
  hdr : QHdr
  slot : Nat
  handle : Nat
  surf : Nat
  rects : List Rect
  accepted : Nat
  order : Nat
  at_ : Nat
  wall : Bool
  region : Option Nat
  expected : Nat
  latched : Bool
  epoch : Nat
  time : Nat
  done : Bool
  deriving DecidableEq, Repr

structure QueueState where
  queues : List QueueSt
  presents : List Present
  nextOrder : Nat
  /-- The queue last served at each priority level, for the rotation of R274. -/
  last : List (Nat × Nat)
  deriving DecidableEq, Repr



/-! ## Security (chapter 12) -/

/-- A fuse request at the FUSE service (R302): first bit, width and the bits to program. -/
structure FuseReq where
  ini : Ini
  first : Nat
  width : Nat
  value : Nat
  at_ : Nat
  deriving DecidableEq, Repr

/-- A block write that waits for Markhor: who wrote it, and its bytes. -/
structure SecWrite where
  ini : Ini
  data : List Byte
  deriving DecidableEq, Repr

/-- A request at a Markhor mailbox channel (R293, R294): the service, and what it is for: the binding of a re-key, 64 for a bundle;
1 for a challenge, 0 for a token; the port of an authentication; the region of a state request, 256 for a commit of CG_INTEGRITY. -/
structure MailMsg where
  service : Nat
  ref : Nat
  deriving DecidableEq, Repr

structure SecState where
  /-- IsolationViolations of each target, by the number IsolationLog gives it (R18). -/
  violations : List (Nat × Nat)
  /-- SECURITY_VERSION of the Markhor firmware that runs; the copies that Markhor and the planner booted from, as
  BootSource numbers them (0 and 1 the eMRAM copies A and B, 2 and 3 the xSPI copies, 4 recovery). -/
  fwVersion : Nat
  fwCopy : Nat
  plCopy : Nat
  /-- Since when Markhor has run the full plan without a restart (R300). -/
  fullSince : Option Nat
  /-- Times of the watchdog trips of the last 600 s, newest first; when PD1 is released after the last one. -/
  trips : List Nat
  releaseAt : Option Nat
  /-- Requests outstanding at Markhor, oldest first: fuses, bundles, tokens, and challenges that wait for READY. -/
  fuseReqs : List FuseReq
  bundles : List SecWrite
  tokens : List SecWrite
  challenges : List (Ini × Nat)
  /-- The nonce in force with the end of its validity (R311). -/
  nonceUntil : Option Nat
  /-- End of the authorisation in force. -/
  authUntil : Nat
  /-- Firmware images stored in the two eMRAM copies of each type: type × 2 + copy. -/
  images : List (Nat × List Byte)
  /-- Health-test failures of the last second, newest first (R307), when the DRBG was last seeded, its generate
  requests since, whether READY is low for a failure, and when the stored seed was last replaced. -/
  healthFails : List Nat
  seeded : Nat
  requests : Nat
  failedReady : Bool
  seedAt : Nat
  /-- Active DMA attributes of enabled channels (R290): channel and attribute. -/
  dmaOn : List (Nat × Nat)
  /-- Pages of DRAM that Markhor has marked secure in the owner table: first page and count (R285). -/
  securePages : List (Nat × Nat)
  /-- DEVICE_SECRET is programmed (R302). -/
  secretSet : Bool
  /-- Requests at the mailbox channels, oldest first; the first of a channel is in its slot (R293). -/
  mail : List MailMsg
  /-- Fuse bits that a request programmed before Markhor was lost, read again at its restart: first bit and bits (R297). -/
  partBlown : List (Nat × Nat)
  deriving DecidableEq, Repr


/-! ## Memory subsystem (chapter 13) -/

/-- A memory request (R317, R318): its number and port, the attributes R17 stamps, the class of R317 (0 Reserved,
1 Urgent, 2 Normal, 3 Background), what it asks for, the error its read meets (0 none, 1 single-bit, 2 double-bit),
since when it waits or is in flight, whether it holds a reserved entry, and for an aperture access the surface in whose data
area `addr` is an offset. -/
structure MemReq where
  id : Nat
  port : Nat
  init : Nat
  part : Nat
  secure : Bool
  cls : Nat
  write : Bool
  addr : Nat
  len : Nat
  data : List Byte
  ecc : Nat
  since : Nat
  reserved : Bool
  surf : Option Nat
  deriving DecidableEq, Repr

/-- A wear counter, user word or user block (R334, R335): its key, the time of its last store, whether a value waits
to be stored, and the sequence of its stores. -/
structure Wear where
  key : Nat
  last : Nat
  pend : Bool
  seq : Nat
  deriving DecidableEq, Repr

/-- An entry of the fallback image library (R336), and whether it is to be erased. -/
structure LibEntry where
  id : Nat
  format : Nat
  w : Nat
  h : Nat
  data : List Byte
  size : Nat
  erase : Bool
  deriving DecidableEq, Repr

structure MemCtl where
  /-- The rates the operating points were trained at (R325). -/
  rates : List Nat
  /-- Channels that report the high-temperature limit code, with the time since when; the OP3 request of R324. -/
  limitSince : List (Nat × Nat)
  limitHold : Bool
  /-- Channels under panic, with the time since when (R321). -/
  panicSince : List (Nat × Nat)
  /-- A waiting frequency change: target and time of the request; the running one: target and start (R325, R326). -/
  freqReq : Option (Nat × Nat)
  freqRun : Option (Nat × Nat)
  /-- The tracker's entries and the requests held at their ports (R318, R319); the partition whose turn it is in the
  deficit round robin and the grants left to it. -/
  inflight : List MemReq
  waiting : List MemReq
  turn : Nat
  credit : Nat
  /-- When each tile-store bank was last accessed. -/
  bankAt : List (Nat × Nat)
  /-- The 64-bit words, by address, that hold an uncorrectable error until they are written (R329). -/
  broken : List Nat
  wear : List Wear
  library : List LibEntry
  deriving DecidableEq, Repr




/-! ## Chamois fabric, Twin, Wall and time (chapter 14) -/

/-- A data flit that is kept until it is acknowledged (R341): its SEQ and 256 bytes. -/
structure TxFlit where
  seq : Nat
  bytes : List Byte
  deriving DecidableEq, Repr

/-- A Chamois port (R341, R342, R347): the SEQ expected next, whether a NAK has been sent for it, the next SEQ sent, the
flits kept for replay, the SEQ replayed last and how often in succession, when the acknowledgement last advanced and
when data was last sent; messages that wait for the replay buffer, by class, with the deficit of Control and Bulk; when
our last time flit left and when the partner's last one arrived, in 0.1 ns of Wall time. -/
structure PortLinkRun where
  port : Nat
  rxSeq : Nat
  nakSent : Bool
  txSeq : Nat
  unacked : List TxFlit
  replaySeq : Nat
  replays : Nat
  ackAt : Nat
  sentAt : Nat
  txq : List (Nat × List Byte)
  turn : Nat
  credit : Nat
  timeSent : Nat
  timeGot : Nat
  /-- Flits counted by Foxglove, and those of each VC (class × 2 + VC); a flit held back to swap, with its layer (R362). -/
  foxCount : Nat
  foxPairs : List (Nat × Nat)
  foxHeld : Option (Nat × List Byte)
  /-- The neighbour is excluded (R351); when the link went down (R342); the slot in which Pixel flits were sent last, and their
  bytes in it (R343). -/
  barred : Bool
  downAt : Nat
  pixSlot : Nat
  pixUsed : Nat
  deriving DecidableEq, Repr

/-- The sender of one destination and class (R345): the next MSG_SEQ, the unacknowledged messages with their FLOW, when
the first of them was last sent and how often it was retransmitted, and messages that wait behind the limit of 64. -/
structure E2eTx where
  dest : Nat
  cls : Nat
  next : Nat
  msgs : List (Nat × Nat × List Byte)
  at_ : Nat
  tries : Nat
  held : List (Nat × List Byte)
  deriving DecidableEq, Repr

/-- The receiver of one source and class (R345): the MSG_SEQ expected next. -/
structure E2eRx where
  src : Nat
  cls : Nat
  expected : Nat
  deriving DecidableEq, Repr

/-- A message being put together from the flits of one VC (R340). -/
structure MsgAsm where
  port : Nat
  vc : Nat
  cls : Nat
  src : Nat
  bytes : List Byte
  deriving DecidableEq, Repr

/-- A read of a surface homed on another node, waiting for its data (R340). -/
structure RemoteRead where
  part : Nat
  node : Nat
  addr : Nat
  len : Nat
  deriving DecidableEq, Repr

/-- Twin supervision (R354 to R358): when each channel was last heard, since when every configured channel has been
good, a dead declaration whose takeover waits for its epoch, a takeover that ends at the next epoch, the partner heads
under a notice, the level of TWIN_ALIVE_OUT, and whether the Twin has formed. -/
structure TwinRun where
  hbAt : Nat
  pinAt : Nat
  witAt : Nat
  goodSince : Option Nat
  declared : Option Nat
  ending : Bool
  notices : List Nat
  aliveOut : Bool
  formed : Bool
  /-- The partner's broadcast key and its generation (R354). -/
  key : Nat
  gen : Nat
  deriving DecidableEq, Repr

/-- The port that a flow of Control or Bulk messages takes while it has unacknowledged messages (R345). -/
structure FlowPort where
  dest : Nat
  cls : Nat
  flow : Nat
  port : Nat
  deriving DecidableEq, Repr

structure FabricState where
  /-- TOPOLOGY, RING_SIZE, WALL_COLS, WALL_ROWS and GATEWAY in force since the last reset of PD13 (R350). -/
  topology : Nat
  ringSize : Nat
  cols : Nat
  rows : Nat
  gateway : Nat
  /-- The flow hash key drawn at reset of PD13 (R345). -/
  flowKey : Nat
  ports : List PortLinkRun
  tx : List E2eTx
  rx : List E2eRx
  flows : List FlowPort
  asm : List MsgAsm
  reads : List RemoteRead
  /-- When each node was last heard (R353). -/
  heard : List (Nat × Nat)
  twin : TwinRun
  deriving DecidableEq, Repr




/-! ## Touch (chapter 15) -/

/-- A touch (R371): its ID, the peak's position on the sensor in 1/256 node and on the head in pixels, peak delta and
area; the layer and owner that captured it, if any, and the head position last reported. -/
structure TouchPt where
  id : Nat
  u : Int
  v : Int
  x : Int
  y : Int
  peak : Int
  area : Nat
  layer : Option Nat
  owner : Nat
  lastX : Int
  lastY : Int
  deriving DecidableEq, Repr

/-- A candidate that is no touch yet (R371): position, frames seen in a row, and whether it was counted as dropped. -/
structure TouchCand where
  u : Int
  v : Int
  seen : Nat
  counted : Bool
  deriving DecidableEq, Repr

/-- A touch port, or a gang by its lead port (R366 to R371): the baselines, the frames taken and their sums while a
baseline is taken, per node the frames in a row below −NEG_THRESHOLD, the touches and candidates, the glove
candidates in a row and when one was last seen, the mode of the next frame, and the faulty electrodes. -/
structure PortRun where
  port : Nat
  baseline : List Int
  taken : Nat
  sums : List Int
  neg : List Nat
  touches : List TouchPt
  cands : List TouchCand
  gloves : Nat
  gloveAt : Nat
  nextMode : Nat
  badTx : List Nat
  badRx : List Nat
  /-- What the port's pins do (R380): 0 the reset state, 1 they scan, 2 with the charge pump on. -/
  lines : Nat
  deriving DecidableEq, Repr

/-- A key of a head (R375, R376): consecutive frames that would change its state, whether it must first be seen up,
and what disables it: a region reaction, a faulty electrode or an unusable port. -/
structure KeyRun where
  head : Nat
  key : Nat
  count : Nat
  mustUp : Bool
  region : Bool
  fault : Bool
  deriving DecidableEq, Repr

/-- A touch record (R374) of a partition. -/
structure TouchRec where
  part : Nat
  time : Nat
  kind : Nat
  id : Nat
  head : Nat
  port : Nat
  layer : Nat
  x : Int
  y : Int
  z : Nat
  area : Nat
  frame : Nat
  pick : List Byte
  deriving DecidableEq, Repr

/-- A pick ray in flight (R257): the record that waits for it, its layer and point, and the registration and
the layer's size in effect at the sample. -/
structure PickJob where
  record : TouchRec
  slot : Nat
  u : Int
  v : Int
  bvh : List Byte
  inv : List Byte
  flags : Nat
  w : Nat
  h : Nat
  deriving DecidableEq, Repr

/-- A hit mask (R373): the layer slot, the cell size it was written for and its bits. -/
structure HitMask where
  slot : Nat
  cell : Nat
  data : List Byte
  deriving DecidableEq, Repr

structure TouchState where
  ports : List PortRun
  keys : List KeyRun
  /-- Records not written yet, and those that wait for space in a full ring. -/
  recs : List TouchRec
  held : List TouchRec
  /-- SEQ of each partition's ring. -/
  seqs : List Nat
  picks : List PickJob
  /-- Pick structures in effect by layer slot (R256). -/
  regs : List (Nat × List Byte)
  /-- Validated structures, and removals, that take effect at the next epoch. -/
  newRegs : List (Nat × List Byte)
  /-- Hit masks in effect, and those that take effect at the next epoch. -/
  masks : List HitMask
  newMasks : List HitMask
  deriving DecidableEq, Repr




/-! ## Haptics and motion (chapter 16) -/

/-- A haptic channel at work (R383 to R389): the record of the running effect as it was at its start, the segment that
plays and when it began, the oscillator's phase and the cycles driven in units of 1/48,000 cycle, whether it brakes
and how many ticks in a row the back-EMF has been small; the last coil current; the carrier period and rank of the
last start (R389); and when PWM periods were ended for overcurrent in the last 10 ms. -/
structure HapticRun where
  chan : Nat
  effect : Option (List Byte)
  seg : Nat
  segAt : Nat
  phase : Nat
  driven : Nat
  braking : Bool
  brakeAt : Nat
  small : Nat
  amp : Nat
  current : Int
  backEmf : Int
  startPeriod : Option Nat
  startRank : Nat
  ended : List Nat
  deriving DecidableEq, Repr

/-- A limit or home input of an axis (R394): the level it reads (asserted or not), since when, its raw edges of the
last 10 ms, when chatter was last raised; whether its edges are ignored after a latch and whether the assertion that
latched lasts (the input is armed by the next one); the position at the last assertion and at the latch. -/
structure LimitIn where
  on : Bool
  since : Nat
  edges : List Nat
  chatterAt : Option Nat
  ignored : Bool
  wait : Bool
  edgePos : Int
  latchPos : Int
  deriving DecidableEq, Repr

/-- A motion axis (R390 to R399): the offset between its POSITION and its encoder's count, its inputs, the profile
reference and the integrators of its loops, whether the next output is the first after a hand-over, the end of the
hand-over and the state that follows it, when homing began, overruns in a row, and the SPI frame counter with the
SEQ of a frame that waits for its reply. -/
structure AxisRun where
  axis : Nat
  base : Int
  lo : LimitIn
  hi : LimitIn
  home : LimitIn
  ref : Int
  posInt : Int
  velInt : Int
  first : Bool
  handEnd : Option Nat
  after : Nat
  homingAt : Nat
  overruns : Nat
  seq : Nat
  awaits : Option Nat
  deriving DecidableEq, Repr

/-- An encoder (R392, R393): its accepted levels, the illegal transitions of the last millisecond, the last one of
all, and a clear that waits for 100 ms without one. -/
structure EncRun where
  enc : Nat
  a : Bool
  b : Bool
  illegal : List Nat
  lastIllegal : Option Nat
  clearing : Bool
  deriving DecidableEq, Repr

structure MotionState where
  haptics : List HapticRun
  axes : List AxisRun
  encoders : List EncRun
  deriving DecidableEq, Repr




/-! ## Audio (chapter 17) -/

/-- A playing chime voice (R414) and its next sample. -/
structure VoiceRun where
  voice : Nat
  pos : Nat
  deriving DecidableEq, Repr

/-- An input channel: its samples in a row below SILENCE_LEVEL, its peak in the running block, its empty blocks in a row,
and whether its converter has no lock (R406, R411, R413). -/
structure InRun where
  input : Nat
  quiet : Nat
  peak : Nat
  empty : Nat
  unlocked : Bool
  deriving DecidableEq, Repr

/-- An output channel (R410): x₁, x₂, y₁, y₂ of each biquad in turn, its delay line and its limiter's look-ahead line,
newest sample first, the largest level its compressor has met, the samples for which its limiter still acts, its samples
in a row below SILENCE_LEVEL, and its peak in the running block. -/
structure OutRun where
  output : Nat
  biq : List Int
  delay : List Int
  look : List Int
  peak : Int
  busy : Nat
  quiet : Nat
  top : Nat
  deriving DecidableEq, Repr

/-- An AVB packet that waits for its presentation time (R406): stream, time, and the codes of each channel. -/
structure AvbPacket where
  stream : Nat
  time : Nat
  data : List (List Int)
  deriving DecidableEq, Repr

/-- The audio block that runs (R404): its start, the samples made so far, the samples of each input before its GAIN, and
those of each output made so far. -/
structure BlockRun where
  at_ : Nat
  done : Nat
  ins : List (List Int)
  outs : List (List Int)
  deriving DecidableEq, Repr

structure AudioState where
  /-- MIX_RATE in force since the last reset of PD17 (R404). -/
  rate : Nat
  voices : List VoiceRun
  /-- The duck ramp (R415): where it started, its target, the samples made and its length. -/
  duckFrom : Int
  duckTo : Int
  duckPos : Nat
  duckLen : Nat
  ins : List InRun
  outs : List OutRun
  avb : List AvbPacket
  /-- The start of the last block, and the block that runs. -/
  lastAt : Option Nat
  block : Option BlockRun
  /-- What the pins of each TDM port and PDM pair do (R419): 0 the reset state, 1 in use, 2 in use with BCLK and FS driven. -/
  tdm : List Nat
  pdm : List Nat
  deriving DecidableEq, Repr



/-! ## Trace rings, counters and frame capture (chapter 18) -/

/-- A trace ring as started (R437): base, size and policy, PAGE_SEQ of the page being written, its records, their
number and the time of the first, the records reclaimed before it and lost after it, whether it is closed (R438), and the
number of records in each page handed over. -/
structure TraceRun where
  ring : Nat
  base : Nat
  log2 : Nat
  policy : Nat
  body : List Byte
  count : Nat
  first : Option Nat
  before : Nat
  after : Nat
  closed : Bool
  counts : List (Nat × Nat)
  seq : Nat := 0
  deriving DecidableEq, Repr

/-- An event ring as started (R425, R431). -/
structure EvRing where
  part : Nat
  base : Nat
  log2 : Nat
  deriving DecidableEq, Repr

/-- A frame capture (R440): the frames passed over since the last one captured, and the frame being captured: its
number and start time, its point, the bits per component of its pixels, and its data so far. -/
structure CapRun where
  head : Nat
  passed : Nat
  active : Bool
  frame : Nat
  time : Nat
  point : Nat
  bpc : Nat
  data : List Byte
  deriving DecidableEq, Repr

structure TraceState where
  rings : List TraceRun
  evRings : List EvRing
  caps : List CapRun
  /-- The next dump latch and DUMP_SEQ (R436). -/
  dumpAt : Nat
  dumpSeq : Nat
  /-- When PERF_MSI_VECTOR was last raised (R435). -/
  ovfIrqAt : Option Nat
  deriving DecidableEq, Repr



/-! ## Power, clocks, resets, self-test and supplies (chapters 19 and 21) -/

structure SysState where
  /-- Start-up (R453): Markhor's boot and the start-up self-test have ended, and the planner is released. -/
  booted : Bool
  tested : Bool
  released : Bool
  /-- The self-test of the on-chip network failed (R449, kind 14). -/
  network : Bool
  /-- When RESET_N was released: the reference of StartupTimes. -/
  startAt : Nat
  /-- Why the device is held in reset, and since when: 0 RESET_N, 1 thermal trip, 2 overcurrent, 3 brownout, 4 VIN too
  high. It is out of reset when the list is empty. -/
  held : List (Nat × Nat)
  /-- The levels on the strap inputs: node, senior and boot mode (R448). -/
  straps : Nat × Nat × Nat
  /-- ElectricalStatus flags to be set when the device has started again (R477). -/
  tripFlags : List Nat
  /-- Why CK8 is halved: the temperature, the VIN current; and whether the render engine is stopped (R477). -/
  hot : Bool
  overMa : Bool
  stopped : Bool
  /-- PLLs without lock, with the time since when (R446). -/
  unlocked : List (Nat × Nat)
  /-- PLLs that have not relocked in time. -/
  faulty : List Nat
  /-- The planner firmware has been verified (R299). -/
  plannerFw : Bool
  /-- DRAM has been trained and its ECC parts are being written (R453 step 12). -/
  eccDue : Bool
  /-- The domains of a running self-test and who runs it (R450). -/
  bist : Nat
  bistIni : Option Ini
  /-- Planner restarts of the last 600 s, newest first, whether PD2 stays in reset, and the commit sets a planner reset
  cancelled (R451). -/
  plannerTrips : List Nat
  plannerDead : Bool
  cancelled : List PendingSet
  deriving DecidableEq, Repr


/-! ## The whole state -/

/-- Output pins: SAFE_OK, ALIVE, TWIN_ALIVE_OUT, IRQ_OUT, COMMIT_OUT, the STO and
step-enable pins of an axis, the hot-plug pin of a DP receiver, the amplifier enable of an
audio output, a GPIO, a bridge of a haptic channel. -/
inductive Pin where
  | safeOk | alive | twinAliveOut | irqOut
  | sto (axis : Nat) | enN (axis : Nat)
  | ampEn (n : Nat)
  | rxHpd (input : Nat)
  /-- BCLK and FS, and DOUT, of a TDM port, and the clock of a PDM pair (R419): 0 is the reset state. -/
  | tdmClk (port : Nat) | tdmDout (port : Nat) | pdmClk (pair : Nat)
  | tpTx (port : Nat) | tpRx (port : Nat) | tpCp (port : Nat)
  deriving DecidableEq, Repr

/-- What the lines of a port carry (R209): nothing, in the state that its kind has there, with its auxiliary channel, HPD or
DDC released or active; the stop state of DSI-2; or training, an idle pattern or video. -/
inductive PortLines where
  | electricalIdle (auxActive : Bool)
  | driversOff (ddcActive : Bool)
  | noSignal | drivenLow | highImpedance | stopState | active
  deriving DecidableEq, Repr

/-- How a MAC sends (R468): the MAC, IP_ADDR, VLAN_ID and PCP. -/
structure EthSend where
  mac : Nat
  ip : List Byte
  vlan : Nat
  pcp : Nat
  deriving DecidableEq, Repr

/-- What the block sends or hands over, newest first (DESIGN CHOICE, log entry 8): the value a read returns, interrupts, bus-master
writes to host memory, protocol frames and pin pulses. -/
inductive Out where
  /-- A read of the initiator's is answered with this value. -/
  | readData (part : Nat) (v : Word)
  /-- A segment of a block read, with its generation. -/
  | readBytes (part : Nat) (data : List Byte)
  /-- An aperture read that met an uncorrectable error: a poisoned completion with zero data (R329). -/
  | poisoned (part : Nat) (data : List Byte)
  /-- MSI-X vector `vec` of the partition's function. -/
  | msi (part vec : Nat)
  /-- Interrupt line `n` of R289 delivered to its owner. -/
  | irqLine (n owner : Nat)
  /-- A bus-master write of the partition's function to host memory. -/
  | hostWrite (part addr : Nat) (data : List Byte)
  /-- A Tilsol frame on CAN FD: the controller, the 29-bit identifier and the data field (R69). -/
  | canFd (can id : Nat) (data : List Byte)
  /-- A Tilsol frame on CAN XL: the controller, the acceptance field, the SDT and the data field (R68). -/
  | canXl (can accept sdt : Nat) (data : List Byte)
  /-- A datagram from UDP_PORT (R68): back to the sender that a request numbered, or to the address and port of HbUdpDest. -/
  | udpReply (sender : Nat) (via : EthSend) (port : Nat) (data : List Byte)
  | udpCast (dest : List Byte) (via : EthSend) (port : Nat) (data : List Byte)
  /-- A PCIe request of the partition's function completed with Unsupported Request (R360). -/
  | unsupported (part : Nat)
  /-- A refusal code returned to the requester. -/
  | code (part code : Nat)
  /-- A pixel handed to the link of a head: position and component words (R215). -/
  | pixel (head x y : Nat) (r g b : Nat)
  /-- The blanking of a head from a vertical-blank start on (R171): first line and lines of vertical sync, lines in all, first
  pixel period and width of horizontal sync, periods of a line, and whether each sync is active high. -/
  | sync (head vStart vWidth vTotal hStart hWidth hTotal : Nat) (hHigh vHigh : Bool)
  /-- The lines of an output port change their state (R209). -/
  | lines (port : Nat) (st : PortLines)
  /-- What a port sends its sink beside pixels: the vertical total in the Adaptive-Sync SDP (R200), HDR_EOTF and HdrMetadata
  in the HDR static metadata SDP or HDR InfoFrame (R195), and the exit from self-refresh (R200). -/
  | adaptiveSync (port head vTotal : Nat)
  | hdrInfo (port eotf : Nat) (bytes : List Byte)
  | psrExit (port : Nat)
  /-- What a ray of a shader hits (R254): instance, PRIM_ID, GEOM_INDEX and distance; none where it misses. -/
  | rayHit (part : Nat) (hit : Option (Nat × Nat × Nat × Nat))
  /-- A Chamois flit sent on a port, and a time flit with its two times (R347). -/
  | flit (port : Nat) (bytes : List Byte)
  | timeFlit (port sent got : Nat)
  /-- The codes of one audio output in a slot of a TDM port for one block. -/
  | audio (output : Nat) (samples : List Int)
  /-- A block of an AVB talker stream sent by a MAC: STREAM_ID, destination address, presentation time, and for each
  channel its 24-bit codes in 32-bit words (R405). -/
  | avb (mac stream dest time : Nat) (channels : List (List Int))
  /-- The gates of a haptic channel's bridge (R383): for how many of the 500 counts of each carrier period HBc_HIA,
  HBc_LOA, HBc_HIB and HBc_LOB are on, and the dead time in ns between the two gates of a half-bridge. -/
  | bridge (chan hia loa hib lob deadNs : Nat)
  /-- The output of an axis and the electrical angle it is commutated at (R390), steps of an axis, an SPI torque
  frame. -/
  | motor (axis : Nat) (output : Int) (angle : Nat)
  | steps (axis : Nat) (n : Int)
  /-- MOTa_G0 to MOTa_G5 of an axis all driven low (R391, R401). -/
  | gatesLow (axis : Nat)
  | motorFrame (axis frame : Nat)
  /-- Bytes sent on a low-speed controller with what it is set to: kind 0 I²C (SPEED), 1 SPI (CS, MODE and the n of its clock of
  100 MHz / n), 2 UART (BAUD, DATA_BITS, PARITY, STOP_BITS and FLOW). -/
  | bus (kind unit : Nat) (set : List Nat) (data : List Byte)
  /-- What the GPIO block does at a pin (R459): the level that it drives, none where the output is high-impedance, the strength in
  mA, and the pull (0 none, 1 up, 2 down). -/
  | gpio (n : Nat) (drive : Option Bool) (ma pull : Nat)
  /-- A transition of a pin to a level. -/
  | pin (name : Pin) (level : Nat)
  deriving DecidableEq, Repr



/-! ## Low-speed interfaces and pins (chapter 20) -/

/-- An I²C controller (R461, R462): what it does (0 nothing, 1 a transfer, 2 recovery), whether the reset pulse of the
running recovery has been given and is on its pin now, and a recovery that waits for its bank to resume. -/
structure I2cRun where
  bus : Nat
  phase : Nat
  tried : Bool
  pulse : Bool
  waits : Bool
  deriving DecidableEq, Repr

/-- A frame queued for a CAN controller that is bus-off (R467): its class of R69, whether it is a heartbeat, and what
is sent. -/
structure CanFrame where
  can : Nat
  cls : Nat
  hb : Bool
  frame : Out
  deriving DecidableEq, Repr

/-- A gate control list in force (R469): cycle, base time, count and entries. -/
structure GateRun where
  mac : Nat
  cycle : Nat
  base : Nat
  count : Nat
  list : List Byte
  deriving DecidableEq, Repr

structure LowState where
  i2c : List I2cRun
  /-- SPI controllers with a transfer running, and UARTs with bytes unsent. -/
  spi : List Nat
  uart : List Nat
  can : List CanFrame
  gates : List GateRun
  /-- The levels of the GPIO pins after their debounce: the pins that are high. -/
  high : List Nat
  deriving DecidableEq, Repr


/-- The state of the block. -/
structure State where
  /-- The ordering code and the DRAM fitted (DESIGN CHOICE, log entry 9). -/
  cfg : Cfg
  /-- Device time in ns (R21), advanced to the time each command carries (DESIGN CHOICE, log entry 2). -/
  now : Nat
  /-- The counter the free values are applied to (DESIGN CHOICE, log entry 3). -/
  fresh : Nat
  /-- The commands that are waiting, first in, first out. -/
  pending : List Instr
  /-- The active values of the dictionary's scalar objects (R48); an object not listed holds its Default. -/
  objs : List (Nat × Word)
  /-- The shadow values of the objects of a commit group other than CG_IMMEDIATE (R48). -/
  shadow : List (Nat × Word)
  /-- The stored values of the /P objects in eMRAM (R35, R36). -/
  stored : List (Nat × Word)
  /-- The contents and generations of the block objects as they read (R41, R60). -/
  blocks : List (Nat × Block)
  /-- The contents in force of the block objects of a commit group (R49). -/
  liveBlocks : List (Nat × Block)
  /-- The stored contents of the /P block objects. -/
  storedBlocks : List (Nat × Block)
  /-- The internal address space of R20: tile store, eMRAM and DRAM, as bytes. -/
  mem : List Host.Cell
  /-- What the block has sent, newest first (DESIGN CHOICE, log entry 8). -/
  out : List Out
  /-- Chapter 02. -/
  dict : DictState
  /-- Chapter 18. -/
  ev : EvState
  /-- Chapter 03. -/
  til : TilState
  /-- Chapter 04. -/
  plan : PlanState
  /-- Chapter 01. -/
  time : TimeState
  /-- Chapter 05. -/
  place : PlaceState
  /-- Chapter 06. -/
  comp : CompState
  /-- Chapter 11. -/
  queue : QueueState
  /-- Chapter 13. -/
  memc : MemCtl
  /-- Chapter 12. -/
  sec : SecState
  /-- Chapter 07. -/
  scan : ScanState
  /-- Chapter 16. -/
  motion : MotionState
  /-- Chapter 15. -/
  touch : TouchState
  /-- Chapter 17. -/
  audio : AudioState
  /-- Chapter 14. -/
  fabric : FabricState
  /-- Chapter 09. -/
  integ : IntegState
  /-- Chapter 08. -/
  links : LinkState
  /-- Chapter 20. -/
  low : LowState
  /-- Chapter 10. -/
  render : RenderState
  /-- Chapter 18. -/
  trace : TraceState
  /-- Chapters 19 and 21. -/
  sys : SysState
  deriving DecidableEq, Repr

/-- The machine right after reset (R21, R447, R453): power-on reset has just been released, no plan runs, every
register is at its Default (an object that no map lists), every memory byte reads as `Machine.memDefault`, and every
queue, session and engine is empty or idle. -/
def State.reset : State where
  cfg := { compact := false, gradeI := false, dramGen := 3, dramMib := 2048, dramFitted := 0xFFFFFFFF }
  now := 0
  fresh := 0
  pending := []
  objs := []
  shadow := []
  stored := []
  blocks := []
  liveBlocks := []
  storedBlocks := []
  mem := []
  out := []
  dict := { status := [], readLatches := [], writeLatches := [], sets := [], nextCommit := 0, rasters := [], store := none, deferred := [], ports := [], written := [] }
  ev := { slots := [], buckets := [], store := [], seqs := [], losses := [], reserveFull := false, emcyLast := [], alivePin := false }
  til := { subs := [], xfers := [], reqs := [], cached := [], rxStored := [], pushStored := [], bcast := 0, bcastStored := 0, bcastGen := 0, bcastNext := false, bcastStopped := false, hbLast := none, mailbox := [], rekeying := [], keys := [], bcastKey := 0, ways := [] }
  plan := { active := none, early := false, valid := none, action := 0, actionSlot := 0, swapWhenReady := false, readyUntil := 0, swapAt := none, slots := [], earlyImage := [], raiseLevel := none, prep := none, boot := false, layouts := [] }
  time := { wallOff := 0, lastEpoch := 0, nextEpoch := 16666667, spare := 0, edgeLost := false, realign := false, good := 0, bad := 0, syncAt := 0 }
  place := { surfs := [], nextId := 1, handles := [], quarantine := [], ctxs := [], migs := [], campaigns := [], retry := [], heldWrites := [], rekeyDue := [], rekeyed := [], migEnded := [], lost := [], binding := none, rebinding := [], shed := [], dropped := [], vfBar := 34, streams := [] }
  comp := { layers := [], stores := [], engines := [], ran := [], rings := [], repls := 0 }
  queue := { queues := [], presents := [], nextOrder := 0, last := [] }
  memc := { rates := [], limitSince := [], limitHold := false, panicSince := [], freqReq := none, freqRun := none, inflight := [], waiting := [], turn := 0, credit := 0, bankAt := [], broken := [], wear := [], library := [] }
  sec := { violations := [], fwVersion := 1, fwCopy := 0, plCopy := 0, fullSince := none, trips := [], releaseAt := none, fuseReqs := [], bundles := [], tokens := [], challenges := [], nonceUntil := none, authUntil := 0, images := [], healthFails := [], seeded := 0, requests := 0, failedReady := false, seedAt := 0, dmaOn := [], securePages := [], secretSet := true, mail := [], partBlown := [] }
  scan := { heads := [] }
  motion := { haptics := [], axes := [], encoders := [] }
  touch := { ports := [], keys := [], recs := [], held := [], seqs := [], picks := [], regs := [], newRegs := [], masks := [], newMasks := [] }
  audio := { rate := 48000, voices := [], duckFrom := 16777216, duckTo := 16777216, duckPos := 0, duckLen := 0, ins := [], outs := [], avb := [], lastAt := none, block := none, tdm := [0, 0, 0, 0], pdm := [0, 0, 0, 0] }
  fabric := { topology := 0, ringSize := 2, cols := 8, rows := 8, gateway := 0, flowKey := 0, ports := [], tx := [], rx := [], flows := [], asm := [], reads := [], heard := [], twin := { hbAt := 0, pinAt := 0, witAt := 0, goodSince := none, declared := none, ending := false, notices := [], aliveOut := false, formed := false, key := 0, gen := 0 } }
  integ := { runs := [], reqs := [], swapTime := 0, swapEpoch := 0, latched := [], tails := [], selects := [], committing := [] }
  links := { ports := [], inputs := [], mismatched := [] }
  low := { i2c := [], spi := [], uart := [], can := [], gates := [], high := [] }
  render := { used := [], cache := [], nextPipe := 0 }
  trace := { rings := [], evRings := [], caps := [], dumpAt := 0, dumpSeq := 0, ovfIrqAt := none }
  sys := { booted := false, tested := false, released := false, network := false, startAt := 0, held := [], straps := (0, 0, 0), tripFlags := [], hot := false, overMa := false, stopped := false, unlocked := [], faulty := [], plannerFw := false, eccDue := false, bist := 0, bistIni := none, plannerTrips := [], plannerDead := false, cancelled := [] }

end Sys2Proof.Machine
end

