-- ==== Sys2Proof/Machine/Curves.lean ====
section
/-!
DEFINITION. The built-in PQ and HLG tables of R187 and R189: entry i is ⌊f(i / 1,023) × 65,535 + 0.5⌋ of the curve that the
rule names. The constants of the curves are those of the two standards (PRESUMED, log entry 4).
-/
namespace Sys2Proof.Machine

/-- Entries 0 to 63 of the SMPTE ST 2084 EOTF, 10,000 cd/m² at 1.0. -/
def pqDec0 : List Nat := [
  0, 0, 0, 0, 0, 0, 0, 0, 0, 0, 0, 0, 0, 0, 0, 0,
  0, 0, 0, 0, 0, 0, 0, 0, 0, 0, 0, 0, 0, 0, 0, 0,
  0, 0, 0, 0, 0, 0, 0, 0, 0, 0, 0, 0, 0, 0, 0, 0,
  0, 0, 0, 0, 0, 0, 0, 0, 0, 1, 1, 1, 1, 1, 1, 1]

/-- Entries 64 to 127 of the SMPTE ST 2084 EOTF, 10,000 cd/m² at 1.0. -/
def pqDec1 : List Nat := [
  1, 1, 1, 1, 1, 1, 1, 1, 1, 1, 1, 1, 1, 1, 1, 1,
  1, 1, 1, 1, 1, 1, 1, 1, 1, 1, 2, 2, 2, 2, 2, 2,
  2, 2, 2, 2, 2, 2, 2, 2, 2, 2, 2, 2, 2, 3, 3, 3,
  3, 3, 3, 3, 3, 3, 3, 3, 3, 3, 3, 3, 4, 4, 4, 4]

/-- Entries 128 to 191 of the SMPTE ST 2084 EOTF, 10,000 cd/m² at 1.0. -/
def pqDec2 : List Nat := [
  4, 4, 4, 4, 4, 4, 4, 5, 5, 5, 5, 5, 5, 5, 5, 5,
  5, 6, 6, 6, 6, 6, 6, 6, 6, 7, 7, 7, 7, 7, 7, 7,
  7, 8, 8, 8, 8, 8, 8, 8, 9, 9, 9, 9, 9, 9, 10, 10,
  10, 10, 10, 10, 11, 11, 11, 11, 11, 12, 12, 12, 12, 12, 13, 13]

/-- Entries 192 to 255 of the SMPTE ST 2084 EOTF, 10,000 cd/m² at 1.0. -/
def pqDec3 : List Nat := [
  13, 13, 13, 14, 14, 14, 14, 15, 15, 15, 15, 16, 16, 16, 16, 17,
  17, 17, 17, 18, 18, 18, 18, 19, 19, 19, 20, 20, 20, 20, 21, 21,
  21, 22, 22, 22, 23, 23, 23, 24, 24, 24, 25, 25, 26, 26, 26, 27,
  27, 27, 28, 28, 29, 29, 29, 30, 30, 31, 31, 32, 32, 33, 33, 33]

/-- Entries 256 to 319 of the SMPTE ST 2084 EOTF, 10,000 cd/m² at 1.0. -/
def pqDec4 : List Nat := [
  34, 34, 35, 35, 36, 36, 37, 37, 38, 38, 39, 39, 40, 40, 41, 42,
  42, 43, 43, 44, 44, 45, 46, 46, 47, 47, 48, 49, 49, 50, 51, 51,
  52, 53, 53, 54, 55, 55, 56, 57, 57, 58, 59, 60, 60, 61, 62, 63,
  63, 64, 65, 66, 67, 68, 68, 69, 70, 71, 72, 73, 74, 74, 75, 76]

/-- Entries 320 to 383 of the SMPTE ST 2084 EOTF, 10,000 cd/m² at 1.0. -/
def pqDec5 : List Nat := [
  77, 78, 79, 80, 81, 82, 83, 84, 85, 86, 87, 88, 89, 90, 91, 92,
  94, 95, 96, 97, 98, 99, 100, 102, 103, 104, 105, 106, 108, 109, 110, 111,
  113, 114, 115, 117, 118, 119, 121, 122, 124, 125, 126, 128, 129, 131, 132, 134,
  135, 137, 138, 140, 141, 143, 145, 146, 148, 150, 151, 153, 155, 156, 158, 160]

/-- Entries 384 to 447 of the SMPTE ST 2084 EOTF, 10,000 cd/m² at 1.0. -/
def pqDec6 : List Nat := [
  162, 163, 165, 167, 169, 171, 173, 175, 177, 178, 180, 182, 184, 186, 188, 191,
  193, 195, 197, 199, 201, 203, 205, 208, 210, 212, 214, 217, 219, 221, 224, 226,
  229, 231, 234, 236, 239, 241, 244, 246, 249, 252, 254, 257, 260, 262, 265, 268,
  271, 274, 276, 279, 282, 285, 288, 291, 294, 297, 300, 304, 307, 310, 313, 316]

/-- Entries 448 to 511 of the SMPTE ST 2084 EOTF, 10,000 cd/m² at 1.0. -/
def pqDec7 : List Nat := [
  320, 323, 326, 330, 333, 337, 340, 343, 347, 351, 354, 358, 361, 365, 369, 373,
  377, 380, 384, 388, 392, 396, 400, 404, 408, 412, 417, 421, 425, 429, 434, 438,
  442, 447, 451, 456, 461, 465, 470, 475, 479, 484, 489, 494, 499, 504, 509, 514,
  519, 524, 529, 535, 540, 545, 551, 556, 562, 567, 573, 578, 584, 590, 596, 602]

/-- Entries 512 to 575 of the SMPTE ST 2084 EOTF, 10,000 cd/m² at 1.0. -/
def pqDec8 : List Nat := [
  607, 613, 620, 626, 632, 638, 644, 650, 657, 663, 670, 676, 683, 690, 696, 703,
  710, 717, 724, 731, 738, 745, 752, 760, 767, 774, 782, 789, 797, 805, 813, 820,
  828, 836, 844, 853, 861, 869, 877, 886, 894, 903, 911, 920, 929, 938, 947, 956,
  965, 974, 984, 993, 1002, 1012, 1022, 1031, 1041, 1051, 1061, 1071, 1081, 1092, 1102, 1112]

/-- Entries 576 to 639 of the SMPTE ST 2084 EOTF, 10,000 cd/m² at 1.0. -/
def pqDec9 : List Nat := [
  1123, 1134, 1144, 1155, 1166, 1177, 1188, 1199, 1211, 1222, 1234, 1245, 1257, 1269, 1281, 1293,
  1305, 1317, 1330, 1342, 1355, 1368, 1380, 1393, 1406, 1420, 1433, 1446, 1460, 1474, 1487, 1501,
  1515, 1529, 1544, 1558, 1573, 1587, 1602, 1617, 1632, 1647, 1663, 1678, 1694, 1709, 1725, 1741,
  1757, 1774, 1790, 1807, 1824, 1840, 1858, 1875, 1892, 1910, 1927, 1945, 1963, 1981, 2000, 2018]

/-- Entries 640 to 703 of the SMPTE ST 2084 EOTF, 10,000 cd/m² at 1.0. -/
def pqDec10 : List Nat := [
  2037, 2055, 2074, 2093, 2113, 2132, 2152, 2172, 2192, 2212, 2232, 2253, 2274, 2294, 2316, 2337,
  2358, 2380, 2402, 2424, 2446, 2469, 2491, 2514, 2537, 2560, 2584, 2607, 2631, 2655, 2680, 2704,
  2729, 2754, 2779, 2804, 2830, 2856, 2882, 2908, 2935, 2962, 2989, 3016, 3043, 3071, 3099, 3127,
  3156, 3185, 3214, 3243, 3272, 3302, 3332, 3363, 3393, 3424, 3455, 3487, 3518, 3550, 3582, 3615]

/-- Entries 704 to 767 of the SMPTE ST 2084 EOTF, 10,000 cd/m² at 1.0. -/
def pqDec11 : List Nat := [
  3648, 3681, 3714, 3748, 3782, 3816, 3851, 3886, 3921, 3957, 3993, 4029, 4065, 4102, 4139, 4177,
  4215, 4253, 4291, 4330, 4369, 4409, 4449, 4489, 4530, 4571, 4612, 4654, 4696, 4738, 4781, 4824,
  4868, 4912, 4956, 5001, 5046, 5091, 5137, 5184, 5231, 5278, 5325, 5374, 5422, 5471, 5520, 5570,
  5620, 5671, 5722, 5774, 5826, 5878, 5931, 5985, 6039, 6093, 6148, 6204, 6259, 6316, 6373, 6430]

/-- Entries 768 to 831 of the SMPTE ST 2084 EOTF, 10,000 cd/m² at 1.0. -/
def pqDec12 : List Nat := [
  6488, 6547, 6605, 6665, 6725, 6786, 6847, 6908, 6971, 7033, 7097, 7161, 7225, 7290, 7356, 7422,
  7489, 7556, 7624, 7693, 7762, 7832, 7902, 7973, 8045, 8118, 8191, 8264, 8339, 8414, 8489, 8566,
  8643, 8721, 8799, 8878, 8958, 9039, 9120, 9202, 9285, 9369, 9453, 9538, 9624, 9710, 9798, 9886,
  9975, 10065, 10155, 10247, 10339, 10432, 10526, 10621, 10716, 10813, 10910, 11008, 11108, 11208, 11309, 11410]

/-- Entries 832 to 895 of the SMPTE ST 2084 EOTF, 10,000 cd/m² at 1.0. -/
def pqDec13 : List Nat := [
  11513, 11617, 11721, 11827, 11934, 12041, 12150, 12259, 12369, 12481, 12593, 12707, 12821, 12937, 13054, 13171,
  13290, 13410, 13531, 13653, 13776, 13900, 14025, 14152, 14280, 14408, 14539, 14670, 14802, 14936, 15071, 15207,
  15344, 15482, 15622, 15763, 15906, 16049, 16194, 16341, 16488, 16638, 16788, 16940, 17093, 17247, 17403, 17561,
  17720, 17880, 18042, 18205, 18370, 18536, 18704, 18873, 19044, 19217, 19391, 19567, 19744, 19923, 20103, 20286]

/-- Entries 896 to 959 of the SMPTE ST 2084 EOTF, 10,000 cd/m² at 1.0. -/
def pqDec14 : List Nat := [
  20470, 20655, 20843, 21032, 21223, 21415, 21610, 21806, 22004, 22204, 22405, 22609, 22814, 23022, 23231, 23442,
  23655, 23871, 24088, 24307, 24528, 24751, 24977, 25204, 25434, 25665, 25899, 26135, 26373, 26614, 26857, 27102,
  27349, 27598, 27850, 28105, 28361, 28620, 28882, 29146, 29412, 29681, 29952, 30226, 30503, 30782, 31063, 31348,
  31635, 31925, 32217, 32512, 32810, 33111, 33415, 33721, 34031, 34343, 34658, 34976, 35298, 35622, 35949, 36280]

/-- Entries 960 to 1023 of the SMPTE ST 2084 EOTF, 10,000 cd/m² at 1.0. -/
def pqDec15 : List Nat := [
  36613, 36950, 37290, 37633, 37979, 38329, 38682, 39038, 39398, 39761, 40128, 40498, 40871, 41248, 41629, 42013,
  42401, 42793, 43189, 43588, 43991, 44398, 44808, 45223, 45642, 46064, 46491, 46922, 47357, 47796, 48239, 48687,
  49139, 49595, 50056, 50521, 50990, 51464, 51943, 52426, 52914, 53406, 53904, 54406, 54913, 55424, 55941, 56463,
  56990, 57522, 58059, 58601, 59149, 59702, 60260, 60824, 61393, 61967, 62548, 63134, 63725, 64323, 64926, 65535]

/-- The table of the SMPTE ST 2084 EOTF, 10,000 cd/m² at 1.0. -/
def pqDec (i : Nat) : Nat :=
  nth 0 (nth [] [pqDec0, pqDec1, pqDec2, pqDec3, pqDec4, pqDec5, pqDec6, pqDec7, pqDec8, pqDec9, pqDec10, pqDec11, pqDec12, pqDec13, pqDec14, pqDec15] (i / 64)) (i % 64)

/-- Entries 0 to 63 of the BT.2100 HLG inverse OETF. -/
def hlgDec0 : List Nat := [
  0, 0, 0, 0, 0, 1, 1, 1, 1, 2, 2, 3, 3, 4, 4, 5,
  5, 6, 7, 8, 8, 9, 10, 11, 12, 13, 14, 15, 16, 18, 19, 20,
  21, 23, 24, 26, 27, 29, 30, 32, 33, 35, 37, 39, 40, 42, 44, 46,
  48, 50, 52, 54, 56, 59, 61, 63, 65, 68, 70, 73, 75, 78, 80, 83]

/-- Entries 64 to 127 of the BT.2100 HLG inverse OETF. -/
def hlgDec1 : List Nat := [
  85, 88, 91, 94, 97, 99, 102, 105, 108, 111, 114, 117, 121, 124, 127, 130,
  134, 137, 140, 144, 147, 151, 154, 158, 162, 165, 169, 173, 177, 181, 184, 188,
  192, 196, 200, 205, 209, 213, 217, 221, 226, 230, 235, 239, 243, 248, 253, 257,
  262, 267, 271, 276, 281, 286, 291, 296, 301, 306, 311, 316, 321, 326, 331, 337]

/-- Entries 128 to 191 of the BT.2100 HLG inverse OETF. -/
def hlgDec2 : List Nat := [
  342, 347, 353, 358, 364, 369, 375, 380, 386, 392, 398, 403, 409, 415, 421, 427,
  433, 439, 445, 451, 457, 463, 470, 476, 482, 489, 495, 501, 508, 515, 521, 528,
  534, 541, 548, 555, 561, 568, 575, 582, 589, 596, 603, 610, 618, 625, 632, 639,
  647, 654, 661, 669, 676, 684, 691, 699, 707, 714, 722, 730, 738, 746, 754, 761]

/-- Entries 192 to 255 of the BT.2100 HLG inverse OETF. -/
def hlgDec3 : List Nat := [
  769, 778, 786, 794, 802, 810, 818, 827, 835, 843, 852, 860, 869, 877, 886, 894,
  903, 912, 921, 929, 938, 947, 956, 965, 974, 983, 992, 1001, 1010, 1019, 1029, 1038,
  1047, 1057, 1066, 1076, 1085, 1095, 1104, 1114, 1124, 1133, 1143, 1153, 1163, 1172, 1182, 1192,
  1202, 1212, 1222, 1233, 1243, 1253, 1263, 1273, 1284, 1294, 1305, 1315, 1326, 1336, 1347, 1357]

/-- Entries 256 to 319 of the BT.2100 HLG inverse OETF. -/
def hlgDec4 : List Nat := [
  1368, 1379, 1389, 1400, 1411, 1422, 1433, 1444, 1455, 1466, 1477, 1488, 1499, 1510, 1522, 1533,
  1544, 1556, 1567, 1579, 1590, 1602, 1613, 1625, 1637, 1648, 1660, 1672, 1684, 1695, 1707, 1719,
  1731, 1743, 1755, 1768, 1780, 1792, 1804, 1817, 1829, 1841, 1854, 1866, 1879, 1891, 1904, 1916,
  1929, 1942, 1955, 1967, 1980, 1993, 2006, 2019, 2032, 2045, 2058, 2071, 2084, 2098, 2111, 2124]

/-- Entries 320 to 383 of the BT.2100 HLG inverse OETF. -/
def hlgDec5 : List Nat := [
  2137, 2151, 2164, 2178, 2191, 2205, 2218, 2232, 2246, 2259, 2273, 2287, 2301, 2315, 2329, 2343,
  2357, 2371, 2385, 2399, 2413, 2427, 2441, 2456, 2470, 2484, 2499, 2513, 2528, 2542, 2557, 2572,
  2586, 2601, 2616, 2631, 2645, 2660, 2675, 2690, 2705, 2720, 2735, 2751, 2766, 2781, 2796, 2811,
  2827, 2842, 2858, 2873, 2889, 2904, 2920, 2935, 2951, 2967, 2983, 2998, 3014, 3030, 3046, 3062]

/-- Entries 384 to 447 of the BT.2100 HLG inverse OETF. -/
def hlgDec6 : List Nat := [
  3078, 3094, 3110, 3126, 3142, 3159, 3175, 3191, 3208, 3224, 3240, 3257, 3273, 3290, 3306, 3323,
  3340, 3357, 3373, 3390, 3407, 3424, 3441, 3458, 3475, 3492, 3509, 3526, 3543, 3560, 3578, 3595,
  3612, 3630, 3647, 3665, 3682, 3700, 3717, 3735, 3753, 3770, 3788, 3806, 3824, 3842, 3860, 3878,
  3896, 3914, 3932, 3950, 3968, 3986, 4005, 4023, 4041, 4060, 4078, 4096, 4115, 4134, 4152, 4171]

/-- Entries 448 to 511 of the BT.2100 HLG inverse OETF. -/
def hlgDec7 : List Nat := [
  4189, 4208, 4227, 4246, 4265, 4283, 4302, 4321, 4340, 4359, 4379, 4398, 4417, 4436, 4455, 4475,
  4494, 4513, 4533, 4552, 4572, 4591, 4611, 4631, 4650, 4670, 4690, 4710, 4729, 4749, 4769, 4789,
  4809, 4829, 4849, 4870, 4890, 4910, 4930, 4951, 4971, 4991, 5012, 5032, 5053, 5073, 5094, 5115,
  5135, 5156, 5177, 5198, 5218, 5239, 5260, 5281, 5302, 5323, 5344, 5366, 5387, 5408, 5429, 5451]

/-- Entries 512 to 575 of the BT.2100 HLG inverse OETF. -/
def hlgDec8 : List Nat := [
  5472, 5493, 5515, 5537, 5559, 5580, 5603, 5625, 5647, 5669, 5692, 5715, 5738, 5760, 5783, 5807,
  5830, 5853, 5877, 5901, 5924, 5948, 5973, 5997, 6021, 6046, 6070, 6095, 6120, 6145, 6170, 6195,
  6221, 6246, 6272, 6298, 6324, 6350, 6376, 6403, 6429, 6456, 6483, 6510, 6537, 6564, 6592, 6619,
  6647, 6675, 6703, 6731, 6760, 6788, 6817, 6846, 6875, 6904, 6933, 6963, 6992, 7022, 7052, 7082]

/-- Entries 576 to 639 of the BT.2100 HLG inverse OETF. -/
def hlgDec9 : List Nat := [
  7113, 7143, 7174, 7205, 7235, 7267, 7298, 7329, 7361, 7393, 7425, 7457, 7489, 7522, 7555, 7588,
  7621, 7654, 7687, 7721, 7755, 7789, 7823, 7857, 7892, 7926, 7961, 7996, 8032, 8067, 8103, 8139,
  8175, 8211, 8248, 8284, 8321, 8358, 8396, 8433, 8471, 8509, 8547, 8585, 8624, 8663, 8701, 8741,
  8780, 8820, 8859, 8900, 8940, 8980, 9021, 9062, 9103, 9144, 9186, 9228, 9270, 9312, 9355, 9397]

/-- Entries 640 to 703 of the BT.2100 HLG inverse OETF. -/
def hlgDec10 : List Nat := [
  9440, 9484, 9527, 9571, 9615, 9659, 9703, 9748, 9793, 9838, 9883, 9929, 9975, 10021, 10068, 10114,
  10161, 10208, 10256, 10303, 10351, 10400, 10448, 10497, 10546, 10595, 10645, 10695, 10745, 10795, 10846, 10897,
  10948, 10999, 11051, 11103, 11155, 11208, 11261, 11314, 11368, 11421, 11475, 11530, 11585, 11640, 11695, 11750,
  11806, 11862, 11919, 11976, 12033, 12090, 12148, 12206, 12264, 12323, 12382, 12442, 12501, 12561, 12622, 12682]

/-- Entries 704 to 767 of the BT.2100 HLG inverse OETF. -/
def hlgDec11 : List Nat := [
  12743, 12805, 12866, 12928, 12991, 13053, 13116, 13180, 13243, 13307, 13372, 13437, 13502, 13567, 13633, 13699,
  13766, 13833, 13900, 13968, 14036, 14104, 14173, 14242, 14312, 14382, 14452, 14523, 14594, 14665, 14737, 14809,
  14882, 14955, 15028, 15102, 15176, 15251, 15326, 15402, 15478, 15554, 15631, 15708, 15785, 15863, 15942, 16021,
  16100, 16180, 16260, 16340, 16421, 16503, 16585, 16667, 16750, 16833, 16917, 17001, 17086, 17171, 17257, 17343]

/-- Entries 768 to 831 of the BT.2100 HLG inverse OETF. -/
def hlgDec12 : List Nat := [
  17429, 17516, 17604, 17692, 17780, 17869, 17959, 18048, 18139, 18230, 18321, 18413, 18505, 18598, 18692, 18786,
  18880, 18975, 19071, 19167, 19263, 19360, 19458, 19556, 19655, 19754, 19854, 19954, 20055, 20156, 20258, 20361,
  20464, 20567, 20671, 20776, 20882, 20988, 21094, 21201, 21309, 21417, 21526, 21635, 21746, 21856, 21967, 22079,
  22192, 22305, 22419, 22533, 22648, 22764, 22880, 22997, 23114, 23232, 23351, 23471, 23591, 23712, 23833, 23955]

/-- Entries 832 to 895 of the BT.2100 HLG inverse OETF. -/
def hlgDec13 : List Nat := [
  24078, 24201, 24326, 24450, 24576, 24702, 24829, 24956, 25085, 25214, 25343, 25474, 25605, 25737, 25869, 26003,
  26137, 26271, 26407, 26543, 26680, 26818, 26956, 27095, 27235, 27376, 27518, 27660, 27803, 27947, 28092, 28237,
  28383, 28530, 28678, 28827, 28976, 29127, 29278, 29430, 29582, 29736, 29890, 30046, 30202, 30359, 30517, 30676,
  30835, 30996, 31157, 31319, 31482, 31647, 31811, 31977, 32144, 32312, 32480, 32650, 32820, 32992, 33164, 33337]

/-- Entries 896 to 959 of the BT.2100 HLG inverse OETF. -/
def hlgDec14 : List Nat := [
  33511, 33687, 33863, 34040, 34218, 34397, 34577, 34758, 34940, 35123, 35307, 35492, 35678, 35865, 36053, 36242,
  36432, 36623, 36815, 37009, 37203, 37398, 37595, 37792, 37991, 38191, 38392, 38593, 38796, 39001, 39206, 39412,
  39620, 39828, 40038, 40249, 40461, 40674, 40889, 41104, 41321, 41539, 41758, 41979, 42200, 42423, 42647, 42872,
  43099, 43326, 43555, 43786, 44017, 44250, 44484, 44719, 44956, 45194, 45433, 45673, 45915, 46158, 46403, 46648]

/-- Entries 960 to 1023 of the BT.2100 HLG inverse OETF. -/
def hlgDec15 : List Nat := [
  46896, 47144, 47394, 47645, 47898, 48152, 48407, 48664, 48922, 49182, 49443, 49706, 49969, 50235, 50502, 50770,
  51040, 51311, 51584, 51858, 52134, 52411, 52689, 52970, 53252, 53535, 53820, 54106, 54394, 54684, 54975, 55268,
  55562, 55858, 56156, 56455, 56756, 57059, 57363, 57669, 57976, 58286, 58597, 58909, 59224, 59540, 59858, 60177,
  60498, 60822, 61146, 61473, 61801, 62132, 62464, 62798, 63133, 63471, 63810, 64151, 64494, 64839, 65186, 65535]

/-- The table of the BT.2100 HLG inverse OETF. -/
def hlgDec (i : Nat) : Nat :=
  nth 0 (nth [] [hlgDec0, hlgDec1, hlgDec2, hlgDec3, hlgDec4, hlgDec5, hlgDec6, hlgDec7, hlgDec8, hlgDec9, hlgDec10, hlgDec11, hlgDec12, hlgDec13, hlgDec14, hlgDec15] (i / 64)) (i % 64)

/-- Entries 0 to 63 of the SMPTE ST 2084 inverse EOTF. -/
def pqEnc0 : List Nat := [
  0, 19523, 23268, 25613, 27339, 28712, 29855, 30835, 31694, 32458, 33147, 33775, 34352, 34885, 35381, 35845,
  36281, 36691, 37079, 37448, 37798, 38132, 38451, 38757, 39050, 39332, 39603, 39864, 40116, 40360, 40596, 40824,
  41045, 41260, 41468, 41671, 41868, 42060, 42247, 42429, 42607, 42780, 42950, 43115, 43277, 43436, 43591, 43742,
  43891, 44037, 44179, 44319, 44457, 44591, 44724, 44854, 44981, 45107, 45230, 45351, 45470, 45588, 45703, 45817]

/-- Entries 64 to 127 of the SMPTE ST 2084 inverse EOTF. -/
def pqEnc1 : List Nat := [
  45928, 46039, 46147, 46254, 46359, 46463, 46565, 46666, 46766, 46864, 46961, 47056, 47151, 47244, 47336, 47427,
  47516, 47605, 47692, 47779, 47864, 47949, 48032, 48114, 48196, 48277, 48356, 48435, 48513, 48590, 48667, 48742,
  48817, 48891, 48964, 49037, 49109, 49180, 49250, 49320, 49389, 49457, 49525, 49592, 49658, 49724, 49790, 49854,
  49918, 49982, 50045, 50107, 50169, 50231, 50291, 50352, 50412, 50471, 50530, 50588, 50646, 50703, 50760, 50817]

/-- Entries 128 to 191 of the SMPTE ST 2084 inverse EOTF. -/
def pqEnc2 : List Nat := [
  50873, 50929, 50984, 51039, 51093, 51147, 51201, 51254, 51306, 51359, 51411, 51463, 51514, 51565, 51615, 51665,
  51715, 51765, 51814, 51863, 51911, 51959, 52007, 52055, 52102, 52149, 52195, 52242, 52288, 52333, 52379, 52424,
  52469, 52513, 52557, 52601, 52645, 52689, 52732, 52775, 52817, 52860, 52902, 52944, 52986, 53027, 53068, 53109,
  53150, 53190, 53231, 53271, 53310, 53350, 53389, 53428, 53467, 53506, 53545, 53583, 53621, 53659, 53697, 53734]

/-- Entries 192 to 255 of the SMPTE ST 2084 inverse EOTF. -/
def pqEnc3 : List Nat := [
  53771, 53809, 53845, 53882, 53919, 53955, 53991, 54027, 54063, 54099, 54134, 54169, 54204, 54239, 54274, 54309,
  54343, 54377, 54411, 54445, 54479, 54512, 54546, 54579, 54612, 54645, 54678, 54711, 54743, 54775, 54808, 54840,
  54872, 54903, 54935, 54967, 54998, 55029, 55060, 55091, 55122, 55153, 55183, 55213, 55244, 55274, 55304, 55334,
  55364, 55393, 55423, 55452, 55481, 55510, 55539, 55568, 55597, 55626, 55654, 55683, 55711, 55739, 55767, 55795]

/-- Entries 256 to 319 of the SMPTE ST 2084 inverse EOTF. -/
def pqEnc4 : List Nat := [
  55823, 55851, 55879, 55906, 55934, 55961, 55988, 56015, 56042, 56069, 56096, 56123, 56149, 56176, 56202, 56229,
  56255, 56281, 56307, 56333, 56359, 56384, 56410, 56436, 56461, 56486, 56512, 56537, 56562, 56587, 56612, 56637,
  56661, 56686, 56710, 56735, 56759, 56784, 56808, 56832, 56856, 56880, 56904, 56928, 56951, 56975, 56999, 57022,
  57045, 57069, 57092, 57115, 57138, 57161, 57184, 57207, 57230, 57253, 57275, 57298, 57320, 57343, 57365, 57387]

/-- Entries 320 to 383 of the SMPTE ST 2084 inverse EOTF. -/
def pqEnc5 : List Nat := [
  57410, 57432, 57454, 57476, 57498, 57520, 57541, 57563, 57585, 57606, 57628, 57649, 57671, 57692, 57713, 57734,
  57756, 57777, 57798, 57819, 57840, 57860, 57881, 57902, 57922, 57943, 57963, 57984, 58004, 58025, 58045, 58065,
  58085, 58105, 58125, 58145, 58165, 58185, 58205, 58225, 58244, 58264, 58284, 58303, 58323, 58342, 58361, 58381,
  58400, 58419, 58438, 58457, 58476, 58495, 58514, 58533, 58552, 58571, 58590, 58608, 58627, 58646, 58664, 58683]

/-- Entries 384 to 447 of the SMPTE ST 2084 inverse EOTF. -/
def pqEnc6 : List Nat := [
  58701, 58719, 58738, 58756, 58774, 58792, 58811, 58829, 58847, 58865, 58883, 58901, 58918, 58936, 58954, 58972,
  58989, 59007, 59025, 59042, 59060, 59077, 59095, 59112, 59129, 59147, 59164, 59181, 59198, 59215, 59232, 59249,
  59266, 59283, 59300, 59317, 59334, 59351, 59367, 59384, 59401, 59417, 59434, 59451, 59467, 59484, 59500, 59516,
  59533, 59549, 59565, 59581, 59598, 59614, 59630, 59646, 59662, 59678, 59694, 59710, 59726, 59742, 59757, 59773]

/-- Entries 448 to 511 of the SMPTE ST 2084 inverse EOTF. -/
def pqEnc7 : List Nat := [
  59789, 59805, 59820, 59836, 59852, 59867, 59883, 59898, 59914, 59929, 59944, 59960, 59975, 59990, 60006, 60021,
  60036, 60051, 60066, 60081, 60096, 60112, 60127, 60141, 60156, 60171, 60186, 60201, 60216, 60231, 60245, 60260,
  60275, 60289, 60304, 60318, 60333, 60347, 60362, 60376, 60391, 60405, 60420, 60434, 60448, 60462, 60477, 60491,
  60505, 60519, 60533, 60547, 60562, 60576, 60590, 60604, 60618, 60631, 60645, 60659, 60673, 60687, 60701, 60714]

/-- Entries 512 to 575 of the SMPTE ST 2084 inverse EOTF. -/
def pqEnc8 : List Nat := [
  60728, 60742, 60755, 60769, 60783, 60796, 60810, 60823, 60837, 60850, 60864, 60877, 60891, 60904, 60917, 60931,
  60944, 60957, 60971, 60984, 60997, 61010, 61023, 61036, 61050, 61063, 61076, 61089, 61102, 61115, 61128, 61140,
  61153, 61166, 61179, 61192, 61205, 61217, 61230, 61243, 61256, 61268, 61281, 61294, 61306, 61319, 61331, 61344,
  61356, 61369, 61381, 61394, 61406, 61419, 61431, 61443, 61456, 61468, 61480, 61493, 61505, 61517, 61529, 61541]

/-- Entries 576 to 639 of the SMPTE ST 2084 inverse EOTF. -/
def pqEnc9 : List Nat := [
  61554, 61566, 61578, 61590, 61602, 61614, 61626, 61638, 61650, 61662, 61674, 61686, 61698, 61710, 61722, 61733,
  61745, 61757, 61769, 61781, 61792, 61804, 61816, 61827, 61839, 61851, 61862, 61874, 61886, 61897, 61909, 61920,
  61932, 61943, 61955, 61966, 61977, 61989, 62000, 62012, 62023, 62034, 62046, 62057, 62068, 62079, 62091, 62102,
  62113, 62124, 62135, 62147, 62158, 62169, 62180, 62191, 62202, 62213, 62224, 62235, 62246, 62257, 62268, 62279]

/-- Entries 640 to 703 of the SMPTE ST 2084 inverse EOTF. -/
def pqEnc10 : List Nat := [
  62290, 62301, 62311, 62322, 62333, 62344, 62355, 62366, 62376, 62387, 62398, 62409, 62419, 62430, 62441, 62451,
  62462, 62472, 62483, 62494, 62504, 62515, 62525, 62536, 62546, 62557, 62567, 62578, 62588, 62599, 62609, 62619,
  62630, 62640, 62650, 62661, 62671, 62681, 62692, 62702, 62712, 62722, 62733, 62743, 62753, 62763, 62773, 62783,
  62794, 62804, 62814, 62824, 62834, 62844, 62854, 62864, 62874, 62884, 62894, 62904, 62914, 62924, 62934, 62944]

/-- Entries 704 to 767 of the SMPTE ST 2084 inverse EOTF. -/
def pqEnc11 : List Nat := [
  62953, 62963, 62973, 62983, 62993, 63003, 63012, 63022, 63032, 63042, 63052, 63061, 63071, 63081, 63090, 63100,
  63110, 63119, 63129, 63139, 63148, 63158, 63167, 63177, 63186, 63196, 63206, 63215, 63225, 63234, 63243, 63253,
  63262, 63272, 63281, 63291, 63300, 63309, 63319, 63328, 63337, 63347, 63356, 63365, 63375, 63384, 63393, 63402,
  63412, 63421, 63430, 63439, 63448, 63458, 63467, 63476, 63485, 63494, 63503, 63512, 63521, 63530, 63540, 63549]

/-- Entries 768 to 831 of the SMPTE ST 2084 inverse EOTF. -/
def pqEnc12 : List Nat := [
  63558, 63567, 63576, 63585, 63594, 63603, 63612, 63621, 63629, 63638, 63647, 63656, 63665, 63674, 63683, 63692,
  63701, 63709, 63718, 63727, 63736, 63745, 63753, 63762, 63771, 63780, 63788, 63797, 63806, 63814, 63823, 63832,
  63840, 63849, 63858, 63866, 63875, 63884, 63892, 63901, 63909, 63918, 63926, 63935, 63943, 63952, 63961, 63969,
  63977, 63986, 63994, 64003, 64011, 64020, 64028, 64037, 64045, 64053, 64062, 64070, 64078, 64087, 64095, 64103]

/-- Entries 832 to 895 of the SMPTE ST 2084 inverse EOTF. -/
def pqEnc13 : List Nat := [
  64112, 64120, 64128, 64137, 64145, 64153, 64161, 64170, 64178, 64186, 64194, 64203, 64211, 64219, 64227, 64235,
  64243, 64252, 64260, 64268, 64276, 64284, 64292, 64300, 64308, 64316, 64324, 64332, 64340, 64348, 64357, 64365,
  64373, 64380, 64388, 64396, 64404, 64412, 64420, 64428, 64436, 64444, 64452, 64460, 64468, 64476, 64483, 64491,
  64499, 64507, 64515, 64523, 64530, 64538, 64546, 64554, 64562, 64569, 64577, 64585, 64593, 64600, 64608, 64616]

/-- Entries 896 to 959 of the SMPTE ST 2084 inverse EOTF. -/
def pqEnc14 : List Nat := [
  64623, 64631, 64639, 64646, 64654, 64662, 64669, 64677, 64685, 64692, 64700, 64708, 64715, 64723, 64730, 64738,
  64745, 64753, 64760, 64768, 64776, 64783, 64791, 64798, 64806, 64813, 64821, 64828, 64835, 64843, 64850, 64858,
  64865, 64873, 64880, 64887, 64895, 64902, 64910, 64917, 64924, 64932, 64939, 64946, 64954, 64961, 64968, 64976,
  64983, 64990, 64997, 65005, 65012, 65019, 65026, 65034, 65041, 65048, 65055, 65063, 65070, 65077, 65084, 65091]

/-- Entries 960 to 1023 of the SMPTE ST 2084 inverse EOTF. -/
def pqEnc15 : List Nat := [
  65098, 65106, 65113, 65120, 65127, 65134, 65141, 65148, 65156, 65163, 65170, 65177, 65184, 65191, 65198, 65205,
  65212, 65219, 65226, 65233, 65240, 65247, 65254, 65261, 65268, 65275, 65282, 65289, 65296, 65303, 65310, 65317,
  65324, 65331, 65338, 65345, 65351, 65358, 65365, 65372, 65379, 65386, 65393, 65400, 65406, 65413, 65420, 65427,
  65434, 65440, 65447, 65454, 65461, 65468, 65474, 65481, 65488, 65495, 65501, 65508, 65515, 65522, 65528, 65535]

/-- The table of the SMPTE ST 2084 inverse EOTF. -/
def pqEnc (i : Nat) : Nat :=
  nth 0 (nth [] [pqEnc0, pqEnc1, pqEnc2, pqEnc3, pqEnc4, pqEnc5, pqEnc6, pqEnc7, pqEnc8, pqEnc9, pqEnc10, pqEnc11, pqEnc12, pqEnc13, pqEnc14, pqEnc15] (i / 64)) (i % 64)

/-- Entries 0 to 63 of the BT.2100 HLG OETF. -/
def hlgEnc0 : List Nat := [
  0, 3549, 5019, 6147, 7098, 7936, 8693, 9390, 10038, 10647, 11223, 11770, 12294, 12796, 13279, 13745,
  14196, 14633, 15057, 15469, 15871, 16263, 16646, 17020, 17386, 17745, 18096, 18441, 18779, 19112, 19438, 19760,
  20076, 20387, 20694, 20996, 21294, 21587, 21877, 22163, 22445, 22724, 23000, 23272, 23541, 23807, 24070, 24330,
  24588, 24842, 25095, 25344, 25592, 25837, 26079, 26319, 26558, 26794, 27028, 27260, 27490, 27718, 27944, 28169]

/-- Entries 64 to 127 of the BT.2100 HLG OETF. -/
def hlgEnc1 : List Nat := [
  28391, 28612, 28832, 29049, 29265, 29480, 29692, 29904, 30114, 30322, 30529, 30735, 30939, 31142, 31343, 31543,
  31742, 31940, 32137, 32332, 32526, 32719, 32911, 33099, 33284, 33467, 33647, 33824, 33998, 34170, 34339, 34506,
  34670, 34833, 34993, 35150, 35306, 35460, 35612, 35762, 35909, 36056, 36200, 36342, 36483, 36622, 36760, 36896,
  37030, 37163, 37294, 37424, 37553, 37680, 37805, 37930, 38053, 38175, 38295, 38414, 38533, 38649, 38765, 38880]

/-- Entries 128 to 191 of the BT.2100 HLG OETF. -/
def hlgEnc2 : List Nat := [
  38993, 39106, 39217, 39328, 39437, 39545, 39652, 39759, 39864, 39969, 40072, 40175, 40276, 40377, 40477, 40576,
  40675, 40772, 40869, 40965, 41060, 41154, 41248, 41340, 41433, 41524, 41615, 41705, 41794, 41883, 41971, 42058,
  42145, 42231, 42316, 42401, 42485, 42569, 42652, 42734, 42816, 42897, 42978, 43058, 43137, 43216, 43295, 43373,
  43451, 43528, 43604, 43680, 43755, 43831, 43905, 43979, 44053, 44126, 44199, 44271, 44343, 44414, 44485, 44555]

/-- Entries 192 to 255 of the BT.2100 HLG OETF. -/
def hlgEnc3 : List Nat := [
  44625, 44695, 44764, 44833, 44902, 44970, 45037, 45105, 45172, 45238, 45304, 45370, 45435, 45500, 45565, 45629,
  45693, 45757, 45820, 45883, 45946, 46008, 46070, 46131, 46193, 46254, 46314, 46375, 46435, 46494, 46554, 46613,
  46672, 46730, 46789, 46847, 46904, 46962, 47019, 47076, 47132, 47188, 47244, 47300, 47356, 47411, 47466, 47521,
  47575, 47629, 47683, 47737, 47790, 47844, 47896, 47949, 48002, 48054, 48106, 48158, 48209, 48261, 48312, 48363]

/-- Entries 256 to 319 of the BT.2100 HLG OETF. -/
def hlgEnc4 : List Nat := [
  48413, 48464, 48514, 48564, 48614, 48664, 48713, 48762, 48811, 48860, 48909, 48957, 49005, 49053, 49101, 49149,
  49196, 49243, 49290, 49337, 49384, 49430, 49476, 49523, 49568, 49614, 49660, 49705, 49750, 49795, 49840, 49885,
  49929, 49974, 50018, 50062, 50106, 50150, 50193, 50236, 50280, 50323, 50366, 50408, 50451, 50493, 50536, 50578,
  50620, 50662, 50703, 50745, 50786, 50827, 50868, 50909, 50950, 50991, 51031, 51072, 51112, 51152, 51192, 51232]

/-- Entries 320 to 383 of the BT.2100 HLG OETF. -/
def hlgEnc5 : List Nat := [
  51272, 51311, 51351, 51390, 51429, 51468, 51507, 51546, 51584, 51623, 51661, 51700, 51738, 51776, 51814, 51851,
  51889, 51927, 51964, 52001, 52039, 52076, 52113, 52149, 52186, 52223, 52259, 52296, 52332, 52368, 52404, 52440,
  52476, 52511, 52547, 52583, 52618, 52653, 52688, 52723, 52758, 52793, 52828, 52863, 52897, 52932, 52966, 53000,
  53034, 53068, 53102, 53136, 53170, 53204, 53237, 53271, 53304, 53337, 53370, 53404, 53437, 53469, 53502, 53535]

/-- Entries 384 to 447 of the BT.2100 HLG OETF. -/
def hlgEnc6 : List Nat := [
  53568, 53600, 53633, 53665, 53697, 53729, 53761, 53793, 53825, 53857, 53889, 53921, 53952, 53984, 54015, 54046,
  54078, 54109, 54140, 54171, 54202, 54233, 54263, 54294, 54325, 54355, 54385, 54416, 54446, 54476, 54506, 54536,
  54566, 54596, 54626, 54656, 54685, 54715, 54744, 54774, 54803, 54833, 54862, 54891, 54920, 54949, 54978, 55007,
  55036, 55064, 55093, 55121, 55150, 55178, 55207, 55235, 55263, 55291, 55319, 55347, 55375, 55403, 55431, 55459]

/-- Entries 448 to 511 of the BT.2100 HLG OETF. -/
def hlgEnc7 : List Nat := [
  55487, 55514, 55542, 55569, 55597, 55624, 55651, 55679, 55706, 55733, 55760, 55787, 55814, 55841, 55868, 55894,
  55921, 55948, 55974, 56001, 56027, 56054, 56080, 56106, 56132, 56158, 56185, 56211, 56237, 56262, 56288, 56314,
  56340, 56366, 56391, 56417, 56442, 56468, 56493, 56519, 56544, 56569, 56594, 56619, 56644, 56669, 56694, 56719,
  56744, 56769, 56794, 56819, 56843, 56868, 56892, 56917, 56941, 56966, 56990, 57014, 57039, 57063, 57087, 57111]

/-- Entries 512 to 575 of the BT.2100 HLG OETF. -/
def hlgEnc8 : List Nat := [
  57135, 57159, 57183, 57207, 57231, 57255, 57278, 57302, 57326, 57349, 57373, 57397, 57420, 57443, 57467, 57490,
  57513, 57537, 57560, 57583, 57606, 57629, 57652, 57675, 57698, 57721, 57744, 57767, 57789, 57812, 57835, 57857,
  57880, 57902, 57925, 57947, 57970, 57992, 58014, 58037, 58059, 58081, 58103, 58125, 58147, 58169, 58191, 58213,
  58235, 58257, 58279, 58301, 58322, 58344, 58366, 58387, 58409, 58431, 58452, 58473, 58495, 58516, 58538, 58559]

/-- Entries 576 to 639 of the BT.2100 HLG OETF. -/
def hlgEnc9 : List Nat := [
  58580, 58601, 58623, 58644, 58665, 58686, 58707, 58728, 58749, 58770, 58791, 58812, 58832, 58853, 58874, 58895,
  58915, 58936, 58956, 58977, 58998, 59018, 59038, 59059, 59079, 59100, 59120, 59140, 59160, 59181, 59201, 59221,
  59241, 59261, 59281, 59301, 59321, 59341, 59361, 59381, 59400, 59420, 59440, 59460, 59479, 59499, 59519, 59538,
  59558, 59577, 59597, 59616, 59636, 59655, 59675, 59694, 59713, 59732, 59752, 59771, 59790, 59809, 59828, 59847]

/-- Entries 640 to 703 of the BT.2100 HLG OETF. -/
def hlgEnc10 : List Nat := [
  59866, 59885, 59904, 59923, 59942, 59961, 59980, 59999, 60018, 60036, 60055, 60074, 60093, 60111, 60130, 60149,
  60167, 60186, 60204, 60223, 60241, 60259, 60278, 60296, 60315, 60333, 60351, 60369, 60388, 60406, 60424, 60442,
  60460, 60478, 60496, 60514, 60532, 60550, 60568, 60586, 60604, 60622, 60640, 60658, 60675, 60693, 60711, 60729,
  60746, 60764, 60781, 60799, 60817, 60834, 60852, 60869, 60887, 60904, 60921, 60939, 60956, 60974, 60991, 61008]

/-- Entries 704 to 767 of the BT.2100 HLG OETF. -/
def hlgEnc11 : List Nat := [
  61025, 61043, 61060, 61077, 61094, 61111, 61128, 61145, 61162, 61180, 61197, 61214, 61230, 61247, 61264, 61281,
  61298, 61315, 61332, 61348, 61365, 61382, 61399, 61415, 61432, 61449, 61465, 61482, 61498, 61515, 61532, 61548,
  61565, 61581, 61597, 61614, 61630, 61647, 61663, 61679, 61696, 61712, 61728, 61744, 61760, 61777, 61793, 61809,
  61825, 61841, 61857, 61873, 61889, 61905, 61921, 61937, 61953, 61969, 61985, 62001, 62017, 62033, 62048, 62064]

/-- Entries 768 to 831 of the BT.2100 HLG OETF. -/
def hlgEnc12 : List Nat := [
  62080, 62096, 62111, 62127, 62143, 62158, 62174, 62190, 62205, 62221, 62236, 62252, 62268, 62283, 62298, 62314,
  62329, 62345, 62360, 62376, 62391, 62406, 62422, 62437, 62452, 62467, 62483, 62498, 62513, 62528, 62543, 62559,
  62574, 62589, 62604, 62619, 62634, 62649, 62664, 62679, 62694, 62709, 62724, 62739, 62754, 62768, 62783, 62798,
  62813, 62828, 62842, 62857, 62872, 62887, 62901, 62916, 62931, 62945, 62960, 62975, 62989, 63004, 63018, 63033]

/-- Entries 832 to 895 of the BT.2100 HLG OETF. -/
def hlgEnc13 : List Nat := [
  63047, 63062, 63076, 63091, 63105, 63120, 63134, 63149, 63163, 63177, 63192, 63206, 63220, 63235, 63249, 63263,
  63277, 63292, 63306, 63320, 63334, 63348, 63362, 63376, 63391, 63405, 63419, 63433, 63447, 63461, 63475, 63489,
  63503, 63517, 63531, 63545, 63558, 63572, 63586, 63600, 63614, 63628, 63641, 63655, 63669, 63683, 63697, 63710,
  63724, 63738, 63751, 63765, 63779, 63792, 63806, 63819, 63833, 63847, 63860, 63874, 63887, 63901, 63914, 63928]

/-- Entries 896 to 959 of the BT.2100 HLG OETF. -/
def hlgEnc14 : List Nat := [
  63941, 63954, 63968, 63981, 63995, 64008, 64021, 64035, 64048, 64061, 64075, 64088, 64101, 64115, 64128, 64141,
  64154, 64167, 64181, 64194, 64207, 64220, 64233, 64246, 64259, 64272, 64285, 64299, 64312, 64325, 64338, 64351,
  64364, 64377, 64389, 64402, 64415, 64428, 64441, 64454, 64467, 64480, 64493, 64505, 64518, 64531, 64544, 64556,
  64569, 64582, 64595, 64607, 64620, 64633, 64645, 64658, 64671, 64683, 64696, 64709, 64721, 64734, 64746, 64759]

/-- Entries 960 to 1023 of the BT.2100 HLG OETF. -/
def hlgEnc15 : List Nat := [
  64771, 64784, 64796, 64809, 64821, 64834, 64846, 64859, 64871, 64884, 64896, 64908, 64921, 64933, 64945, 64958,
  64970, 64982, 64995, 65007, 65019, 65031, 65044, 65056, 65068, 65080, 65093, 65105, 65117, 65129, 65141, 65153,
  65165, 65178, 65190, 65202, 65214, 65226, 65238, 65250, 65262, 65274, 65286, 65298, 65310, 65322, 65334, 65346,
  65358, 65370, 65381, 65393, 65405, 65417, 65429, 65441, 65453, 65464, 65476, 65488, 65500, 65512, 65523, 65535]

/-- The table of the BT.2100 HLG OETF. -/
def hlgEnc (i : Nat) : Nat :=
  nth 0 (nth [] [hlgEnc0, hlgEnc1, hlgEnc2, hlgEnc3, hlgEnc4, hlgEnc5, hlgEnc6, hlgEnc7, hlgEnc8, hlgEnc9, hlgEnc10, hlgEnc11, hlgEnc12, hlgEnc13, hlgEnc14, hlgEnc15] (i / 64)) (i % 64)

end Sys2Proof.Machine
end

