-- ==== Sys2Proof/Machine/Tables.lean ====
section
/-!
DEFINITION. The tables that the manual defines by a formula: the sRGB curves of R187 and R189, computed exactly, and the
default scaler coefficients of R186.
-/
namespace Sys2Proof.Machine

/-- The largest number below 2^n for which a test that holds up to some point and no further holds. -/
def searchMax (p : Nat → Bool) : Nat → Nat → Nat
  | 0, acc => acc
  | n + 1, acc => if p (acc + 2 ^ n) then searchMax p n (acc + 2 ^ n) else searchMax p n acc

/-- ⌊f(i / n) × 65,535 + 0.5⌋ for the sRGB decode f of R158, exact: for v above 0.04045 the largest m with
((2m − 1) / 131,070)^5 at most ((v + 0.055) / 1.055)^12. -/
def srgbDec (n i : Nat) : Nat :=
  if i * 100000 ≤ 4045 * n then (i * 65535 * 200 + n * 1292) / (2 * n * 1292)
  else
    let num := 1000 * i + 55 * n
    let den := 1055 * n
    searchMax (fun m => (2 * m - 1) ^ 5 * den ^ 12 ≤ num ^ 12 * 131070 ^ 5) 16 0

/-- ⌊g(i / n) × 65,535 + 0.5⌋ for the sRGB encode g, the inverse of the decode of R158: the largest m whose value
(2m − 1) / 131,070 decodes to at most i / n. -/
def srgbEnc (n i : Nat) : Nat :=
  searchMax (fun m =>
    let v := 2 * m - 1
    if v * 100000 ≤ 4045 * 131070 then v * 100 * n ≤ i * 1292 * 131070
    else (1000 * v + 55 * 131070) ^ 12 * n ^ 5 ≤ i ^ 5 * (1055 * 131070) ^ 12) 16 0

/-- The default coefficients of R186 for the phases 0 to 15. -/
def scalerRows0 : List (List Int) := [
  [0, 0, 0, 16384, 0, 0, 0, 0],
  [-25, 80, -226, 16377, 235, -83, 26, 0],
  [-49, 158, -443, 16356, 478, -168, 53, -1],
  [-71, 232, -651, 16319, 730, -255, 82, -2],
  [-93, 304, -850, 16271, 990, -345, 111, -4],
  [-113, 373, -1040, 16207, 1257, -436, 142, -6],
  [-132, 438, -1220, 16130, 1533, -529, 173, -9],
  [-149, 501, -1390, 16038, 1815, -623, 205, -13],
  [-165, 560, -1551, 15933, 2105, -719, 238, -17],
  [-180, 615, -1703, 15817, 2401, -816, 271, -21],
  [-193, 668, -1845, 15685, 2703, -913, 305, -26],
  [-205, 717, -1977, 15540, 3012, -1011, 339, -31],
  [-216, 762, -2100, 15385, 3326, -1110, 374, -37],
  [-226, 804, -2213, 15216, 3646, -1208, 409, -44],
  [-234, 842, -2316, 15034, 3970, -1307, 445, -50],
  [-241, 877, -2410, 14841, 4299, -1405, 480, -57]]

/-- The default coefficients of R186 for the phases 16 to 31. -/
def scalerRows1 : List (List Int) := [
  [-247, 908, -2495, 14638, 4631, -1502, 516, -65],
  [-251, 936, -2571, 14422, 4968, -1598, 551, -73],
  [-255, 961, -2638, 14196, 5308, -1693, 586, -81],
  [-257, 982, -2695, 13960, 5650, -1786, 620, -90],
  [-258, 1000, -2744, 13711, 5995, -1877, 655, -98],
  [-258, 1014, -2785, 13458, 6341, -1967, 688, -107],
  [-258, 1025, -2816, 13193, 6689, -2053, 721, -117],
  [-256, 1034, -2840, 12919, 7038, -2138, 753, -126],
  [-253, 1039, -2856, 12635, 7388, -2218, 784, -135],
  [-250, 1041, -2863, 12347, 7737, -2296, 813, -145],
  [-246, 1040, -2864, 12050, 8086, -2370, 842, -154],
  [-241, 1036, -2857, 11746, 8434, -2440, 869, -163],
  [-235, 1030, -2842, 11435, 8780, -2506, 894, -172],
  [-229, 1021, -2821, 11119, 9124, -2567, 918, -181],
  [-222, 1009, -2794, 10797, 9466, -2623, 941, -190],
  [-215, 995, -2760, 10472, 9804, -2674, 961, -199]]

/-- The default coefficients of R186 for the phases 32 to 47. -/
def scalerRows2 : List (List Int) := [
  [-207, 979, -2720, 10140, 10140, -2720, 979, -207],
  [-199, 961, -2674, 9804, 10472, -2760, 995, -215],
  [-190, 941, -2623, 9466, 10797, -2794, 1009, -222],
  [-181, 918, -2567, 9124, 11119, -2821, 1021, -229],
  [-172, 894, -2506, 8780, 11435, -2842, 1030, -235],
  [-163, 869, -2440, 8434, 11746, -2857, 1036, -241],
  [-154, 842, -2370, 8086, 12050, -2864, 1040, -246],
  [-145, 813, -2296, 7737, 12347, -2863, 1041, -250],
  [-135, 784, -2218, 7388, 12635, -2856, 1039, -253],
  [-126, 753, -2138, 7038, 12919, -2840, 1034, -256],
  [-117, 721, -2053, 6689, 13193, -2816, 1025, -258],
  [-107, 688, -1967, 6341, 13458, -2785, 1014, -258],
  [-98, 655, -1877, 5995, 13711, -2744, 1000, -258],
  [-90, 620, -1786, 5650, 13960, -2695, 982, -257],
  [-81, 586, -1693, 5308, 14196, -2638, 961, -255],
  [-73, 551, -1598, 4968, 14422, -2571, 936, -251]]

/-- The default coefficients of R186 for the phases 48 to 63. -/
def scalerRows3 : List (List Int) := [
  [-65, 516, -1502, 4631, 14638, -2495, 908, -247],
  [-57, 480, -1405, 4299, 14841, -2410, 877, -241],
  [-50, 445, -1307, 3970, 15034, -2316, 842, -234],
  [-44, 409, -1208, 3646, 15216, -2213, 804, -226],
  [-37, 374, -1110, 3326, 15385, -2100, 762, -216],
  [-31, 339, -1011, 3012, 15540, -1977, 717, -205],
  [-26, 305, -913, 2703, 15685, -1845, 668, -193],
  [-21, 271, -816, 2401, 15817, -1703, 615, -180],
  [-17, 238, -719, 2105, 15933, -1551, 560, -165],
  [-13, 205, -623, 1815, 16038, -1390, 501, -149],
  [-9, 173, -529, 1533, 16130, -1220, 438, -132],
  [-6, 142, -436, 1257, 16207, -1040, 373, -113],
  [-4, 111, -345, 990, 16271, -850, 304, -93],
  [-2, 82, -255, 730, 16319, -651, 232, -71],
  [-1, 53, -168, 478, 16356, -443, 158, -49],
  [0, 26, -83, 235, 16377, -226, 80, -25]]

/-- The default scaler coefficients (R186): 64 phases of eight taps. -/
def scalerDefault : List (List Int) := scalerRows0 ++ scalerRows1 ++ scalerRows2 ++ scalerRows3

/-- The content of ScalerCoefH and ScalerCoefV at reset: phase-major, taps ascending, 16 bits each. -/
def scalerBytes : List Byte :=
  ((scalerDefault.flatten).map (fun c => leBytes 2 ((c % 65536).toNat))).flatten

/-- The content of a built-in table (R187, R189): curve 0 sRGB, 1 PQ, 2 HLG. -/
def builtinTable (regamma : Bool) (curve : Nat) (i : Nat) : Nat :=
  if curve = 0 then (if regamma then srgbEnc 1023 i else srgbDec 1023 i)
  else if curve = 1 then (if regamma then pqEnc i else pqDec i)
  else if regamma then hlgEnc i else hlgDec i

end Sys2Proof.Machine
end

