-- ==== Sys2Proof/Machine/Ops.lean ====
section
/-!
DEFINITION. The named operations over the registers, blocks, memory, time and outputs of State. Every meaning reads
and writes them through these.
-/
namespace Sys2Proof.Machine

/-! ## Finding an object -/

/-- The heritage ranges of R63: first alias index, first canonical index, length. -/
def aliasMap : List (Nat × Nat × Nat) :=
  [(0x6000, 0x1000, 0x100), (0x6100, 0x5000, 0x200), (0x6300, 0x8000, 0x100), (0x6400, 0x8500, 0x100),
   (0x6500, 0x7800, 0x100), (0x6600, 0xC000, 0x200)]

/-- The canonical index of an index (R8, R63); an index outside the heritage ranges is its own. -/
def canonIdx (idx : Nat) : Nat :=
  match aliasMap.find? (fun r => r.1 ≤ idx && idx < r.1 + r.2.2) with
  | some r => idx - r.1 + r.2.1
  | none => idx

/-- Instances that the count of a family does not tell: on Compact the ports 4 to 7 and 12 to 15, the video inputs 4 to 7
and 9 (R3, R193) and the clocks of absent units (R4, R444) are absent, and with LP6 there is one ChannelLoad for each
×24 channel (R141). -/
def Cfg.hasInst (c : Cfg) (base i : Nat) : Bool :=
  if base = 0x3440 then decide (i < (if c.dramGen = 4 then 16 else 32) / (if c.compact then 2 else 1))
  else if !c.compact then true
  else if 0x5800 ≤ base && base < 0x5810 then !(4 ≤ i && i < 8 || 12 ≤ i && i < 16)
  else if 0x5A00 ≤ base && base < 0x5A10 then i < 4 || i == 8
  else if base = 0x9081 then !(i == 10 || 19 ≤ i && i < 27 || i == 29 || i == 30)
  else true

/-- Instances of each self-test kind that Full has and Compact has not, as the first one and their number (R449): those of
the ports are 4 to 7, 12 to 15, 26 to 29 and 31. -/
def bistAbsent (kind i : Nat) : Bool :=
  let between := fun (a b : Nat) => decide (a ≤ i ∧ i < b)
  match kind with
  | 1 | 4 | 5 | 11 => between 4 8
  | 3 => between 8 16
  | 6 | 7 => between 16 32
  | 8 | 10 => between 2 4
  | 12 => between 2 6
  | 15 => between 4 8 || between 12 16 || between 26 30 || i == 31
  | _ => false

/-- Sub-indices that describe an instance which a Compact device has not (R4, R44, R141, R456). -/
def Cfg.hasSub (c : Cfg) (base i sub : Nat) : Bool :=
  !c.compact ||
    (if base = 0x11B0 ∨ base = 0x2031 then sub ≤ 8
     else if base = 0x3470 then !(5 ≤ sub && sub < 9)
     else if base = 0x9110 then sub == 0 || !bistAbsent i (sub - 1)
     else true)

/-- A row as the configuration has it: two Range columns give Compact a narrower one (R141, R365). -/
def Row.forCfg (r : Row) (c : Cfg) : Row :=
  if !c.compact then r
  else if r.base = 0x3400 ∧ r.lo = 2 then { r with rg := .mask 0x0F }
  else if r.base = 0x7800 ∧ r.lo = 1 then { r with rg := .iv 0 2 }
  else r

/-- The row that an index and sub-index fall in, with instance and member numbers; a queue has its partition as instance. -/
def Row.hit (r : Row) (c : Cfg) (idx sub : Nat) : Option Obj :=
  if idx < r.base || sub < r.lo then none
  else
    let d := idx - r.base
    let i := if r.stride = 0 then 0 else d / r.stride
    let rem := if r.stride = 0 then d else d % r.stride
    let j := if r.stride2 = 0 then 0 else rem / r.stride2
    let rem2 := if r.stride2 = 0 then rem else rem % r.stride2
    let m := (sub - r.lo) / r.lstep
    if rem2 = 0 && (sub - r.lo) % r.lstep = 0 && m < r.n && j < r.cnt2
        && i < (if c.compact then r.cntC else r.cnt) && c.hasInst r.base i && c.hasSub r.base i sub
    then some ⟨r.forCfg c, i + r.i0, m⟩
    else none

/-- The object at a canonical index and sub-index, if the configuration has it (R29, R30, R4). -/
def findObj (c : Cfg) (idx sub : Nat) : Option Obj :=
  (rowsFor idx).findSome? (fun r => r.hit c idx sub)

/-! ## Defaults -/

/-- The boundary of a commit group by R48, before any plan. The reserved groups: DESIGN CHOICE, log entry 116. -/
def groupBoundary (g : Nat) : Nat :=
  if g = 0 then 0
  else if g ≤ 16 then 2
  else if g = 18 then 4
  else if g = 19 then 5
  else if g = 55 ∨ g = 58 ∨ g = 59 ∨ g = 60 then 1
  else 3

/-- The nominal rate of operating point k for a DRAM generation (R325): LP4X, LP5, LP5X, LP6. -/
def opRateTable : List (List Nat) :=
  [[4266, 3200, 1600, 800], [6400, 4266, 2133, 1066], [9600, 6400, 3200, 1600], [10667, 7467, 3733, 1867]]

/-- The protocol of a display output by its kind (R193): DP/eDP/HDMI ports 0 to 7, A-PHY 8 to 15, OpenLDI 16 to 19,
DSI-2 20 and 21. -/
def portProtocol (q : Nat) : Nat := if q < 8 then 0 else if q < 16 then 3 else if q < 20 then 4 else 5

/-- SERIAL as the fuses hold it from delivery: bits [63:0] of the array (R62, R301; DESIGN CHOICE, log entry 6 for its value). -/
def fuseSerial : Nat := leNat ((List.range 8).map (Config.identityByte (okey 0 0x2080 0)))

/-- The value a Default entry stands for, for a configuration and an instance and member. -/
def Dflt.value (c : Cfg) (key inst memb : Nat) : Dflt → Int
  | .v x => x
  | .inst => inst
  | .memb => memb
  | .npart => if c.compact then 8 else 16
  | .prod => 0x5316 * 0x10000 + (if c.gradeI then 0x49 else 0x41) * 0x100 + (if c.compact then 0x43 else 0x46)
  | .units => if c.compact then 0x00000F330F0F00FF else 0x0000FFFFFFFFFFFF
  | .clu => if c.compact then 0x0F else 0xFF
  | .trkTotal => if c.compact then 8192 else 16384
  | .trkRes => if c.compact then 2048 else 4096
  | .tsKib => if c.compact then 24576 else 49152
  | .bnd => groupBoundary inst
  | .bhead => if 1 ≤ inst ∧ inst ≤ 16 then ((inst - 1 : Nat) : Int) else 0
  | .proto => portProtocol inst
  | .maxLanes => if inst < 8 ∨ 20 ≤ inst then 4 else 1
  | .maxRate => if inst < 8 then 20000 else if inst < 16 then 16000 else if inst < 20 then 784 else 4500
  | .bpc => if inst < 8 then 0x1540 else if inst < 16 then 0x540 else if inst < 20 then 0x100 else 0x540
  | .opRate => ((nth 0 (nth [] opRateTable (c.dramGen - 1)) inst : Nat) : Int)
  | .pdState => if c.compact ∧ (inst = 5 ∨ inst = 7 ∨ inst = 10 ∨ inst = 12) then 4 else 2
  | .pdSwitch => if inst < 4 ∨ inst = 8 ∨ (c.compact ∧ (inst = 5 ∨ inst = 7 ∨ inst = 10 ∨ inst = 12)) then 0 else 1
  | .ident n => if key = okey 0 0x1018 4 then fuseSerial else (((Config.identityWord key).toNat % 2 ^ n : Nat) : Int)

/-- The Default of an object (R35), as its slot reads it. DEDUCED, log entry 122. -/
def objDefault (c : Cfg) (key : Nat) : Word :=
  match findObj c (keyIdx key) (keySub key) with
  | none => 0
  | some o =>
    let d := nth (nth (.v 0) o.row.dv (o.row.dv.length - 1)) o.row.dv o.memb
    wInt (Dflt.value c key o.inst o.memb d)

/-- The bytes of a string literal of the manual. -/
def strBytes (s : String) : List Byte := s.toList.map (fun ch => byteOf ch.toNat)

/-- The identity matrix of PICK_INV: sixteen F32, row-major. -/
def identityF32 : List Byte :=
  ((List.range 16).map (fun i => leBytes 4 (if i % 5 = 0 then 0x3F800000 else 0))).flatten

/-- The pass-through biquads of R410: b0 = 2^24, the other coefficients 0, ten times. -/
def passBiquads : List Byte :=
  ((List.range 50).map (fun i => leBytes 4 (if i % 5 = 0 then 16777216 else 0))).flatten

/-- The default degamma and regamma table: entry i is (i × 65,535 + 511) / 1,023. -/
def linearTable : List Byte :=
  ((List.range 1024).map (fun i => leBytes 2 ((i * 65535 + 511) / 1023))).flatten

/-- HbUdpDest's default: the address ff02::1 and port 47,121, in network order within the address. -/
def hbUdpDefault : List Byte :=
  [0xff, 0x02] ++ List.replicate 13 0 ++ [0x01] ++ leBytes 2 47121

/-- The default content of a block object: what its table names, else zeros (OCTET) or nothing. -/
def blockDefault (c : Cfg) (key : Nat) : Block :=
  let idx := keyIdx key
  let sub := keySub key
  let n := match findObj c idx sub with
    | some o => (match o.row.ty with
      | .octet k => k
      | _ => 0)
    | none => 0
  let data :=
    if idx = 0x1008 then strBytes "Sahean SX16"
    else if idx = 0x1009 then
      strBytes (if c.gradeI then (if c.compact then "SX16-IC" else "SX16-IF")
                else (if c.compact then "SX16-AC" else "SX16-AF"))
    else if idx = 0x1042 then hbUdpDefault
    else if 0x500A ≤ (idx - 0x5000) % 0x40 + 0x5000 ∧ (idx - 0x5000) % 0x40 + 0x5000 ≤ 0x500F ∧ 0x5000 ≤ idx ∧ idx < 0x5400
    then linearTable
    else if 0x5000 ≤ idx ∧ idx < 0x5400 ∧ ((idx - 0x5000) % 0x40 = 0x10 ∨ (idx - 0x5000) % 0x40 = 0x11) then scalerBytes
    else if 0x5700 ≤ idx ∧ idx < 0x5706 then
      ((List.range 1024).map (fun i => leBytes 2 (builtinTable (0x5703 ≤ idx) ((idx - 0x5700) % 3) i))).flatten
    else if 0x7200 ≤ idx ∧ idx < 0x7400 ∧ sub = 2 then identityF32
    else if 0x88A0 ≤ idx ∧ idx < 0x88C0 then passBiquads
    else if (idx = 0x94A2 ∨ idx = 0x94A6) ∧ sub = 3 then leBytes 8 (1000000 * 0x100000000 + 0xFF) ++ List.replicate 504 0
    else if 0x8380 ≤ idx ∧ idx < 0x8400 then (List.range n).map (fun i => Config.effectByte (idx - 0x8380) i)
    else if idx = 0x2080 then
      (List.range n).map (fun i => if i < 10 ∨ 32 ≤ i ∧ i < 224 then Config.identityByte key i else if i = 10 then 1 else 0)
    else if idx = 0x8D10 then Config.perfCatalogue
    else if idx = 0x2103 then (List.range n).map (fun i => Config.identityByte key i)
    else List.replicate n 0
  ⟨0, data⟩

/-! ## Registers -/

/-- The active value of an object, by key. -/
def State.getK (s : State) (k : Nat) : Word := mget (objDefault s.cfg k) k s.objs

/-- The active value of the object idx:sub of bank `b`. -/
def State.getB (s : State) (b idx sub : Nat) : Nat := (s.getK (okey b idx sub)).toNat

/-- The active value of idx:sub. -/
def State.get (s : State) (idx sub : Nat) : Nat := (s.getK (okey 0 idx sub)).toNat

/-- The active value of idx:sub, read as a signed number (R39). -/
def State.getI (s : State) (idx sub : Nat) : Int := (s.getK (okey 0 idx sub)).toInt

/-- `s` with an active value written by the device. -/
def State.putK (s : State) (k : Nat) (v : Word) : State :=
  { s with objs := mput (objDefault s.cfg k) k v s.objs }

def State.putB (s : State) (b idx sub v : Nat) : State := s.putK (okey b idx sub) (w64 v)

def State.put (s : State) (idx sub v : Nat) : State := s.putK (okey 0 idx sub) (w64 v)

def State.putI (s : State) (idx sub : Nat) (v : Int) : State := s.putK (okey 0 idx sub) (wInt v)

/-- The shadow value of an object (R48). -/
def State.getShadow (s : State) (k : Nat) : Word := mget (objDefault s.cfg k) k s.shadow

/-- `s` with a shadow value written. -/
def State.putShadow (s : State) (k : Nat) (v : Word) : State :=
  { s with shadow := mput (objDefault s.cfg k) k v s.shadow }

/-- A value the device gives a shadowed object itself, such as a plan's initial value: active and shadow. -/
def State.putBoth (s : State) (k : Nat) (v : Word) : State := (s.putK k v).putShadow k v

/-- A counter that saturates at 2^width − 1 advanced by `n`. -/
def State.bumpW (s : State) (width b idx sub n : Nat) : State :=
  s.putB b idx sub (min (s.getB b idx sub + n) (2 ^ width - 1))

/-- A 32-bit saturating counter advanced by one. -/
def State.bump (s : State) (idx sub : Nat) : State := s.bumpW 32 0 idx sub 1

/-- A 32-bit saturating counter advanced by `n`. -/
def State.bumpN (s : State) (idx sub n : Nat) : State := s.bumpW 32 0 idx sub n

/-- A 64-bit counter that does not wrap in service, advanced by `n`. -/
def State.bump64 (s : State) (idx sub n : Nat) : State := s.bumpW 64 0 idx sub n

/-- A 32-bit counter that wraps, advanced by one. -/
def State.wrap32 (s : State) (idx sub : Nat) : State := s.put idx sub ((s.get idx sub + 1) % 2 ^ 32)

/-- The number a unit kind has in the BIST table (R449), as events name units; kinds that are not in it follow. -/
def unitNum : UnitKind → Nat
  | .planner => 0
  | .composer => 1
  | .sentinel => 2
  | .head => 3
  | .cluster => 4
  | .ray => 5
  | .channel => 6
  | .bank => 7
  | .chamois => 8
  | .pcie => 9
  | .afe => 10
  | .haptic => 11
  | .axis => 12
  | .audio => 13
  | .dramHalf => 16
  | .edgeDie => 17
  | .markhor => 18

/-- A unit as an event names it: kind and instance. -/
def unitCode (u : UnitKind × Nat) : Nat := unitNum u.1 * 256 + u.2

/-- A unit is marked unusable (R27). -/
def State.isLost (s : State) (k : UnitKind) (n : Nat) : Bool := s.place.lost.contains (k, n)

/-- A domain whose units are lost with the edge die: PD16, PD17 and PD18 (R14, R15, R27). -/
def State.edgeGoneOf (s : State) (d : Nat) : Bool := s.time.edgeLost && decide (16 ≤ d ∧ d ≤ 18)

/-- Power domain `d` is on (R442, R443; PRESUMED, log entry 17 for its state at reset). -/
def State.pdOn (s : State) (d : Nat) : Bool := s.get (0x9000 + d) 1 == 2 && !s.edgeGoneOf d

/-- Chamois ports of a configuration (R3). -/
def Cfg.chamois (c : Cfg) : Nat := if c.compact then 2 else 4

/-- NODE_ID (0x1020:01), this device's number in its fabric (R70, R340). -/
def State.selfNode (s : State) : Nat := s.get 0x1020 1

/-! ## Blocks -/

/-- The content of a block object as it reads. -/
def State.getBlk (s : State) (k : Nat) : Block := mget (blockDefault s.cfg k) k s.blocks

/-- `s` with a block object's content replaced in one step, its generation advanced by one (R60). -/
def State.putBlk (s : State) (k : Nat) (data : List Byte) : State :=
  { s with blocks := mput (blockDefault s.cfg k) k ⟨((s.getBlk k).gen + 1) % 2 ^ 32, data⟩ s.blocks }

/-- The content in force of a block object of a commit group (R49). -/
def State.getLive (s : State) (k : Nat) : Block := mget (blockDefault s.cfg k) k s.liveBlocks

/-- `s` with a block's content in force replaced. -/
def State.putLive (s : State) (k : Nat) (b : Block) : State :=
  { s with liveBlocks := mput (blockDefault s.cfg k) k b s.liveBlocks }

/-! ## Memory, outputs, free values, time -/

/-- What a memory byte that nothing has written reads as (DESIGN CHOICE, log entry 10). -/
def memDefault (_addr : Nat) : Byte := 0

/-- One byte of the internal address space. -/
def State.rdByte (s : State) (a : Nat) : Byte := mget (memDefault a) a s.mem

/-- `s` with one byte of the internal address space written. -/
def State.wrByte (s : State) (a : Nat) (v : Byte) : State := { s with mem := mput (memDefault a) a v s.mem }

/-- `n` bytes from an address. -/
def State.rdBytes (s : State) (a : Nat) : Nat → List Byte
  | 0 => []
  | n + 1 => s.rdByte a :: s.rdBytes (a + 1) n

/-- `s` with bytes written from an address on. -/
def State.wrBytes (s : State) (a : Nat) : List Byte → State
  | [] => s
  | b :: r => (s.wrByte a b).wrBytes (a + 1) r

/-- The level of an input pin of SpecialPins noted (0x9700:01). -/
def State.setPin (s : State) (b : Nat) (on : Bool) : State := s.put 0x9700 1 (setBit (s.get 0x9700 1) b on)

/-- `s` with one more thing sent. -/
def State.emit (s : State) (o : Out) : State := { s with out := o :: s.out }

/-- `s` after one use of a free value (DESIGN CHOICE, log entry 3). -/
def State.useFree (s : State) : State := { s with fresh := s.fresh + 1 }

/-- The free value that the next use takes. -/
def State.freeW (s : State) : Word := Config.freeWord s.fresh

/-- Device time moved to the instant a command carries; it never runs back (R21). -/
def State.advance (s : State) (t : Nat) : State := { s with now := max s.now t }

/-- What a command leaves: no command changes the configuration or the queue (DESIGN CHOICE, log entry 1). -/
def State.kept (s s' : State) : State := { s' with cfg := s.cfg, pending := s.pending }

/-- What a command with effect `f` at instant `t` leaves of a device that is not held in reset; device time then stands at
the command's instant (R21). -/
def State.ran (s : State) (t : Nat) (f : State → State) : State := s.kept { f (s.advance t) with now := max s.now t }

/-- The form of a meaning that has its effect in reset too. -/
def always (t : Nat) (s : State) (f : State → State) : Host.Outcome State Fault Refusal := .next (s.ran t f)

/-- A PLL has no lock: its units are held (R446; the PLLs are numbered in Supply.lean). -/
def State.noLock (s : State) (n : Nat) : Bool := s.sys.unlocked.any (fun x => x.1 == n) || s.sys.faulty.contains n

/-- The device is held in reset (R447, R477). -/
def State.inReset (s : State) : Bool := !s.sys.held.isEmpty

/-- The form of every other meaning: while the device is held in reset nothing but time passes. -/
def at_ (t : Nat) (s : State) (f : State → State) : Host.Outcome State Fault Refusal :=
  .next (if s.inReset then s.advance t else s.ran t f)

/-- The form of a meaning of a unit that runs from a PLL: it is held while that PLL has no lock (R446). -/
def clocked (t pll : Nat) (s : State) (f : State → State) : Host.Outcome State Fault Refusal :=
  at_ t s (fun s => if s.noLock pll then s else f s)

/-- The half of the DRAM in which a channel lies (R14). -/
def Cfg.chanHalf (c : Cfg) (chan : Nat) : Nat := if c.compact || decide (chan < (if c.dramGen = 4 then 8 else 16)) then 0 else 1

/-- A planner core is usable (R27). -/
def State.coresUp (s : State) : Bool := (List.range 4).any (fun n => !s.isLost .planner n)

/-- The planner runs: PD2 is out of reset (R451), it has a core (R27), and the PLLs of its cores and of the network have their
lock (R446). -/
def State.planRuns (s : State) : Bool := s.pdOn 2 && s.coresUp && !s.noLock 1 && !s.noLock 2

/-- The form of a meaning of the planner, of which nothing runs unless the planner runs. -/
def planned (t : Nat) (s : State) (f : State → State) : Host.Outcome State Fault Refusal :=
  at_ t s (fun s => if s.planRuns then f s else s)

/-- The edge die answers over the die-to-die link (R15). -/
def State.edgeUp (s : State) : Bool := !s.time.edgeLost

/-- The form of a meaning of a unit on the edge die: its functions are lost with the die (R15, R27). -/
def edged (t : Nat) (s : State) (f : State → State) : Host.Outcome State Fault Refusal :=
  at_ t s (fun s => if s.edgeUp then f s else s)

/-- The form of a meaning of a unit on the edge die that runs from a PLL. -/
def edgeClocked (t pll : Nat) (s : State) (f : State → State) : Host.Outcome State Fault Refusal :=
  at_ t s (fun s => if s.edgeUp && !s.noLock pll then f s else s)

/-- Apply `f` with each element of a list in turn. -/
def foldS {α : Type} (f : State → α → State) (s : State) (l : List α) : State := l.foldl f s

/-- `f s` if the condition holds, else `s`. -/
def State.when (s : State) (c : Bool) (f : State → State) : State := if c then f s else s

end Sys2Proof.Machine
end

