-- ==== Sys2Proof/Machine/Flags.lean ====
section
/-!
DEFINITION. The flags of the block: its status objects (R46, R47), how an event sets a flag, and when SEQ advances.
-/
namespace Sys2Proof.Machine

/-! ## Severities and status objects -/

def sevCritical : Nat := 0
def sevError : Nat := 1
def sevWarning : Nat := 2
def sevNotice : Nat := 3

/-- SEQ of a status value. -/
def statusSeq (v : Nat) : Nat := v / 2 ^ 40 % 2 ^ 24

/-- Flags of a status value. -/
def statusFlags (v : Nat) : Nat := v % 2 ^ 40

/-- A status value with SEQ advanced by `n`, wrapping at 24 bits. -/
def statusAdvance (v n : Nat) : Nat := (statusSeq v + n) % 2 ^ 24 * 2 ^ 40 + statusFlags v

/-- The rate limit of a status object (R47): its chapter's, else one advance per microsecond. -/
def statusRate (c : Cfg) (k : Nat) : Rate :=
  match findObj c (keyIdx k) (keySub k) with
  | some o => o.row.status.getD (.interval 1000)
  | none => .interval 1000

/-- The rate-limit record of a status object. -/
def State.statusMeta (s : State) (k : Nat) : Option StatusMeta := s.dict.status.find? (fun m => m.key == k)

def State.putMeta (s : State) (m : StatusMeta) : State :=
  { s with dict := { s.dict with status := m :: s.dict.status.filter (fun x => x.key != m.key) } }

/-- The pending advance of a status object made if its interval has ended (R47). -/
def State.settleStatus (s : State) (k : Nat) : State :=
  match s.statusMeta k with
  | none => s
  | some m =>
    let ns := match statusRate s.cfg k with
      | .interval n => max n 1000
      | _ => 1000
    if m.pend ∧ m.last + ns ≤ s.now then
      let s := s.putK k (w64 (statusAdvance (s.getK k).toNat 1))
      s.putMeta { m with pend := false, last := m.last + ns }
    else s

/-- An event's flag set in a status object: the flag is set at once, and SEQ advances within the limits of R47 or is
marked to advance. -/
def State.setFlag (s : State) (k flag : Nat) : State :=
  let s := s.settleStatus k
  let v := setBit (s.getK k).toNat flag true
  match s.statusMeta k with
  | none =>
    (s.putK k (w64 (statusAdvance v 1))).putMeta
      { key := k, last := s.now, pend := false, used := 2 ^ flag, pendFlags := 0 }
  | some m =>
    match statusRate s.cfg k with
    | .interval n =>
      if m.pend ∨ s.now < m.last + max n 1000 then (s.putK k (w64 v)).putMeta { m with pend := true }
      else (s.putK k (w64 (statusAdvance v 1))).putMeta { m with last := s.now }
    | _ =>
      if bit m.used flag then
        (s.putK k (w64 v)).putMeta { m with pendFlags := setBit m.pendFlags flag true }
      else if m.pend ∨ s.now < m.last + 1000 then
        (s.putK k (w64 v)).putMeta { m with pend := true, used := setBit m.used flag true }
      else (s.putK k (w64 (statusAdvance v 1))).putMeta { m with last := s.now, used := setBit m.used flag true }

/-- The end of the epoch or frame of a status object limited per flag (R47): SEQ advances by one for the flags that have an
advance pending, or, within 1 µs of its last advance, at the end of that microsecond; those flags count as advanced in the
period that begins. -/
def State.endFlagPeriod (s : State) (k : Nat) : State :=
  let s := s.settleStatus k
  match s.statusMeta k with
  | none => s
  | some m =>
    let m' := { m with used := m.pendFlags, pendFlags := 0 }
    if m.pendFlags = 0 then s.putMeta m'
    else if m.pend ∨ s.now < m.last + 1000 then s.putMeta { m' with pend := true }
    else (s.putK k (w64 (statusAdvance (s.getK k).toNat 1))).putMeta { m' with last := s.now }

/-- The end of the period of every status object of a rate whose key passes the test. -/
def State.endFlagPeriods (s : State) (r : Rate) (p : Nat → Bool) : State :=
  foldS (fun s m => if statusRate s.cfg m.key = r ∧ p m.key then s.endFlagPeriod m.key else s) s s.dict.status

end Sys2Proof.Machine
end

