-- ==== Sys2Proof/Machine/Trace.lean ====
section
/-!
DEFINITION. Event records as bytes (R421) and the trace page rings (R437 to R439): records put into pages, and pages handed
over.
-/
namespace Sys2Proof.Machine

/-- The 32 bytes of a record (R421). -/
def EvRec.bytes (r : EvRec) : List Byte :=
  let pay := if r.coalesced || r.merged then
      bytesAt r.payload 0 8 ++ leBytes 4 (min r.count (2 ^ 32 - 1))
        ++ leBytes 4 (min ((r.last - r.time) / 1000) (2 ^ 32 - 1))
    else bytesAt r.payload 0 16
  leBytes 8 r.time ++ leBytes 2 (r.source % 4096 + r.sev * 4096)
    ++ [byteOf (r.part + (if r.coalesced then 16 else 0) + (if r.merged then 64 else 0)), 0]
    ++ leBytes 2 r.code ++ leBytes 2 r.seq ++ pay

def trIdx (r : Nat) : Nat := 0x8F00 + r

def State.traceRun (s : State) (r : Nat) : TraceRun :=
  (s.trace.rings.find? (fun (x : TraceRun) => x.ring == r)).getD { ring := r, base := 0, log2 := 2, policy := 0, body := [], count := 0, first := none, before := 0, after := 0, closed := false, counts := [] }

def State.putTrace (s : State) (x : TraceRun) : State :=
  { s with trace := { s.trace with rings := x :: s.trace.rings.filter (fun (y : TraceRun) => y.ring != x.ring) } }

/-- Pages between CONSUMER and PRODUCER. -/
def State.tracePages (s : State) (r : Nat) : Nat := (s.get (trIdx r) 6 + 2 ^ 32 - s.get (trIdx r) 7) % 2 ^ 32

/-- The page being written is the last free one. -/
def State.traceLast (s : State) (x : TraceRun) : Bool := decide (2 ^ x.log2 ≤ s.tracePages x.ring + 1)

/-- The page being written handed over with some FLAGS and LOST, and the next one started. -/
def State.handPage (s : State) (x : TraceRun) (flags lost : Nat) : State :=
  let p := s.get (trIdx x.ring) 6
  let page := leBytes 4 x.seq ++ leBytes 2 (16 + x.body.length) ++ [byteOf flags, 0] ++ leBytes 4 (min lost (2 ^ 32 - 1))
    ++ leBytes 4 0 ++ x.body
  let s := (s.emit (.hostWrite 0 (x.base + p % 2 ^ x.log2 * 4096) page)).put (trIdx x.ring) 6 ((p + 1) % 2 ^ 32)
  s.putTrace { x with seq := (x.seq + 1) % 2 ^ 32, body := [], count := 0, first := none, before := 0, after := 0,
                      closed := false, counts := (p, x.count) :: x.counts.take 65536 }

/-- One record lost by a ring. -/
def State.traceLost (s : State) (x : TraceRun) : State :=
  ((s.putTrace { x with after := if x.closed then x.after + 1 else x.after }).bump (trIdx x.ring) 9).setFlag (okey 0 0x8C01 0) 3

/-- FLAGS of a page as it stands: OVERWRITTEN where records were reclaimed before it. -/
def TraceRun.flags (x : TraceRun) : Nat := if 0 < x.before then 2 else 0

/-- A page that is full or flushed goes to the host: under overwrite-oldest the device reclaims the oldest page where this
one was the last free one (R439). -/
def State.turnPage (s : State) (x : TraceRun) (extra : Nat) : State :=
  let last := s.traceLast x
  let s := s.handPage x (x.flags + extra) x.before
  if !last then s
  else
    let c := s.get (trIdx x.ring) 7
    let y := s.traceRun x.ring
    let n := ((y.counts.find? (fun (z : Nat × Nat) => z.1 == c)).map (fun z => z.2)).getD 0
    let s := s.putTrace { y with before := y.before + n }
    ((s.put (trIdx x.ring) 7 ((c + 1) % 2 ^ 32)).bump (trIdx x.ring) 11).setFlag (okey 0 0x8C01 0) 3

/-- A record put into a started ring; without a PCIe link it cannot be written and is lost (R437). -/
def State.tracePut (s : State) (r : Nat) (d : List Byte) : State :=
  let x := s.traceRun r
  let add := fun (s : State) =>
    let y := s.traceRun r
    s.putTrace { y with body := y.body ++ d, count := y.count + 1, first := some (y.first.getD s.now) }
  if x.closed ∨ s.get 0x7A00 1 = 0 then s.traceLost x
  else if 16 + x.body.length + d.length ≤ 4096 then add s
  else if s.traceLast x ∧ x.policy = 0 then s.traceLost { x with closed := true }
  else add (s.turnPage x 0)

/-- A record of a source (0x8F00 + r:02) put into every enabled ring that carries it. -/
def State.traceSource (s : State) (src : Nat) (d : List Byte) : State :=
  foldS (fun s r => if s.get (trIdx r) 1 = 1 ∧ s.get (trIdx r) 2 = src then s.tracePut r d else s) s (List.range 8)

/-- A record of free content for the rings of a source, of at most the 4,080 bytes of a page (SOURCE 3 and 5, whose records the
manual does not describe; DESIGN CHOICE, log entry 112). -/
def State.traceFree (s : State) (src : Nat) : State :=
  if (List.range 8).any (fun r => s.get (trIdx r) 1 == 1 && s.get (trIdx r) 2 == src) then
    (s.traceSource src ((Config.traceRecord s.fresh).take 4080)).useFree
  else s

/-- ENABLE of a ring written: at its 0-to-1 transition the ring takes its fields as they stand. -/
def State.traceEnabled (s : State) (r old v : Nat) : State :=
  if old = 0 ∧ v = 1 then
    let x := s.traceRun r
    s.putTrace { x with base := s.get (trIdx r) 4, log2 := s.get (trIdx r) 5, policy := s.get (trIdx r) 3, body := [],
                        count := 0, first := none, before := 0, after := 0, closed := false, counts := [] }
  else s

/-- CONSUMER written by the host; `old` is its value before. Under overwrite-oldest a value behind the device's is ignored;
under drop-newest a closed page is handed over with its LOST (R438). -/
def State.traceConsumer (s : State) (r old v : Nat) : State :=
  let x := s.traceRun r
  if x.policy = 1 ∧ serialLater 32 old v then s.put (trIdx r) 7 old
  else if x.closed ∧ !s.traceLast x then (s.handPage x (x.flags + 1) x.after).bump (trIdx r) 10
  else s

/-! ## Frame capture (R440) -/

def fcIdx (h : Nat) : Nat := 0x8F40 + h

def State.capRun (s : State) (h : Nat) : CapRun :=
  (s.trace.caps.find? (fun (x : CapRun) => x.head == h)).getD ⟨h, 0, false, 0, 0, 0, 8, []⟩

def State.putCap (s : State) (x : CapRun) : State :=
  { s with trace := { s.trace with caps := x :: s.trace.caps.filter (fun (y : CapRun) => y.head != x.head) } }

/-- A frame that is being captured is abandoned: its head's timing restarts or stops, PD14 resets, or it lags (R440). -/
def State.abandonCap (s : State) (h : Nat) : State :=
  let x := s.capRun h
  if x.active then (s.putCap { x with active := false, data := [] }).bump (fcIdx h) 0xA else s

end Sys2Proof.Machine
end

