-- ==== Sys2Proof/Machine/Events.lean ====
section
/-!
DEFINITION. Event records (R421 to R432): how an occurrence becomes a record or folds into one, and how records wait for
their paths; the SAFE_OK pin (R432).
-/
namespace Sys2Proof.Machine

/-! ## Paths -/

/-- Partition `p` has a PCIe function: P0 the physical function, and every other partition of the configuration its
virtual function (R17, R360; DEDUCED, log entry 42). -/
def State.hasFunction (s : State) (p : Nat) : Bool := decide (p < if s.cfg.compact then 8 else 16)

/-- The partition a Tilsol binding is bound to. -/
def State.bindingPart (s : State) (k : Nat) : Nat := s.get (0x1200 + k) 2

/-- The transports a record of Critical severity goes to by emergency frame. -/
def State.emcyPaths (s : State) : List EvPath :=
  ([0, 1, 2, 4].filter (fun t => bit (s.get 0x1040 7) t)).map .emcy

/-- The paths a record is offered to (R424): the rings and subscriptions of its PARTITION and of P0 whose severity it
meets, and for a Critical record the emergency transports. -/
def State.pathsFor (s : State) (part sev : Nat) : List EvPath :=
  let parts := if part = 0 then [0] else [part, 0]
  let rings := (parts.filter (fun p => s.hasFunction p && decide (sev ≤ s.get (0x8C40 + p) 7))).map .ring
  let subs := (s.til.subs.filter (fun u => u.kind == 1 && decide (sev ≤ u.sev)
    && parts.contains (s.bindingPart u.binding))).map (fun u => EvPath.sub u.id)
  rings ++ subs ++ (if sev = 0 then s.emcyPaths else [])

/-! ## Losses (R427, R428, R430) -/

def EvPath.eqb (a b : EvPath) : Bool := decide (a = b)

/-- One loss of a record of severity `sev` on a path; a ring is one of the 16 partitions' (R425). -/
def State.lose (s : State) (sev : Nat) (p : EvPath) : State :=
  let old := (s.ev.losses.find? (fun l => l.path.eqb p)).getD ⟨p, [], 0, s.now, s.now⟩
  let l := { old with lost := setNth 0 old.lost (sev - 1) (nth 0 old.lost (sev - 1) + 1), last := s.now }
  let s := { s with ev := { s.ev with losses := l :: s.ev.losses.filter (fun x => !x.path.eqb p) } }
  match p with
  | .ring q => s.when (q < 16) (fun s => s.bump (0x8C40 + q) 8)
  | _ => s

/-- One Critical fold counted on a path (R429, R430). -/
def State.loseFold (s : State) (p : EvPath) : State :=
  let old := (s.ev.losses.find? (fun l => l.path.eqb p)).getD ⟨p, [], 0, s.now, s.now⟩
  { s with ev := { s.ev with losses := { old with folds := old.folds + 1, last := s.now }
                                        :: s.ev.losses.filter (fun x => !x.path.eqb p) } }

/-- A drop counted in DROPPED of its severity (1 Error to 5 Debug), with the DROPPED flag. -/
def State.countDrop (s : State) (sev : Nat) : State :=
  (s.bump 0x8C02 (1 + min sev 5)).setFlag (okey 0 0x8C01 0) 0

/-! ## The store -/

def EvRec.isFor (r : EvRec) (o : Occ) : Bool := r.source == o.source && r.code == o.code && r.part == o.part

/-- Records of one kind in the store: Critical, or the shared entries. -/
def State.criticals (s : State) : Nat := (s.ev.store.filter (fun r => r.sev == 0)).length
def State.shared (s : State) : Nat := (s.ev.store.filter (fun r => r.sev != 0)).length

/-- EventStore follows the store (0x8C03). -/
def State.countStore (s : State) : State :=
  let sh := s.shared
  ((s.put 0x8C03 1 s.criticals).put 0x8C03 2 sh).put 0x8C03 3 (max (s.get 0x8C03 3) sh)

def State.setStore (s : State) (l : List EvRec) : State := ({ s with ev := { s.ev with store := l } }).countStore

/-- The lowest severity (highest number) among records that pass a test. -/
def lowestSev (l : List EvRec) (p : EvRec → Bool) : Nat :=
  (l.filter p).foldl (fun m r => max m r.sev) 0

/-- The list without its last element that passes the test, and that element. -/
def dropLast (p : EvRec → Bool) : List EvRec → List EvRec × Option EvRec
  | [] => ([], none)
  | r :: l =>
    match dropLast p l with
    | (l', some x) => (r :: l', some x)
    | (l', none) => if p r then (l', some r) else (r :: l', none)

/-- The last element that passes the test changed by `f`. -/
def mapLast (p : EvRec → Bool) (f : EvRec → EvRec) (l : List EvRec) : List EvRec :=
  let i := (l.zipIdx.filter (fun x => p x.1)).foldl (fun _ x => some x.2) (none : Option Nat)
  match i with
  | none => l
  | some i => l.zipIdx.map (fun x => if x.2 = i then f x.1 else x.1)

/-- Room made for a non-Critical record in the shared entries (R428): the newest record of the lowest severity
present gives way if the arriving severity is higher, else the arriving record is dropped (`none`). -/
def State.makeShared (s : State) (sev : Nat) : Option State :=
  if s.shared < 4096 then some s
  else
    let low := lowestSev s.ev.store (fun r => r.sev != 0)
    if sev < low then
      match dropLast (fun r => r.sev == low) s.ev.store with
      | (l, some r) => some (((foldS (fun s p => s.lose r.sev p) s r.paths).setStore l).countDrop r.sev)
      | (_, none) => some s
    else none

/-- A non-Critical record's room on one path (R428, PATH_LIMIT): the answer says whether the record keeps the path. -/
def State.makePath (s : State) (sev : Nat) (p : EvPath) : State × Bool :=
  let on := fun r : EvRec => r.sev != 0 && r.paths.any (fun q => q.eqb p)
  if (s.ev.store.filter on).length < s.get 0x8C00 2 then (s, true)
  else
    let low := lowestSev s.ev.store on
    if sev < low then
      let l := mapLast (fun r => on r && r.sev == low)
        (fun r => { r with paths := r.paths.filter (fun q => !q.eqb p), delivered := true }) s.ev.store
      (((s.setStore (l.filter (fun r => !r.paths.isEmpty))).lose low p).countDrop low, true)
    else ((s.lose sev p).countDrop sev, false)

/-- The token bucket of a source (R427): a token taken if there is one; the level is in units of 10⁻⁹ tokens. -/
def State.takeToken (s : State) (source : Nat) : State × Bool :=
  let c := source / 256
  let burst := s.get (0x8C10 + c) 2 * 1000000000
  let rate := s.get (0x8C10 + c) 1
  let level := match s.ev.buckets.find? (fun b => b.source == source) with
    | some b => min burst (b.level + rate * (s.now - b.at_))
    | none => burst
  let put (l : Nat) : State :=
    { s with ev := { s.ev with buckets := ⟨source, l, s.now⟩ :: s.ev.buckets.filter (fun b => b.source != source) } }
  if 1000000000 ≤ level then (put (level - 1000000000), true) else (put level, false)

/-- The next SEQ of a PARTITION value (R423), which every record created takes. -/
def State.takeSeq (s : State) (part : Nat) : State × Nat :=
  let q := nth 0 s.ev.seqs part
  ({ s with ev := { s.ev with seqs := setNth 0 s.ev.seqs part ((q + 1) % 65536) } }, q)

/-- A Critical record put into the store, or folded where the reserve is full (R429): into the pending Critical
record of its key, else into the newest pending Critical record, which takes MERGED. -/
def State.storeCritical (s : State) (r : EvRec) : State :=
  if s.criticals < 4096 then s.setStore (s.ev.store ++ [r])
  else
    let same := fun x : EvRec => x.sev == 0 && x.source == r.source && x.code == r.code && x.part == r.part
    let hit := s.ev.store.any same
    let p := fun x : EvRec => if hit then same x else x.sev == 0
    let f := fun x : EvRec =>
      { x with count := min (x.count + r.count) (2 ^ 32 - 1), last := r.last, merged := x.merged || !hit,
               coalesced := x.coalesced || hit }
    let paths := (s.ev.store.filter p).foldl (fun _ x => x.paths) []
    let s := s.setStore (mapLast p f s.ev.store)
    let s := foldS (fun s q => s.loseFold q) s paths
    (s.bump 0x8C02 9).setFlag (okey 0 0x8C01 0) 1

/-- A Critical record filed (R428, R429): where it fills the reserve, that is an event of its own. -/
def State.fileCritical (s : State) (r : EvRec) : State :=
  let s := s.storeCritical r
  if s.criticals = 4096 ∧ !s.ev.reserveFull then
    let s := { s with ev := { s.ev with reserveFull := true } }
    let a := s.takeSeq 0
    a.1.storeCritical { r with source := 0, code := 3, part := 0, seq := a.2, payload := [], count := 1,
                               time := s.now, last := s.now, coalesced := false, paths := a.1.pathsFor 0 0 }
  else s

/-- The paths of `l` that have room for a record of severity `sev`, added to `kept`. -/
def State.roomFor (s : State) (sev : Nat) (kept : List EvPath) : List EvPath → State × List EvPath
  | [] => (s, kept)
  | p :: l =>
    let a := s.makePath sev p
    a.1.roomFor sev (if a.2 then kept ++ [p] else kept) l

/-- A record of another severity filed (R427, R428): it takes a token, a shared entry and its paths. -/
def State.fileShared (s : State) (r : EvRec) : State :=
  let a := s.takeToken r.source
  if !a.2 then foldS (fun s p => s.lose r.sev p) ((a.1.bump 0x8C02 7).countDrop r.sev) r.paths
  else if r.paths.isEmpty then a.1
  else
    match a.1.makeShared r.sev with
    | none => foldS (fun s p => s.lose r.sev p) (a.1.countDrop r.sev) r.paths
    | some s =>
      let b := s.roomFor r.sev [] r.paths
      if b.2.isEmpty then b.1
      else b.1.setStore (b.1.ev.store ++ [{ r with paths := b.2, delivered := b.2.length < r.paths.length }])

/-- A record created (R426 to R429): it takes a SEQ, a token unless Critical, a store entry and its paths. -/
def State.createRecord (s : State) (o : Occ) (time count last : Nat) (coalesced : Bool) : State :=
  let a := s.takeSeq o.part
  let r : EvRec := { time := time, source := o.source, sev := o.sev, part := o.part, coalesced := coalesced,
                     merged := false, code := o.code, seq := a.2, payload := o.payload, count := count, last := last,
                     paths := a.1.pathsFor o.part o.sev, delivered := false }
  let s := a.1.traceSource 2 r.bytes
  if o.sev = 0 then s.fileCritical r else s.fileShared r

/-- A coalescing slot closed (R426): a slot with a count leaves one coalesced record. -/
def State.closeSlot (s : State) (z : EvSlot) : State :=
  let rest := s.ev.slots.filter (fun x => !(x.source == z.source && x.code == z.code && x.part == z.part))
  let s := { s with ev := { s.ev with slots := rest } }
  if z.count = 0 then s
  else s.createRecord ⟨z.source, z.code, z.part, z.sev, z.payload⟩ z.first z.count z.last true

/-- One event occurrence (R426); while PD2 is in reset there is no store to take it (R431, R451). -/
def State.occur (s : State) (o : Occ) : State :=
  if !s.pdOn 2 ∨ 0 < o.sev ∧ s.get (0x8C10 + o.source / 256) 3 < o.sev then s
  else
    let s := s.bump64 0x8C02 1 1
    let here := fun x : EvSlot => x.source == o.source && x.code == o.code && x.part == o.part
    let s := match s.ev.slots.find? here with
      | some z => if z.ends ≤ s.now then s.closeSlot z else s
      | none => s
    match s.ev.slots.find? here with
    | none =>
      let s := s.createRecord o s.now 1 s.now false
      if s.ev.slots.length < 512 then
        { s with ev := { s.ev with slots := ⟨o.source, o.code, o.part, o.sev, s.now + s.get 0x8C00 1 * 1000000, 0,
                                             s.now, s.now, o.payload⟩ :: s.ev.slots } }
      else (s.bump 0x8C02 10).setFlag (okey 0 0x8C01 0) 2
    | some z =>
      let s := s.bump 0x8C02 8
      if s.ev.store.any (fun r => r.isFor o && !r.delivered) then
        s.setStore (mapLast (fun r => r.isFor o && !r.delivered)
          (fun r => { r with coalesced := true, count := min (r.count + 1) (2 ^ 32 - 1), last := s.now }) s.ev.store)
      else
        let z' := if z.count = 0 then { z with count := 1, first := s.now, last := s.now, payload := o.payload }
                  else { z with count := z.count + 1, last := s.now }
        { s with ev := { s.ev with slots := z' :: s.ev.slots.filter (fun x => !here x) } }

/-- The event that sets flag `flag` of the status object `idx`:`sub` of bank `bank` (R422): the flag is set and the
occurrence handled. `unit` is the instance, `part` the partition concerned. -/
def State.raiseB (s : State) (bank idx sub unit flag sev part : Nat) (payload : List Byte) : State :=
  (s.setFlag (okey bank idx sub) flag).occur
    ⟨idx / 0x1000 * 256 + unit, flag * 4096 + idx % 0x1000, part, sev, payload⟩

/-- As `raiseB`, for a status object at sub-index 00 that is not banked. -/
def State.raise (s : State) (idx unit flag sev part : Nat) (payload : List Byte) : State :=
  s.raiseB 0 idx 0 unit flag sev part payload

/-- An event that reports a code of the code tables (R422, CODE 0xFFFF) with the named values after it. -/
def State.raiseCode (s : State) (cls unit code sev part : Nat) (payload : List Byte) : State :=
  s.occur ⟨cls * 256 + unit, 0xFFFF, part, sev, leBytes 4 code ++ payload⟩

/-! ## SAFE_OK (R432) -/

/-- The pin follows the hold state: it is high while no hold bit is set. A fall is counted, timed and recorded. -/
def State.safeOkUpdate (s : State) : State :=
  let high := s.get 0x8C60 1 = 0
  if s.get 0x8C60 2 = 1 ∧ !high then
    let s := ((s.put 0x8C60 2 0).bump 0x8C60 3).put 0x8C60 4 s.now
    (s.occur ⟨0, 2, 0, 0, [byteOf (s.get 0x8C60 1)]⟩).emit (.pin .safeOk 0)
  else if s.get 0x8C60 2 = 0 ∧ high then (s.put 0x8C60 2 1).emit (.pin .safeOk 1)
  else s

/-- Hold bit `b` of SafeOkState set or cleared. -/
def State.hold (s : State) (b : Nat) (on : Bool) : State :=
  (s.put 0x8C60 1 (setBit (s.get 0x8C60 1) b on)).safeOkUpdate

end Sys2Proof.Machine
end

