-- ==== Sys2Proof/Machine/Codes.lean ====
section
/-!
DEFINITION. The codes of the code tables, by name, as R89 and the chapters list them.
-/
namespace Sys2Proof.Machine

/-- OK. -/
def codeOk : Nat := 0x00000000
/-- BAD_OPCODE. -/
def codeBadOpcode : Nat := 0xA0000001
/-- BAD_LENGTH. -/
def codeBadLength : Nat := 0xA0000002
/-- PAYLOAD_TOO_LONG. -/
def codePayloadTooLong : Nat := 0xA0000003
/-- SEGMENT_SEQUENCE. -/
def codeSegmentSequence : Nat := 0xA0000004
/-- NO_TRANSFER. -/
def codeNoTransfer : Nat := 0xA0000005
/-- TRANSFER_TIMEOUT. -/
def codeTransferTimeout : Nat := 0xA0000006
/-- ABORTED. -/
def codeAborted : Nat := 0xA0000007
/-- TAG_IN_USE. -/
def codeTagInUse : Nat := 0xA0000008
/-- USE_SEGMENTED. -/
def codeUseSegmented : Nat := 0xA0000009
/-- NOTHING_TO_ABORT. -/
def codeNothingToAbort : Nat := 0xA000000A
/-- GENERATION_ABORT. -/
def codeGenerationAbort : Nat := 0xA0000010
/-- BAD_COMMAND. -/
def codeBadCommand : Nat := 0xA0000020
/-- RING_OVERFLOW. -/
def codeRingOverflow : Nat := 0xA0000021
/-- OBJECT_ABSENT. -/
def codeObjectAbsent : Nat := 0xA1000001
/-- NO_READ_ACCESS. -/
def codeNoReadAccess : Nat := 0xA1000002
/-- NO_WRITE_ACCESS. -/
def codeNoWriteAccess : Nat := 0xA1000003
/-- READ_ONLY. -/
def codeReadOnly : Nat := 0xA1000004
/-- ALREADY_WRITTEN. -/
def codeAlreadyWritten : Nat := 0xA1000005
/-- LOCKED. -/
def codeLocked : Nat := 0xA1000006
/-- RESERVED_BITS_CHANGED. -/
def codeReservedBitsChanged : Nat := 0xA1000007
/-- ALIAS_NOT_BITS. -/
def codeAliasNotBits : Nat := 0xA1000008
/-- ACCESS_WIDTH. -/
def codeAccessWidth : Nat := 0xA1000009
/-- STATUS_SEQ_STALE. -/
def codeStatusSeqStale : Nat := 0xA100000A
/-- NOT_SUBSCRIBABLE. -/
def codeNotSubscribable : Nat := 0xA100000B
/-- NOT_BLOCK_OBJECT. -/
def codeNotBlockObject : Nat := 0xA100000C
/-- STALE_HANDLE. -/
def codeStaleHandle : Nat := 0xA1000020
/-- NOT_OWNER. -/
def codeNotOwner : Nat := 0xA1000021
/-- FORMAT_MISMATCH. -/
def codeFormatMismatch : Nat := 0xA1000030
/-- LAYER_NOT_OWNED. -/
def codeLayerNotOwned : Nat := 0xA1000031
/-- STATIC_LAYER. -/
def codeStaticLayer : Nat := 0xA1000032
/-- EXPECT_NOT_ALLOWED. -/
def codeExpectNotAllowed : Nat := 0xA1000040
/-- STATE_NOT_ALLOWED. -/
def codeStateNotAllowed : Nat := 0xA1000041
/-- NO_WRITE_RIGHT. -/
def codeNoWriteRight : Nat := 0xA1000050
/-- OVERLAP. -/
def codeOverlap : Nat := 0xA1000051
/-- FORMAT_UNSUPPORTED. -/
def codeFormatUnsupported : Nat := 0xA1000052
/-- CVU_SET_ABSENT. -/
def codeCvuSetAbsent : Nat := 0xA1000053
/-- EFFECT_ABSENT. -/
def codeEffectAbsent : Nat := 0xA1000060
/-- HOMING_NOT_ALLOWED. -/
def codeHomingNotAllowed : Nat := 0xA1000061
/-- RULE_FAILED. -/
def codeRuleFailed : Nat := 0xA3000001
/-- NO_COMMIT_RIGHT. -/
def codeNoCommitRight : Nat := 0xA3000002
/-- GROUP_ABSENT. -/
def codeGroupAbsent : Nat := 0xA3000003
/-- TIME_INVALID. -/
def codeTimeInvalid : Nat := 0xA3000004
/-- SUPERSEDED. -/
def codeSuperseded : Nat := 0xA3000005
/-- CANCELLED. -/
def codeCancelled : Nat := 0xA3000006
/-- ALIGN_WITH_PLAN. -/
def codeAlignWithPlan : Nat := 0xA3000007
/-- PLAN_STRUCTURE. -/
def codePlanStructure : Nat := 0xA3000010
/-- PLAN_TARGET. -/
def codePlanTarget : Nat := 0xA3000011
/-- PLAN_BUDGET. -/
def codePlanBudget : Nat := 0xA3000012
/-- PLAN_CLASS. -/
def codePlanClass : Nat := 0xA3000013
/-- PLAN_EARLY_LIMIT. -/
def codePlanEarlyLimit : Nat := 0xA3000014
/-- PLAN_STATE. -/
def codePlanState : Nat := 0xA3000015
/-- SWAP_PENDING. -/
def codeSwapPending : Nat := 0xA3000016
/-- REGION_STILL_FAILING. -/
def codeRegionStillFailing : Nat := 0xA3000020
/-- SPIRV_INVALID. -/
def codeSpirvInvalid : Nat := 0xA3000030
/-- SPIRV_UNSUPPORTED. -/
def codeSpirvUnsupported : Nat := 0xA3000031
/-- BVH_INVALID. -/
def codeBvhInvalid : Nat := 0xA3000032
/-- PLAN_CHANGED. -/
def codePlanChanged : Nat := 0xA3000040
/-- PRESENT_SUPERSEDED. -/
def codePresentSuperseded : Nat := 0xA3000041
/-- MASK_INVALID. -/
def codeMaskInvalid : Nat := 0xA3000050
/-- BIST_IN_USE. -/
def codeBistInUse : Nat := 0xA3000060
/-- AUTH_FAILED. -/
def codeAuthFailed : Nat := 0xA4000001
/-- REPLAYED. -/
def codeReplayed : Nat := 0xA4000002
/-- CLIENT_UNBOUND. -/
def codeClientUnbound : Nat := 0xA4000003
/-- SESSION_EXHAUSTED. -/
def codeSessionExhausted : Nat := 0xA4000004
/-- TRANSPORT_NOT_BOUND. -/
def codeTransportNotBound : Nat := 0xA4000005
/-- PARTITION_MISMATCH. -/
def codePartitionMismatch : Nat := 0xA4000006
/-- KEY_SERVICE_UNAVAILABLE. -/
def codeKeyServiceUnavailable : Nat := 0xA4000007
/-- PLAN_SIGNATURE. -/
def codePlanSignature : Nat := 0xA4000010
/-- PLAN_ROLLBACK. -/
def codePlanRollback : Nat := 0xA4000011
/-- KEY_BUNDLE_INVALID. -/
def codeKeyBundleInvalid : Nat := 0xA4000020
/-- KEY_GEN_MISMATCH. -/
def codeKeyGenMismatch : Nat := 0xA4000021
/-- FOXGLOVE_DISABLED. -/
def codeFoxgloveDisabled : Nat := 0xA4000022
/-- TOKEN_INVALID. -/
def codeTokenInvalid : Nat := 0xA4000023
/-- LIFECYCLE. -/
def codeLifecycle : Nat := 0xA4000024
/-- RNG_UNAVAILABLE. -/
def codeRngUnavailable : Nat := 0xA4000025
/-- LIBRARY_INVALID. -/
def codeLibraryInvalid : Nat := 0xA4000030
/-- NOT_AUTHORISED. -/
def codeNotAuthorised : Nat := 0xA4000040
/-- DOMAIN_BUSY. -/
def codeDomainBusy : Nat := 0xA5000001
/-- STORE_FAILED. -/
def codeStoreFailed : Nat := 0xA5000002
/-- SERVER_BUSY. -/
def codeServerBusy : Nat := 0xA5000003
/-- TRANSFERS_FULL. -/
def codeTransfersFull : Nat := 0xA5000004
/-- SUBSCRIPTIONS_FULL. -/
def codeSubscriptionsFull : Nat := 0xA5000005
/-- NODE_UNREACHABLE. -/
def codeNodeUnreachable : Nat := 0xA5000006
/-- PLAN_CAPACITY. -/
def codePlanCapacity : Nat := 0xA5000010
/-- NO_SPACE. -/
def codeNoSpace : Nat := 0xA5000020
/-- QUOTA_EXCEEDED. -/
def codeQuotaExceeded : Nat := 0xA5000021
/-- APERTURE_FULL. -/
def codeApertureFull : Nat := 0xA5000022
/-- SLOTS_FULL. -/
def codeSlotsFull : Nat := 0xA5000023
/-- SURFACE_LOST. -/
def codeSurfaceLost : Nat := 0xA5000024
/-- DECODE_ERROR. -/
def codeDecodeError : Nat := 0xA5000030
/-- RENDER_TIMEOUT. -/
def codeRenderTimeout : Nat := 0xA5000040
/-- RENDER_UNAVAILABLE. -/
def codeRenderUnavailable : Nat := 0xA5000041
/-- MODULE_TOO_LARGE. -/
def codeModuleTooLarge : Nat := 0xA5000042
/-- TRANSLATION_CACHE_FULL. -/
def codeTranslationCacheFull : Nat := 0xA5000043
/-- PICK_STORE_FULL. -/
def codePickStoreFull : Nat := 0xA5000044
/-- HELD_FULL. -/
def codeHeldFull : Nat := 0xA5000050
/-- FENCE_TIMEOUT. -/
def codeFenceTimeout : Nat := 0xA5000051
/-- BINDINGS_FULL. -/
def codeBindingsFull : Nat := 0xA5000060
/-- FUSE_PROGRAM_FAILED. -/
def codeFuseProgramFailed : Nat := 0xA5000061
/-- LIBRARY_FULL. -/
def codeLibraryFull : Nat := 0xA5000070
/-- ECC_UNCORRECTABLE. -/
def codeEccUncorrectable : Nat := 0xA5000071
/-- E2E_RETRY_FAILED. -/
def codeE2eRetryFailed : Nat := 0xA5000080
/-- SELFTEST_BUSY. -/
def codeSelftestBusy : Nat := 0xA5000090
/-- MASK_STORE_FULL. -/
def codeMaskStoreFull : Nat := 0xA5000091
/-- CHANNEL_FAULTED. -/
def codeChannelFaulted : Nat := 0xA50000A0
/-- RESTART_PENDING. -/
def codeRestartPending : Nat := 0xA50000B0
/-- CONTROLLER_BUSY. -/
def codeControllerBusy : Nat := 0xA50000C0
/-- BUS_STUCK. -/
def codeBusStuck : Nat := 0xA50000C1
/-- ADDRESS_NACK. -/
def codeAddressNack : Nat := 0xA50000C2
/-- ARB_LOST. -/
def codeArbLost : Nat := 0xA50000C3
/-- BUS_TIMEOUT. -/
def codeBusTimeout : Nat := 0xA50000C4
/-- CLAMPED_LOW. -/
def codeClampedLow : Nat := 0xC2000001
/-- CLAMPED_HIGH. -/
def codeClampedHigh : Nat := 0xC2000002
/-- ROUNDED. -/
def codeRounded : Nat := 0xC2000003
/-- ENUM_REPLACED. -/
def codeEnumReplaced : Nat := 0xC2000004
/-- ENVELOPE. -/
def codeEnvelope : Nat := 0xC2000005
/-- NAN_DEFAULT. -/
def codeNanDefault : Nat := 0xC2000006

end Sys2Proof.Machine
end

