-- ==== Sys2Proof/Machine/Dict.lean ====
section
/-!
DEFINITION. The dictionary server (chapter 02): who may read and write an object, the order of the refusals, clamping,
and what a read returns.
-/
namespace Sys2Proof.Machine

/-! ## Time (R21, R23) -/

/-- Wall time now; zero while it is not valid. -/
def State.wallNow (s : State) : Nat := if s.get 0x9060 3 = 1 then (s.now + s.time.wallOff) % 2 ^ 64 else 0

/-- The frame-epoch counter. -/
def State.epoch (s : State) : Nat := s.get 0x9060 5

/-! ## Rights (R31, R34) -/

def State.layers (s : State) : List PlanLayer := (s.plan.active.map (fun p => p.layers)).getD []
def State.heads (s : State) : List PlanHead := (s.plan.active.map (fun p => p.heads)).getD []
def State.regions (s : State) : List PlanRegion := (s.plan.active.map (fun p => p.regions)).getD []
def State.planKeys (s : State) : List PlanKey := (s.plan.active.map (fun p => p.keys)).getD []

/-- The LAYERS entry of a slot in the active plan. -/
def State.layer (s : State) (slot : Nat) : Option PlanLayer := s.layers.find? (fun l => l.slot == slot)

/-- The HEADS entry of a head in the active plan. -/
def State.headEntry (s : State) (n : Nat) : Option PlanHead := s.heads.find? (fun h => h.head == n)

/-- The REGIONS entry of a region in the active plan. -/
def State.region (s : State) (n : Nat) : Option PlanRegion := s.regions.find? (fun r => r.region == n)

/-- Partition `p` owns a layer of head `h`. -/
def State.ownsOn (s : State) (h p : Nat) : Bool := s.layers.any (fun l => l.head == h && l.owner == p)

/-- A Foxglove authorisation is in force (0x2110:03, R311). -/
def State.foxOn (s : State) : Bool := s.get 0x2110 3 == 1

/-- The attribute byte of pin `n` names an initiator (R289). -/
def State.ownsPin (s : State) (ini : Ini) (n : Nat) : Bool :=
  numAt (s.getLive (okey 0 0x2060 0)).data n 1 % 32 == ini.part % 16 + (if ini.secure then 16 else 0)

/-- What an access mask of R34 grants partition `p`, for instance `i` of the object at canonical index `idx`. -/
def State.whoRight (s : State) (w : Who) (ini : Ini) (i idx sub : Nat) : Bool :=
  let p := ini.part
  match w with
  | .all => true
  | .p0 => p == 0
  | .inst => p == 0 || p == i
  | .instOnly => p == i
  | .ownEntry => sub == p + 1
  | .markhor => ini.secure
  | .pf => decide (ini.path = .pf)
  | .none => false
  | .headOwners => p == 0 || s.ownsOn i p || (decide (0x5000 ≤ idx ∧ idx < 0x5800) && bit (s.get (0x1141 + i) 3) p)
  | .headCommit => p == 0 || bit (s.get (0x1141 + i) 3) p
  | .portReaders => p == 0 || s.heads.any (fun h => h.port != 0xFFFF && h.port % 256 == i
      && (s.ownsOn h.head p || bit (s.get (0x1141 + h.head) 3) p))
  | .layerOwner => p == 0 || s.layers.any (fun l => l.slot == i && l.owner == p)
  | .regionOwners => p == 0 || s.regions.any (fun r => r.region == i && s.ownsOn r.head p)
  | .touchOwners => p == 0 || s.ownsOn (s.get (0x8010 + i * 8) 3) p
  | .keyOwner => s.planKeys.any (fun k => k.head == i && k.key + 1 == sub && k.owner == p)
  | .owner b m => p == 0 || s.get (idx - b) m == p
  | .clamp => true
  | .client => p == 0 || s.get idx 2 == p
  | .fox => p == 0 && s.foxOn
  | .pinOwner => s.ownsPin ini i
  | .tilsol => match ini.path with
    | .tilsol _ => true
    | _ => false

/-- AccessNarrow of the partition (0x2050 + p, R312) denies an access to the index. -/
def State.narrowed (s : State) (p idx : Nat) (wr : Bool) : Bool :=
  (List.range 16).any (fun e =>
    let v := s.get (0x2050 + p) (e + 1)
    bit v (if wr then 33 else 32) && decide (bitsOf v 15 0 ≤ idx) && decide (idx ≤ bitsOf v 31 16))

/-- A slot of a layer that the active plan does not list takes no writes (R168). -/
def State.slotUsed (s : State) (idx inst : Nat) : Bool :=
  !(0x4400 ≤ idx && idx < 0x4600) || s.layers.any (fun l => l.slot == inst)

/-- The sink fields of an output in CHIME_OUTPUTS, which the normal world may not write (R416). -/
def State.chimeSink (s : State) (idx sub : Nat) : Bool :=
  decide (0x8880 ≤ idx ∧ idx < 0x88A0 ∧ 1 ≤ sub ∧ sub ≤ 3) && bit (s.get 0x89C0 1) (idx - 0x8880)

/-- Read right or write right of an initiator for an object (R34): the mask and world attribute of the owning
chapter, narrowed for a normal-world access. The write mask of an RO or CONST object is not narrower than READ_ONLY
needs (DEDUCED, log entry 12). -/
def State.hasRight (s : State) (ini : Ini) (wr : Bool) (o : Obj) (idx sub : Nat) : Bool :=
  let w := if wr then (if o.row.wr = .none then .all else o.row.wr) else o.row.rd
  s.whoRight w ini o.inst idx sub
    && !(wr && !ini.secure && o.row.grp == .g 57)
    && !(wr && !s.slotUsed idx o.inst)
    && !(wr && !ini.secure && s.chimeSink idx sub)
    && (ini.secure || !s.narrowed ini.part idx wr)

/-! ## Refused writes (R44, R494) -/

/-- A refused write: STALE_CLEARS alone for a stale clear, else the count, the record, the flag with its Notice event.
The code is what the writer is answered with where its path has an answer.
The index that a write through an alias records: DESIGN CHOICE, log entry 115. -/
def State.refuse (s : State) (ini : Ini) (idx sub code : Nat) : State :=
  let p := ini.part
  if code = codeStatusSeqStale then s.bumpW 32 p 0x11B8 2 1
  else
    let obj := idx % 65536 * 256 + sub % 256
    let s := s.bump 0x11B0 (p + 1)
    let s := ((s.putB p 0x11B1 1 obj).putB p 0x11B1 2 code).putB p 0x11B1 3 s.now
    s.raiseB p 0x11B8 1 0 1 sevNotice p (leBytes 4 obj ++ leBytes 4 code ++ leBytes 8 s.now)

/-! ## Writes -/

/-- A write of the 64 bits `raw` to idx:sub through window `win` of R38: 0 main, 1 SET, 2 CLEAR, 3 TOGGLE. -/
structure Wr where
  ini : Ini
  win : Nat
  idx : Nat
  sub : Nat
  raw : Word
  deriving DecidableEq, Repr

/-- The bank of an object for an initiator (R45). -/
def Obj.bankFor (o : Obj) (p : Nat) : Nat := if o.row.banked then p else 0

/-- The commit group of an object (R48); 0 for CG_IMMEDIATE and for objects outside the commit rules, which the RO objects
that a plan gives their values are too. -/
def State.groupOf (s : State) (o : Obj) : Nat :=
  if o.row.acc = .ro || o.row.acc = .const then 0
  else match o.row.grp with
  | .none => 0
  | .g n => n
  | .head => 1 + o.inst
  | .layer => (s.layer o.inst).elim 0 (fun l => 20 + l.group)

/-- The commit group of the object with a key. -/
def State.keyGroup (s : State) (k : Nat) : Nat :=
  match findObj s.cfg (keyIdx k) (keySub k) with
  | some o => s.groupOf o
  | none => 0

/-- The value a write acts on: the shadow of a grouped object, else the active value. -/
def State.writeBase (s : State) (o : Obj) (k : Nat) : Nat :=
  if s.groupOf o = 0 then (s.getK k).toNat else (s.getShadow k).toNat

/-- Bits that are defined in a BITS object. -/
def Row.defined (r : Row) : Nat :=
  match r.rg with
  | .mask m => m
  | _ => 2 ^ r.ty.width - 1

/-- A lock set is locked (R37). -/
def State.locked (s : State) (set : Nat) : Bool := bit (s.get 0x1128 1) set

/-- VRR_TARGET_CHZ of a head without VRR, which is read only there (R192). -/
def State.vrrFixed (s : State) (idx : Nat) : Bool :=
  decide (0x5006 ≤ idx ∧ idx < 0x5400) && (idx - 0x5006) % 0x40 == 0 && !bit (s.get (idx - 6) 1) 1

/-- Steps 2 to 8 of R494 for a write, in their order. `block` tells a write of a block object's content, to which
R41's refusal of the slot does not apply. -/
def State.writeRefusal (s : State) (q : Wr) (block : Bool) : Option Nat :=
  let idx := canonIdx q.idx
  match findObj s.cfg idx q.sub with
  | none => some codeObjectAbsent
  | some o =>
    let r := o.row
    let k := okey (o.bankFor q.ini.part) idx q.sub
    if q.ini.path = .monitor || !s.hasRight q.ini true o idx q.sub then some codeNoWriteAccess
    else if q.win ≠ 0 && (!r.ty.isBits || r.status.isSome && q.win != 2) then some codeAliasNotBits
    else if r.acc = .ro || r.acc = .const || s.vrrFixed idx || (r.ty.isBlock && !block) then some codeReadOnly
    else if r.acc = .rwo && s.dict.written.contains k then some codeAlreadyWritten
    else if r.acc = .lck && s.locked r.lock then some codeLocked
    else if r.ty.isBits && r.status.isNone && q.win = 0 && !(idx = 0x1100 && q.sub = 1)
        && q.raw.toNat &&& (2 ^ 64 - 1 - r.defined) != (s.getK k).toNat &&& (2 ^ 64 - 1 - r.defined) then
      some codeReservedBitsChanged
    else none

/-! ## What a head's raster still uses (R52) -/

/-- The state as the raster that holds a group's former values sees it; without such a hold, the state itself. -/
def State.heldView (s : State) (g : Nat) : State :=
  match s.dict.rasters.find? (fun r => r.group == g) with
  | none => s
  | some r =>
    { s with
      objs := mputAll (objDefault s.cfg) r.vals (s.objs.filter (fun e => s.keyGroup e.1 != g)),
      liveBlocks := mputAll (blockDefault s.cfg) r.blks (s.liveBlocks.filter (fun e => s.keyGroup e.1 != g)) }

/-- The state as head `n`'s running frame sees it. -/
def State.rasterView (s : State) (n : Nat) : State := s.heldView (n + 1)

/-! ## Clamping (R54) -/

/-- A clamped value with its status, 0 for a value stored as written. -/
structure Clamped where
  val : Int
  status : Nat
  deriving DecidableEq, Repr

/-- An interval. -/
def clampIv (lo hi v : Int) : Clamped :=
  if v < lo then ⟨lo, codeClampedLow⟩ else if hi < v then ⟨hi, codeClampedHigh⟩ else ⟨v, 0⟩

/-- Multiples of a step within an interval. -/
def clampStep (lo hi size : Nat) (v : Int) : Clamped :=
  let c := clampIv lo hi v
  let d := c.val.toNat / size * size
  let m := if d < lo then (lo + size - 1) / size * size else d
  ⟨m, if c.status ≠ 0 then c.status else if (m : Int) = c.val then 0 else codeRounded⟩

/-- Separate pieces: the nearest lower defined value, or the lowest if none. -/
def clampPieces (l : List (Int × Int)) (v : Int) : Clamped :=
  if l.any (fun p => p.1 ≤ v && v ≤ p.2) then ⟨v, 0⟩
  else
    let lower := (l.filter (fun p => p.2 < v)).map (fun p => p.2)
    let lowest := l.foldl (fun m p => min m p.1) ((l.head?.map (fun p => p.1)).getD 0)
    ⟨match lower with
      | [] => lowest
      | x :: r => r.foldl max x, codeEnumReplaced⟩

/-- The order of binary32 patterns that are not NaN. -/
def f32Key (p : Nat) : Int := if p < 2 ^ 31 then p else -((p - 2 ^ 31 : Nat) : Int)

/-- True of a NaN pattern, and of an infinity. -/
def f32IsNan (p : Nat) : Bool := decide (0x7F800000 < p % 2 ^ 31)
def f32IsInf (p : Nat) : Bool := p % 2 ^ 31 == 0x7F800000

/-- An interval of binary32 patterns; NaN gives the default `d`. -/
def clampF32 (lo hi d p : Nat) : Clamped :=
  if f32IsNan p then ⟨d, codeNanDefault⟩
  else if f32Key hi < f32Key p then ⟨hi, codeClampedHigh⟩
  else if f32Key p < f32Key lo then ⟨lo, codeClampedLow⟩
  else ⟨p, 0⟩

/-- A field of two bytes, each in 1 to 100; the status is that of the low byte if it has one. -/
def clampTwoPct (v : Nat) : Clamped :=
  let top := if 65535 < v then codeClampedHigh else 0
  let v := min v 65535
  let a := clampIv 1 100 (v % 256 : Nat)
  let b := clampIv 1 100 (v / 256 : Nat)
  ⟨a.val + 256 * b.val, if top ≠ 0 then top else if a.status ≠ 0 then a.status else b.status⟩

/-- The lane rates of R195, in Mbit/s, per protocol: DP and eDP, HDMI, A-PHY; other protocols take any rate. -/
def laneRates (proto : Nat) : List Nat :=
  if proto ≤ 1 then [1620, 2700, 5400, 8100, 10000, 13500, 20000]
  else if proto = 2 then [3000, 6000, 8000, 10000, 12000]
  else if proto = 3 then [2000, 4000, 8000, 12000, 16000]
  else []

/-- MAX_RATE rounded down to a rate of R195 that the port's protocol has; the lowest one below all of them. DSI-2 takes any
rate up to 4,500. DEDUCED, log entry 125. -/
def clampRate (proto : Nat) (v : Int) : Clamped :=
  let c := clampIv 1620 20000 v
  match laneRates proto with
  | [] => if proto = 5 ∧ 4500 < c.val then ⟨4500, if c.status ≠ 0 then c.status else codeRounded⟩ else c
  | x :: l =>
    let m : Nat := ((x :: l).filter (fun r : Nat => decide ((r : Int) ≤ c.val))).foldl max x
    ⟨m, if c.status ≠ 0 then c.status else if (m : Int) = c.val then 0 else codeRounded⟩

/-- The envelope of a layer field (R98), with status ENVELOPE. -/
def clampEnv (lo hi v : Int) : Clamped :=
  let c := clampIv lo hi v
  ⟨c.val, if c.status = 0 then 0 else codeEnvelope⟩

/-- PORT or SLOT of an audio channel clamped to the range that R405 gives the KIND last written; another KIND uses neither
(DEDUCED, log entry 21). -/
def clampAudio (l : List (Nat × Nat × Nat)) (kind : Nat) (v : Int) : Clamped :=
  match l.find? (fun x => x.1 == kind) with
  | some x => clampIv x.2.1 x.2.2 v
  | none => clampIv 0 255 v

/-- The ranges that depend on the state or the instance, by their number in the object tables. -/
def State.clampSpecial (s : State) (k : Nat) (o : Obj) (v : Int) : Clamped :=
  let head := s.headEntry o.inst
  let lay := s.layer o.inst
  let hdmi := s.getShadow (okey 0 (0x5800 + o.inst * 0x10) 1)
  match k with
  | 1 => clampTwoPct v.toNat
  | 2 => clampIv 1 (9 - (s.getShadow (okey 0 0x7840 3)).toNat : Nat) v
  | 3 => clampIv ((head.elim 0 (fun h => h.vrrMin * 100) : Nat)) ((head.elim 65535 (fun h => h.vrrMax * 100) : Nat)) v
  | 4 => if o.memb % 4 = 3 then clampIv (-65535) 65535 v else clampIv (-524288) 524287 v
  | 5 => if o.inst < 8 then clampIv 0 2 v else clampIv (portProtocol o.inst) (portProtocol o.inst) v
  | 6 => clampRate hdmi.toNat v
  | 7 => if o.inst < 8 then clampPieces [(0x1E, 0x1E), (0x22, 0x22), (0x24, 0x24)] v
         else clampPieces [(0x1E, 0x1E), (0x24, 0x24), (0x2B, 0x2B)] v
  | 8 => clampIv 64 (if s.cfg.compact then 6144 else 12288) v
  | 9 => clampIv 0 (if s.cfg.compact then 24576 else 49152) v
  | 10 => lay.elim ⟨v, 0⟩ (fun l => clampEnv l.xMin l.xMax v)
  | 11 => lay.elim ⟨v, 0⟩ (fun l => clampEnv l.yMin l.yMax v)
  | 12 => lay.elim ⟨v, 0⟩ (fun l => clampEnv 0 l.srcXMax v)
  | 13 => lay.elim ⟨v, 0⟩ (fun l => clampEnv 0 l.srcYMax v)
  | 14 => lay.elim ⟨v, 0⟩ (fun l => clampEnv l.alphaMin l.alphaMax v)
  | 15 =>
    let c := clampIv 0 1 v
    if lay.elim false (fun l => bit l.flags 2) && c.val == 0 then ⟨1, codeClampedHigh⟩
    else if v < 0 ∨ 1 < v then ⟨1, codeClampedHigh⟩ else c
  | 18 => clampAudio [(1, 0, 3), (2, 0, 3), (3, 8, 15), (4, 0, 15), (6, 0, 3)] (s.getShadow (okey 0 (0x8840 + o.inst) 1)).toNat v
  | 19 => clampAudio [(1, 0, 15), (2, 0, 1), (3, 0, 7), (4, 0, 7), (6, 0, 7)] (s.getShadow (okey 0 (0x8840 + o.inst) 1)).toNat v
  | 20 => clampAudio [(1, 0, 3), (2, 0, 7), (3, 0, 63)] (s.getShadow (okey 0 (0x8880 + o.inst) 1)).toNat v
  | 21 => clampAudio [(1, 0, 15), (2, 0, 7), (3, 0, 3)] (s.getShadow (okey 0 (0x8880 + o.inst) 1)).toNat v
  | 16 => if v = 0 then ⟨0, 0⟩ else ⟨0, codeClampedHigh⟩
  | 17 =>
    let c := clampIv 0 0xFFFFFF v
    let n := c.val.toNat
    if n = 0 then c
    else if (findObj s.cfg (canonIdx (n / 256)) (n % 256)).elim true (fun x => x.row.ty.isBlock) then ⟨0, codeEnumReplaced⟩
    else c
  | _ => ⟨v, 0⟩

/-- The value a numeric write stores, with its clamp status (R39, R54). -/
def State.clampWrite (s : State) (o : Obj) (k : Nat) (raw : Word) : Clamped :=
  let w := o.row.ty.width
  match o.row.ty with
  | .bool =>
    match o.row.rg with
    | .special 15 => s.clampSpecial 15 o raw.toNat
    | _ => if raw.toNat ≤ 1 then ⟨raw.toNat, 0⟩ else ⟨1, codeClampedHigh⟩
  | .f32 =>
    let p := raw.toNat % 2 ^ 32
    let d := (objDefault s.cfg k).toNat
    match o.row.rg with
    | .f32 lo hi => clampF32 lo hi d p
    | _ => clampF32 0xFF7FFFFF 0x7F7FFFFF d p
  | ty =>
    let v : Int := if ty.isSigned then raw.toInt else (raw.toNat : Int)
    let whole := if ty.isSigned then clampIv (-(2 ^ (w - 1) : Nat)) ((2 ^ (w - 1) - 1 : Nat)) v
                 else clampIv 0 ((2 ^ w - 1 : Nat)) v
    match o.row.rg with
    | .iv lo hi => clampIv lo hi v
    | .step lo hi size => clampStep lo hi size v
    | .pieces l => clampPieces l v
    | .special k => s.clampSpecial k o v
    | _ => whole

/-- A clamp report in the ring of R57, with the CLAMPED flag.
The index that a write through an alias records: DESIGN CHOICE, log entry 115. -/
def State.logClamp (s : State) (ini : Ini) (idx sub : Nat) (raw stored : Word) (status : Nat) : State :=
  let k := s.get 0x1180 1 % 32
  let e := 0x1181 + k
  let s := (((((s.put e 1 (idx * 256 + sub)).put e 2 ini.part).putK (okey 0 e 3) raw).putK (okey 0 e 4) stored).put e 5
    status).put e 6 s.now
  ((s.put 0x1180 1 ((k + 1) % 32)).bump 0x1180 2).setFlag (okey ini.part 0x11B8 1) 0

/-- The units that BLOCK can name (R434), on a configuration. -/
def blockPresent (c : Cfg) (b : Nat) : Bool :=
  let in_ := fun (lo n : Nat) => decide (lo ≤ b ∧ b < lo + n)
  let half := fun (n : Nat) => if c.compact then n / 2 else n
  in_ 0x10 (half 8) || b == 0x18 || in_ 0x20 (half 16) || in_ 0x30 (if c.dramGen = 4 then half 16 else half 32) || b == 0x50
    || in_ 0x58 (half 8) || in_ 0x60 (half 8) || in_ 0x68 (half 8) || in_ 0x70 (half 4) || b == 0x78 || in_ 0x7C 2 || in_ 0x80 4
    || b == 0x88 || b == 0x90 || in_ 0xA0 (half 4) || b == 0xA8 || b == 0xB0

/-- The catalogue lists an event of a block (R434): an entry of PerfCatalogue. -/
def State.eventListed (s : State) (b e : Nat) : Bool :=
  let d := (s.getBlk (okey 0 0x8D10 0)).data
  (List.range (d.length / 32)).any (fun i => numAt d (32 * i) 1 == b && numAt d (32 * i + 1) 1 == e)

/-- CONFIG of a performance counter as it is stored (R434): BLOCK 0 in place of an absent unit or an event that is not listed. -/
def State.configStored (s : State) (v : Nat) : Nat :=
  let b := bitsOf v 15 8
  if b = 0 ∨ blockPresent s.cfg b ∧ s.eventListed b (v % 256) then v else v - b * 256

/-- A write that R494 has let pass, of a numeric or BITS object: what is stored, and the status of the clamp. -/
def State.newValue (s : State) (q : Wr) (o : Obj) (k : Nat) : Word × Nat :=
  if o.row.ty.isBits then
    let cur := s.writeBase o k
    let m := q.raw.toNat &&& o.row.defined
    let v := match q.win with
      | 1 => cur ||| m
      | 2 => cur - (cur &&& m)
      | 3 => cur ^^^ m
      | _ => q.raw.toNat
    let i := canonIdx q.idx
    if 0x8E00 ≤ i ∧ i < 0x8E40 then (w64 (s.configStored v), if s.configStored v = v then 0 else codeEnumReplaced)
    else (w64 v, 0)
  else
    let c := s.clampWrite o k q.raw
    (wInt c.val, c.status)

/-- A clear of a status object (R46): the flags written as 1 go if SEQ matches and no advance is pending. -/
def State.clearStatus (s : State) (ini : Ini) (idx sub k : Nat) (raw : Word) : State × Nat :=
  let s := s.settleStatus k
  let cur := (s.getK k).toNat
  let pending := (s.statusMeta k).elim false (fun m => m.pend || m.pendFlags != 0)
  if pending || statusSeq raw.toNat != statusSeq cur then (s.refuse ini idx sub codeStatusSeqStale, codeStatusSeqStale)
  else (s.putK k (w64 (statusSeq cur * 2 ^ 40 + (statusFlags cur - (statusFlags cur &&& statusFlags raw.toNat)))), 0)

/-- A value stored where a write stores it: the shadow of a grouped object, else the active value; a WO object holds
nothing. -/
def State.storeValue (s : State) (o : Obj) (k : Nat) (v : Word) : State :=
  let s := if o.row.acc = .rwo then { s with dict := { s.dict with written := k :: s.dict.written } } else s
  if o.row.acc = .wo then s
  else if s.groupOf o = 0 then s.putK k v
  else s.putShadow k v

/-- The whole of a write that is not a control-window width violation, with the answer's code. `own` is step 9 of
R494, the refusal that the owning chapter states for the object, on the value to be stored; `eff` is what a write of
the object does beside being stored. The index that a write through an alias records: DESIGN CHOICE, log entry 115. -/
def State.write (s : State) (q : Wr) (own : State → Nat → Option Nat) (eff : State → Nat → State) : State × Nat :=
  match s.writeRefusal q false with
  | some c => (s.refuse q.ini q.idx q.sub c, c)
  | none =>
    let idx := canonIdx q.idx
    match findObj s.cfg idx q.sub with
    | none => (s, 0)
    | some o =>
      let k := okey (o.bankFor q.ini.part) idx q.sub
      if o.row.status.isSome then s.clearStatus q.ini q.idx q.sub k q.raw
      else
        let (v, st) := s.newValue q o k
        match own s v.toNat with
        | some c => (s.refuse q.ini q.idx q.sub c, c)
        | none =>
          let s := s.storeValue o k v
          let s := if st = 0 then s else s.logClamp q.ini idx q.sub q.raw v st
          (eff s v.toNat, st)

/-- A write with no refusal and no effect of its own. -/
def noOwn : State → Nat → Option Nat := fun _ _ => none
def noEff : State → Nat → State := fun s _ => s

/-- A write of idx:sub by an initiator through the main window, 64 bits wide: the form of the named register writes. -/
def State.writeAt (s : State) (ini : Ini) (idx sub : Nat) (v : Word) (own : State → Nat → Option Nat)
    (eff : State → Nat → State) : State := (s.write ⟨ini, 0, idx, sub, v⟩ own eff).1

/-- The largest length of a block object's content (R61). -/
def Ty.maxLen : Ty → Nat
  | .octet n => n
  | .vstring => 255
  | .domain n => n
  | _ => 0

/-- A block's content replaced in one step (R60): it reads back at once, and comes into force at once unless the object
is of a commit group. -/
def State.storeBlock (s : State) (o : Obj) (k : Nat) (data : List Byte) : State :=
  let s := s.putBlk k data
  if s.groupOf o = 0 then s.putLive k (s.getBlk k) else s

/-- A completed write of a block object's whole content (R60, R61, R494), with its answer's code; `own` is the refusal
of the owning chapter, `eff` what the write does beside being stored. -/
def State.writeBlock (s : State) (ini : Ini) (idx sub : Nat) (data : List Byte)
    (own : State → List Byte → Option Nat) (eff : State → List Byte → State) : State × Nat :=
  match s.writeRefusal ⟨ini, 0, idx, sub, 0⟩ true with
  | some c => (s.refuse ini idx sub c, c)
  | none =>
    match findObj s.cfg (canonIdx idx) sub with
    | none => (s, 0)
    | some o =>
      let fixed := match o.row.ty with
        | .octet n => some n
        | _ => none
      if o.row.ty.maxLen < data.length ∨ fixed.elim false (fun n => n != data.length) then
        (s.refuse ini idx sub codeBadLength, codeBadLength)
      else
        match own s data with
        | some c => (s.refuse ini idx sub c, c)
        | none =>
          let stored := if o.row.acc = .wo then s else s.storeBlock o (okey (o.bankFor ini.part) (canonIdx idx) sub) data
          (eff stored data, 0)

/-! ## Reads -/

/-- Groups that hold a pending or armed set (0x1100:04). -/
def State.pendingMask (s : State) : Nat :=
  (List.range 61).foldl (fun m g => if s.dict.sets.any (fun x => x.group == g) then m + 2 ^ g else m) 0

/-- What the slot of an object reads, for an initiator with read right (R39, R41, R56). `live` is the value of an
object that reads as something other than what the maps hold; a CONST object reads its Default (R33). -/
def State.slotValue (s : State) (live : Option Word) (ini : Ini) (o : Obj) (idx sub : Nat) : Word :=
  let k := okey (o.bankFor ini.part) idx sub
  if o.row.ty.isBlock then
    let b := s.getBlk k
    w64 (b.data.length + (match o.row.ty with
      | .domain _ => b.gen * 2 ^ 32
      | _ => 0))
  else
    match live with
    | some v => v
    | none =>
      if o.row.acc = .wo then 0
      else if o.row.acc = .const then objDefault s.cfg k
      else if s.groupOf o ≠ 0 ∧ s.getB ini.part 0x1100 6 = 1 then s.getShadow k else s.getK k

end Sys2Proof.Machine
end

