-- ==== Sys2Proof/Machine/Pixel.lean ====
section
/-!
DEFINITION. Pixels (chapter 06): surface formats, widening, YUV conversion, the Sahean tile compression format as it is
read and written, and the blending arithmetic.
-/
namespace Sys2Proof.Machine

/-- Four 16-bit channels, 65,535 standing for 1.0. -/
structure Px where
  r : Nat
  g : Nat
  b : Nat
  a : Nat
  deriving DecidableEq, Repr

def Px.zero : Px := ⟨0, 0, 0, 0⟩

/-- A rectangle. -/
structure PxRect where
  x : Int
  y : Int
  w : Nat
  h : Nat
  deriving DecidableEq, Repr

def PxRect.has (q : PxRect) (x y : Int) : Bool := q.x ≤ x && x < q.x + q.w && q.y ≤ y && y < q.y + q.h

/-- Two rectangles share a pixel. -/
def PxRect.meets (p q : PxRect) : Bool :=
  p.x < q.x + q.w && q.x < p.x + p.w && p.y < q.y + q.h && q.y < p.y + p.h

/-! ## Formats (R146) -/

/-- The family of a format: 1 to 5 the packed ones, 6 NV12, 7 P010, 8 YUY2, 0 no format. -/
def fmtFamily (f : Nat) : Nat :=
  if 1 ≤ f ∧ f ≤ 5 then f else if f / 8 = 2 then 6 else if f / 8 = 4 then 7 else if f / 8 = 6 then 8 else 0

/-- Raw tile bytes. -/
def rawTileBytes (f : Nat) : Nat := nth 0 [0, 8192, 8192, 4096, 8192, 16384, 3072, 6144, 4096] (fmtFamily f)

/-- Bytes per pixel of a row: for NV12 and P010 of a luma row. -/
def rowPxBytes (f : Nat) : Nat := nth 0 [0, 4, 4, 2, 4, 8, 1, 2, 2] (fmtFamily f)

/-- Pitch of a LINEAR surface (R148). -/
def linearPitch (f w : Nat) : Nat := (w * rowPxBytes f + 255) / 256 * 256

/-- Rows of a LINEAR surface, chroma rows included. -/
def linearRows (f h : Nat) : Nat := if fmtFamily f = 6 ∨ fmtFamily f = 7 then h + h / 2 else h

def tileCols (w : Nat) : Nat := (w + 63) / 64
def tileRows (h : Nat) : Nat := (h + 31) / 32

/-- Size before rounding (R148): layout 0 LINEAR, 1 TILED, 2 COMPRESSED. -/
def surfaceBytes (f layout w h : Nat) : Nat :=
  if layout = 0 then linearPitch f w * linearRows f h else tileCols w * tileRows h * rawTileBytes f

/-! ## Widening (R151, R152) -/

/-- A fraction rounded to the nearest integer, ties to even. -/
def roundHalfEven (num den : Nat) : Nat :=
  let q := num / den
  let r := num % den
  if 2 * r < den then q else if den < 2 * r then q + 1 else q + q % 2

/-- A binary16 pattern as a 16-bit channel. -/
def widenHalf (v : Nat) : Nat :=
  let e := v / 1024 % 32
  let m := v % 1024
  if 32768 ≤ v then 0
  else if e = 31 then (if m = 0 then 65535 else 0)
  else
    let num := if e = 0 then m * 2 else (1024 + m) * 2 ^ e
    min 65535 (roundHalfEven (num * 65535) (2 ^ 25))

def widen8 (x : Nat) : Nat := x * 257
def widen10 (x : Nat) : Nat := (x * 65535 + 511) / 1023
def widen6 (x : Nat) : Nat := (x * 65535 + 31) / 63
def widen5 (x : Nat) : Nat := (x * 65535 + 15) / 31
def widen2 (x : Nat) : Nat := x * 21845

/-- A colour of four bytes R, G, B, A from the least significant byte up, widened. -/
def widenRgba (v : Nat) : Px := ⟨widen8 (bitsOf v 7 0), widen8 (bitsOf v 15 8), widen8 (bitsOf v 23 16), widen8 (bitsOf v 31 24)⟩

/-- One pixel of a packed format, its memory word widened. -/
def widenPacked (fam v : Nat) : Px :=
  match fam with
  | 1 => widenRgba v
  | 2 => ⟨widen8 (bitsOf v 23 16), widen8 (bitsOf v 15 8), widen8 (bitsOf v 7 0), widen8 (bitsOf v 31 24)⟩
  | 3 => ⟨widen5 (bitsOf v 15 11), widen6 (bitsOf v 10 5), widen5 (bitsOf v 4 0), 65535⟩
  | 4 => ⟨widen10 (bitsOf v 9 0), widen10 (bitsOf v 19 10), widen10 (bitsOf v 29 20), widen2 (bitsOf v 31 30)⟩
  | _ => ⟨widenHalf (bitsOf v 15 0), widenHalf (bitsOf v 31 16), widenHalf (bitsOf v 47 32), widenHalf (bitsOf v 63 48)⟩

/-- The coefficient rows of R152: BT.601, BT.709, BT.2020 limited, then full. -/
def yuvCoef : List (List Int) :=
  [[306428, 420023, 103099, 213947, 530871], [306428, 471792, 56120, 140245, 555917],
   [306428, 441773, 49298, 171171, 563646], [262396, 367880, 90300, 187387, 464966],
   [262396, 413222, 49153, 122834, 486902], [262396, 386930, 43178, 149921, 493672]]

/-- An 8-bit sample as a 10-bit code. -/
def code10 (full : Bool) (x : Nat) : Nat := if full then x * 4 + x / 64 else x * 4

/-- A 10-bit YUV triple of a format as a pixel. -/
def yuvPx (f yv cbv crv : Nat) : Px :=
  let full := bit f 2
  let k := nth [] yuvCoef ((if full then 3 else 0) + f % 4)
  let y : Int := (yv : Int) - (if full then 0 else 64)
  let cb : Int := (cbv : Int) - 512
  let cr : Int := (crv : Int) - 512
  let c := fun i => nth 0 k i
  let lim := fun x : Int => (max 0 (min 65535 (x / 4096))).toNat
  ⟨lim (c 0 * y + c 1 * cr + 2048), lim (c 0 * y - c 2 * cb - c 3 * cr + 2048), lim (c 0 * y + c 4 * cb + 2048), 65535⟩

/-! ## Tile headers and data (R153 to R155) -/

def hdrSectors (h : Nat) : Nat := bitsOf h 6 0
def hdrOpaque (h : Nat) : Bool := bit h 8
def hdrTransparent (h : Nat) : Bool := bit h 9
def hdrConstant (h : Nat) : Bool := bit h 10
def hdrCleared (h : Nat) : Bool := bit h 11
def hdrMode (h : Nat) : Nat := bitsOf h 13 12
def hdrValue (h : Nat) : Nat := bitsOf h 63 32

/-- Channel widths of a format that MODE 1 packs, in order of rising bit position. -/
def packWidths (fam : Nat) : List Nat :=
  match fam with
  | 1 | 2 => [8, 8, 8, 8]
  | 3 => [5, 6, 5]
  | 4 => [10, 10, 10, 2]
  | _ => []

/-- `n` bits of a byte list from a bit position, least significant bit first. -/
def takeBits (l : List Byte) (pos n : Nat) : Nat := leNat (bytesAt l (pos / 8) ((pos % 8 + n + 7) / 8)) / 2 ^ (pos % 8) % 2 ^ n

/-- One block and channel of a MODE 1 stream: the 64 values and the position after it, or none at an error. -/
def decodeChan (l : List Byte) (limit cw pos : Nat) : Option (List Nat × Nat) :=
  let mn := takeBits l pos cw
  let w := takeBits l (pos + cw) 4
  let stop := pos + cw + 4 + 64 * w
  if limit < stop ∨ cw < w then none
  else
    let vs := (List.range 64).map (fun i => mn + takeBits l (pos + cw + 4 + i * w) w)
    if vs.any (fun v => 2 ^ cw ≤ v) then none else some (vs, stop)

/-- The channels of one block. -/
def decodeBlock (l : List Byte) (limit : Nat) : List Nat → Nat → Option (List (List Nat) × Nat)
  | [], pos => some ([], pos)
  | cw :: r, pos =>
    match decodeChan l limit cw pos with
    | none => none
    | some (vs, p) =>
      match decodeBlock l limit r p with
      | none => none
      | some (cs, q) => some (vs :: cs, q)

/-- The 32 blocks of a stream. -/
def decodeBlocks (l : List Byte) (limit : Nat) (ws : List Nat) : Nat → Nat → Option (List (List (List Nat)))
  | 0, _ => some []
  | n + 1, pos =>
    match decodeBlock l limit ws pos with
    | none => none
    | some (b, p) =>
      match decodeBlocks l limit ws n p with
      | none => none
      | some r => some (b :: r)

/-- The channels' values packed into a pixel word. -/
def packWord : List Nat → List Nat → Nat
  | w :: ws, v :: vs => v + 2 ^ w * packWord ws vs
  | _, _ => 0

/-- A MODE 1 stream as the 2,048 pixel words of its tile, row-major. -/
def decodeMode1 (fam : Nat) (l : List Byte) (limit : Nat) : Option (List Nat) :=
  let ws := packWidths fam
  match decodeBlocks l limit ws 32 0 with
  | none => none
  | some bs => some ((List.range 2048).map (fun i =>
      let x := i % 64
      let y := i / 64
      packWord ws ((nth [] bs (y / 8 * 8 + x / 8)).map (fun vs => nth 0 vs (y % 8 * 8 + x % 8)))))

/-- True of a header that makes its tile a decode error, whatever its data (R154). -/
def hdrBad (f h : Nat) : Bool :=
  let fam := fmtFamily f
  let c := hdrCleared h
  let k := hdrConstant h
  let fromData := !(c || k || hdrTransparent h)
  2 ≤ hdrMode h || rawTileBytes f / 256 < hdrSectors h || (k && (fam == 5 || fam == 6 || fam == 7))
    || (c && 6 ≤ fam)
    || (fromData && ((hdrMode h == 0 && hdrSectors h * 256 != rawTileBytes f)
      || (hdrMode h == 1 && (packWidths fam).isEmpty)))

/-- A tile's pixels as the header and data of R153 define them, and whether it is a decode error. `data` is the tile's
slot, `clear` the surface's clear colour in memory order. -/
structure TileRead where
  px : List Px
  bad : Bool
  deriving DecidableEq, Repr

/-- The pixel at (x, y) of a raw tile or of one YUV tile. -/
def rawTilePx (f : Nat) (l : List Byte) (x y : Nat) : Px :=
  let fam := fmtFamily f
  match fam with
  | 6 =>
    let o := 2048 + (y / 2 * 32 + x / 2) * 2
    yuvPx f (code10 (bit f 2) (numAt l (y * 64 + x) 1)) (code10 (bit f 2) (numAt l o 1)) (code10 (bit f 2) (numAt l (o + 1) 1))
  | 7 =>
    let o := 4096 + (y / 2 * 32 + x / 2) * 4
    yuvPx f (numAt l ((y * 64 + x) * 2) 2 / 64) (numAt l o 2 / 64) (numAt l (o + 2) 2 / 64)
  | 8 =>
    let o := y * 128 + x / 2 * 4
    yuvPx f (code10 (bit f 2) (numAt l (o + x % 2 * 2) 1)) (code10 (bit f 2) (numAt l (o + 1) 1))
      (code10 (bit f 2) (numAt l (o + 3) 1))
  | _ => widenPacked fam (numAt l ((y * 64 + x) * rowPxBytes f) (rowPxBytes f))

/-- A header value or clear colour as the pixel at an even or odd x. -/
def flagPx (f v x : Nat) : Px :=
  if fmtFamily f = 8 then
    yuvPx f (code10 (bit f 2) (bitsOf v (if x % 2 = 0 then 7 else 23) (if x % 2 = 0 then 0 else 16)))
      (code10 (bit f 2) (bitsOf v 15 8)) (code10 (bit f 2) (bitsOf v 31 24))
  else widenPacked (fmtFamily f) v

/-- A tile read by its header (R154). -/
def readTile (f h clear : Nat) (data : List Byte) : TileRead :=
  let all := fun p : Nat → Px => (List.range 2048).map p
  let opaq := fun l : List Px => if hdrOpaque h then l.map (fun p => { p with a := 65535 }) else l
  let bad : TileRead := ⟨all (fun _ => Px.zero), true⟩
  if hdrBad f h then bad
  else if hdrCleared h then ⟨opaq (all (fun i => flagPx f clear (i % 64))), false⟩
  else if hdrConstant h then ⟨opaq (all (fun i => flagPx f (hdrValue h) (i % 64))), false⟩
  else if hdrTransparent h then ⟨opaq (all (fun _ => Px.zero)), false⟩
  else if hdrMode h = 1 then
    match decodeMode1 (fmtFamily f) data (hdrSectors h * 2048) with
    | none => bad
    | some ws => ⟨opaq (ws.map (widenPacked (fmtFamily f))), false⟩
  else ⟨opaq (all (fun i => rawTilePx f data (i % 64) (i / 64))), false⟩

/-! ## Writing tiles (R155) -/

/-- Bits appended to a number built least significant bit first: (value, length). -/
def putBits (s : Nat × Nat) (v n : Nat) : Nat × Nat := (s.1 + v % 2 ^ n * 2 ^ s.2, s.2 + n)

/-- The smallest width that holds a value. -/
def bitLen : Nat → Nat → Nat
  | 0, _ => 0
  | n + 1, v => if v = 0 then 0 else 1 + bitLen n (v / 2)

/-- One channel value of a pixel word. -/
def chanOf (ws : List Nat) (c word : Nat) : Nat :=
  word / 2 ^ ((ws.take c).foldl (· + ·) 0) % 2 ^ nth 0 ws c

/-- One block and channel written with the block's minimum and the smallest sufficient width. -/
def encodeChan (s : Nat × Nat) (cw : Nat) (vs : List Nat) : Nat × Nat :=
  let mn := vs.foldl min (2 ^ cw - 1)
  let w := bitLen 16 (vs.foldl max 0 - mn)
  vs.foldl (fun s v => putBits s (v - mn) w) (putBits (putBits s mn cw) w 4)

/-- The MODE 1 stream of a tile's pixel words, as a number and its length in bits. -/
def encodeMode1 (fam : Nat) (words : List Nat) : Nat × Nat :=
  let ws := packWidths fam
  (List.range 32).foldl (fun s b =>
    (List.range ws.length).foldl (fun s c =>
      encodeChan s (nth 0 ws c) ((List.range 64).map (fun i =>
        chanOf ws c (nth 0 words ((b / 8 * 8 + i / 8) * 64 + b % 8 * 8 + i % 8))))) s) (0, 0)

/-- True when a pixel word has its alpha at its maximum; formats without alpha have none. -/
def alphaMaxWord (fam word : Nat) : Bool :=
  match fam with
  | 1 | 2 => bitsOf word 31 24 == 255
  | 4 => bitsOf word 31 30 == 3
  | 5 => widenHalf (bitsOf word 63 48) == 65535
  | _ => false

def famHasAlpha (fam : Nat) : Bool := fam == 1 || fam == 2 || fam == 4 || fam == 5

/-- A tile of a packed format as the device writes it: header and data, the smaller of MODE 1 and raw, with the flags
that its pixels give. -/
def encodeTile (fam : Nat) (words : List Nat) : Nat × List Byte :=
  let px := nth 0 [0, 4, 4, 2, 4, 8] fam
  let raw := 2048 * px
  let first := nth 0 words 0
  let opq := words.all (alphaMaxWord fam)
  let trn := famHasAlpha fam && words.all (fun v => v == 0)
  let cst := px ≤ 4 && words.all (fun v => v == first)
  if trn then (0x200, [])
  else if cst then (first * 2 ^ 32 + 0x400 + (if opq then 0x100 else 0), [])
  else
    let o := if opq then 0x100 else 0
    let m := encodeMode1 fam words
    let sectors := (m.2 + 2047) / 2048
    if !(packWidths fam).isEmpty && sectors * 256 < raw then (0x1000 + o + sectors, leBytes (sectors * 256) m.1)
    else (o + raw / 256, (words.map (leBytes px)).flatten)

/-! ## Arithmetic of blending (R156 to R159) -/

def mul16 (a b : Nat) : Nat :=
  let t := a * b + 32768
  (t + t / 65536) / 65536

def addSat16 (x y : Nat) : Nat := min 65535 (x + y)

/-- A covered pixel blended over the destination (R157). -/
def blendPx (premul : Bool) (s d : Px) (ap : Nat) : Px :=
  let a := mul16 s.a ap
  let inv := 65535 - a
  let f := fun c => if premul then mul16 c ap else mul16 (mul16 c s.a) ap
  ⟨addSat16 (f s.r) (mul16 d.r inv), addSat16 (f s.g) (mul16 d.g inv), addSat16 (f s.b) (mul16 d.b inv),
   addSat16 a (mul16 d.a inv)⟩

/-- DEC (R158). -/
def decTable (i : Nat) : Nat := srgbDec 4095 i

/-- ENC (R158). -/
def encTable (x : Nat) : Nat :=
  let j := searchMax (fun i => decTable i ≤ x) 12 0
  (j * 65535 + 2047) / 4095

def toLinear (c : Nat) : Nat := decTable ((c * 4095 + 32767) / 65535)

/-- A blend step, linear-light or not. -/
def blendStep (premul linear : Bool) (s d : Px) (ap : Nat) : Px :=
  if linear then
    let f := fun p : Px => (⟨toLinear p.r, toLinear p.g, toLinear p.b, p.a⟩ : Px)
    let q := blendPx premul (f s) (f d) ap
    ⟨encTable q.r, encTable q.g, encTable q.b, q.a⟩
  else blendPx premul s d ap

/-- The frame-store word of a pixel (R159). -/
def storeWord (p : Px) : Nat :=
  let q := fun c => (c * 1023 + 32767) / 65535
  q p.r + 2 ^ 10 * q p.g + 2 ^ 20 * q p.b + 2 ^ 30 * ((p.a * 3 + 32767) / 65535)

/-! ## Channels narrowed (R271) -/

/-- A 16-bit channel in n bits. -/
def narrow (n v : Nat) : Nat := (v * (2 ^ n - 1) + 32767) / 65535

/-- v / 65,535 rounded to the nearest binary16, ties to even. -/
def toHalf (v : Nat) : Nat :=
  if v = 0 then 0
  else
    let e := (List.range 15).foldl (fun m k => if v * 2 ^ (14 - k) < 65535 then m else k + 1) 0
    if e = 0 then roundHalfEven (v * 2 ^ 24) 65535
    else e * 1024 + roundHalfEven (v * 2 ^ (25 - e)) 65535 - 1024

/-- A pixel as a memory word of a packed format. -/
def narrowPx (fam : Nat) (p : Px) : Nat :=
  match fam with
  | 1 => narrow 8 p.r + 2 ^ 8 * narrow 8 p.g + 2 ^ 16 * narrow 8 p.b + 2 ^ 24 * narrow 8 p.a
  | 2 => narrow 8 p.b + 2 ^ 8 * narrow 8 p.g + 2 ^ 16 * narrow 8 p.r + 2 ^ 24 * narrow 8 p.a
  | 3 => narrow 5 p.b + 2 ^ 5 * narrow 6 p.g + 2 ^ 11 * narrow 5 p.r
  | 4 => narrow 10 p.r + 2 ^ 10 * narrow 10 p.g + 2 ^ 20 * narrow 10 p.b + 2 ^ 30 * narrow 2 p.a
  | _ => toHalf p.r + 2 ^ 16 * toHalf p.g + 2 ^ 32 * toHalf p.b + 2 ^ 48 * toHalf p.a

/-! ## Sources -/

/-- Something pixels are read from: its size, format, layout, clear colour, data bytes and tile headers. Used only
while a value is computed; no state holds one. -/
structure PixSrc where
  w : Nat
  h : Nat
  format : Nat
  layout : Nat
  clear : Nat
  data : Nat → Nat → List Byte
  hdr : Nat → Nat

/-- The tile of a TILED or COMPRESSED source. -/
def PixSrc.tile (q : PixSrc) (t : Nat) : TileRead :=
  let n := rawTileBytes q.format
  if q.layout = 2 then readTile q.format (q.hdr t) q.clear (q.data (t * n) n)
  else readTile q.format (n / 256) 0 (q.data (t * n) n)

/-- The pixel at (x, y), zero outside the surface (R150). -/
def PixSrc.px (q : PixSrc) (x y : Int) : Px :=
  if x < 0 ∨ y < 0 ∨ (q.w : Int) ≤ x ∨ (q.h : Int) ≤ y then Px.zero
  else
    let x := x.toNat
    let y := y.toNat
    if q.layout = 0 then
      let pitch := linearPitch q.format q.w
      let fam := fmtFamily q.format
      let b := fun o n => leNat (q.data o n)
      match fam with
      | 6 =>
        let o := q.h * pitch + y / 2 * pitch + x / 2 * 2
        yuvPx q.format (code10 (bit q.format 2) (b (y * pitch + x) 1)) (code10 (bit q.format 2) (b o 1))
          (code10 (bit q.format 2) (b (o + 1) 1))
      | 7 =>
        let o := q.h * pitch + y / 2 * pitch + x / 2 * 4
        yuvPx q.format (b (y * pitch + x * 2) 2 / 64) (b o 2 / 64) (b (o + 2) 2 / 64)
      | 8 =>
        let o := y * pitch + x / 2 * 4
        yuvPx q.format (code10 (bit q.format 2) (b (o + x % 2 * 2) 1)) (code10 (bit q.format 2) (b (o + 1) 1))
          (code10 (bit q.format 2) (b (o + 3) 1))
      | _ => widenPacked fam (b (y * pitch + x * rowPxBytes q.format) (rowPxBytes q.format))
    else
      let t := y / 32 * tileCols q.w + x / 64
      nth Px.zero (q.tile t).px (y % 32 * 64 + x % 64)

/-- The byte ranges (offset, length) that hold the pixel (x, y) in a raw tile at offset `base` (R146, R148). -/
def tileSamples (f base x y : Nat) : List (Nat × Nat) :=
  match fmtFamily f with
  | 6 => [(base + y * 64 + x, 1), (base + 2048 + (y / 2 * 32 + x / 2) * 2, 2)]
  | 7 => [(base + (y * 64 + x) * 2, 2), (base + 4096 + (y / 2 * 32 + x / 2) * 4, 4)]
  | 8 => [(base + y * 128 + x * 2, 1), (base + y * 128 + x / 2 * 4 + 1, 1), (base + y * 128 + x / 2 * 4 + 3, 1)]
  | _ => [(base + (y * 64 + x) * rowPxBytes f, rowPxBytes f)]

/-- The byte ranges that hold the pixel (x, y) of a LINEAR surface of width `w` and height `h`. -/
def linearSamples (f w h x y : Nat) : List (Nat × Nat) :=
  let p := linearPitch f w
  match fmtFamily f with
  | 6 => [(y * p + x, 1), (h * p + y / 2 * p + x / 2 * 2, 2)]
  | 7 => [(y * p + x * 2, 2), (h * p + y / 2 * p + x / 2 * 4, 4)]
  | 8 => [(y * p + x * 2, 1), (y * p + x / 2 * 4 + 1, 1), (y * p + x / 2 * 4 + 3, 1)]
  | _ => [(y * p + x * rowPxBytes f, rowPxBytes f)]

/-- The raw bytes that one pixel word, or for YUY2 one pixel pair, fills a tile with. -/
def fillRaw (f v : Nat) : List Byte :=
  let n := if fmtFamily f = 8 then 4 else max 1 (rowPxBytes f)
  (List.replicate (rawTileBytes f / n) (leBytes n v)).flatten

/-- The word with its alpha at its maximum. -/
def opaqueWord (fam v : Nat) : Nat :=
  match fam with
  | 1 | 2 => v % 2 ^ 24 + 255 * 2 ^ 24
  | 4 => v % 2 ^ 30 + 3 * 2 ^ 30
  | 5 => v % 2 ^ 48 + 0x3C00 * 2 ^ 48
  | _ => v

/-- The words of raw tile bytes of a packed format. -/
def wordsOf (f : Nat) (raw : List Byte) : List Nat :=
  (List.range 2048).map (fun i => numAt raw (i * rowPxBytes f) (rowPxBytes f))

/-- A tile's content in raw form, as read through R154. -/
def rawOfTile (f h clear : Nat) (data : List Byte) : List Byte :=
  let n := rawTileBytes f
  let fam := fmtFamily f
  let fin := fun l : List Byte =>
    if hdrOpaque h && famHasAlpha fam then
      ((wordsOf f l).map (fun v => leBytes (rowPxBytes f) (opaqueWord fam v))).flatten
    else l
  if hdrBad f h then List.replicate n 0
  else if hdrCleared h then fin (fillRaw f clear)
  else if hdrConstant h then fin (fillRaw f (hdrValue h))
  else if hdrTransparent h then fin (List.replicate n 0)
  else if hdrMode h = 1 then
    match decodeMode1 fam data (hdrSectors h * 2048) with
    | none => List.replicate n 0
    | some ws => fin (ws.map (leBytes (rowPxBytes f))).flatten
  else fin data

/-- A tile in raw form. -/
def PixSrc.rawTile (q : PixSrc) (t : Nat) : List Byte :=
  let n := rawTileBytes q.format
  if q.layout = 2 then rawOfTile q.format (q.hdr t) q.clear (q.data (t * n) n) else q.data (t * n) n

/-- The bytes that hold the pixel (x, y), range by range, as read through R154. -/
def PixSrc.samples (q : PixSrc) (x y : Nat) : List (List Byte) :=
  if q.layout = 0 then (linearSamples q.format q.w q.h x y).map (fun s => q.data s.1 s.2)
  else
    let raw := q.rawTile (y / 32 * tileCols q.w + x / 64)
    (tileSamples q.format 0 (x % 64) (y % 32)).map (fun s => bytesAt raw s.1 s.2)

/-- Every pixel of a YUY2 tile given in raw form is equal: one pair throughout, of equal luma. -/
def yuyConst (raw : List Byte) : Bool :=
  nth 0 raw 0 == nth 0 raw 2 && (List.range 1024).all (fun k => bytesAt raw (4 * k) 4 == raw.take 4)

/-- Header and data of a tile given in raw form, as a device-side writer stores it in COMPRESSED layout. -/
def encodeRaw (f : Nat) (raw : List Byte) : Nat × List Byte :=
  if fmtFamily f = 8 ∧ yuyConst raw then (leNat (raw.take 4) * 2 ^ 32 + 0x400, [])
  else if 6 ≤ fmtFamily f then (rawTileBytes f / 256, raw)
  else encodeTile (fmtFamily f) (wordsOf f raw)

end Sys2Proof.Machine
end

