-- ==== Sys2Proof/Machine/PlanImage.lean ====
section
/-!
DEFINITION. Plan images (chapter 04): reading an image for a node as its sections lay it out (R90 to R109), the
structural checks of stage 1 of validation in the order of R113, and the field checks of stage 3.
-/
namespace Sys2Proof.Machine

/-! ## Fields of an image -/

def u8 (m : List Byte) (o : Nat) : Nat := numAt m o 1
def u16 (m : List Byte) (o : Nat) : Nat := numAt m o 2
def u32 (m : List Byte) (o : Nat) : Nat := numAt m o 4
def u64 (m : List Byte) (o : Nat) : Nat := numAt m o 8

/-- Bytes [o, o + n) are zero. -/
def zeros (m : List Byte) (o n : Nat) : Bool := (bytesAt m o n).all (fun b => b == 0)

/-- A directory entry (R92) with the offset it stands at. -/
structure Sec where
  typ : Nat
  node : Nat
  flags : Nat
  count : Nat
  off : Nat
  len : Nat
  at_ : Nat
  deriving DecidableEq, Repr

def readSec (m : List Byte) (a : Nat) : Sec := ⟨u16 m a, u8 m (a + 2), u8 m (a + 3), u32 m (a + 4), u32 m (a + 8),
  u32 m (a + 12), a⟩

/-- The section directory (R91, R92). -/
def readDir (m : List Byte) : List Sec := (List.range (u16 m 0x2C)).map (fun i => readSec m (u32 m 0x30 + 16 * i))

/-- The section of a type that a node reads (R93). -/
def secFor (d : List Sec) (node typ : Nat) : Option Sec :=
  match d.find? (fun x => x.typ == typ && x.node == node) with
  | some x => some x
  | none => d.find? (fun x => x.typ == typ && x.node == 0xFF)

/-- The offsets of a section's fixed-size entries. -/
def entryOffs (d : List Sec) (node typ size : Nat) : List Nat :=
  match secFor d node typ with
  | some x => (List.range x.count).map (fun i => x.off + size * i)
  | none => []

/-! ## Entries -/

def readPart (m : List Byte) (a : Nat) : PlanPart := ⟨u8 m a, u8 m (a + 1)⟩

def readGroup (m : List Byte) (a : Nat) : PlanGroup := ⟨u8 m a, u8 m (a + 1), u8 m (a + 2), u16 m (a + 4)⟩

def readHead (m : List Byte) (a : Nat) : PlanHead :=
  { head := u8 m a, flags := u8 m (a + 1), port := u16 m (a + 2), clone := u8 m (a + 4), mult := u8 m (a + 5),
    clockKhz := u32 m (a + 8), hActive := u16 m (a + 0xC), hTotal := u16 m (a + 0xE), hSyncStart := u16 m (a + 0x10),
    hSyncWidth := u16 m (a + 0x12), vActive := u16 m (a + 0x14), vTotal := u16 m (a + 0x16),
    vSyncStart := u16 m (a + 0x18), vSyncWidth := u16 m (a + 0x1A), phaseNs := u32 m (a + 0x1C),
    vrrMin := u16 m (a + 0x20), vrrMax := u16 m (a + 0x22), dirFirst := u32 m (a + 0x24), cols := u16 m (a + 0x28),
    rows := u16 m (a + 0x2A), scan4k := u16 m (a + 0x2C) }

def readLayer (m : List Byte) (a : Nat) : PlanLayer :=
  { slot := u16 m a, z := u16 m (a + 2), head := u8 m (a + 4), owner := u8 m (a + 5), cls := u8 m (a + 6),
    blend := u8 m (a + 7), kind := u8 m (a + 8), format := u8 m (a + 9), flags := u8 m (a + 0xA),
    group := u8 m (a + 0xB), width := u16 m (a + 0xC), height := u16 m (a + 0xE), xMin := sext 16 (u16 m (a + 0x10)),
    yMin := sext 16 (u16 m (a + 0x12)), xMax := sext 16 (u16 m (a + 0x14)), yMax := sext 16 (u16 m (a + 0x16)),
    srcXMax := u16 m (a + 0x18), srcYMax := u16 m (a + 0x1A), alphaMin := u16 m (a + 0x1C),
    alphaMax := u16 m (a + 0x1E), initX := sext 16 (u16 m (a + 0x20)), initY := sext 16 (u16 m (a + 0x22)),
    initSrcX := u16 m (a + 0x24), initSrcY := u16 m (a + 0x26), initAlpha := u16 m (a + 0x28),
    maxFrameAge := u16 m (a + 0x2A), sourceRef := u32 m (a + 0x2C), maxSourceAge := u32 m (a + 0x30) }

def readBatch (m : List Byte) (engine layout a : Nat) : PlanBatch :=
  ⟨engine, layout, u8 m a, u8 m (a + 1), u16 m (a + 2), u16 m (a + 4), u16 m (a + 6), u16 m (a + 8), u16 m (a + 0xA),
   u16 m (a + 0xC)⟩

/-- The blocks of a SLOT_TABLE section (R103) from an offset on: for each its offset, engine, layout and batch count. -/
def readBlocks (m : List Byte) : Nat → Nat → List (Nat × Nat × Nat × Nat)
  | 0, _ => []
  | n + 1, a => (a, u8 m a, u8 m (a + 1), u16 m (a + 2)) :: readBlocks m n (a + 8 + 16 * u16 m (a + 2))

/-- The blocks that a node reads. -/
def slotBlocks (m : List Byte) (d : List Sec) (node : Nat) : List (Nat × Nat × Nat × Nat) :=
  match secFor d node 8 with
  | some x => readBlocks m x.count x.off
  | none => []

/-- The batches of a block with their offsets. -/
def blockBatches (m : List Byte) (b : Nat × Nat × Nat × Nat) : List (Nat × PlanBatch) :=
  (List.range b.2.2.2).map (fun i => (b.1 + 8 + 16 * i, readBatch m b.2.1 b.2.2.1 (b.1 + 8 + 16 * i)))

def readCvu (m : List Byte) (a : Nat) : PlanCvu :=
  ⟨u64 m a, u64 m (a + 8), u64 m (a + 16), u8 m (a + 24), bit (u8 m (a + 25)) 0, bit (u8 m (a + 25)) 1⟩

def readRegion (m : List Byte) (a : Nat) : PlanRegion :=
  { region := u16 m a, head := u8 m (a + 2), point := u8 m (a + 3), x := u16 m (a + 4), y := u16 m (a + 6),
    w := u16 m (a + 8), h := u16 m (a + 0xA), cvu := u8 m (a + 0xC), expect := u8 m (a + 0xD),
    table := u16 m (a + 0xE), golden := u64 m (a + 0x10), reactions := u16 m (a + 0x18), fallback := u16 m (a + 0x1A) }

def readTable (m : List Byte) (a : Nat) : PlanTable :=
  ⟨u8 m a, u8 m (a + 1), (List.range 16).map (fun i =>
    ⟨u64 m (a + 8 + 16 * i), u16 m (a + 16 + 16 * i), u8 m (a + 18 + 16 * i)⟩)⟩

/-- The offsets of the entries of a FALLBACK_IMAGES section (R107) and the section's start. -/
def imageOffs (m : List Byte) (d : List Sec) (node : Nat) : Nat × List Nat :=
  match secFor d node 0xC with
  | some x => (x.off, (List.range (u32 m x.off)).map (fun i => x.off + 8 + 32 * i))
  | none => (0, [])

def readImage (m : List Byte) (base a : Nat) : PlanImage :=
  ⟨u16 m a, u8 m (a + 2), u8 m (a + 3), u16 m (a + 4), u16 m (a + 6), u32 m (a + 16),
   if u8 m (a + 3) = 0 then bytesAt m (base + u32 m (a + 8)) (u32 m (a + 12)) else []⟩

def readFailover (m : List Byte) (a : Nat) : PlanFailover :=
  ⟨u8 m a, u8 m (a + 1), u8 m (a + 2), u64 m (a + 4), u32 m (a + 12), u32 m (a + 16)⟩

def readKey (m : List Byte) (a : Nat) : PlanKey :=
  ⟨u8 m a, u8 m (a + 1), u8 m (a + 2), u8 m (a + 3), u16 m (a + 4), u16 m (a + 6), u16 m (a + 8), u16 m (a + 10),
   u16 m (a + 12), u16 m (a + 14), u8 m (a + 16), u8 m (a + 17), u8 m (a + 18)⟩

/-- An image as a node reads it with the sections of a directory. -/
def readSecs (m : List Byte) (d : List Sec) (node : Nat) : Plan :=
  let img := imageOffs m d node
  { formatVersion := u32 m 8, planId := u64 m 0x10, length := u32 m 0x18, securityVersion := u32 m 0x1C,
    target := u8 m 0x20, kind := u8 m 0x21, partner := u8 m 0x22, topology := u8 m 0x23, wallCols := u8 m 0x24,
    wallRows := u8 m 0x25, nodeCount := u8 m 0x26, epochSource := u8 m 0x27, epochPeriod := u32 m 0x28,
    parts := (entryOffs d node 1 8).map (readPart m),
    groups := (entryOffs d node 2 8).map (readGroup m),
    heads := (entryOffs d node 3 64).map (readHead m),
    layers := (entryOffs d node 4 64).map (readLayer m),
    dir := (entryOffs d node 5 8).map (u64 m),
    steps := (entryOffs d node 6 8).map (u64 m),
    masks := (entryOffs d node 7 256).map (fun a => bytesAt m a 256),
    batches := ((slotBlocks m d node).map (fun b => (blockBatches m b).map (fun x => x.2))).flatten,
    cvus := (entryOffs d node 9 32).map (readCvu m),
    regions := (entryOffs d node 0xA 64).map (readRegion m),
    tables := (entryOffs d node 0xB 264).map (readTable m),
    images := img.2.map (readImage m img.1),
    failovers := (entryOffs d node 0xD 32).map (readFailover m),
    keys := (entryOffs d node 0xE 32).map (readKey m), remote := [] }

/-- The node IDs of a plan (R350, R351): those of the torus coordinates, or of the positions in a ring. -/
def planIds (m : List Byte) : List Nat :=
  if u8 m 0x23 = 3 then ((List.range (u8 m 0x25)).map (fun y => (List.range (u8 m 0x24)).map (fun x => y * 8 + x))).flatten
  else List.range (u8 m 0x26)

/-- The layers of other nodes that a node's streams feed. -/
def remoteLayers (m : List Byte) (d : List Sec) (node : Nat) : List (Nat × PlanLayer) :=
  let feeds := fun (l : PlanLayer) => l.kind == 3 && bitsOf l.sourceRef 15 8 == node
  let layers := fun n => ((entryOffs d n 4 64).map (readLayer m)).filter feeds
  if u8 m 0x23 = 1 then (layers node).map (fun l => (0xFF, l))
  else (((planIds m).filter (fun n => n != node)).map (fun n => (layers n).map (fun l => (n, l)))).flatten

/-- An image as a node reads it. -/
def readPlan (m : List Byte) (node : Nat) : Plan :=
  { readSecs m (readDir m) node with remote := remoteLayers m (readDir m) node }

/-! ## What a plan says -/

/-- The head that owns the frame store of a head: the lowest-numbered of its clone group (R96). -/
def Plan.ownerHead (p : Plan) (h : PlanHead) : PlanHead :=
  if h.clone = 0 then h
  else (p.heads.filter (fun x => x.clone == h.clone)).foldl (fun m x => if x.head < m.head then x else m) h

/-- Sub-frames per epoch of a head (R96, R103). -/
def PlanHead.subframes (h : PlanHead) : Nat := if bit h.flags 2 then h.mult else 1

def PlanHead.tiles (h : PlanHead) : Nat := h.cols * h.rows

def Plan.headOf (p : Plan) (n : Nat) : Option PlanHead := p.heads.find? (fun h => h.head == n)

def Plan.layerOf (p : Plan) (n : Nat) : Option PlanLayer := p.layers.find? (fun l => l.slot == n)

def Plan.imageOf (p : Plan) (n : Nat) : Option PlanImage := p.images.find? (fun i => i.image == n)

/-- The maximum class of a partition (R95): class D without an entry. -/
def Plan.maxClass (p : Plan) (q : Nat) : Nat := ((p.parts.find? (fun x => x.part == q)).map (fun x => x.maxClass)).getD 3

/-- Fields of a tile directory entry (R99) and of a step (R100). -/
def dirCount (e : Nat) : Nat := bitsOf e 4 0
def dirTop (e : Nat) : Nat := bitsOf e 9 8
def dirStatic (e : Nat) : Bool := bit e 10
def dirOffset (e : Nat) : Nat := bitsOf e 63 32
def stepOp (v : Nat) : Nat := bitsOf v 63 60
def stepSlot (v : Nat) : Nat := bitsOf v 59 51
def stepLinear (v : Nat) : Bool := bit v 50
def stepMask (v : Nat) : Nat := bitsOf v 47 32
def stepColour (v : Nat) : Nat := bitsOf v 31 0

/-- Composer clocks a tile costs (R104). -/
def tileCost (steps : Nat) : Nat := 64 + 256 * (steps - 1)

/-- A defined surface format (R146). -/
def formatOk (f : Nat) : Bool := (1 ≤ f && f ≤ 5) || ((0x10 ≤ f && f < 0x17 || 0x20 ≤ f && f < 0x27 || 0x30 ≤ f && f < 0x37) && f % 4 != 3)

/-- A format with an alpha channel (R146). -/
def formatAlpha (f : Nat) : Bool := f == 1 || f == 2 || f == 4 || f == 5

/-- Peak DRAM bandwidth of `n` channels of a generation at a rate, in bytes per millisecond (R315). -/
def dramPeak (gen n rate : Nat) : Nat := n * rate * (if gen = 4 then 3 else 2) * 1000

/-- The highest rate of a generation in MT/s (R315). -/
def dramTopRate (gen : Nat) : Nat := if gen = 1 then 4266 else if gen = 2 then 6400 else if gen = 3 then 9600 else 10667

/-- The channels of a configuration (R315). -/
def Cfg.channels (c : Cfg) : Nat := popCount (if c.dramGen = 4 then (if c.compact then 8 else 16) else (if c.compact then 16 else 32)) c.dramFitted

/-- Counts of a configuration (R3). -/
def Cfg.parts (c : Cfg) : Nat := if c.compact then 8 else 16
def Cfg.headCount (c : Cfg) : Nat := if c.compact then 8 else 16
def Cfg.slots (c : Cfg) : Nat := if c.compact then 256 else 512
def Cfg.engines (c : Cfg) : Nat := if c.compact then 4 else 8
def Cfg.regions (c : Cfg) : Nat := if c.compact then 128 else 256
def Cfg.afes (c : Cfg) : Nat := if c.compact then 2 else 4

/-- Output ports of a configuration (R193). -/
def Cfg.hasPort (c : Cfg) (q : Nat) : Bool :=
  if c.compact then q < 4 || 8 ≤ q && q < 12 || 16 ≤ q && q < 22 else q < 22

/-- The sum of a measure over a list. -/
def sumBy {α : Type} (f : α → Nat) (l : List α) : Nat := l.foldl (fun n x => n + f x) 0

/-- The layouts that a head can run under: the normal schedule and the failover layouts that name it (R108). -/
def Plan.layoutsOf (p : Plan) (h : PlanHead) : List Nat :=
  0 :: (p.failovers.filter (fun f => f.localHead == h.head)).map (fun f => f.layout)

/-- The first entries of the tile directories of a head under a layout (R99, R108). -/
def Plan.dirsOf (p : Plan) (layout : Nat) (h : PlanHead) : List Nat :=
  if layout = 0 then [h.dirFirst]
  else (p.failovers.find? (fun f => f.layout == layout)).elim [] (fun f => [f.dirFirst, f.fallbackDirFirst])

/-- A list's least number, 0 of the empty list. -/
def leastOf : List Nat → Nat
  | [] => 0
  | x :: r => r.foldl min x

/-- Bytes per slot that shed layers no longer read within a batch (R135): raw tiles of the layers that `counts` takes. Under
a failover layout the directory that sheds less is counted (DEDUCED, log entry 93). -/
def Plan.shedReads (p : Plan) (shed : List Nat) (counts : PlanLayer → Bool) (b : PlanBatch) : Nat :=
  let step := fun v : Nat × Nat =>
    if 1 ≤ stepOp v.1 ∧ stepOp v.1 ≤ 3 ∧ shed.contains (stepSlot v.1) then
      (p.layerOf (stepSlot v.1)).elim 0 (fun l => if counts l then rawTileBytes l.format else 0)
    else 0
  let prog := fun e => (List.range (dirCount e)).map (fun i => (nth 0 p.steps (dirOffset e + i), i))
  let dir := fun first => sumBy (fun i => sumBy step (prog (nth 0 p.dir (first + b.firstTile + i)))) (List.range b.tiles)
  (p.headOf b.head).elim 0 (fun h => leastOf ((p.dirsOf b.layout h).map dir)) / (b.endSlot + 1 - b.startSlot)

/-- A reservation of slot `k` in bytes (R105): for each head the batches of its dearest layout whose window holds the
slot, so that it holds whichever failover layouts are in force (DEDUCED, log entry 93). -/
def Plan.slotSum (p : Plan) (per : PlanBatch → Nat) (k : Nat) : Nat :=
  sumBy (fun h : PlanHead => ((p.layoutsOf h).map (fun y =>
    sumBy per (p.batches.filter (fun b => b.head == h.head && b.layout == y && b.startSlot ≤ k && k ≤ b.endSlot)))).foldl max 0)
    p.heads

/-- The DRAM reservation of slot `k` with some layers shed: the batches and the scan-out of every head. -/
def Plan.slotBytes (p : Plan) (shed : List Nat) (k : Nat) : Nat :=
  p.slotSum (fun b => 4096 * b.dram4k - p.shedReads shed (fun l => l.kind != 4) b) k
    + 4096 * sumBy (fun h : PlanHead => h.scan4k) p.heads

/-- The fabric reservation of slot `k` with some layers shed: the tiles of shed remote streams leave it. -/
def Plan.slotFabric (p : Plan) (shed : List Nat) (k : Nat) : Nat :=
  p.slotSum (fun b => 4096 * b.fabric4k - p.shedReads shed (fun l => l.kind == 3) b) k

/-- Slots at which a reservation may rise. -/
def Plan.slotEdges (p : Plan) : List Nat := 0 :: (p.batches.map (fun b => b.startSlot))

/-- The Chamois ports that Pixel messages take in a topology (R344, R350): none, one of a Twin, two of a ring, four of a
torus. -/
def pixelPorts (topology : Nat) : Nat := nth 4 [0, 1, 2] topology

/-- SLOT_NS (R104). -/
def Plan.slotNs (p : Plan) : Nat := p.epochPeriod / 1024

/-- A head scales: its active size differs from its owner's (R185). -/
def Plan.scales (p : Plan) (h : PlanHead) : Bool :=
  let o := p.ownerHead h
  o.head != h.head && (o.hActive != h.hActive || o.vActive != h.vActive)

/-! ## Structural checks (R113 stage 1) -/

/-- A check: it holds, or the image is rejected with a code and the offset of the faulty field. -/
structure Chk where
  ok : Bool
  code : Nat
  off : Nat
  deriving DecidableEq, Repr

def chkS (ok : Bool) (off : Nat) : Chk := ⟨ok, codePlanStructure, off⟩

/-- The first failure in a list of checks. -/
def firstFault (l : List Chk) : Option (Nat × Nat) := (l.find? (fun c => !c.ok)).map (fun c => (c.code, c.off))

/-- Header (R90, R91). -/
def chkHeader (m : List Byte) : List Chk :=
  [chkS (u64 m 0 = 0x004E414C50484153) 0, chkS (u32 m 8 = 0x00010000) 8, chkS (u32 m 0xC = 256) 0xC,
   chkS (u64 m 0x10 ≠ 0) 0x10, chkS (u32 m 0x18 = m.length) 0x18,
   chkS (u8 m 0x20 = 0x46 ∨ u8 m 0x20 = 0x43) 0x20, chkS (u8 m 0x21 < 8) 0x21,
   chkS (u8 m 0x22 = 0 ∨ u8 m 0x22 = 0x46 ∨ u8 m 0x22 = 0x43) 0x22, chkS (u8 m 0x23 ≤ 3) 0x23,
   chkS ((u8 m 0x22 ≠ 0) = (u8 m 0x23 = 1)) 0x22,
   chkS (1 ≤ u8 m 0x24 ∧ u8 m 0x24 ≤ 8 ∧ (u8 m 0x23 = 3 ∨ u8 m 0x24 = 1)) 0x24,
   chkS (1 ≤ u8 m 0x25 ∧ u8 m 0x25 ≤ 8 ∧ (u8 m 0x23 = 3 ∨ u8 m 0x25 = 1)) 0x25,
   chkS (1 ≤ u8 m 0x26 ∧ u8 m 0x26 ≤ 64) 0x26, chkS (u8 m 0x27 ≤ 1) 0x27,
   chkS (4166667 ≤ u32 m 0x28 ∧ u32 m 0x28 ≤ 100000000) 0x28,
   chkS (1 ≤ u16 m 0x2C ∧ u16 m 0x2C ≤ 512) 0x2C, chkS (u16 m 0x2E = 0) 0x2E,
   chkS (u32 m 0x30 % 8 = 0 ∧ 256 ≤ u32 m 0x30) 0x30,
   chkS (u32 m 0x34 + 3416 = m.length ∧ 256 ≤ u32 m 0x34) 0x34,
   chkS (u32 m 0x30 + 16 * u16 m 0x2C ≤ u32 m 0x34) 0x30, chkS (zeros m 0x90 112) 0x90]

/-- The size of a type's entries, 0 for the two types of variable size (R92). -/
def entrySize (t : Nat) : Nat := nth 0 [0, 8, 8, 64, 64, 8, 8, 256, 0, 32, 64, 264, 0, 32, 32] t

/-- The reserved fields of an entry (offset, size), by type. -/
def reservedOf (t : Nat) : List (Nat × Nat) :=
  nth [] [[], [(2, 6)], [(3, 1), (6, 2)], [(6, 2), (0x2E, 18)], [(0x34, 12)], [], [], [], [], [(26, 6)], [(0x1C, 36)],
    (2, 6) :: (List.range 16).map (fun i => (19 + 16 * i, 5)), [], [(3, 1), (20, 12)], [(19, 13)]] t

/-- The bits of a directory entry (R99) or of a step (R100) that are reserved, or zero for its OP. -/
def wordOk (t v : Nat) : Bool :=
  if t = 5 then bitsOf v 7 5 == 0 && bitsOf v 31 11 == 0
  else
    let op := stepOp v
    op ≤ 4 && bitsOf v 49 48 == 0 && (!stepLinear v || op == 1 || op == 2) && (stepColour v == 0 || op == 4)
      && (decide (1 ≤ op ∧ op ≤ 3) || stepSlot v == 0)

/-- Directory and section bounds (R90, R92, R93): alignment, bounds, the directory before the sections, no overlap, one
section for a type and node, NODE 0xFF throughout without a Wall, reserved types and fields, and bytes between sections. -/
def chkDir (m : List Byte) : List Chk :=
  let d := readDir m
  let sig := u32 m 0x34
  let dirA := u32 m 0x30
  let spans := (dirA, 16 * d.length) :: d.map (fun x => (x.off, x.len))
  let used := fun a : Nat => a < 256 || spans.any (fun s => s.1 ≤ a && a < s.1 + s.2)
  (d.map (fun x =>
    [chkS (!(x.typ = 0 || 0xF ≤ x.typ && x.typ < 0x8000)) x.at_, chkS (x.flags = 0) (x.at_ + 3),
     chkS (x.node = 0xFF || (2 ≤ u8 m 0x23 && (planIds m).contains x.node)) (x.at_ + 2),
     chkS ((d.filter (fun y => y.typ == x.typ && y.node == x.node)).length ≤ 1) x.at_,
     chkS (x.off % 8 = 0 && dirA + 16 * d.length ≤ x.off && x.off + x.len ≤ sig) (x.at_ + 8),
     chkS (entrySize x.typ = 0 || 0x8000 ≤ x.typ || x.len = x.count * entrySize x.typ) (x.at_ + 12),
     chkS (x.len = 0 || !d.any (fun y => y.at_ != x.at_ && y.len != 0 && x.off < y.off + y.len && y.off < x.off + x.len))
       (x.at_ + 8)])).flatten
  ++ ((List.range sig).filter (fun a => !used a && !(zeros m a 1))).map (fun a => chkS false a)
  ++ [chkS (u32 m sig = 0x301) sig, chkS (u32 m (sig + 4) = 0) (sig + 4), chkS (zeros m (sig + 3413) 3) (sig + 3413)]

/-- Reserved fields of the entries of every section. -/
def chkReserved (m : List Byte) : List Chk :=
  ((readDir m).map (fun x =>
    if x.typ < 0xF then
      ((List.range x.count).map (fun i =>
        (reservedOf x.typ).map (fun r => chkS (zeros m (x.off + entrySize x.typ * i + r.1) r.2)
          (x.off + entrySize x.typ * i + r.1))
        ++ (if x.typ = 5 ∨ x.typ = 6 then [chkS (wordOk x.typ (u64 m (x.off + 8 * i))) (x.off + 8 * i)] else []))).flatten
      ++ (if x.typ = 0xC then [chkS (8 ≤ x.len && zeros m (x.off + 4) 4) (x.off + 4)] else [])
    else [])).flatten

/-- Count limits (R92); the limit of TILE_DIRECTORY takes in the replacement directories of R108. `refs` tells here and below
that the entries are read with the sections they refer to; the limits that rest on another section need it. -/
def chkCounts (c : Cfg) (m : List Byte) (d : List Sec) (node : Nat) (p : Plan) (refs : Bool) : List Chk :=
  let extra := p.failovers.foldl (fun a f => a + 2 * ((p.headOf f.localHead).elim 0 PlanHead.tiles)) 0
  let lim : Nat → Nat := fun t => nth 0
    [0, c.parts, 61, c.headCount, c.slots, p.heads.foldl (fun a h => a + h.tiles) 0 + extra, 1048576, 65535,
     c.engines * (1 + p.failovers.length), 64, c.regions, c.regions, 1024, c.headCount, 64 * p.heads.length] t
  (List.range 15).map (fun t =>
    match secFor d node t with
    | some x => chkS ((!refs && (t == 5 || t == 8 || t == 0xE)) || (if t = 0xC then u32 m x.off else x.count) ≤ lim t) (x.at_ + 4)
    | none => ⟨true, 0, 0⟩)

/-- Values of a list that stand before a position. -/
def before {α : Type} (l : List α) (i : Nat) : List α := l.take i

def chkParts (c : Cfg) (d : List Sec) (node : Nat) (p : Plan) : List Chk :=
  ((List.zip (entryOffs d node 1 8) p.parts.zipIdx).map (fun x =>
    let e := x.2.1
    [chkS (e.part < c.parts && !((before p.parts x.2.2).any (fun y => y.part == e.part))) x.1,
     chkS (e.maxClass ≤ 3) (x.1 + 1)])).flatten

/-- Groups (R95). BOUNDARY and COMMIT_RIGHTS initialise 0x1140 and are field checks. -/
def chkGroups (c : Cfg) (d : List Sec) (node : Nat) (p : Plan) (refs : Bool) : List Chk :=
  ((List.zip (entryOffs d node 2 8) p.groups.zipIdx).map (fun x =>
    let e := x.2.1
    let lay := decide (20 ≤ e.group ∧ e.group ≤ 51)
    [chkS (e.group ≤ 60 && !(c.compact && 9 ≤ e.group && e.group ≤ 16)
        && !((before p.groups x.2.2).any (fun y => y.group == e.group))) x.1,
     chkS (!refs || !lay || 3 ≤ e.boundary || (p.headOf e.head).isSome) (x.1 + 2)])).flatten

/-- Heads (R96) with the timing rules 0x0701 to 0x0709 of R172 and the crossbar rules of R194. -/
def chkHeads (c : Cfg) (dp : Nat → Bool) (d : List Sec) (node : Nat) (p : Plan) : List Chk :=
  let one := fun x : Nat × PlanHead × Nat =>
    let h := x.2.1
    let a := x.1
    let o := p.ownerHead h
    let ht := h.hTotal * h.vTotal
    let clk := h.clockKhz * 1000
    let k := h.subframes
    let locked := bit h.flags 2
    [chkS (h.head < c.headCount && !((before p.heads x.2.2).any (fun y => y.head == h.head))) a,
     chkS (h.flags < 32) (a + 1), chkS (h.clone ≤ 8) (a + 4),
     chkS (!locked || (1 ≤ h.mult && h.mult ≤ 4)) (a + 5),
     chkS (16 ≤ h.hActive && h.hActive ≤ 8192) (a + 0xC), chkS (16 ≤ h.vActive && h.vActive ≤ 8192) (a + 0x14),
     chkS (h.hActive + 32 ≤ h.hTotal && h.hTotal ≤ 16384) (a + 0xE), chkS (h.hActive ≤ h.hSyncStart) (a + 0x10),
     chkS (1 ≤ h.hSyncWidth && h.hSyncStart + h.hSyncWidth ≤ h.hTotal) (a + 0x12),
     chkS (h.vActive + 3 ≤ h.vTotal && h.vTotal ≤ 16384) (a + 0x16), chkS (h.vActive ≤ h.vSyncStart) (a + 0x18),
     chkS (1 ≤ h.vSyncWidth && h.vSyncStart + h.vSyncWidth ≤ h.vTotal) (a + 0x1A),
     chkS (5000 ≤ h.clockKhz && h.clockKhz ≤ 2700000) (a + 8),
     chkS (10 * ht ≤ clk && clk ≤ 240 * ht && h.hActive * h.vActive * clk ≤ 2400000000 * ht) (a + 8),
     chkS (!locked || ((clk * p.epochPeriod * 200 ≤ 201 * k * 1000000000 * ht)
        && (199 * k * 1000000000 * ht ≤ clk * p.epochPeriod * 200))) (a + 8),
     chkS (!locked || h.phaseNs * k < p.epochPeriod) (a + 0x1C),
     chkS (!bit h.flags 1 || (!locked && h.port != 0xFFFF && dp (h.port % 256) && 10 ≤ h.vrrMin && h.vrrMin < h.vrrMax
        && h.vrrMax * ht ≤ clk)) (a + 0x20),
     chkS (h.port = 0xFFFF || (c.hasPort (h.port % 256) && h.port / 256 ≤ 3 && (h.port / 256 = 0 || h.port % 256 < 8)
        && !((before p.heads x.2.2).any (fun y => y.port == h.port)))) (a + 2),
     chkS (h.cols = (if o.head = h.head then (h.hActive + 63) / 64 else 0)) (a + 0x28),
     chkS (h.rows = (if o.head = h.head then (h.vActive + 31) / 32 else 0)) (a + 0x2A),
     chkS (o.head = h.head || ((o.hActive + 3) / 4 ≤ h.hActive && h.hActive ≤ 2 * o.hActive)) (a + 0xC),
     chkS (o.head = h.head || ((o.vActive + 3) / 4 ≤ h.vActive && h.vActive ≤ 2 * o.vActive)) (a + 0x14)]
  let sum := p.heads.foldl (fun q h => q + ((h.hActive * h.vActive * h.clockKhz * 1000 : Nat) : Rat)
    / ((h.hTotal * h.vTotal : Nat) : Rat)) 0
  ((List.zip (entryOffs d node 3 64) p.heads.zipIdx).map one).flatten
    ++ [chkS (decide (sum ≤ (if c.compact then 6000000000 else 12000000000))) (((entryOffs d node 3 64).getLast?.getD 0) + 8)]

/-- Layers (R97, R146). CLASS, SOURCE_KIND and LAYER_GROUP initialise LayerSlot and are field checks. -/
def chkLayers (c : Cfg) (d : List Sec) (node : Nat) (p : Plan) (refs : Bool) : List Chk :=
  ((List.zip (entryOffs d node 4 64) p.layers.zipIdx).map (fun x =>
    let l := x.2.1
    let a := x.1
    let pre := before p.layers x.2.2
    [chkS (l.slot < c.slots && !(pre.any (fun y => y.slot == l.slot))) a,
     chkS (!(pre.any (fun y => y.head == l.head && y.z == l.z))) (a + 2),
     chkS (!refs || (p.headOf l.head).elim false (fun h => (p.ownerHead h).head == h.head)) (a + 4),
     chkS (l.owner < c.parts) (a + 5), chkS (l.blend ≤ 1) (a + 7),
     chkS (formatOk l.format) (a + 9), chkS (l.flags < 16) (a + 0xA),
     chkS (1 ≤ l.width && l.width ≤ 8192) (a + 0xC), chkS (1 ≤ l.height && l.height ≤ 8192) (a + 0xE),
     chkS (l.xMin ≤ l.xMax) (a + 0x10), chkS (l.yMin ≤ l.yMax) (a + 0x12), chkS (l.alphaMin ≤ l.alphaMax) (a + 0x1C),
     chkS (bit l.flags 1 || (formatAlpha l.format && !(l.kind == 4 && l.sourceRef / 2 ^ 24 == 255))) (a + 0xA),
     chkS (!bit l.flags 0 || (l.kind == 0 && (!refs || (p.imageOf l.sourceRef).isSome))) (a + 0x2C),
     chkS (!refs || bit l.flags 0 || l.kind != 0 || l.sourceRef == 0xFFFFFFFF || (p.imageOf l.sourceRef).isSome) (a + 0x2C)
     ])).flatten

/-- Fallback images (R107). -/
def chkImages (m : List Byte) (d : List Sec) (node : Nat) (p : Plan) : List Chk :=
  let len := (secFor d node 0xC).elim 0 (fun x => x.len)
  (secFor d node 0xC).elim [] (fun x => [chkS (8 + 32 * u32 m x.off ≤ x.len) x.off])
  ++ ((List.zip (imageOffs m d node).2 p.images.zipIdx).map (fun x =>
    let i := x.2.1
    let a := x.1
    [chkS (!((before p.images x.2.2).any (fun y => y.image == i.image))) a, chkS (formatOk i.format) (a + 2),
     chkS (i.whereIs ≤ 1) (a + 3), chkS (1 ≤ i.width && i.width ≤ 8192) (a + 4),
     chkS (1 ≤ i.height && i.height ≤ 8192) (a + 6), chkS (i.whereIs = 1 || u32 m (a + 8) + u32 m (a + 12) ≤ len) (a + 8),
     chkS (zeros m (a + 20) 12) (a + 20)])).flatten

/-- One tile program as a head reads it (R100): the checks of its steps, with the Z of the step above. `offs` is the
offset of the first step, `fb` tells a fallback directory (R108). -/
def chkSteps (p : Plan) (head : Nat) (fb : Bool) (base : Nat) : List (Nat × Nat) → Option Nat → Nat → List Chk
  | [], _, _ => []
  | (v, i) :: r, z, left =>
    let a := base + 8 * i
    let op := stepOp v
    let lay := p.layers.find? (fun l => l.slot == stepSlot v && l.head == head)
    let isLay := decide (1 ≤ op ∧ op ≤ 3)
    [chkS ((op == 0) == (left == 1)) a,
     chkS (stepMask v ≤ p.masks.length) a,
     chkS (!isLay || lay.elim false (fun l => z.elim true (fun q => decide (q < l.z)))) a,
     chkS (!isLay || lay.elim false (fun l => op == 3 || op == l.blend + 1)) a,
     chkS (!(op == 3) || lay.elim false (fun l => l.alphaMin == 65535)) a,
     chkS (!(fb && isLay) || lay.elim false (fun l => bit l.flags 0 || l.kind == 4)) a]
    ++ chkSteps p head fb base r (if isLay then lay.map (fun l => l.z) else z) (left - 1)

/-- The steps of a directory entry with their numbers. -/
def Plan.program (p : Plan) (e : Nat) : List (Nat × Nat) :=
  (List.range (dirCount e)).map (fun i => (nth 0 p.steps (dirOffset e + i), dirOffset e + i))

/-- TOP_CLASS and STATIC as the steps give them (R99). -/
def Plan.progTop (p : Plan) (e : Nat) : Nat :=
  (p.program e).foldl (fun t v => if 1 ≤ stepOp v.1 ∧ stepOp v.1 ≤ 3 then min t ((p.layerOf (stepSlot v.1)).elim 3 (fun l => l.cls)) else t) 3
def Plan.progStatic (p : Plan) (e : Nat) : Bool :=
  (p.program e).all (fun v => if stepOp v.1 = 4 then stepMask v.1 == 0
    else stepOp v.1 == 0 || (p.layerOf (stepSlot v.1)).elim true (fun l => bit l.flags 0))

/-- A tile directory of a head from an entry on (R99). `ref` is the offset of the field that names it. TOP_CLASS or STATIC
that disagrees with the steps is rejected with PLAN_STRUCTURE, which R99 does not say (DESIGN CHOICE, log entry 94). -/
def chkDirectory (d : List Sec) (node : Nat) (p : Plan) (h : PlanHead) (first ref : Nat) (fb : Bool) : List Chk :=
  let dirA := (secFor d node 5).elim 0 (fun x => x.off)
  let stepA := (secFor d node 6).elim 0 (fun x => x.off)
  chkS (first + h.tiles ≤ p.dir.length) ref ::
  ((List.range h.tiles).map (fun t =>
    let e := nth 0 p.dir (first + t)
    let a := dirA + 8 * (first + t)
    [chkS (1 ≤ dirCount e) a, chkS (dirOffset e + dirCount e ≤ p.steps.length) (a + 4)]
    ++ chkSteps p h.head fb stepA (p.program e) none (dirCount e)
    ++ [chkS (dirTop e == p.progTop e) a, chkS (dirStatic e == p.progStatic e) a])).flatten

/-- Tile directories of every head that owns a frame store and of every failover layout (R99, R108). -/
def chkPrograms (d : List Sec) (node : Nat) (p : Plan) : List Chk :=
  ((List.zip (entryOffs d node 3 64) p.heads).map (fun x =>
    if (p.ownerHead x.2).head = x.2.head then chkDirectory d node p x.2 x.2.dirFirst (x.1 + 0x24) false else [])).flatten
  ++ ((List.zip (entryOffs d node 0xD 32) p.failovers.zipIdx).map (fun x =>
    let f := x.2.1
    [chkS (1 ≤ f.layout && f.layout ≤ 16 && !((before p.failovers x.2.2).any (fun y => y.layout == f.layout))) x.1,
     chkS ((p.headOf f.localHead).elim false (fun h => (p.ownerHead h).head == h.head)) (x.1 + 1)]
    ++ (p.headOf f.localHead).elim [] (fun h =>
      chkDirectory d node p h f.dirFirst (x.1 + 12) false
        ++ chkDirectory d node p h f.fallbackDirFirst (x.1 + 16) true))).flatten

/-- Cost of a tile of a head under a layout: the dearer of the layout's two directories (R104, R108). -/
def Plan.costOf (p : Plan) (layout : Nat) (h : PlanHead) (t : Nat) : Nat :=
  ((p.dirsOf layout h).map (fun first => tileCost (dirCount (nth 0 p.dir (first + t))))).foldl max 0

/-- The highest class of a tile of a head under a layout. -/
def Plan.topOf (p : Plan) (layout : Nat) (h : PlanHead) (t : Nat) : Nat :=
  ((p.dirsOf layout h).map (fun first => dirTop (nth 0 p.dir (first + t)))).foldl min 3

/-- One block of the slot table (R103): `prev` is the end of the last window. -/
def chkBatches (p : Plan) (refs : Bool) : List (Nat × PlanBatch) → Option Nat → List Chk
  | [], _ => []
  | (a, b) :: r, prev =>
    let h := p.headOf b.head
    let own := h.elim false (fun h => (p.ownerHead h).head == h.head
      && (b.layout == 0 || p.failovers.any (fun f => f.layout == b.layout && f.localHead == h.head)))
    let n := h.elim 0 PlanHead.tiles
    let k := h.elim 1 PlanHead.subframes
    let sf := bitsOf b.flags 2 1
    [chkS (!refs || own) a, chkS (b.flags < 8) (a + 1),
     chkS (1 ≤ b.tiles && b.tiles ≤ 32768 && (!refs || b.firstTile + b.tiles ≤ n)) (a + 4),
     chkS (b.startSlot ≤ b.endSlot && b.endSlot ≤ 1023) (a + 8),
     chkS (prev.elim true (fun q => decide (q < b.startSlot))) (a + 6),
     chkS (!refs || (sf < k && 1024 * sf / k ≤ b.startSlot && b.endSlot + 1 ≤ 1024 * (sf + 1) / k)) (a + 6),
     chkS (!refs || bit b.flags 0 == h.elim false (fun h => (List.range b.tiles).any (fun i =>
        p.topOf b.layout h (b.firstTile + i) == 0))) (a + 1)]
    ++ chkBatches p refs r (some b.endSlot)

/-- Slot tables (R103). The rule names no code for windows that overlap or stand unsorted, for a tile that the batches do not
name exactly once, for a wrong CLASS_A and for two blocks of one ENGINE and LAYOUT: PLAN_STRUCTURE (DESIGN CHOICE, log entry
94). -/
def chkSlots (c : Cfg) (m : List Byte) (d : List Sec) (node : Nat) (p : Plan) (refs : Bool) : List Chk :=
  let bl := slotBlocks m d node
  (bl.zipIdx.map (fun x =>
    let b := x.1
    [chkS (b.2.1 < c.engines && !((before bl x.2).any (fun y => y.2.1 == b.2.1 && y.2.2.1 == b.2.2.1))) b.1,
     chkS (!refs || b.2.2.1 = 0 || p.failovers.any (fun f => f.layout == b.2.2.1)) (b.1 + 1), chkS (zeros m (b.1 + 4) 4) (b.1 + 4)]
    ++ (blockBatches m b).map (fun y => chkS (zeros m (y.1 + 0xE) 2) (y.1 + 0xE))
    ++ chkBatches p refs (blockBatches m b) none)).flatten
  ++ ((List.zip (entryOffs d node 3 64) p.heads).map (fun x =>
    if refs ∧ (p.ownerHead x.2).head = x.2.head then
      (List.range x.2.subframes).map (fun sf => chkS ((List.range x.2.tiles).all (fun t =>
        (p.batches.filter (fun b => b.layout == 0 && b.head == x.2.head && bitsOf b.flags 2 1 == sf && b.firstTile ≤ t
          && t < b.firstTile + b.tiles)).length == 1)) (x.1 + 0x24))
    else [])).flatten

/-- Integrity sections (R106, R231). -/
def chkIntegrity (c : Cfg) (d : List Sec) (node : Nat) (p : Plan) (refs : Bool) : List Chk :=
  ((List.zip (entryOffs d node 9 32) p.cvus).map (fun x =>
    [chkS (8 ≤ x.2.width && x.2.width ≤ 64) (x.1 + 24),
     chkS (x.2.poly < 2 ^ x.2.width && x.2.poly % 2 == 1) x.1, chkS (x.2.init < 2 ^ x.2.width) (x.1 + 8),
     chkS (x.2.xorout < 2 ^ x.2.width) (x.1 + 16)])).flatten
  ++ ((List.zip (entryOffs d node 0xB 264) p.tables).map (fun x =>
    [chkS (1 ≤ x.2.count && x.2.count ≤ 16) x.1, chkS (x.2.initial < x.2.count) (x.1 + 1)]
    ++ x.2.states.zipIdx.map (fun y =>
      if y.2 < x.2.count then chkS (y.1.next < x.2.count) (x.1 + 18 + 16 * y.2)
      else chkS (y.1.golden == 0 && y.1.dwell == 0 && y.1.next == 0) (x.1 + 8 + 16 * y.2)))).flatten
  ++ ((List.zip (entryOffs d node 0xA 64) p.regions.zipIdx).map (fun x =>
    let r := x.2.1
    let a := x.1
    let h := p.headOf r.head
    [chkS (r.region < c.regions && !((before p.regions x.2.2).any (fun y => y.region == r.region))) a,
     chkS (!refs || h.isSome) (a + 2), chkS (r.point ≤ 1 && (!refs || r.point == 1 || h.elim false (fun h => (p.ownerHead h).head == h.head))) (a + 3),
     chkS (r.expect ≤ 3) (a + 0xD), chkS (1 ≤ r.w && (!refs || r.x + r.w ≤ h.elim 0 (fun h => h.hActive))) (a + 4),
     chkS (1 ≤ r.h && (!refs || r.y + r.h ≤ h.elim 0 (fun h => h.vActive))) (a + 6),
     chkS (!refs || r.cvu < p.cvus.length) (a + 0xC),
     chkS (!refs || r.table == 0xFFFF || r.table < p.tables.length) (a + 0xE), chkS (r.reactions < 128) (a + 0x18),
     chkS (!refs || r.fallback == 0xFFFF || (p.imageOf r.fallback).isSome) (a + 0x1A),
     chkS (!bit r.reactions 1 || (if refs then (p.imageOf r.fallback).elim false (fun i => i.width == r.w && i.height == r.h)
        else r.fallback != 0xFFFF)) (a + 0x1A),
     chkS (!refs || !(r.expect == 1 && r.point == 1) || h.elim false (fun h => !p.scales h)) (a + 0xD)])).flatten

/-- Touch keys (R109). -/
def chkKeys (c : Cfg) (d : List Sec) (node : Nat) (p : Plan) (refs : Bool) : List Chk :=
  ((List.zip (entryOffs d node 0xE 32) p.keys.zipIdx).map (fun x =>
    let k := x.2.1
    let a := x.1
    [chkS (!refs || (p.headOf k.head).isSome) a,
     chkS (k.key ≤ 63 && !((before p.keys x.2.2).any (fun y => y.head == k.head && y.key == k.key))) (a + 1),
     chkS (k.flags < 4) (a + 2), chkS (k.owner < c.parts) (a + 3), chkS (k.effect ≤ 191) (a + 17),
     chkS (k.port < c.afes) (a + 18)])).flatten

/-- Early plans (R110). -/
def chkEarly (m : List Byte) (d : List Sec) (node : Nat) (p : Plan) : List Chk :=
  if bit p.kind 0 then
    let e := fun (ok : Bool) (off : Nat) => (⟨ok, codePlanEarlyLimit, off⟩ : Chk)
    (List.zip (entryOffs d node 3 64) p.heads.zipIdx).map (fun x => e (x.2.2 < 4 && bit x.2.1.flags 0) (x.1 + 1))
    ++ [e (p.topology == 0) 0x23]
    ++ (List.zip (entryOffs d node 4 64) p.layers).map (fun x => e (x.2.kind == 4 || (x.2.kind == 0 && bit x.2.flags 0)) (x.1 + 8))
    ++ (List.zip (entryOffs d node 0xA 64) p.regions).map (fun x => e (x.2.expect != 2) (x.1 + 0xD))
    ++ (entryOffs d node 0xD 32).map (fun a => e false a)
    ++ (List.zip (imageOffs m d node).2 p.images).map (fun x => e (x.2.whereIs == 0) (x.1 + 3))
    ++ [e (p.length ≤ 4194304) 0x18]
  else []

/-- Classes (R19, R109). -/
def chkClasses (d : List Sec) (node : Nat) (p : Plan) : List Chk :=
  (List.zip (entryOffs d node 4 64) p.layers).map (fun x => ⟨p.maxClass x.2.owner ≤ x.2.cls, codePlanClass, x.1 + 6⟩)
  ++ (List.zip (entryOffs d node 0xE 32) p.keys).map (fun x => ⟨!bit x.2.flags 0 || p.maxClass x.2.owner == 0,
      codePlanClass, x.1 + 2⟩)

/-- What the device is in its fabric (R350): topology, columns, rows, node count. -/
structure Fabric where
  topology : Nat
  cols : Nat
  rows : Nat
  nodes : Nat
  deriving DecidableEq, Repr

/-- Target (R5, R6, R350). -/
def chkTarget (c : Cfg) (f : Fabric) (p : Plan) : List Chk :=
  let t := fun (ok : Bool) (off : Nat) => (⟨ok, codePlanTarget, off⟩ : Chk)
  [t (p.target == (if c.compact then 0x43 else 0x46)) 0x20, t (p.partner == 0 || p.partner == p.target) 0x22,
   t (p.topology == f.topology && !(c.compact && p.topology == 3)) 0x23,
   t (p.topology != 3 || p.wallCols == f.cols) 0x24, t (p.topology != 3 || p.wallRows == f.rows) 0x25,
   t (p.nodeCount == f.nodes && !(c.compact && 8 < p.nodeCount)) 0x26]

/-- Budgets (R104, R105, R231). The fabric limit is 0.8 × 50 GB/s for each port that Pixel messages take in the topology
(DEDUCED, log entry 93). -/
def chkBudget (c : Cfg) (m : List Byte) (d : List Sec) (node : Nat) (p : Plan) : List Chk :=
  let b := fun (ok : Bool) (off : Nat) => (⟨ok, codePlanBudget, off⟩ : Chk)
  let clocks := p.slotNs * 6 / 5
  let lim := dramPeak c.dramGen c.channels (dramTopRate c.dramGen) * p.slotNs / 2000000
  let fab := 40 * p.slotNs * pixelPorts p.topology
  let all := ((slotBlocks m d node).map (blockBatches m)).flatten
  all.map (fun x => b ((p.headOf x.2.head).elim false (fun h =>
      5 * (List.range x.2.tiles).foldl (fun s i => s + p.costOf x.2.layout h (x.2.firstTile + i)) 0
        ≤ 4 * clocks * (x.2.endSlot - x.2.startSlot + 1))) (x.1 + 4))
  ++ (all.map (fun x =>
      let at_ := p.slotEdges.filter (fun k => decide (x.2.startSlot ≤ k ∧ k ≤ x.2.endSlot))
      [b (at_.all (fun k => decide (p.slotBytes [] k ≤ lim))) (x.1 + 0xA),
       b (at_.all (fun k => decide (p.slotFabric [] k ≤ fab))) (x.1 + 0xC)])).flatten
  ++ [b (4096 * p.heads.foldl (fun a h => a + h.scan4k) 0 ≤ lim) (((entryOffs d node 3 64).head?.getD 0) + 0x2C)]
  ++ (List.zip (entryOffs d node 0xA 64) p.regions.zipIdx).map (fun x =>
      let upto := p.regions.take (x.2.2 + 1)
      let pix : Rat := upto.foldl (fun q r => if r.expect = 1 then
          q + ((r.w * r.h : Nat) : Rat) * (p.headOf r.head).elim 0 (fun h =>
            if r.point = 0 then ((h.subframes * 1000000000 : Nat) : Rat) / (p.epochPeriod : Rat)
            else ((h.clockKhz * 1000 : Nat) : Rat) / ((h.hTotal * h.vTotal : Nat) : Rat)) else q) 0
      let tiles := upto.foldl (fun n r => if r.point = 0 then
          n + ((r.x + r.w - 1) / 64 - r.x / 64 + 1) * ((r.y + r.h - 1) / 32 - r.y / 32 + 1) else n) 0
      b (decide (pix ≤ 120000000) && tiles ≤ (if c.compact then 16384 else 32768)) (x.1 + 8))

/-- The checks of the sections that one node reads, in the order of R113. `dp` tells the ports configured as
DisplayPort or eDP. -/
def chkNode (c : Cfg) (dp : Nat → Bool) (m : List Byte) (node : Nat) : List Chk × List Chk :=
  let d := readDir m
  let p := readSecs m d node
  (chkCounts c m d node p true ++ chkParts c d node p ++ chkGroups c d node p true ++ chkHeads c dp d node p
    ++ chkLayers c d node p true ++ chkImages m d node p ++ chkPrograms d node p ++ chkSlots c m d node p true
    ++ chkIntegrity c d node p true ++ chkKeys c d node p true ++ chkEarly m d node p ++ chkClasses d node p,
   chkBudget c m d node p)

/-- The 0xFF sections that every node of the plan replaces (R93). -/
def orphans (m : List Byte) : List Sec :=
  let d := readDir m
  d.filter (fun x => x.typ < 0xF && x.node == 0xFF
    && (planIds m).all (fun n => d.any (fun y => y.typ == x.typ && y.node == n)))

/-- The checks of sections that no node reads: their entries, without what they refer to in other sections (DEDUCED, log
entry 95). -/
def chkOrphans (c : Cfg) (dp : Nat → Bool) (m : List Byte) : List Chk :=
  let d := orphans m
  let p := readSecs m d 0xFF
  if d.isEmpty then []
  else
    chkCounts c m d 0xFF p false ++ chkParts c d 0xFF p ++ chkGroups c d 0xFF p false ++ chkHeads c dp d 0xFF p
      ++ chkLayers c d 0xFF p false ++ chkImages m d 0xFF p ++ chkSlots c m d 0xFF p false ++ chkIntegrity c d 0xFF p false
      ++ chkKeys c d 0xFF p false

/-- The nodes whose sections are validated: every node of the plan (R93). -/
def planNodes (m : List Byte) (own : Nat) : List Nat := if u8 m 0x23 ≤ 1 then [own] else planIds m

/-- Stage 1 of R113: the first failure as code and byte offset. An image too short to hold a header and a signature
block fails at its length. -/
def structural (c : Cfg) (dp : Nat → Bool) (f : Fabric) (own : Nat) (m : List Byte) : Option (Nat × Nat) :=
  if m.length < 3672 then some (codePlanStructure, 0x18)
  else
    match firstFault (chkHeader m) with
    | some x => some x
    | none =>
      match firstFault (chkDir m ++ chkReserved m) with
      | some x => some x
      | none =>
        let per := (planNodes m own).map (chkNode c dp m)
        firstFault ((per.map (fun x => x.1)).flatten ++ chkOrphans c dp m ++ chkTarget c f (readPlan m own) ++ (per.map (fun x => x.2)).flatten)

/-! ## Field checks (R113 stage 3) -/

/-- A clamped field: section type, entry number, byte offset in the entry, status. -/
structure FieldClamp where
  typ : Nat
  entry : Nat
  off : Nat
  status : Nat
  deriving DecidableEq, Repr

/-- The word of PlanFieldReport (0x4009). -/
def FieldClamp.word (f : FieldClamp) : Nat := f.typ * 2 ^ 48 + f.entry * 2 ^ 32 + f.off * 2 ^ 16 + f.status % 2 ^ 16

/-- One field: its value clamped, and a report where it was out of range. -/
def fieldIv (lo hi v : Int) (typ entry off : Nat) (env : Bool) : Int × List FieldClamp :=
  let c := clampIv lo hi v
  (c.val, if c.status = 0 then [] else [⟨typ, entry, off, if env then codeEnvelope else c.status⟩])

/-- The INIT values and the visibility of a layer against its envelope (R98), and CLASS, SOURCE_KIND and LAYER_GROUP against
the ranges of LayerSlot, which they initialise. -/
def clampLayer (i : Nat) (l : PlanLayer) : PlanLayer × List FieldClamp :=
  let x := fieldIv l.xMin l.xMax l.initX 4 i 0x20 true
  let y := fieldIv l.yMin l.yMax l.initY 4 i 0x22 true
  let sx := fieldIv 0 l.srcXMax l.initSrcX 4 i 0x24 true
  let sy := fieldIv 0 l.srcYMax l.initSrcY 4 i 0x26 true
  let al := fieldIv l.alphaMin l.alphaMax l.initAlpha 4 i 0x28 true
  let cl := fieldIv 0 3 l.cls 4 i 6 false
  let kd := fieldIv 0 4 l.kind 4 i 8 false
  let gr := fieldIv 0 31 l.group 4 i 0xB false
  let vis := bit l.flags 2 && !bit l.flags 3
  ({ l with cls := cl.1.toNat, kind := kd.1.toNat, group := gr.1.toNat,
            initX := x.1, initY := y.1, initSrcX := sx.1.toNat, initSrcY := sy.1.toNat, initAlpha := al.1.toNat,
            flags := if vis then l.flags + 8 else l.flags },
   cl.2 ++ kd.2 ++ (if vis then [⟨4, i, 0xA, codeClampedHigh⟩] else []) ++ gr.2 ++ x.2 ++ y.2 ++ sx.2 ++ sy.2 ++ al.2)

/-- BOUNDARY of a layer group: one of the two values of R95, else the nearest lower of them or the lowest (R54). -/
def clampGroup (i : Nat) (g : PlanGroup) : PlanGroup × List FieldClamp :=
  if g.group < 20 ∨ 51 < g.group ∨ g.boundary = 2 ∨ g.boundary = 3 then (g, [])
  else ({ g with boundary := if g.boundary < 2 then 2 else 3 }, [⟨2, i, 1, codeEnumReplaced⟩])

/-- Threshold, hysteresis and debounce of a key against the ranges of the objects they initialise (0x8040 to 0x8042). -/
def clampKey (i : Nat) (k : PlanKey) : PlanKey × List FieldClamp :=
  let t := fieldIv 16 4095 k.threshold 0xE i 12 false
  let h := fieldIv 0 4094 k.hysteresis 0xE i 14 false
  let b := fieldIv 1 16 k.debounce 0xE i 16 false
  ({ k with threshold := t.1.toNat, hysteresis := h.1.toNat, debounce := b.1.toNat }, t.2 ++ h.2 ++ b.2)

/-- The plan with every out-of-range field clamped, and the report. -/
def Plan.fieldStage (p : Plan) : Plan × List FieldClamp :=
  let l := p.layers.zipIdx.map (fun x => clampLayer x.2 x.1)
  let k := p.keys.zipIdx.map (fun x => clampKey x.2 x.1)
  let g := p.groups.zipIdx.map (fun x => clampGroup x.2 x.1)
  ({ p with layers := l.map (fun x => x.1), keys := k.map (fun x => x.1), groups := g.map (fun x => x.1) },
   (g.map (fun x => x.2)).flatten ++ (l.map (fun x => x.2)).flatten ++ (k.map (fun x => x.2)).flatten)

end Sys2Proof.Machine
end

