-- ==== Sys2Proof/Machine/Chamois.lean ====
section
/-!
DEFINITION. What Chamois sends (R339 to R346): ports, flits with their CRC, replay, routing, and messages with their end-to-end
acknowledgement.
-/
namespace Sys2Proof.Machine

/-! ## Ports -/

/-- Index of ChamoisPort of a port; PortLink, PortCounters and FoxgloveConfig follow it at 1 to 3. -/
def chIdx (k : Nat) : Nat := 0x7810 + 4 * k

def State.link (s : State) (k : Nat) : PortLinkRun :=
  (s.fabric.ports.find? (fun r => r.port == k)).getD
    { port := k, rxSeq := 0, nakSent := false, txSeq := 0, unacked := [], replaySeq := 0, replays := 0, ackAt := 0, sentAt := 0,
      txq := [], turn := 1, credit := 0, timeSent := 0, timeGot := 0, foxCount := 0, foxPairs := [], foxHeld := none, barred := false,
      downAt := 0, pixSlot := 0, pixUsed := 0 }

def State.putLink (s : State) (r : PortLinkRun) : State :=
  { s with fabric := { s.fabric with ports := r :: s.fabric.ports.filter (fun x => x.port != r.port) } }

/-- A port carries traffic: its link is up, whole or reduced. -/
def State.linkUp (s : State) (k : Nat) : Bool :=
  k < s.cfg.chamois && s.pdOn 13 && (s.get (chIdx k + 1) 1 == 2 || s.get (chIdx k + 1) 1 == 3)

/-- The link layer of an up port has its clock (R446). -/
def State.linkRuns (s : State) (k : Nat) : Bool := s.linkUp k && !s.noLock (26 + k)

def State.upPorts (s : State) : List Nat := (List.range s.cfg.chamois).filter s.linkUp

/-- Messages may take a port: its link is up and its neighbour is not excluded (R351). -/
def State.portCarries (s : State) (k : Nat) : Bool := s.linkUp k && !(s.link k).barred

def State.carryPorts (s : State) : List Nat := (List.range s.cfg.chamois).filter s.portCarries

/-- a is later than b in the 12-bit sequence of R341. -/
def later12 (a b : Nat) : Bool := serialLater 12 a b

/-! ## Flits (R340) -/

/-- The fields of a flit. -/
structure Flit where
  ty : Nat
  seq : Nat
  ack : Nat
  dest : Nat
  cls : Nat
  src : Nat
  vc : Nat
  first : Bool
  last : Bool
  flow : Nat
  payload : List Byte

/-- A flit's 256 bytes, with its CRC. -/
def Flit.bytes (f : Flit) : List Byte :=
  let body := leBytes 2 (f.seq % 4096 + f.ty * 4096) ++ leBytes 2 (f.ack % 4096)
    ++ [byteOf (f.dest % 64 + f.cls * 64), byteOf (f.src % 64 + f.vc * 64 + (if f.first then 128 else 0)),
        byteOf f.payload.length, byteOf (if f.last then 1 else 0)] ++ leBytes 2 f.flow ++ bytesAt f.payload 0 242
  body ++ leBytes 4 (crc32 body)

/-- The flit that 256 bytes spell. -/
def Flit.ofBytes (b : List Byte) : Flit :=
  let h := numAt b 0 2
  let d := numAt b 4 1
  let c := numAt b 5 1
  { ty := h / 4096, seq := h % 4096, ack := numAt b 2 2 % 4096, dest := d % 64, cls := d / 64, src := c % 64,
    vc := c / 64 % 2, first := bit c 7, last := bit (numAt b 7 1) 0, flow := numAt b 8 2,
    payload := bytesAt b 10 (min 242 (numAt b 6 1)) }

def flitCrcOk (b : List Byte) : Bool := crc32 (bytesAt b 0 252) == numAt b 252 4

/-- The ACK a port sends: the highest SEQ received in order. -/
def PortLinkRun.ack (r : PortLinkRun) : Nat := (r.rxSeq + 4095) % 4096

/-- A flit leaves on a port; a flit capture takes its bytes (R441, SOURCE 4; DESIGN CHOICE, log entry 112). -/
def State.sendBytes (s : State) (k : Nat) (b : List Byte) : State := (s.emit (.flit k b)).traceSource 4 b

/-- An idle flit or a NAK, which carry no data. -/
def State.sendControl (s : State) (k ty seq : Nat) : State :=
  s.sendBytes k (Flit.bytes { ty := ty, seq := seq, ack := (s.link k).ack, dest := 0, cls := 0, src := s.selfNode, vc := 0,
                                first := false, last := false, flow := 0, payload := [] })

/-- A data flit sent on a port with the next SEQ and kept for replay (R341). -/
def State.sendFlit (s : State) (k : Nat) (f : Flit) : State :=
  let r := s.link k
  let b := Flit.bytes { f with ty := 1, seq := r.txSeq, ack := r.ack }
  let s := s.putLink { r with txSeq := (r.txSeq + 1) % 4096, unacked := r.unacked ++ [⟨r.txSeq, b⟩], sentAt := s.now,
                              ackAt := if r.unacked.isEmpty then s.now else r.ackAt }
  s.sendBytes k b

/-- The slot of the composition frame that runs, counted through all frames, with the bytes of Pixel traffic that the plan
reserves in it (R103). -/
def State.pixelSlot (s : State) : Nat × Nat :=
  s.plan.active.elim (0, 0) (fun p =>
    let k := min 1023 ((s.now - s.time.lastEpoch) / max 1 p.slotNs)
    (s.epoch * 1024 + k, p.slotFabric s.place.shed k))

/-- Bytes of Pixel flits that a port has sent in a slot. -/
def PortLinkRun.pixelBytes (r : PortLinkRun) (slot : Nat) : Nat := if r.pixSlot = slot then r.pixUsed else 0

/-- The flit that a port sends next of those that wait (R343): Sync, Pixel within the slot's reservation, then Control and Bulk
by deficit round robin, where further Pixel flits take Bulk's turn. -/
def State.pickTx (s : State) (r : PortLinkRun) : Option (Nat × List Byte) × PortLinkRun :=
  let first := fun (c : Nat) => r.txq.find? (fun x => x.1 == c || c == 3 && x.1 == 2)
  let rm := fun (x : Nat × List Byte) (r : PortLinkRun) => { r with txq := r.txq.erase x }
  let slot := s.pixelSlot
  let used := r.pixelBytes slot.1 + 256
  match first 0, if used ≤ slot.2 then first 2 else none with
  | some x, _ => (some x, rm x r)
  | none, some x => (some x, rm x { r with pixSlot := slot.1, pixUsed := used })
  | none, none =>
    let weight := fun (c : Nat) => s.get 0x7800 (if c = 1 then 9 else 0xA)
    let other := if r.turn = 1 then 3 else 1
    match first r.turn, first other with
    | some x, none => (some x, rm x r)
    | none, some x => (some x, rm x { r with turn := other, credit := weight other - 1 })
    | none, none => (none, r)
    | some x, some y =>
      if 0 < r.credit then (some x, rm x { r with credit := r.credit - 1 })
      else (some y, rm y { r with turn := other, credit := weight other - 1 })

/-- Waiting flits of a port sent while fewer than 2,048 are unacknowledged and the port has its clock (R446). -/
def State.drainTx (s : State) (k : Nat) : Nat → State
  | 0 => s
  | n + 1 =>
    let r := s.link k
    if 2048 ≤ r.unacked.length ∨ s.noLock (26 + k) then s
    else
      match s.pickTx r with
      | (none, _) => s
      | (some x, r) => ((s.putLink r).sendFlit k (Flit.ofBytes x.2)).drainTx k n

/-- Flits of a message handed to a port. -/
def State.portSend (s : State) (k : Nat) (fs : List Flit) : State :=
  let r := s.link k
  (s.putLink { r with txq := r.txq ++ fs.map (fun f => (f.cls, f.bytes)) }).drainTx k (r.txq.length + fs.length)

/-- A port's link goes down (R342): the flits held for it are discarded. -/
def State.linkDown (s : State) (k : Nat) : State :=
  let s := s.putLink { s.link k with unacked := [], txq := [], nakSent := false, rxSeq := 0, txSeq := 0, replays := 0, barred := false,
                                     downAt := s.now }
  let s := ((s.put (chIdx k + 1) 1 4).put (chIdx k + 1) 2 0).put (chIdx k + 1) 3 0
  (s.bump (chIdx k + 2) 6).raise 0x7801 k 0 sevError 0 [byteOf k]

/-- A kept flit sent again, with the ACK as it stands. -/
def State.resend (s : State) (k : Nat) (f : TxFlit) : State :=
  s.sendBytes k (Flit.bytes { Flit.ofBytes f.bytes with ack := (s.link k).ack })

/-- Replay from a SEQ (R341); the eighth replay of one SEQ in succession makes the port retrain (R342). -/
def State.replayFrom (s : State) (k seq : Nat) : State :=
  let r := s.link k
  let n := if r.replays ≠ 0 ∧ r.replaySeq = seq then r.replays + 1 else 1
  let s := (s.putLink { r with replaySeq := seq, replays := n, ackAt := s.now }).bump (chIdx k + 2) 4
  if 8 ≤ n then ((s.putLink { s.link k with replays := 0 }).put (chIdx k + 1) 1 1).bump (chIdx k + 2) 5
  else foldS (fun s f => if later12 seq f.seq then s else s.resend k f) s r.unacked

/-- The ACK of a flit taken: acknowledged flits are released. -/
def State.takeAck (s : State) (k ack : Nat) : State :=
  let r := s.link k
  let left := r.unacked.filter (fun f => later12 f.seq ack)
  if left.length < r.unacked.length then
    (s.putLink { r with unacked := left, ackAt := s.now, replays := if left.any (fun f => f.seq == r.replaySeq) then r.replays else 0 }).drainTx k r.txq.length
  else s

/-! ## Routing (R344 to R346) -/

/-- The ports of a dimension in the + and − direction with the hop counts to a coordinate in a ring of `n`. -/
def ringDist (n a b : Nat) : Nat × Nat := ((b + n - a) % n, (a + n - b) % n)

/-- Queued flits of a class on a port. -/
def State.queued (s : State) (k cls : Nat) : Nat := ((s.link k).txq.filter (fun x => x.1 == cls)).length

/-- The ports of one dimension that take a message onward: the shorter way, both ways at a tie with + first, and the other way
round a port that is down (R344, R346). -/
def State.dimPorts (s : State) (plus minus : Nat) (dist : Nat × Nat) : List Nat :=
  let ways := if dist.1 < dist.2 then [plus] else if dist.2 < dist.1 then [minus] else [plus, minus]
  let up := ways.filter s.portCarries
  if up.isEmpty then [plus, minus].filter s.portCarries else up

/-- The ports that may take a message from here to a node: in a Twin every port that carries traffic. -/
def State.waysTo (s : State) (dest : Nat) : List Nat :=
  let me := s.selfNode
  match s.fabric.topology with
  | 1 => s.carryPorts
  | 2 => s.dimPorts 0 1 (ringDist (max 1 s.fabric.ringSize) me dest)
  | 3 =>
    if me % 8 ≠ dest % 8 then s.dimPorts 0 1 (ringDist (max 1 s.fabric.cols) (me % 8) (dest % 8))
    else s.dimPorts 2 3 (ringDist (max 1 s.fabric.rows) (me / 8) (dest / 8))
  | _ => []

/-- A hop through a port crosses the dateline of its dimension, between coordinate k − 1 and 0. -/
def State.crosses (s : State) (k : Nat) : Bool :=
  let me := s.selfNode
  match s.fabric.topology with
  | 2 => (k == 0 && me + 1 == max 1 s.fabric.ringSize) || (k == 1 && me == 0)
  | 3 => (k == 0 && me % 8 + 1 == max 1 s.fabric.cols) || (k == 1 && me % 8 == 0)
      || (k == 2 && me / 8 + 1 == max 1 s.fabric.rows) || (k == 3 && me / 8 == 0)
  | _ => false

/-- The port that a Sync or Pixel message takes from here: the + direction at a tie, the lowest-numbered port of a Twin. -/
def State.route (s : State) (dest : Nat) : Option Nat := (s.waysTo dest).head?

/-- The port on which a flit that came in on port `k` travels on. In the dimension it travels it keeps its direction, or turns back
once where the port ahead is down and it came the shorter way; a new dimension begins as R344 says, at a tie in the +
direction (DESIGN CHOICE, log entry 105, for Control and Bulk). -/
def State.onward (s : State) (k src dest : Nat) : Option Nat :=
  let me := s.selfNode
  let ahead := if k % 2 = 0 then k + 1 else k - 1
  let on := fun (n a b : Nat) =>
    let d := ringDist n a b
    if s.portCarries ahead then some ahead
    else if (if ahead % 2 = 0 then decide (d.1 ≤ d.2) else decide (d.2 < d.1)) && s.portCarries k then some k
    else none
  match s.fabric.topology with
  | 2 => on (max 1 s.fabric.ringSize) src dest
  | 3 =>
    if k < 2 ∧ me % 8 ≠ dest % 8 then on (max 1 s.fabric.cols) (src % 8) (dest % 8)
    else if 2 ≤ k ∧ me % 8 = dest % 8 then on (max 1 s.fabric.rows) (src / 8) (dest / 8)
    else s.route dest
  | _ => s.route dest

/-- A node is a reachable member of the Twin or Wall; node IDs run to 0x3F (R10). -/
def State.nodeReach (s : State) (n : Nat) : Bool :=
  decide (n < 64) && n != s.selfNode && s.get (0x7940 + n) 1 == 1 && (s.route n).isSome

/-! ## Messages (R340, R345) -/

/-- A message: its 16-byte header and its payload. -/
def msgBytes (seq kind attr target : Nat) (payload : List Byte) : List Byte :=
  leBytes 2 seq ++ [byteOf kind, byteOf attr] ++ leBytes 4 payload.length ++ leBytes 8 target ++ payload

/-- The pieces of a message, 242 bytes each. -/
def pieces : Nat → List Byte → List (List Byte)
  | 0, _ => []
  | n + 1, l => if l.length ≤ 242 then [l] else l.take 242 :: pieces n (l.drop 242)

def State.e2eTx (s : State) (dest cls : Nat) : E2eTx :=
  (s.fabric.tx.find? (fun r => r.dest == dest && r.cls == cls)).getD ⟨dest, cls, 0, [], 0, 0, []⟩

def State.putE2eTx (s : State) (r : E2eTx) : State :=
  { s with fabric := { s.fabric with tx := r :: s.fabric.tx.filter (fun x => !(x.dest == r.dest && x.cls == r.cls)) } }

/-- A flow that has no unacknowledged message is free to choose its port (R345). -/
def State.freeFlow (s : State) (dest cls flow : Nat) : State :=
  if (s.e2eTx dest cls).msgs.any (fun m => m.2.1 == flow) then s
  else { s with fabric := { s.fabric with flows := s.fabric.flows.filter (fun x => !(x.dest == dest && x.cls == cls && x.flow == flow)) } }

/-- The port that a message takes from here (R344, R345). A flow of Control or Bulk messages stays on the port it took; one that
chooses takes the port with the fewest queued flits of its class, the lower at a tie. Without FLOWLET_ENABLE it takes the
port of Sync and Pixel messages (DESIGN CHOICE, log entry 105). -/
def State.flowPort (s : State) (dest cls flow : Nat) : Option Nat :=
  match s.waysTo dest with
  | [] => none
  | x :: l =>
    if cls = 0 ∨ cls = 2 ∨ s.get 0x7800 8 ≠ 1 then some x
    else
      match s.fabric.flows.find? (fun y => y.dest == dest && y.cls == cls && y.flow == flow && (x :: l).contains y.port) with
      | some y => some y.port
      | none => some (l.foldl (fun b k => if s.queued k cls < s.queued b cls then k else b) x)

/-- A message's flits sent on a port. -/
def State.sendFlitsOn (s : State) (k dest cls flow : Nat) (msg : List Byte) : State :=
  let ps := pieces (msg.length / 242 + 1) msg
  s.portSend k (ps.zipIdx.map (fun (x : List Byte × Nat) =>
    { ty := 1, seq := 0, ack := 0, dest := dest, cls := cls, src := s.selfNode, vc := if s.crosses k then 1 else 0,
      first := x.2 == 0, last := x.2 + 1 == ps.length, flow := flow, payload := x.1 }))

/-- No route leads to the destination of a message of a class (R346). -/
def State.noRoute (s : State) (cls : Nat) : State :=
  if cls = 2 then (s.bump 0x3431 6).setFlag (okey 0 0x3430 0) 8 else s.setFlag (okey 0 0x7801 0) 6

/-- A message's flits sent toward its destination; none is sent to a node that cannot be reached (R346). -/
def State.sendFlits (s : State) (dest cls flow : Nat) (msg : List Byte) : State :=
  match s.flowPort dest cls flow with
  | none => s.noRoute cls
  | some k =>
    let keep := s.fabric.flows.filter (fun x => !(x.dest == dest && x.cls == cls && x.flow == flow))
    let s := if cls = 1 ∨ cls = 3 then { s with fabric := { s.fabric with flows := ⟨dest, cls, flow, k⟩ :: keep } } else s
    s.sendFlitsOn k dest cls flow msg

/-- Messages behind the limit of 64 sent as room appears (R345). -/
def State.drainE2e (s : State) (dest cls : Nat) : Nat → State
  | 0 => s
  | n + 1 =>
    let r := s.e2eTx dest cls
    match r.held with
    | [] => s
    | (flow, m) :: l =>
      if 64 ≤ r.msgs.length then s
      else
        let m := leBytes 2 r.next ++ m.drop 2
        let s := s.freeFlow dest cls flow
        let s := s.putE2eTx { r with held := l, next := (r.next + 1) % 65536, msgs := r.msgs ++ [(r.next, flow, m)],
                                     at_ := if r.msgs.isEmpty then s.now else r.at_, tries := if r.msgs.isEmpty then 0 else r.tries }
        (s.sendFlits dest cls flow m).drainE2e dest cls n

/-- A message sent to a node (R345): Control and Bulk messages, acknowledgements apart, are kept until they are
acknowledged end to end; one to a node that cannot be reached fails (R346). -/
def State.sendMsg (s : State) (dest cls kind attr target flow : Nat) (payload : List Byte) : State :=
  let r := s.e2eTx dest cls
  if (s.route dest).isNone then s.noRoute cls
  else if (cls = 1 ∨ cls = 3) ∧ kind ≠ 2 then
    (s.putE2eTx { r with held := r.held ++ [(flow, msgBytes 0 kind attr target payload)] }).drainE2e dest cls 1
  else
    let m := msgBytes r.next kind attr target payload
    ((if kind = 2 then s else s.putE2eTx { r with next := (r.next + 1) % 65536 }).freeFlow dest cls flow).sendFlits dest cls flow m

/-- A Control message sent to the neighbour of a port on that port (R353, R354); behind the limit of 64 it waits with the others. -/
def State.sendMsgOn (s : State) (k dest kind attr target flow : Nat) (payload : List Byte) : State :=
  let r := s.e2eTx dest 1
  if 64 ≤ r.msgs.length ∨ !r.held.isEmpty then s.sendMsg dest 1 kind attr target flow payload
  else
    let m := msgBytes r.next kind attr target payload
    (s.putE2eTx { r with next := (r.next + 1) % 65536, msgs := r.msgs ++ [(r.next, flow, m)], at_ := if r.msgs.isEmpty then s.now else r.at_,
                         tries := if r.msgs.isEmpty then 0 else r.tries }).sendFlitsOn k dest 1 flow m

/-- A FLOW value (R345). -/
def State.flowOf (s : State) (ini what : Nat) : Nat := Config.flowHash s.fabric.flowKey ini what % 65536

end Sys2Proof.Machine
end

