-- ==== Sys2Proof/Machine/Surfaces.lean ====
section
/-!
DEFINITION. Surfaces (chapter 05): handles, placement in the tile store and the DRAM groups, apertures, sharing,
allocation and freeing, and reading and writing a surface's content.
-/
namespace Sys2Proof.Machine

/-! ## Capacity (R315, R316) -/

def tsBase : Nat := 0x80000000
def bankBytes : Nat := 1572864
def dramBase : Nat := 0x1000000000
def groupSpan : Nat := 8 * 2 ^ 30
def mib : Nat := 2 ^ 20

/-- Banks of the tile store. -/
def Cfg.banks (c : Cfg) : Nat := if c.compact then 16 else 32

/-- DRAM channel groups. -/
def Cfg.groups (c : Cfg) : Nat := if c.compact then 4 else 8

/-- The channels of a group (R123). -/
def Cfg.groupChans (c : Cfg) (g : Nat) : List Nat :=
  if c.dramGen = 4 then [2 * g, 2 * g + 1] else [4 * g, 4 * g + 1, 4 * g + 2, 4 * g + 3]

/-- The group of a channel. -/
def Cfg.chanGroup (c : Cfg) (ch : Nat) : Nat := if c.dramGen = 4 then ch / 2 else ch / 4

/-- A channel is usable (0x3040 + c:01). -/
def State.chanUsable (s : State) (ch : Nat) : Bool := s.get (0x3040 + ch) 1 == 1

def State.usableChans (s : State) (g : Nat) : List Nat := (s.cfg.groupChans g).filter s.chanUsable

/-- A tile-store bank is usable (0x30A0 + b:01): it is not marked unusable; one that is off is powered before use (R331). -/
def State.bankUsable (s : State) (b : Nat) : Bool := s.get (0x30A0 + b) 1 != 3

/-- Bounds of a group's ECC part and plain part, as internal addresses: start, end of the ECC part, end. -/
def State.groupBounds (s : State) (g : Nat) : Nat × Nat × Nat :=
  let base := dramBase + g * groupSpan
  let raw := (s.usableChans g).length * s.cfg.dramMib
  let ecc := min (s.get (0x3080 + g) 2) raw
  (base, base + ecc * 7 / 8 * mib, base + (raw - ecc / 8) * mib)

/-- CAPACITY_MIB of GroupStatus. -/
def State.groupMib (s : State) (g : Nat) : Nat :=
  let raw := (s.usableChans g).length * s.cfg.dramMib
  raw - min (s.get (0x3080 + g) 2) raw / 8

/-! ## Spans -/

def Surf.span (f : Surf) : Nat := f.size + f.hdrSize

/-- The address spans that are taken in the tile store or a DRAM group: surfaces and the destinations of migrations. -/
def State.spans (s : State) : List (Nat × Nat) :=
  (s.place.surfs.filter (fun f => f.loc < 2 && !f.homeless)).map (fun f => (f.addr, f.span))
  ++ (s.place.migs.filter (fun m => m.loc < 2)).map (fun m => (m.addr, ((s.place.surfs.find? (fun f => f.id == m.surf)).map Surf.span).getD 0))

/-- The lowest address in [lo, hi) at which `size` bytes meet no span and pass a test, among the given starts and the
ends of the spans. -/
def findSpan (spans : List (Nat × Nat)) (starts : List Nat) (lo hi size : Nat) (ok : Nat → Bool) : Option Nat :=
  let cs := (starts ++ spans.map (fun x => x.1 + x.2)).filter (fun a =>
    lo ≤ a && a + size ≤ hi && ok a && !spans.any (fun x => a < x.1 + x.2 && x.1 < a + size && 0 < x.2))
  match cs with
  | [] => none
  | a :: r => some (r.foldl min a)

/-- A place in the tile store (R123) for a surface of `data` bytes and its tile headers: the data of one of at most a bank
within one usable bank, all else over consecutive usable banks. -/
def State.findTs (s : State) (data hdr : Nat) : Option Nat :=
  let size := data + hdr
  let n := s.cfg.banks
  let starts := (List.range n).map (fun b => tsBase + b * bankBytes)
  findSpan s.spans starts tsBase (tsBase + n * bankBytes) size (fun a =>
    let b0 := (a - tsBase) / bankBytes
    let b1 := (a + size - 1 - tsBase) / bankBytes
    (bankBytes < data || b0 == (a + (if size ≤ bankBytes then size else data) - 1 - tsBase) / bankBytes) && (List.range (b1 + 1 - b0)).all (fun i => s.bankUsable (b0 + i)))

/-- A place in a group: in the ECC part for class A, in the plain part for the others. -/
def State.findGroup (s : State) (g cls size : Nat) : Option Nat :=
  let b := s.groupBounds g
  let lo := if cls = 0 then b.1 else b.2.1
  let hi := if cls = 0 then b.2.1 else b.2.2
  findSpan s.spans [lo] lo hi size (fun _ => true)

/-! ## Use and quotas -/

/-- Bytes of a partition's surfaces in the tile store or in DRAM. -/
def State.usedBytes (s : State) (p loc : Nat) : Nat :=
  sumBy Surf.span (s.place.surfs.filter (fun f => f.owner == p && f.loc == loc && !f.homeless))

/-- Bytes used in a group. -/
def State.groupUsed (s : State) (g : Nat) : Nat :=
  sumBy Surf.span (s.place.surfs.filter (fun f => f.loc == 1 && f.group == g && !f.homeless))

/-- A number of bytes in MiB, rounded up. -/
def ceilMib (n : Nat) : Nat := (n + mib - 1) / mib

/-- A partition's quota holds `size` more bytes in the tile store or in DRAM. -/
def State.quotaOk (s : State) (p loc size : Nat) : Bool :=
  if loc = 0 then s.usedBytes p 0 + size ≤ s.get (0x3400 + p) 4 * 1024
  else s.usedBytes p 1 + size ≤ s.get (0x3400 + p) 5 * mib

/-- The group of a set that holds a surface, with the lowest used-to-capacity ratio and then the lowest number. -/
def State.bestGroup (s : State) (set cls size : Nat) : Option (Nat × Nat) :=
  let gs := (List.range s.cfg.groups).filter (fun g => bit set g && 0 < s.groupMib g)
  gs.foldl (fun best g =>
    match s.findGroup g cls size with
    | none => best
    | some a =>
      match best with
      | none => some (g, a)
      | some (b, _) =>
        if s.groupUsed g * s.groupMib b < s.groupUsed b * s.groupMib g then some (g, a) else best) none

/-! ## Hash contexts (R128, R129) -/

/-- The current context of a group (0x3460 + g:01). -/
def State.curCtx (s : State) (g : Nat) : Nat := s.get (0x3460 + g) 1

/-- The channel of a 256-byte sector under a context (R128). -/
def HashCtx.channel (x : HashCtx) (off : Nat) : Nat :=
  let k := off / 256
  let h := (List.range 8).foldl (fun h j => h + 2 ^ j * (popCount 32 (k &&& (nth 0 x.masks j * 256 + 2 ^ j)) % 2)) 0
  nth 0 x.chans (h % max 1 x.chans.length)

/-- Contexts without surfaces released, other than the current ones. -/
def State.releaseCtxs (s : State) : State :=
  let used := fun g c => s.place.surfs.any (fun f => f.loc == 1 && f.group == g && f.ctx == c && !f.homeless)
    || s.place.migs.any (fun m => m.loc == 1 && m.group == g && m.ctx == c)
  let keep := s.place.ctxs.filter (fun x => x.ctx == s.curCtx x.group || used x.group x.ctx)
  let s := { s with place := { s.place with ctxs := keep } }
  foldS (fun s g => s.put (0x3460 + g) 2
    ((List.range 4).foldl (fun m c => if c == s.curCtx g || used g c then m + 2 ^ c else m) 0)) s (List.range s.cfg.groups)

/-- A new context with fresh masks over the usable channels, made current (R129). The masks are drawn from the device
RNG, whose values nothing states (DESIGN CHOICE, log entry 3). -/
def State.newCtx (s : State) (g c : Nat) : State :=
  let masks := (List.range 8).map (fun j => (Config.freeWord (s.fresh + j)).toNat % 2 ^ 24)
  let x : HashCtx := ⟨g, c, masks, s.usableChans g, s.now⟩
  let s := { s with fresh := s.fresh + 8,
                    place := { s.place with ctxs := x :: s.place.ctxs.filter (fun y => !(y.group == g && y.ctx == c)) } }
  (s.put (0x3460 + g) 1 c).releaseCtxs

/-- A context number of a group that is free. -/
def State.freeCtx (s : State) (g : Nat) : Option Nat :=
  (List.range 4).find? (fun c => !(bit (s.get (0x3460 + g) 2) c))

/-- A re-key (R129): a new current context, the count and the event; while all four are in use it waits. -/
def State.rekey (s : State) (g : Nat) : State :=
  let due := s.place.rekeyDue.filter (fun x => x != g)
  match s.freeCtx g with
  | none => { s with place := { s.place with rekeyDue := due ++ [g] } }
  | some c =>
    let s := { s with place := { s.place with rekeyDue := due, rekeyed := (g, s.now) :: s.place.rekeyed.filter (fun y => y.1 != g) } }
    ((s.newCtx g c).bump 0x3431 3).raise 0x3430 g 1 sevNotice 0 [byteOf g]

/-- A group was re-keyed within REKEY_MIN_S. -/
def State.rekeyedLately (s : State) (g : Nat) : Bool :=
  s.place.rekeyed.any (fun x => x.1 == g && decide (s.now < x.2 + s.get 0x3420 7 * 1000000000))

/-- A re-key where R129 allows one: not within REKEY_MIN_S of the last, and only while the entropy source that gives its masks
works. DEDUCED, log entry 124. -/
def State.rekeyAllowed (s : State) (g : Nat) : State :=
  if s.rekeyedLately g ∨ s.get 0x9180 1 = 0 then s else s.rekey g

/-! ## Content -/

/-- A bank accessed: it is active from now (R331). -/
def State.touchBank (s : State) (b : Nat) : State :=
  let s := if s.get (0x30A0 + b) 1 = 3 then s else s.put (0x30A0 + b) 1 1
  { s with memc := { s.memc with bankAt := (b, s.now) :: s.memc.bankAt.filter (fun x => x.1 != b) } }

/-- Banks that a span covers. -/
def banksOf (a n : Nat) : List Nat :=
  if n = 0 ∨ a < tsBase then [] else
    (List.range ((a + n - 1 - tsBase) / bankBytes + 1 - (a - tsBase) / bankBytes)).map (fun i => (a - tsBase) / bankBytes + i)

/-- The banks of an access, if it lies in the tile store. -/
def State.touchTs (s : State) (a n : Nat) : State :=
  if tsBase ≤ a ∧ a < tsBase + s.cfg.banks * bankBytes then foldS State.touchBank s (banksOf a n) else s

/-- The first 64-bit word of a range that holds an uncorrectable error (R329). -/
def State.firstBroken (s : State) (a n : Nat) : Option Nat :=
  s.memc.broken.find? (fun w => 0 < n && w < a + n && a < w + 8)

/-- The word at an address holds an uncorrectable error from now. -/
def State.breakWord (s : State) (a : Nat) : State :=
  { s with memc := { s.memc with broken := s.memc.broken.filter (fun w => w != a / 8 * 8) ++ [a / 8 * 8] } }

/-- The words of a range are written: what was wrong in them is gone (R329). -/
def State.mend (s : State) (a n : Nat) : State :=
  { s with memc := { s.memc with broken := s.memc.broken.filter (fun w => !(0 < n && w < a + n && a < w + 8)) } }

/-- Bytes written to memory. -/
def State.wrMem (s : State) (a : Nat) (d : List Byte) : State := (s.wrBytes a d).mend a d.length

/-- Bytes as the engines read them: zero in a 256-byte sector that holds an uncorrectable error (R329). -/
def State.rdSectors (s : State) (a n : Nat) : List Byte :=
  if s.memc.broken.isEmpty then s.rdBytes a n
  else ((List.range n).zip (s.rdBytes a n)).map (fun x =>
    if (s.firstBroken ((a + x.1) / 256 * 256) 256).isSome then 0 else x.2)

/-- Every byte of a range back at what an unlisted address reads as. -/
def State.clearRange (s : State) (a n : Nat) : State :=
  ({ s with mem := s.mem.filter (fun c => c.1 < a || a + n ≤ c.1) } : State).mend a n

/-- The tile header that zero content has (R148). -/
def zeroHeader (f : Nat) : Nat :=
  match fmtFamily f with
  | 1 | 2 | 4 | 5 => 0x200
  | 3 => 0x400
  | _ => rawTileBytes f / 256

def Surf.tiles (f : Surf) : Nat := tileCols f.w * tileRows f.h

/-- A surface made to read as zero content (R148). -/
def State.zeroSurf (s : State) (f : Surf) : State :=
  let s := s.clearRange f.addr f.span
  if f.layout = 2 then foldS (fun s t => s.wrBytes (f.hdr + 8 * t) (leBytes 8 (zeroHeader f.format))) s (List.range f.tiles)
  else s

def State.surf (s : State) (id : Nat) : Option Surf := s.place.surfs.find? (fun f => f.id == id)

def State.putSurf (s : State) (f : Surf) : State :=
  { s with place := { s.place with surfs := s.place.surfs.map (fun x => if x.id = f.id then f else x) } }

/-- A surface as a source of pixels; one without a place, or on another node, reads zero bytes. -/
def State.surfSrc (s : State) (f : Surf) : PixSrc :=
  let none_ := f.homeless || f.loc == 2
  { w := f.w, h := f.h, format := f.format, layout := f.layout, clear := f.clear,
    data := fun o n => if none_ then List.replicate n 0 else s.rdSectors (f.addr + o) n,
    hdr := fun t => if none_ then zeroHeader f.format else leNat (s.rdSectors (f.hdr + 8 * t) 8) }

/-- The first word with an uncorrectable error that the read of a tile of a placed surface meets: in its header, or in the data it is
read from. -/
def State.tileBroken (s : State) (f : Surf) (t : Nat) : Option Nat :=
  let n := rawTileBytes f.format
  let data := s.firstBroken (f.addr + t * n)
  if f.homeless ∨ f.loc = 2 then none
  else if f.layout = 2 then
    let h := (s.surfSrc f).hdr t
    ((s.firstBroken (f.hdr + 8 * t) 8).or
      (if hdrCleared h || hdrConstant h || hdrTransparent h then none else data (hdrSectors h * 256)))
  else data n

/-- A surface as composers read it: a tile whose read meets an uncorrectable error is a decode error (R329). -/
def State.tileSrc (s : State) (f : Surf) : PixSrc :=
  let q := s.surfSrc f
  if s.memc.broken.isEmpty || f.layout = 0 then q
  else { q with layout := 2, hdr := fun t =>
    if (s.tileBroken f t).isSome then 0x3000 else if f.layout = 2 then q.hdr t else rawTileBytes f.format / 256 }

/-- A fallback image of the plan as a source (R107, R153): the headers of its tiles, then the tiles' slots. -/
def imageSrc (i : PlanImage) (lib : List Byte) : PixSrc :=
  let data := if i.whereIs = 0 then i.data else lib
  let n := tileCols i.width * tileRows i.height
  { w := i.width, h := i.height, format := i.format, layout := 2, clear := 0,
    data := fun o k => bytesAt data (8 * n + o) k, hdr := fun t => numAt data (8 * t) 8 }

/-- A surface is in the hold of its migration: its writers are back-pressured until the next epoch (R131 step 3). -/
def State.isHeld (s : State) (id : Nat) : Bool := s.place.migs.any (fun m => m.surf == id && m.phase == 3)

/-- An access to `n` bytes of a surface at an offset: the banks of the tile store that it touches are active (R331), and it counts in
the window that runs (R130). -/
def State.heat (s : State) (id off n : Nat) : State :=
  let s := (s.surf id).elim s (fun f => if f.loc = 0 ∧ !f.homeless then s.touchTs (f.addr + off) n else s)
  { s with place := { s.place with surfs := s.place.surfs.map (fun f => if f.id = id then { f with hot := f.hot + n } else f) } }

/-- Migrations ended, whether switched, abandoned or cancelled (R133). -/
def State.endMigs (s : State) (p : Migration → Bool) : State :=
  let l := s.place.migs.filter p
  let gs := l.map (fun m => if m.loc = 1 then m.group else 0xFF)
  let keep := s.place.migEnded.filter (fun x => !gs.contains x.1)
  { s with place := { s.place with migs := s.place.migs.filter (fun m => !p m), migEnded := gs.map (fun g => (g, s.now)) ++ keep,
                                   heldWrites := s.place.heldWrites.filter (fun w => !l.any (fun m => m.surf == w.surf)) } }

/-- Bytes of a surface's data or header area written, or waiting at their port while the surface is held. -/
def State.wrArea (s : State) (f : Surf) (header : Bool) (off : Nat) (data : List Byte) : State :=
  if s.isHeld f.id then { s with place := { s.place with heldWrites := s.place.heldWrites ++ [⟨f.id, header, off, data⟩] } }
  else s.wrMem ((if header then f.hdr else f.addr) + off) data

/-- Bytes [off, off + n) of a surface written through a writer: the pages are marked dirty while it migrates (R131). -/
def State.markDirty (s : State) (id off n : Nat) : State :=
  let pages := (List.range ((off + n - 1) / 65536 + 1 - off / 65536)).map (fun i => off / 65536 + i)
  if n = 0 then s
  else
    let mark := fun m : Migration =>
      if m.surf = id then { m with dirty := m.dirty ++ pages.filter (fun p => !m.dirty.contains p) } else m
    ({ s with place := { s.place with migs := s.place.migs.map mark } } : State).heat id off n

/-- Bytes written into a surface's data area at an offset; without a place they are discarded. -/
def State.wrSurf (s : State) (f : Surf) (off : Nat) (data : List Byte) : State :=
  if f.homeless ∨ f.loc = 2 then s else (s.wrArea f false off data).markDirty f.id off data.length

/-- One tile given in raw form written by a device-side writer: under R155 in COMPRESSED layout. -/
def State.wrTile (s : State) (f : Surf) (t : Nat) (raw : List Byte) : State :=
  let n := rawTileBytes f.format
  if f.homeless ∨ f.loc = 2 then s
  else if f.layout = 2 then
    let e := encodeRaw f.format raw
    ((s.wrArea f false (t * n) e.2).wrArea f true (8 * t) (leBytes 8 e.1)).markDirty f.id (t * n) n
  else s.wrSurf f (t * n) raw

/-- A header alone written: a fast clear or a constant tile. -/
def State.wrHeader (s : State) (f : Surf) (t h : Nat) : State :=
  if f.homeless ∨ f.loc = 2 ∨ f.layout ≠ 2 then s
  else (s.wrArea f true (8 * t) (leBytes 8 h)).markDirty f.id (t * rawTileBytes f.format) (rawTileBytes f.format)

/-! ## Handles (R120 to R122) -/

/-- The live slot that a handle of a partition names. -/
def State.handle (s : State) (p h : Nat) : Option Handle :=
  s.place.handles.find? (fun x => x.part == p && x.live && x.slot == h % 4096 && x.gen == h / 4096 && 0 < x.gen)

/-- The value of a handle. -/
def Handle.value (x : Handle) : Nat := x.gen * 4096 + x.slot

/-- The surface that a handle of a partition names. -/
def State.handleSurf (s : State) (p h : Nat) : Option (Handle × Surf) :=
  match s.handle p h with
  | none => none
  | some x => (s.surf x.surf).map (fun f => (x, f))

/-- A slot's record, absent while it was never allocated. -/
def State.slotRec (s : State) (p slot : Nat) : Option Handle :=
  s.place.handles.find? (fun x => x.part == p && x.slot == slot)

/-- The lowest slot of a partition that is free and not retired, with the generation it takes. -/
def State.freeSlot (s : State) (p : Nat) : Option (Nat × Nat) :=
  (List.range 4096).findSome? (fun k =>
    match s.slotRec p k with
    | none => some (k, 1)
    | some x => if x.live || x.retired then none else some (k, x.gen))

def State.putHandle (s : State) (x : Handle) : State :=
  { s with place := { s.place with
    handles := x :: s.place.handles.filter (fun y => !(y.part == x.part && y.slot == x.slot)) } }

/-! ## Apertures (R125, R126) -/

/-- BAR2 bytes of a partition's function. -/
def State.barBytes (s : State) (p : Nat) : Nat := if p = 0 then 2 ^ 36 else 2 ^ s.place.vfBar

/-- Aperture ranges of a partition that are assigned or quarantined. -/
def State.aperSpans (s : State) (p : Nat) : List (Nat × Nat) :=
  ((s.place.handles.filter (fun x => x.part == p && x.live)).map (fun x =>
    (x.aper, ((s.surf x.surf).map (fun f => f.size)).getD 0)))
  ++ (s.place.quarantine.filter (fun q => q.part == p)).map (fun q => (q.aper, q.size))

/-- A contiguous free range in a partition's BAR2. -/
def State.freeAper (s : State) (p size : Nat) : Option Nat :=
  findSpan (s.aperSpans p) [0] 0 (s.barBytes p) size (fun _ => true)

/-- A range put into quarantine until the second frame epoch after now. -/
def State.quarantineAper (s : State) (p aper size : Nat) : State :=
  { s with place := { s.place with quarantine := ⟨p, aper, size, 2⟩ :: s.place.quarantine } }

/-- An epoch passes for the quarantined ranges. -/
def State.ageQuarantine (s : State) : State :=
  { s with place := { s.place with
    quarantine := (s.place.quarantine.map (fun q => { q with left := q.left - 1 })).filter (fun q => 0 < q.left) } }

/-! ## Allocation (R123, R124) -/

/-- What an ALLOCATE, FREE or SHARE answers: status and the two results. -/
structure PlaceAns where
  status : Nat
  r0 : Nat
  r1 : Nat
  deriving DecidableEq, Repr

/-- A dimension of an allocate command: R123, then R147 for the formats that need it even. -/
def allocDim (even : Bool) (v : Nat) : Nat × Nat :=
  let c : Nat × Nat := if v = 0 then (1, codeClampedLow) else if 8192 < v then (8192, codeClampedHigh) else (v, 0)
  if !even then c
  else if c.1 = 1 then (2, if c.2 = 0 then codeClampedLow else c.2)
  else if c.1 % 2 = 1 then (c.1 - 1, if c.2 = 0 then codeRounded else c.2)
  else c

/-- The class an allocation is stored with and its status. -/
def State.allocClass (s : State) (p cls : Nat) : Nat × Nat :=
  let top := (s.plan.active.map (fun a => a.maxClass p)).getD 3
  let c := if 3 < cls then 3 else cls
  let c' := max c top
  (c', if c' = cls then 0 else codeEnumReplaced)

def roundUp (n k : Nat) : Nat := (n + k - 1) / k * k

/-- Where a new surface of `size` bytes and its tile headers go: target and address, after the Notice record of step 1 when
the tile store could not take a pinned class A surface; or the refusal code, QUOTA_EXCEEDED before NO_SPACE (R124). -/
def State.choosePlace (s : State) (p cls size hdr : Nat) : State × Option (Nat × Nat × Nat) × Nat :=
  let span := size + hdr
  let pin := cls = 0 && s.get (0x3400 + p) 1 == 1
  let tsFit := s.findTs size hdr
  let tsQ := s.quotaOk p 0 span
  let notice := fun (s : State) (code : Nat) => s.raiseCode 3 0 code sevNotice p (leBytes 4 (size / 1024))
  let step1 := if pin && tsQ then tsFit else none
  match step1 with
  | some a => (s, some (0, 0, a), 0)
  | none =>
    let s := if pin then notice s (if tsFit.isSome && !tsQ then codeQuotaExceeded else codeNoSpace) else s
    let dq := s.quotaOk p 1 span
    let pref := s.bestGroup (s.get (0x3400 + p) 2 &&& s.get (0x3400 + p) 3) cls span
    let any := s.bestGroup (s.get (0x3400 + p) 3) cls span
    let pick := pref.orElse (fun _ => any)
    match if dq then pick else none with
    | some (g, a) => (s, some (1, g, a), 0)
    | none => (s, none, if pin && !tsQ || !dq then codeQuotaExceeded else codeNoSpace)

/-- A new surface record at a place. -/
def State.addSurf (s : State) (f : Surf) : State :=
  { s with place := { s.place with surfs := s.place.surfs ++ [f], nextId := s.place.nextId + 1 } }

/-- An ALLOCATE (R123, R124). `reach` tells the nodes that are reachable. How this node learns the address of a surface on
another node the manual does not say: it is a free value (DESIGN CHOICE, log entry 3). -/
def State.allocate (s : State) (reach : Nat → Bool) (p w h format layout cls : Nat) : State × PlaceAns :=
  if !formatOk format || 2 < layout then (s, ⟨codeFormatUnsupported, 0, 0⟩)
  else
    let fam := fmtFamily format
    let dw := allocDim (6 ≤ fam) w
    let dh := allocDim (fam == 6 || fam == 7) h
    let dc := s.allocClass p cls
    let st := if dw.2 = codeRounded && dh.2 = codeClampedLow then codeClampedLow
              else if dw.2 ≠ 0 then dw.2 else if dh.2 ≠ 0 then dh.2 else dc.2
    let size := roundUp (surfaceBytes format layout dw.1 dh.1) 65536
    let hdrSize := if layout = 2 then roundUp (tileCols dw.1 * tileRows dh.1 * 8) 65536 else 0
    match s.freeSlot p with
    | none => (s, ⟨codeSlotsFull, 0, 0⟩)
    | some (slot, gen) =>
      match s.freeAper p size with
      | none => (s, ⟨codeApertureFull, 0, 0⟩)
      | some ap =>
        let home := s.get (0x3400 + p) 7
        let remote := home ≠ 0xFF && home ≠ s.selfNode && reach home
        let c := if remote then (s.useFree, some (2, home, s.freeW.toNat % 2 ^ 24 * 65536), 0) else s.choosePlace p dc.1 size hdrSize
        match c.2.1 with
        | none => (c.1, ⟨c.2.2, 0, 0⟩)
        | some (loc, g, a) =>
          let s := c.1
          let f : Surf := { id := s.place.nextId, owner := p, w := dw.1, h := dh.1, format := format, layout := layout,
                            cls := dc.1, size := size, hdrSize := hdrSize, loc := loc, group := g, addr := a,
                            hdr := a + size, ctx := if loc = 1 then s.curCtx g else 0, clear := 0, lost := false,
                            homeless := false, image := none, hot := 0 }
          let s := (s.addSurf f).putHandle ⟨p, slot, gen, true, false, f.id, 0, ap⟩
          let s := if remote then s else s.zeroSurf f
          (s, ⟨st, gen * 4096 + slot + size * 2 ^ 32, ap⟩)

/-! ## Freeing (R121, R126, R127) -/

/-- One handle ended: its slot freed with the generation advanced or retired, and its range quarantined. -/
def State.endHandle (s : State) (x : Handle) : State :=
  let size := ((s.surf x.surf).map (fun f => f.size)).getD 0
  let s := s.quarantineAper x.part x.aper size
  if x.gen = 0xFFFFF then
    let s := s.putHandle { x with live := false, retired := true }
    (s.put 0x3431 5 (min 65535 (s.get 0x3431 5 + 1))).raise 0x3430 0 7 sevNotice x.part
      ([byteOf x.part] ++ leBytes 2 x.slot)
  else s.putHandle { x with live := false, gen := x.gen + 1 }

/-- Owner number of a freed surface that a layer reads until the next epoch (R268). -/
def freedOwner : Nat := 254

/-- A FREE of a live handle: by the owner every grant ends and the surface's space is released, with any migration of
it; by a grantee its own handle alone. The space of a surface that a layer has latched is released at the next epoch. -/
def State.freeHandle (s : State) (x : Handle) : State :=
  if x.rights = 0 then
    let all := s.place.handles.filter (fun y => y.live && y.surf == x.surf)
    let s := foldS (fun s y => s.endHandle y) s all
    let left := s.place.surfs.filter (fun f => f.id != x.surf)
    let last := (s.place.surfs.filter (fun f => f.id == x.surf && s.comp.layers.any (fun l => decide (l.src = .surf x.surf)))).map
      (fun f => { f with owner := freedOwner })
    ({ s with place := { s.place with surfs := left ++ last, retry := s.place.retry.filter (fun r => r.1 != x.surf) } } : State).endMigs
      (fun m => m.surf == x.surf) |>.releaseCtxs
  else s.endHandle x

/-- Every retired slot released with GEN 1 (R121), at a plan swap. -/
def State.releaseRetired (s : State) : State :=
  let s := { s with place := { s.place with
    handles := s.place.handles.map (fun x : Handle => if x.retired then { x with retired := false, gen := 1 } else x) } }
  s.put 0x3431 5 0

/-! ## Sharing (R127) -/

/-- The masks that a surface's protection entry holds: read in the low half, write above it; in owner-table mode those of
its share set, which leave the owner out (R284, R285). -/
def State.masksOf (s : State) (table : Bool) (f : Surf) : Nat :=
  let l := s.place.handles.filter (fun h => h.live && h.surf == f.id && !(table && h.rights == 0))
  l.foldl (fun m h => let m := setBit m h.part true; if h.rights = 1 then m else setBit m (16 + h.part) true) 0

/-- Different masks in use: ranges of the range table, or share sets. -/
def State.maskSets (s : State) : Nat :=
  let table := s.get 0x2010 1 == 1
  let l := ((s.place.surfs.filter (fun f => f.owner < 16 && f.loc < 2)).map (s.masksOf table)).filter (fun m => m != 0)
  l.eraseDups.length

/-- Entries that the tables have for them. -/
def State.maskLimit (s : State) : Nat := if s.get 0x2010 1 = 1 then 255 else if s.cfg.compact then 64 else 128

/-- A SHARE; one that needs a new range or share set where all are in use grants nothing (R284, R285). -/
def State.share (s : State) (p h grantee rights : Nat) : State × PlaceAns :=
  match s.handleSurf p h with
  | none => (s, ⟨codeStaleHandle, 0, 0⟩)
  | some (x, f) =>
    if x.rights ≠ 0 then (s, ⟨codeNotOwner, 0, 0⟩)
    else if s.cfg.parts ≤ grantee ∨ grantee = p ∨ ¬(rights = 1 ∨ rights = 2) then (s, ⟨codeBadCommand, 0, 0⟩)
    else
      match s.freeSlot grantee with
      | none => (s, ⟨codeSlotsFull, 0, 0⟩)
      | some (slot, gen) =>
        match s.freeAper grantee f.size with
        | none => (s, ⟨codeApertureFull, 0, 0⟩)
        | some ap =>
          let s' := s.putHandle ⟨grantee, slot, gen, true, false, f.id, rights, ap⟩
          if s.maskLimit < s'.maskSets then (s, ⟨codeNoSpace, 0, 0⟩) else (s', ⟨0, gen * 4096 + slot, ap⟩)

end Sys2Proof.Machine
end

