-- ==== Sys2Proof/Machine/Queue.lean ====
section
/-!
DEFINITION. What every queue command shares (chapter 11): fences, completion records, taking the command at the head
of a ring, and the presents that layers hold.
-/
namespace Sys2Proof.Machine

def qIdx (p q : Nat) : Nat := 0x7400 + p * 0x10 + q
def qState (p q : Nat) : Nat := 0x7408 + p * 0x10 + q

/-- The record of a queue. -/
def State.queueSt (s : State) (p q : Nat) : QueueSt :=
  (s.queue.queues.find? (fun x => x.part == p && x.queue == q)).getD
    ⟨p, q, 0, 8, 0, none, none, 0, [], none, 0, false, none⟩

def State.putQueue (s : State) (x : QueueSt) : State :=
  { s with queue := { s.queue with
    queues := x :: s.queue.queues.filter (fun y => !(y.part == x.part && y.queue == x.queue)) } }

/-- PRODUCER, CONSUMER, CQ_TAIL and CQ_HEAD. -/
def State.producer (s : State) (p q : Nat) : Nat := s.get (qState p q) 2
def State.consumer (s : State) (p q : Nat) : Nat := s.get (qState p q) 3
def State.cqTail (s : State) (p q : Nat) : Nat := s.get (qState p q) 4
def State.cqHead (s : State) (p q : Nat) : Nat := s.get (qIdx p q) 7

/-- (a − b) modulo 2^32. -/
def sub32 (a b : Nat) : Nat := (a + 2 ^ 32 - b % 2 ^ 32) % 2 ^ 32

/-- The completion ring has no room (R265). -/
def State.cqFull (s : State) (p q : Nat) : Bool :=
  sub32 (s.cqTail p q) (s.cqHead p q) == 2 ^ (s.queueSt p q).log2

/-! ## Fences (R273) -/

def State.fenceVal (s : State) (p k : Nat) : Nat := s.get (0x7600 + p) (k + 1)

/-- A signal of fence `k` of partition `p` to `v`, with the status of the command that signals it. -/
def State.signal (s : State) (p k v status : Nat) : State :=
  let s := if s.fenceVal p k < v then s.put (0x7600 + p) (k + 1) v else s.bumpW 32 p 0x7702 3 1
  s.put (0x7610 + p) (k + 1) status

/-! ## Completion (R265) -/

def CqRec.bytes (r : CqRec) : List Byte :=
  leBytes 4 r.tag ++ leBytes 4 r.status ++ leBytes 8 r.r0 ++ leBytes 8 r.r1 ++ leBytes 8 r.time

/-- A record written at CQ_TAIL, and the interrupt it asks for. -/
def State.writeCq (s : State) (p q : Nat) (r : CqRec) : State :=
  let x := s.queueSt p q
  let t := s.cqTail p q
  let s := (s.emit (.hostWrite p (x.cqBase + t % 2 ^ x.log2 * 32) r.bytes)).put (qState p q) 4 ((t + 1) % 2 ^ 32)
  if r.irq then s.emit (.msi p (s.get (qIdx p q) 5)) else s

/-- A completion record: written at once, or kept while the ring is full. -/
def State.record (s : State) (p q : Nat) (r : CqRec) : State :=
  let x := s.queueSt p q
  if s.cqFull p q || !x.waiting.isEmpty then s.putQueue { x with waiting := x.waiting ++ [r] }
  else
    let s := s.writeCq p q r
    if s.cqFull p q then s.setFlag (okey p 0x7701 0) 3 else s

/-- Statuses that are recorded as Notice records in code form (R142, R169, R233). -/
def codeRecorded (c : Nat) : Bool :=
  [codeStaleHandle, codeNotOwner, codeNoSpace, codeQuotaExceeded, codeApertureFull, codeSlotsFull, codeEnumReplaced,
   codeFormatMismatch, codeLayerNotOwned, codeStaticLayer, codeClampedLow, codeRounded, codeExpectNotAllowed].contains c

/-- A command completes, apart from the waits its signal ends: its fence is signalled if SIGNAL is set whatever the
status, the count advances and the record is written (R265, R272). -/
def State.completeRaw (s : State) (h : QHdr) (status r0 r1 : Nat) : State :=
  let s := if bit h.flags 0 && decide (h.fence < 255) then s.signal h.part h.fence h.value status else s
  let s := s.bumpW 64 h.part 0x7702 1 1
  let s := if status = codeBadCommand then s.setFlag (okey h.part 0x7701 0) 1 else s
  let s := if codeRecorded status then s.raiseCode 7 h.queue status sevNotice h.part [] else s
  s.record h.part h.queue ⟨h.tag, status, r0, r1, s.now, bit h.flags 1⟩

/-- CONSUMER past one command. -/
def State.advanceConsumer (s : State) (p q : Nat) : State := s.put (qState p q) 3 ((s.consumer p q + 1) % 2 ^ 32)

/-! ## Ready queues (R274) -/

/-- The kind of engine a command runs on: 0 copy, 1 render; none for a wait. -/
def QOp.kind : QOp → Option Nat
  | .wait _ _ _ => none
  | .render _ => some 1
  | _ => some 0

/-- Command units in use by check-value commands (R211, R271). DESIGN CHOICE, log entry 100. -/
def State.unitsHeld (s : State) : Nat := (s.queue.queues.filter (fun x => x.head.elim false (fun c => c.unitHeld))).length

/-- A command unit is free for a command, or it needs none. -/
def State.unitFree (s : State) (c : HeadCmd) : Bool :=
  match c.op with
  | .check _ _ _ _ _ => c.unitHeld || decide (s.unitsHeld < 16)
  | _ => true

/-- A queue is ready: the command at its head can start on an engine. -/
def State.queueReady (s : State) (p q : Nat) : Bool :=
  let x := s.queueSt p q
  s.get (qIdx p q) 1 == 1 && x.engine.isNone && x.waiting.isEmpty && !s.cqFull p q
    && x.head.elim false (fun c => c.op.kind.isSome && s.unitFree c)

/-- The record and STATE of a queue follow what it holds (0x7408:01, R274, R276): a queue that is neither ready nor
running has no deficit and waits for nothing. -/
def State.settleQueue (s : State) (p q : Nat) : State :=
  let x := s.queueSt p q
  let rdy := s.queueReady p q
  let x := if rdy then { x with ready := some (x.ready.getD s.now) }
    else if x.engine.isSome then { x with ready := none }
    else { x with ready := none, deficit := 0, promoted := false, sliceEnd := none }
  let st :=
    if s.get (qIdx p q) 1 = 0 then 0
    else if !x.waiting.isEmpty || s.cqFull p q then 7
    else if x.engine.isSome then 3
    else if x.promoted then 5
    else match x.head with
      | some c => if c.op.kind.isSome && rdy then 2 else 4
      | none => if s.producer p q = s.consumer p q then 1 else 2
  (s.putQueue x).put (qState p q) 1 st

/-! ## Waits -/

/-- A satisfied FENCE_WAIT of a partition. -/
def State.endedWait (s : State) (p : Nat) : Option (Nat × HeadCmd × Nat) :=
  (List.range 8).findSome? (fun q => match (s.queueSt p q).head with
    | some c => (match c.op with
      | .wait f v _ => if v ≤ s.fenceVal p f then some (q, c, s.fenceVal p f) else none
      | _ => none)
    | none => none)

/-- The FENCE_WAITs of a partition that a signal satisfies complete, and those their own signals satisfy. -/
def State.wake : Nat → State → Nat → State
  | 0, s, _ => s
  | n + 1, s, p =>
    match s.endedWait p with
    | none => s
    | some (q, c, v) =>
      let s := s.putQueue { s.queueSt p q with head := none }
      State.wake n (((s.completeRaw c.hdr 0 v 0).advanceConsumer p q).settleQueue p q) p

/-- A command completes, with the waits its signal ends (R273). -/
def State.complete (s : State) (h : QHdr) (status r0 r1 : Nat) : State :=
  ((s.completeRaw h status r0 r1).settleQueue h.part h.queue).wake 8 h.part

/-! ## Taking the command at the head -/

/-- The device takes the next command of a queue: a planner core runs (R27), the queue is enabled, holds a command, nothing is at its head and its
completion ring has room (R263 to R265). -/
def State.canTake (s : State) (p q : Nat) : Bool :=
  let x := s.queueSt p q
  s.pdOn 2 && s.coresUp && p < s.cfg.parts && s.hasFunction p && q < 8 && s.get (qIdx p q) 1 == 1 && s.producer p q != s.consumer p q
    && x.head.isNone && x.waiting.isEmpty && !s.cqFull p q

/-- A command breaks a rule of R266 in its common fields: a FLAGS bit its opcode does not define, a fence that is not
there, or an ARG its opcode does not use. -/
def badHdr (h : QHdr) (flagMask : Nat) (usesArg : Bool) : Bool :=
  h.flags &&& (255 - flagMask) != 0 || bit h.flags 0 && decide (255 ≤ h.fence) || !usesArg && h.arg != 0

/-- The form of a command that the planner executes when it reaches the head of its queue (R274): reserved fields and
flags are checked (R266), the command has its effect, it completes and CONSUMER passes it. `flagMask` holds the FLAGS
the opcode defines. -/
def State.plannerCmd (s : State) (h : QHdr) (flagMask : Nat) (f : State → State × PlaceAns) : State :=
  if s.canTake h.part h.queue then
    let a := if badHdr h flagMask false then (s, (⟨codeBadCommand, 0, 0⟩ : PlaceAns)) else f s
    ((a.1.advanceConsumer h.part h.queue).complete h a.2.status a.2.r0 a.2.r1)
  else s

/-- A command that runs on an engine, or a wait, taken to the head of its queue. -/
def State.takeHead (s : State) (h : QHdr) (flagMask : Nat) (usesArg operandsOk : Bool) (op : QOp) : State :=
  if !s.canTake h.part h.queue then s
  else if badHdr h flagMask usesArg || !operandsOk then (s.advanceConsumer h.part h.queue).complete h codeBadCommand 0 0
  else
    let s := s.putQueue { s.queueSt h.part h.queue with head := some ⟨h, op, 0, false, 0, 0, 0, 0, false, none⟩ }
    s.settleQueue h.part h.queue

/-! ## Presents -/

/-- The presents of a layer that are held, and the one that is latched and not yet complete. -/
def State.held (s : State) (slot : Nat) : List Present := s.queue.presents.filter (fun x => x.slot == slot && !x.latched)
def State.latchedPresents (s : State) (slot : Nat) : List Present :=
  s.queue.presents.filter (fun x => x.slot == slot && x.latched)

/-- A present ends: it completes with a status, and leaves the layer. -/
def State.endPresent (s : State) (x : Present) (status : Nat) : State :=
  let s := { s with queue := { s.queue with presents := s.queue.presents.filter (fun y => y.order != x.order) } }
  if x.latched then s.complete x.hdr status (x.epoch % 2 ^ 32) x.time else s.complete x.hdr status 0 0

/-- The state of a layer slot in composition. -/
def State.layerSt (s : State) (slot : Nat) : LayerSt :=
  (s.comp.layers.find? (fun l => l.slot == slot)).getD
    ⟨slot, .none, [], false, ⟨0, 0, 0, 0, 0, false⟩, ⟨0, 0, 0, 0, 0, false⟩, 0, 0⟩

def State.putLayerSt (s : State) (x : LayerSt) : State :=
  { s with comp := { s.comp with layers := x :: s.comp.layers.filter (fun y => y.slot != x.slot) } }

/-- A freed surface: held presents of it end with STALE_HANDLE (R268). A layer that reads it does so until the next
epoch. -/
def State.dropSurface (s : State) (id : Nat) : State :=
  foldS (fun s x => s.endPresent x codeStaleHandle) s
    (s.queue.presents.filter (fun x => x.surf == id && !x.latched))

/-- A SHARE_GRANTED record for the grantee (R268). The manual gives it no code (DESIGN CHOICE, log entry 3). -/
def State.shareGranted (s : State) (owner grantee handle : Nat) : State :=
  (s.useFree).occur ⟨7 * 256, (Config.freeWord s.fresh).toNat % 65536, grantee, sevNotice,
    [byteOf owner] ++ leBytes 4 handle⟩

end Sys2Proof.Machine
end

