-- ==== Sys2Proof/Machine/Memory.lean ====
section
/-!
DEFINITION. The memory subsystem (chapter 13) and the memory check of chapter 12: which addresses exist and who may
reach them, isolation violations, ECC, the request tracker, refresh, temperature, frequency changes, training, the
tile-store banks and the eMRAM stores.
-/
namespace Sys2Proof.Machine

/-! ## Isolation violations (R18, R282) -/

/-- A transaction that fails the check: one count at its target and one for its partition, one IsolationLog entry and one
Error event. `init` is the code of R280; `target` 0 DRAM, 1 tile store, 2 object, 3 peripheral, 4 unmapped. -/
def State.violate (s : State) (init part : Nat) (secure : Bool) (target addr : Nat) : State :=
  let attr := part + (if secure then 16 else 0)
  let s := ((((((s.bump 0x2030 1).put 0x2030 2 init).put 0x2030 3 attr).put 0x2030 4 target).put 0x2030 5 addr).put
    0x2030 6 s.now).bump 0x2031 (part + 1)
  let n := mget 0 target s.sec.violations
  let s := { s with sec := { s.sec with violations := mput 0 target (min (n + 1) (2 ^ 32 - 1)) s.sec.violations } }
  s.raise 0x2001 0 2 sevError part [byteOf init, byteOf part, byteOf (if secure then 1 else 0), byteOf target]

/-! ## The memory check (R20, R282 to R287) -/

def emramBase : Nat := 0x90000000

/-- The target an internal address lies in (R20). eMRAM is recorded as a peripheral (DEDUCED, log entry 13). -/
def State.targetOf (s : State) (a : Nat) : Nat :=
  if 0x40000000 ≤ a ∧ a < 0x60000000 then 2
  else if tsBase ≤ a ∧ a < tsBase + s.cfg.banks * bankBytes then 1
  else if emramBase ≤ a ∧ a < emramBase + 32 * mib then 3
  else if dramBase ≤ a ∧ a < dramBase + s.cfg.groups * groupSpan then
    if a < (s.groupBounds ((a - dramBase) / groupSpan)).2.2 then 0 else 4
  else 4

/-- A DRAM address that is secure: in watermark mode the bytes below a region's watermark and every byte that no region
covers (R284); in owner-table mode the pages Markhor has marked (R285). -/
def State.secureAddr (s : State) (a : Nat) : Bool :=
  if s.targetOf a ≠ 0 then false
  else
    let off := a - dramBase
    if s.get 0x2010 1 = 0 then
      !(List.range 8).any (fun r =>
        let b := s.get (0x2011 + r) 1
        (b + s.get (0x2011 + r) 3) * mib ≤ off && off < (b + s.get (0x2011 + r) 2) * mib)
    else s.sec.securePages.any (fun x => x.1 * 65536 ≤ off && off < (x.1 + x.2) * 65536)

/-- The protection tables grant a partition a byte: they express exactly each surface's owner and grants (R284, R285,
R287; DESIGN CHOICE, log entry 14). -/
def State.granted (s : State) (p : Nat) (write : Bool) (a : Nat) : Bool :=
  s.place.surfs.any (fun f => f.loc < 2 && !f.homeless && f.addr ≤ a && a < f.addr + f.span
    && s.place.handles.any (fun h => h.live && h.surf == f.id && h.part == p && (h.rights == 0 || !write || h.rights == 2)))

/-- A byte of the early staging area, which no normal-world initiator writes from validation on (R288). -/
def State.stagedAt (s : State) (a : Nat) : Bool :=
  s.place.surfs.any (fun f => f.owner == 252 && f.loc < 2 && f.addr ≤ a && a < f.addr + f.span)

/-- R282 for one byte: the target at which it fails, or none where it passes. -/
def State.byteFails (s : State) (part : Nat) (secure write : Bool) (a : Nat) : Option Nat :=
  let t := s.targetOf a
  if t = 4 then some 4
  else if secure then none
  else if s.secureAddr a || write && s.stagedAt a then some t
  else if part = 0 then none
  else if s.granted part write a then none
  else some t

/-- R18 for the bytes of a transaction: the first failing byte and its target. -/
def State.accessFails (s : State) (part : Nat) (secure write : Bool) (addr len : Nat) : Option (Nat × Nat) :=
  (List.range len).findSome? (fun i => (s.byteFails part secure write (addr + i)).map (fun t => (addr + i, t)))

/-! ## ECC (R329, R332) -/

/-- The surface at an internal address. -/
def State.surfAt (s : State) (a : Nat) : Option Surf :=
  s.place.surfs.find? (fun f => f.loc < 2 && !f.homeless && f.addr ≤ a && a < f.addr + f.span)

/-- The channel that holds an address (R128): by the context of the surface there, or the group's current one. -/
def State.channelOf (s : State) (a : Nat) : Nat :=
  let g := (a - dramBase) / groupSpan
  let c := ((s.surfAt a).map (fun f => f.ctx)).getD (s.curCtx g)
  match s.place.ctxs.find? (fun x => x.group == g && x.ctx == c) with
  | some x => x.channel (a - dramBase - g * groupSpan)
  | none => nth 0 (s.usableChans g) ((a - dramBase) / 256 % max 1 (s.usableChans g).length)

/-- The address carries ECC: the tile store, eMRAM, and a group's ECC part. -/
def State.eccCovers (s : State) (a : Nat) : Bool :=
  let t := s.targetOf a
  t == 1 || t == 3 || t == 0 && a < (s.groupBounds ((a - dramBase) / groupSpan)).2.1

/-- The counters of a store advanced for an error: DRAM per group and channel, tile store per bank, eMRAM. `sub` is 0
for a corrected error and 1 for an uncorrectable one. -/
def State.eccCount (s : State) (a sub : Nat) : State :=
  let s := match s.targetOf a with
    | 0 => (s.bump (0x3080 + (a - dramBase) / groupSpan) (5 + sub)).bump (0x3040 + s.channelOf a) (6 + sub)
    | 1 => s.bump (0x30A0 + (a - tsBase) / bankBytes) (3 + sub)
    | _ => s.bump 0x30D0 (3 + sub)
  if s.targetOf a = 3 then s else s.bump 0x3002 (5 + sub)

/-- A single-bit error corrected. -/
def State.eccCorrected (s : State) (a : Nat) : State :=
  (s.eccCount a 0).setFlag (okey 0 0x3001 0) (if s.targetOf a = 3 then 10 else 5)

/-- A double-bit error: counted, logged, and reported to P0 and to the owner. The word stays as it is until it is written. -/
def State.eccUncorrected (s : State) (a : Nat) : State :=
  let s := s.breakWord a
  let t := s.targetOf a
  let owner := ((s.surfAt a).map (fun f => f.owner)).getD 0
  let owner := if owner < 16 then owner else 0
  let s := ((((s.eccCount a 1).put 0x3090 1 a).put 0x3090 2 owner).put 0x3090 3 s.now).put 0x3090 4
    (if t = 0 then 0 else if t = 1 then 1 else 2)
  let flag := if t = 3 then 10 else 6
  let s := s.raise 0x3001 0 flag sevError 0 (leBytes 8 a)
  if owner = 0 then s else s.occur ⟨3 * 256, flag * 4096 + 1, owner, sevError, leBytes 8 a⟩

/-- A read of a range reports the first word in it that holds an uncorrectable error. -/
def State.reportBroken (s : State) (a n : Nat) : State := (s.firstBroken a n).elim s (fun w => s.eccUncorrected w)

/-! ## Tile-store banks (R331) -/

/-- Bank `b` holds a surface. -/
def State.bankHolds (s : State) (b : Nat) : Bool :=
  s.spans.any (fun x => x.1 < tsBase + (b + 1) * bankBytes && tsBase + b * bankBytes < x.1 + x.2 && tsBase ≤ x.1)

/-- KiB of a bank in use. -/
def State.bankKib (s : State) (b : Nat) : Nat :=
  let lo := tsBase + b * bankBytes
  sumBy (fun x : Nat × Nat => min (x.1 + x.2) (lo + bankBytes) - max x.1 lo) (s.spans.filter (fun x => tsBase ≤ x.1)) / 1024

/-- Banks follow the surfaces placed in them: a bank without one is off, a bank that was off and gets one is active;
USED_KIB follows. -/
def State.settleBanks (s : State) : State :=
  foldS (fun s b =>
    let st := s.get (0x30A0 + b) 1
    let s := s.put (0x30A0 + b) 2 (s.bankKib b)
    if st = 3 then s
    else if !s.bankHolds b then s.put (0x30A0 + b) 1 0
    else if st = 0 then s.touchBank b
    else s) s (List.range s.cfg.banks)

/-- BANK_RETENTION: a bank that holds a surface and has been idle for BANK_IDLE_US enters retention. -/
def execBankRetention (t bank : Nat) (s : State) : Host.Outcome State Fault Refusal :=
  at_ t s fun s =>
    let last := ((s.memc.bankAt.find? (fun x => x.1 == bank)).map (fun x => x.2)).getD 0
    if bank < s.cfg.banks ∧ s.get (0x30A0 + bank) 1 = 1 ∧ last + s.get 0x30C0 1 * 1000 ≤ s.now ∧ s.bankHolds bank then
      s.put (0x30A0 + bank) 1 2
    else s

/-! ## The tracker (R317 to R320) -/

def State.reservedEntries (s : State) : Nat := s.get 0x3010 2
def State.sharedEntries (s : State) : Nat := s.get 0x3010 1 - s.get 0x3010 2

/-- Shared entries that a partition holds, and entries in use of either kind. -/
def State.heldBy (s : State) (p : Nat) : Nat := (s.memc.inflight.filter (fun r => r.part == p && !r.reserved)).length
def State.reservedUsed (s : State) : Nat := (s.memc.inflight.filter (fun r => r.reserved)).length
def State.sharedUsed (s : State) : Nat := (s.memc.inflight.filter (fun r => !r.reserved)).length

/-- What the minimums of the partitions hold back. -/
def State.heldBack (s : State) : Nat :=
  sumBy (fun p => s.get (0x3020 + p) 2 - s.heldBy p) (List.range s.cfg.parts)

/-- The entry a request may take now (R318): `some true` a reserved one, `some false` a shared one. -/
def State.entryFor (s : State) (r : MemReq) : Option Bool :=
  let free := s.sharedEntries - s.sharedUsed
  if r.cls = 0 then
    if s.reservedUsed < s.reservedEntries then some true
    else if s.heldBack < free then some false else none
  else if s.get (0x3020 + r.part) 1 ≤ s.heldBy r.part then none
  else if s.heldBy r.part < s.get (0x3020 + r.part) 2 ∧ 0 < free then some false
  else if s.heldBack < free then some false
  else none

/-- RESERVED_IN_USE, SHARED_IN_USE, SHARED_PEAK and HELD follow the tracker. -/
def State.syncTracker (s : State) : State :=
  let u := s.sharedUsed
  let s := ((s.put 0x3010 4 s.reservedUsed).put 0x3010 5 u).put 0x3010 6 (max (s.get 0x3010 6) u)
  foldS (fun s p => s.put (0x3020 + p) 4 (s.heldBy p)) s (List.range s.cfg.parts)

/-- A request takes an entry. -/
def State.takeEntry (s : State) (r : MemReq) (reserved : Bool) : State :=
  ({ s with memc := { s.memc with inflight := s.memc.inflight ++ [{ r with since := s.now, reserved := reserved }] } }).syncTracker

/-- A request's internal address. -/
def State.reqAddr (s : State) (r : MemReq) : Nat :=
  match r.surf with
  | some id => (s.place.surfs.find? (fun f => f.id == id)).elim 0 (fun f => f.addr + r.addr)
  | none => r.addr

/-- A write to a surface in the hold of its migration is back-pressured (R131). -/
def State.reqHeld (s : State) (r : MemReq) : Bool :=
  r.write && (match r.surf with
    | some id => some id
    | none => (s.surfAt r.addr).map (fun f : Surf => f.id)).elim false s.isHeld

/-- The DRAM half of an address is held, its PLL having no lock (R446). -/
def State.dramHeld (s : State) (a : Nat) : Bool := s.noLock (8 + s.cfg.chanHalf (s.channelOf a))

/-- How a request is admitted now: with no entry where its target is not DRAM, with one of the tracker, or not yet. -/
def State.admission (s : State) (r : MemReq) : Option (Option Bool) :=
  if s.reqHeld r then none
  else if s.targetOf (s.reqAddr r) ≠ 0 then some none
  else if s.dramHeld (s.reqAddr r) then none
  else (s.entryFor r).map some

/-- The request by which the copy engines (`init` 6) and the render engine (8) read or write a surface for a partition: of
class Normal (R235, R271, R317), promoted once it has aged (R320). Such a unit issues for each partition at a port of its own,
whose requests pass the tracker one after the other through one entry, and numbers them apart from those of the other
initiators (DESIGN CHOICE, log entry 102). -/
def unitReq (init p : Nat) (write : Bool) (f : Surf) : MemReq :=
  let n := 16 * init + p % 16
  { id := 2 ^ 64 - 256 + n, port := 256 + n, init := init, part := p, secure := false, cls := 2, write := write, addr := 0, len := 0,
    data := [], ecc := 0, since := 0, reserved := false, surf := some f.id }

/-- A unit may access a surface now: its request has an entry of the tracker, or takes one, or needs none; where none is free, or
the surface's migration holds its writers (R131), it waits at its port. -/
def State.unitAdmit (s : State) (init p : Nat) (write : Bool) (f : Surf) : State × Bool :=
  let r := unitReq init p write f
  if f.homeless || f.loc == 2 then (s, true)
  else if s.reqHeld r || s.memc.waiting.any (fun x => x.id == r.id) then (s, false)
  else if s.memc.inflight.any (fun x => x.id == r.id) then (s, true)
  else match s.admission r with
    | some none => (s, true)
    | some (some b) => (s.takeEntry r b, true)
    | none => ({ s with memc := { s.memc with waiting := s.memc.waiting ++ [{ r with since := s.now }] } }, false)

/-- The request of a partition's longest-waiting port that can take an entry: the first that waits at its port. -/
def State.readyWaiter (s : State) (p : Nat) : Option MemReq :=
  s.memc.waiting.find? (fun r => r.part == p && (s.admission r).isSome
    && (s.memc.waiting.find? (fun x => x.port == r.port && x.cls != 0)).elim true (fun x => x.id == r.id))

/-- One turn of the deficit round robin (R319): the partition whose turn it is takes an entry for its longest-waiting
port while it has grants left, else the turn passes on with WEIGHT grants. The answer is the request granted. -/
def State.drrTurn (s : State) : Nat → State × Option MemReq
  | 0 => (s, none)
  | n + 1 =>
    let p := s.memc.turn
    match if s.memc.credit = 0 then none else s.readyWaiter p with
    | some r => ({ s with memc := { s.memc with credit := s.memc.credit - 1 } }, some r)
    | none =>
      let q := (p + 1) % s.cfg.parts
      ({ s with memc := { s.memc with turn := q, credit := s.get (0x3020 + q) 3 } }).drrTurn n

/-! ## Refresh and temperature (R323, R324, R328) -/

def State.isUnderPanic (s : State) (c : Nat) : Bool := s.memc.panicSince.any (fun x => x.1 == c)

/-- Requests in flight on a channel, of a class or of any. -/
def State.chanBusy (s : State) (c : Nat) (reservedOnly : Bool) : Bool :=
  s.memc.inflight.any (fun r => s.targetOf r.addr == 0 && s.channelOf r.addr == c && (!reservedOnly || r.cls == 0))

/-- REFRESH_OWED of a channel. -/
def State.owed (s : State) (c : Nat) : Int := s.getI (0x3040 + c) 3

/-- A channel put under panic or released from it (R321); PANIC_US accumulates the time. -/
def State.setPanic (s : State) (c : Nat) (on : Bool) : State :=
  match s.memc.panicSince.find? (fun x => x.1 == c) with
  | none => if on then { s with memc := { s.memc with panicSince := (c, s.now) :: s.memc.panicSince } } else s
  | some x =>
    if on then s
    else ({ s with memc := { s.memc with panicSince := s.memc.panicSince.filter (fun y => y.1 != c) } }).bump64
      (0x3040 + c) 5 ((s.now - x.2) / 1000)

/-- The retraining of a channel's data eye (R328): `done` tells that the delays have reached their new place with this
refresh. -/
def State.retrain (s : State) (c : Nat) (temp : Int) (done : Bool) : State :=
  let d := (temp - s.getI (0x3040 + c) 9).natAbs
  if done ∧ s.get 0x3070 3 ≤ d then
    (((s.putI (0x3040 + c) 9 temp).bump (0x3040 + c) 8).bump 0x3002 7).setFlag (okey 0 0x3001 0) 7
  else s

/-- REFRESH_DUE: a refresh interval of a channel falls due. It is postponed under panic or Reserved requests, forced at
4 owed, issued otherwise, with one more pulled in while the channel is idle. A frequency change covers it. -/
def execRefreshDue (t chan : Nat) (temp : Int) (trained : Bool) (s : State) : Host.Outcome State Fault Refusal :=
  at_ t s fun s =>
    if !s.chanUsable chan ∨ s.memc.freqRun.isSome then s
    else if s.isUnderPanic chan ∨ s.chanBusy chan true then
      let owed := s.owed chan + 1
      if 4 ≤ owed then
        (((s.putI (0x3040 + chan) 3 0).bump (0x3040 + chan) 4).bump 0x3002 1).setFlag (okey 0 0x3001 0) 0
      else s.putI (0x3040 + chan) 3 owed
    else
      let s := if s.chanBusy chan false then s else s.putI (0x3040 + chan) 3 (max (-4) (s.owed chan - 1))
      s.retrain chan temp trained

/-- A request for a frequency change (R325): the newer target replaces a waiting one. -/
def State.requestOp (s : State) (op : Nat) : State :=
  if op = s.get 0x3000 6 then { s with memc := { s.memc with freqReq := none } }
  else { s with memc := { s.memc with freqReq := some (op, s.now) } }

/-- MR4_RATE for a reported code: 0 at or below the 1× rate, 1 the 2× rate, 2 the 4× rate, 3 the limit code. -/
def mr4Rate (code : Nat) : Nat := if code = 0 then 1 else if code = 1 then 2 else 4

/-- What a channel's mode register 4 reports takes effect (R324). -/
def State.mr4Read (s : State) (c code : Nat) : State :=
  let old := s.get (0x3040 + c) 2
  let new := mr4Rate code
  let s := s.put (0x3040 + c) 2 new
  let s := s.put 0x3070 4 (setBit (s.get 0x3070 4) c (decide (1 < new)))
  let s := if old = 1 ∧ 1 < new then s.bump 0x3002 2 else s
  let s := if new = 2 ∧ old ≠ 2 then s.setFlag (okey 0 0x3001 0) 1 else s
  let s := if new = 4 ∧ old ≠ 4 then s.raise 0x3001 c 2 sevError 0 [byteOf c] else s
  let since := s.memc.limitSince.filter (fun x => x.1 != c)
  if code = 3 then
    if s.memc.limitSince.any (fun x => x.1 == c) then s
    else { s with memc := { s.memc with limitSince := (c, s.now) :: since } }
  else { s with memc := { s.memc with limitSince := since } }

/-- MR4_POLL: mode register 4 of every usable channel is read. A channel at the limit code for 1 s asks for OP3, and
when no channel reports it any more the committed target applies. -/
def execMr4Poll (t : Nat) (codes : List Nat) (s : State) : Host.Outcome State Fault Refusal :=
  at_ t s fun s =>
    let s := foldS (fun s c => if s.chanUsable c then s.mr4Read c (nth 0 codes c) else s) s (List.range 32)
    if s.memc.limitSince.any (fun x => x.2 + 1000000000 ≤ s.now) ∧ !s.memc.limitHold then
      ({ s with memc := { s.memc with limitHold := true } }).requestOp 3
    else if s.memc.limitHold ∧ s.memc.limitSince.isEmpty then
      ({ s with memc := { s.memc with limitHold := false } }).requestOp (s.get 0x3060 1)
    else s

/-! ## DRAM information (0x3000) -/

/-- The rate an operating point runs at. -/
def State.opRate (s : State) (k : Nat) : Nat := nth 0 s.memc.rates k

/-- DramInfo and the groups' ECC parts follow the channels' states. -/
def State.syncDram (s : State) : State :=
  let chans := List.range 32
  let usable := chans.filter s.chanUsable
  let mask := fun (l : List Nat) => l.foldl (fun m c => m + 2 ^ c) 0
  let s := foldS (fun s g => s.put (0x3080 + g) 2 (min (s.get (0x3080 + g) 1) ((s.usableChans g).length * s.cfg.dramMib)))
    s (List.range s.cfg.groups)
  let s := s.put 0x3000 3 (mask usable)
  let s := s.put 0x3000 5 (sumBy s.groupMib (List.range s.cfg.groups))
  s.put 0x3000 7 (dramPeak s.cfg.dramGen usable.length (s.opRate (s.get 0x3000 6)) / 1000)

/-- DramInfo's generation, population and density (R315). -/
def State.dramShape (s : State) : State :=
  let n := if s.cfg.dramGen = 4 then s.cfg.groups * 2 else s.cfg.groups * 4
  ((s.put 0x3000 1 s.cfg.dramGen).put 0x3000 2 (s.cfg.dramFitted % 2 ^ n)).put 0x3000 4 s.cfg.dramMib

/-- DRAM_TRAINING_DONE: training ends (R315, R328). `fails` names for each channel the operating points it failed at, as
bits; `temps` its temperature. A channel that failed OP0 is unusable; one that failed another point leaves that point
untrained. -/
def State.dramTrained (s : State) (fails : List Nat) (temps : List Int) : State :=
  let n := if s.cfg.dramGen = 4 then s.cfg.groups * 2 else s.cfg.groups * 4
  let s := s.dramShape
  let s := foldS (fun s c =>
    if s.get (0x3040 + c) 1 ≠ 3 then s
    else if s.isLost .channel c || bit (nth 0 fails c) 0 then s.put (0x3040 + c) 1 2
    else (s.put (0x3040 + c) 1 1).putI (0x3040 + c) 9 (nth 0 temps c)) s (List.range n)
  let ok := fun k => (List.range n).all (fun c => !s.chanUsable c || !bit (nth 0 fails c) k)
  let s := foldS (fun s k => s.put (0x3064 + k) 2 (if ok k then 1 else 0)) s (List.range 4)
  let s := { s with memc := { s.memc with rates := (List.range 4).map (fun k => s.get (0x3064 + k) 1) } }
  let s := foldS (fun s g => if s.place.ctxs.any (fun x => x.group == g) then s else s.newCtx g (s.curCtx g)) s
    (List.range s.cfg.groups)
  s.syncDram

/-! ## Frequency change (R325 to R327) -/

/-- FREQ_DEFERRED: no safe instant came within WAIT_MS; the request is dropped. -/
def execFreqDeferred (t : Nat) (s : State) : Host.Outcome State Fault Refusal :=
  at_ t s fun s =>
    match s.memc.freqReq with
    | some (_, at0) =>
      if at0 + s.get 0x3060 2 * 1000000 ≤ s.now then
        (({ s with memc := { s.memc with freqReq := none } }).bump 0x3002 4).setFlag (okey 0 0x3001 0) 4
      else s
    | none => s

/-- FREQ_CHANGE_DONE: the change ends, the point is current and the blackout is recorded. -/
def execFreqChangeDone (t : Nat) (s : State) : Host.Outcome State Fault Refusal :=
  at_ t s fun s =>
    match s.memc.freqRun with
    | none => s
    | some (op, start) =>
      let d := min 6000 (s.now - start)
      let s := { s with memc := { s.memc with freqRun := none } }
      let s := (((s.put 0x3000 6 op).put 0x3060 4 d).put 0x3060 5 (max (s.get 0x3060 5) d)).bump 0x3002 3
      s.syncDram.setFlag (okey 0 0x3001 0) 3

/-! ## Patrol scrub (R330) -/

/-- PATROL_SCRUB: a pass over a group's ECC part ends; `fixed` and `bad` are the addresses at which it met single-bit
and double-bit errors. -/
def execPatrolScrub (t group : Nat) (fixed bad : List Nat) (s : State) : Host.Outcome State Fault Refusal :=
  at_ t s fun s =>
    if group < s.cfg.groups then
      let inPart := fun a => s.targetOf a == 0 && s.eccCovers a && (a - dramBase) / groupSpan == group
      let s := foldS State.eccCorrected s (fixed.filter inPart)
      let s := foldS State.eccUncorrected s (bad.filter inPart)
      s.put (0x3080 + group) 4 s.now
    else s

/-! ## eMRAM (R332 to R336) -/

/-- The key is a wear counter, a user word or a user block. -/
def isWear (k : Nat) : Bool := 0xC000 ≤ keyIdx k && keyIdx k < 0xC100
def isUserWord (k : Nat) : Bool := 0xC100 ≤ keyIdx k && keyIdx k < 0xFF00
def isUserBlock (k : Nat) : Bool := 0xFF00 ≤ keyIdx k && keyIdx k < 0xFF80

/-- The interval that a store of a user storage object keeps. -/
def wearInterval (k : Nat) : Nat := if isWear k then 100000000 else 10000000000

/-- USER_PENDING: user words and blocks that hold a value not yet stored. -/
def State.countPending (s : State) : State :=
  s.put 0x30D0 6 (s.memc.wear.filter (fun w => w.pend && !isWear w.key)).length

/-- Words of eMRAM written, `n` of them, with the highest count of a word of the area now `top` (R333). -/
def State.emramWrote (s : State) (n top : Nat) : State :=
  let s := (s.bump64 0x30D0 1 n).put 0x30D0 2 (min (2 ^ 32 - 1) (max (s.get 0x30D0 2) top))
  if top = 80000000 then s.raise 0x3001 0 9 sevWarning 0 [] else s

/-- A user storage object's value stored (R334, R335). -/
def State.storeUser (s : State) (k : Nat) : State :=
  let old := (s.memc.wear.find? (fun w => w.key == k)).getD ⟨k, 0, false, 0⟩
  let seq := (old.seq + 1) % 2 ^ 32
  let s := { s with memc := { s.memc with wear := ⟨k, s.now, false, seq⟩ :: s.memc.wear.filter (fun w => w.key != k) } }
  let s := if isUserBlock k then
      { s with storedBlocks := mput (blockDefault s.cfg k) k (s.getBlk k) s.storedBlocks }
    else { s with stored := mput (objDefault s.cfg k) k (s.getK k) s.stored }
  let copies := if isWear k then 64 else 2
  (s.emramWrote (if isUserBlock k then 129 else 2) ((seq + copies - 1) / copies)).countPending

/-- What a write of a user storage object does beside changing its value: it is stored at once if the interval since
its last store has passed, else later. -/
def State.userWritten (s : State) (k : Nat) : State :=
  match s.memc.wear.find? (fun w => w.key == k) with
  | none => s.storeUser k
  | some w =>
    if w.last + wearInterval k ≤ s.now then s.storeUser k
    else ({ s with memc := { s.memc with wear := { w with pend := true } :: s.memc.wear.filter (fun x => x.key != k) } }).countPending

/-- A user storage object whose interval has ended stores its latest value. -/
def State.userDue (s : State) (k : Nat) : State :=
  match s.memc.wear.find? (fun w => w.key == k) with
  | some w => if w.pend ∧ w.last + wearInterval k ≤ s.now then s.storeUser k else s
  | none => s

/-- WEAR_COUNTER_STORE. -/
def execWearCounterStore (t counter : Nat) (s : State) : Host.Outcome State Fault Refusal :=
  at_ t s fun s => if counter < 256 then s.userDue (okey 0 (0xC000 + counter) 0) else s

/-- USER_STORE: of the user word or block at an index. -/
def execUserStore (t index : Nat) (s : State) : Host.Outcome State Fault Refusal :=
  at_ t s fun s => if 0xC100 ≤ index ∧ index < 0xFF80 then s.userDue (okey 0 index 0) else s

/-- KiB that the library holds, rounded up, and the number of entries. -/
def State.syncLibrary (s : State) : State :=
  (s.put 0x30D0 5 ((sumBy (fun e : LibEntry => e.size) s.memc.library + 1023) / 1024)).put 0x30D8 3 s.memc.library.length

/-- An entry of the library by its ID. -/
def State.libEntry (s : State) (id : Nat) : Option LibEntry := s.memc.library.find? (fun e => e.id == id)

/-- Markhor runs and serves requests (R294). -/
def State.markhorUp (s : State) : Bool := s.get 0x2000 1 == 1

/-- A write of an entry of the fallback library (R336): verified, then stored; the code of RESULT is answered. -/
def State.libraryWrite (s : State) (d : List Byte) (sigOk : Bool) : State × Nat :=
  let len := numAt d 16 4
  let fmt := numAt d 4 1
  let fields := 32 + len + 3416 == d.length && formatOk fmt && numAt d 5 3 == 0 && (d.drop 20).take 12 == List.replicate 12 0
    && 1 ≤ numAt d 8 2 && numAt d 8 2 ≤ 8192 && 1 ≤ numAt d 10 2 && numAt d 10 2 ≤ 8192
  let id := numAt d 0 4
  let rest := s.memc.library.filter (fun e => e.id != id)
  let c :=
    if !s.markhorUp then codeKeyServiceUnavailable
    else if !(sigOk && fields) then codeLibraryInvalid
    else if 4 * mib < sumBy (fun e : LibEntry => e.size) rest + d.length then codeLibraryFull
    else 0
  let s := s.put 0x30D8 4 c
  if c ≠ 0 then (s, c)
  else
    let e : LibEntry := ⟨id, fmt, numAt d 8 2, numAt d 10 2, (d.drop 32).take len, d.length, false⟩
    ((({ s with memc := { s.memc with library := rest ++ [e] } }).emramWrote ((d.length + 7) / 8) 0).syncLibrary, 0)

/-- A write of ERASE_ID. -/
def State.eraseId (s : State) (id : Nat) : State :=
  { s with memc := { s.memc with library := s.memc.library.map (fun e => if e.id = id then { e with erase := true } else e) } }

/-- Library entries marked for removal go at a swap to a plan that does not name them. -/
def State.pruneLibrary (s : State) : State :=
  let named := fun id => s.plan.active.any (fun p => p.images.any (fun i => i.whereIs == 1 && i.libraryId == id))
  ({ s with memc := { s.memc with library := s.memc.library.filter (fun e => !(e.erase && !named e.id)) } }).syncLibrary

/-- LIBRARY_ENTRY: a write of FallbackLibrary ENTRY is verified by Markhor and stored. `sigOk` is what the check of its
R94 signature block answers. -/
def execLibraryEntry (t : Nat) (ini : Ini) (data : List Byte) (sigOk : Bool) (s : State) :
    Host.Outcome State Fault Refusal :=
  at_ t s fun s =>
    match s.writeRefusal ⟨ini, 0, 0x30D8, 1, 0⟩ true with
    | some c => s.refuse ini 0x30D8 1 c
    | none => (s.libraryWrite data sigOk).1

/-- ERASE_ID. -/
def execEraseId (t : Nat) (ini : Ini) (id : Word) (s : State) : Host.Outcome State Fault Refusal :=
  at_ t s fun s => s.writeAt ini 0x30D8 2 id noOwn (fun s v => s.eraseId v)

end Sys2Proof.Machine
end

