-- ==== Sys2Proof/Machine/Placement.lean ====
section
/-!
DEFINITION. The placement engine in service (chapter 05): migration and imbalance, content lost with a unit, and the
binding of logical engines with the layers that are shed around it.
-/
namespace Sys2Proof.Machine

/-! ## Migration (R131, R132) -/

/-- The migration rate in MB/s: re-placement runs at 2,000 MB/s where the object is 0 (R132). -/
def State.migrateRate (s : State) : Nat := if s.get 0x3420 5 = 0 then 2000 else s.get 0x3420 5

/-- Dirty bytes that fit in HOLD_US at the rate. -/
def State.holdBytes (s : State) : Nat := s.get 0x3420 6 * s.migrateRate

def State.migOf (s : State) (id : Nat) : Option Migration := s.place.migs.find? (fun m => m.surf == id)

def State.putMig (s : State) (m : Migration) : State :=
  { s with place := { s.place with migs := s.place.migs.map (fun x => if x.surf = m.surf then m else x) } }

def State.dropMig (s : State) (id : Nat) : State := s.endMigs (fun m => m.surf == id)

/-- A surface's owner lets it move for balance: MIGRATE and MIGRATE_RATE_MBPS allow it (R132). -/
def State.mayMove (s : State) (f : Surf) : Bool := s.get (0x3400 + f.owner) 6 == 0 && s.get 0x3420 5 != 0

/-- A migration of a surface of group `g` into the current context of that group starts, if there is room. -/
def State.startMigration (s : State) (f : Surf) (channel : Option Nat) : State :=
  match s.findGroup f.group f.cls f.span with
  | none => s
  | some a =>
    { s with place := { s.place with migs := s.place.migs ++
      [⟨f.id, 0, f.group, 1, a, a + f.size, s.curCtx f.group, 0, [], [], channel⟩] } }

/-- A migration abandoned, to be tried again after 60 s (R131 step 2, R132). -/
def State.abandonMigration (s : State) (id : Nat) : State :=
  let s := s.dropMig id
  { s with place := { s.place with retry := (id, s.now + 60000000000) :: s.place.retry.filter (fun r => r.1 != id) } }

/-- Bytes of a surface copied to its new place from an offset of its span on; to another node as Bulk writes (R138).
DESIGN CHOICE, log entry 103. -/
def State.copyOut (s : State) (f : Surf) (m : Migration) (off n : Nat) : State :=
  if m.loc = 2 then
    foldS (fun s i => s.sendMsg m.group 3 0x20 (f.owner % 16) (m.addr + off + i * 65536) (s.flowOf f.owner ((m.addr + off) / 65536 + i))
      (s.rdSectors (f.addr + off + i * 65536) (min 65536 (n - i * 65536)))) s (List.range ((n + 65535) / 65536))
  else s.wrMem (m.addr + off) (s.rdSectors (f.addr + off) n)

/-- The pages that a pass takes, and the header area. -/
def State.copyPages (s : State) (f : Surf) (m : Migration) (pages : List Nat) : State :=
  (foldS (fun s p => s.copyOut f m (p * 65536) 65536) s pages).copyOut f m f.size f.hdrSize

/-- MIGRATION_COPY_DONE: the bulk copy ends and the dirty passes begin. The header area is copied with it. -/
def execMigrationCopyDone (t surf : Nat) (s : State) : Host.Outcome State Fault Refusal :=
  planned t s fun s =>
    match s.migOf surf, s.surf surf with
    | some m, some f =>
      if m.phase = 0 then
        let s := s.copyOut f m 0 f.span
        if m.dirty.length * 65536 ≤ s.holdBytes then s.putMig { m with phase := 2 }
        else s.putMig { m with phase := 1, copying := m.dirty, dirty := [] }
      else s
    | _, _ => s

/-- MIGRATION_PASS_DONE: the pages of the pass are copied; the switch is scheduled when what was dirtied since fits in
HOLD_US, and three passes that do not reach that abandon the migration. -/
def execMigrationPassDone (t surf : Nat) (s : State) : Host.Outcome State Fault Refusal :=
  planned t s fun s =>
    match s.migOf surf, s.surf surf with
    | some m, some f =>
      if m.phase = 1 then
        let s := s.copyPages f m m.copying
        if m.dirty.length * 65536 ≤ s.holdBytes then s.putMig { m with phase := 2, copying := [], passes := m.passes + 1 }
        else if 3 ≤ m.passes + 1 then (s.abandonMigration surf).bump 0x3431 4
        else s.putMig { m with copying := m.dirty, dirty := [], passes := m.passes + 1 }
      else s
    | _, _ => s

/-- MIGRATION_HOLD: HOLD_US before the epoch the writers are held and what is dirty is copied. -/
def execMigrationHold (t surf : Nat) (s : State) : Host.Outcome State Fault Refusal :=
  planned t s fun s =>
    match s.migOf surf, s.surf surf with
    | some m, some f =>
      if m.phase = 2 ∧ s.time.nextEpoch ≤ s.now + s.get 0x3420 6 * 1000 then
        (s.copyPages f m m.dirty).putMig { m with phase := 3, dirty := [] }
      else s
    | _, _ => s

/-! ## Homes in a Wall (R138) -/

/-- The layers of the plan to which what layer slot `k` shows is presented, with their nodes: the slot itself here, and the
layers of other nodes that name stream k of this node (DESIGN CHOICE, log entry 96). -/
def State.shownOn (s : State) (p : Plan) (k : Nat) : List (Nat × PlanLayer) :=
  let partner := ((List.range 64).find? (fun n => n != s.selfNode && s.get (0x7940 + n) 1 == 1)).getD 0xFF
  (p.layerOf k).toList.map (fun l => (s.selfNode, l))
    ++ (p.remote.filter (fun x => bitsOf x.2.sourceRef 7 0 == k % 256)).map (fun x => (if x.1 = 0xFF then partner else x.1, x.2))

/-- A layer's source window covers a source column, at some offset of its envelope. -/
def PlanLayer.coversCol (l : PlanLayer) (c : Nat) : Bool := decide (64 * c < l.srcXMax + l.width)

/-- The layer slots that have a surface latched. -/
def State.slotsOf (s : State) (id : Nat) : List Nat :=
  (s.comp.layers.filter (fun (l : LayerSt) => decide (l.src = .surf id))).map (fun l => l.slot)

/-- The node that becomes the home of a surface: the one other node that belongs to the set of every column, where none but
it and this node belongs to any. -/
def State.homeFor (s : State) (p : Plan) (f : Surf) : Option Nat :=
  let shown := ((s.slotsOf f.id).map (s.shownOn p)).flatten
  let cols := List.range (tileCols f.w)
  let others := (shown.filter (fun x => x.1 != s.selfNode && cols.any x.2.coversCol)).map (fun x => x.1)
  others.head?.bind (fun n =>
    if others.all (fun m => m == n) && cols.all (fun c => shown.any (fun x => x.1 == n && x.2.coversCol c)) && s.nodeReach n
    then some n else none)

/-- The home of a surface of a guest is checked: where another node becomes it, the surface migrates there. How this node
learns its place there the manual does not say: a free value (DESIGN CHOICE, log entry 3). -/
def State.checkHome (s : State) (p : Plan) (f : Surf) : State :=
  if 16 ≤ f.owner ∨ f.loc = 2 ∨ f.homeless ∨ (s.migOf f.id).isSome ∨ s.get (0x3400 + f.owner) 6 = 1 then s
  else
    match s.homeFor p f with
    | none => s
    | some n =>
      let a := s.freeW.toNat % 2 ^ 24 * 65536
      let s := s.useFree
      { s with place := { s.place with migs := s.place.migs ++ [⟨f.id, 0, n, 2, a, a + f.size, 0, 0, [], [], none⟩] } }

/-- The homes of all surfaces are checked, at a plan preparation. -/
def State.checkHomes (s : State) (p : Plan) : State := foldS (fun s f => s.checkHome p f) s s.place.surfs

/-- MIGRATION_RETRY: an abandoned migration starts again once its 60 s have passed: to the home that the plan gives the
surface, or for balance where that is allowed (R132). -/
def execMigrationRetry (t surf : Nat) (s : State) : Host.Outcome State Fault Refusal :=
  planned t s fun s =>
    match s.place.retry.find? (fun r => r.1 == surf), s.surf surf with
    | some r, some f =>
      if r.2 ≤ s.now ∧ (s.migOf surf).isNone then
        let s := { s with place := { s.place with retry := s.place.retry.filter (fun x => x.1 != surf) } }
        let s := s.plan.active.elim s (fun p => s.checkHome p f)
        if (s.migOf surf).isNone ∧ f.loc = 1 ∧ s.mayMove f then s.startMigration f none else s
      else s
    | _, _ => s

/-- A re-key that waits (R129): made once a context is free; until then the surfaces of the oldest context migrate into the
current one, one after the other, as far as they may move. -/
def State.evictOldest (s : State) (g : Nat) : State :=
  if (s.freeCtx g).isSome then s.rekey g
  else if s.place.migs.any (fun m => m.loc == 1 && m.group == g) then s
  else
    let old := (s.place.ctxs.filter (fun x => x.group == g && x.ctx != s.curCtx g)).foldl (fun (b : Option HashCtx) x =>
      match b with
      | none => some x
      | some y => if x.made < y.made then some x else some y) none
    match old.bind (fun x => s.place.surfs.find? (fun f => f.loc == 1 && f.group == g && f.ctx == x.ctx && f.owner < 16
        && !f.homeless && s.mayMove f && !s.place.retry.any (fun r => r.1 == f.id))) with
    | some f => s.startMigration f none
    | none => s

/-- MIGRATION_SWITCH (R131 step 4): the surface-table entries of the held surfaces switch, before step 1 of R24; the writes
that waited reach the new place. -/
def State.switchMigrations (s : State) : State :=
  foldS (fun s m =>
    match s.surf m.surf with
    | none => s.dropMig m.surf
    | some f =>
      let late := s.place.heldWrites.filter (fun w => w.surf == m.surf)
      let s := s.dropMig m.surf
      let s := s.putSurf { f with loc := m.loc, group := m.group, addr := m.addr, hdr := m.hdr, ctx := m.ctx }
      let s := foldS (fun s (w : HeldWrite) =>
        let a := (if w.header then m.hdr else m.addr) + w.off
        if m.loc = 2 then s.sendMsg m.group 3 0x20 (f.owner % 16) a (s.flowOf f.owner (a / 65536)) w.data else s.wrMem a w.data) s late
      let s := (s.bump 0x3431 1).bumpN 0x3431 2 (ceilMib f.span)
      (s.raise 0x3430 m.group 2 sevNotice 0 [byteOf m.group]).releaseCtxs) s (s.place.migs.filter (fun m => m.phase == 3))

/-! ## Imbalance (R130, R133) -/

/-- Load of a channel as a percentage of the mean of its group's usable channels. -/
def State.loadPct (s : State) (bytes : List Nat) (c : Nat) : Nat :=
  let us := s.usableChans (s.cfg.chanGroup c)
  let sum := sumBy (nth 0 bytes) us
  if sum = 0 then 0 else min 65535 (nth 0 bytes c * us.length * 100 / sum)

/-- The window is hot for a channel. -/
def State.hotWindow (s : State) (bytes : List Nat) (c : Nat) : Bool :=
  let us := s.usableChans (s.cfg.chanGroup c)
  let sum := sumBy (nth 0 bytes) us
  let peak := dramPeak s.cfg.dramGen 1 (s.opRate (s.get 0x3000 6)) * s.get 0x3420 2
  decide ((100 + s.get 0x3420 1) * sum < nth 0 bytes c * us.length * 100)
    && decide (s.get 0x3420 4 * peak * us.length < 100 * sum)

/-- The surface of a group that the balance migration takes next: the one with the most accesses of the last window,
among those placed under another context than the current one and not pinned. -/
def State.hottest (s : State) (g : Nat) (movable : Bool) : Option Surf :=
  let l := s.place.surfs.filter (fun f => f.loc == 1 && f.group == g && f.owner < 16
    && (!movable || (f.ctx != s.curCtx g && s.mayMove f && (s.migOf f.id).isNone
      && !s.place.retry.any (fun r => r.1 == f.id))))
  l.foldl (fun b f => match b with
    | none => some f
    | some x => if x.hot < f.hot then some f else some x) none

/-- The next surface of a channel's balance migration starts, while no other of its group runs. -/
def State.nextBalance (s : State) (c : Nat) : State :=
  let g := s.cfg.chanGroup c
  if s.place.rekeyDue.contains g ∨ s.place.migs.any (fun m => m.loc == 1 && m.group == g) then s
  else match s.hottest g true with
    | some f => s.startMigration f (some c)
    | none => s

/-- The detector fires for a channel (R130, R133). -/
def State.fireDetector (s : State) (c : Nat) : State :=
  let g := s.cfg.chanGroup c
  let ended := s.place.migEnded.any (fun x => x.1 == g && decide (s.now < x.2 + 60000000000))
  let s := s.raise 0x3430 g 0 sevNotice 0 [byteOf c]
  let s := if ended then
      let owner := ((s.hottest g false).map (fun f => f.owner)).getD 0
      s.raise 0x3430 g 3 sevWarning 0 [byteOf c, byteOf owner]
    else s
  let s := s.rekeyAllowed g
  ({ s with place := { s.place with campaigns := c :: s.place.campaigns.filter (fun x => x != c) } }).nextBalance c

/-- IMBALANCE_WINDOW: a window of WINDOW_MS ends with `bytes` moved by each channel. The counters are read, hot windows
counted, and the detector acts; HOLD_WINDOWS hot windows fire it, and each further HOLD_WINDOWS again (DEDUCED, log entry 15). -/
def execImbalanceWindow (t : Nat) (bytes : List Nat) (s : State) : Host.Outcome State Fault Refusal :=
  planned t s fun s =>
    let chans := (List.range 32).filter s.chanUsable
    let s := foldS (fun s c =>
      let s := ((s.put (0x3440 + c) 3 (nth 0 bytes c)).put (0x3440 + c) 4 (s.loadPct bytes c))
      s.put (0x3440 + c) 5 (if s.hotWindow bytes c then min 65535 (s.get (0x3440 + c) 5 + 1) else 0)) s chans
    let s := { s with place := { s.place with
      campaigns := s.place.campaigns.filter (fun c => s.chanUsable c && decide (100 + s.get 0x3420 1 < s.loadPct bytes c)) } }
    let s := foldS State.evictOldest s s.place.rekeyDue
    let s := foldS State.nextBalance s s.place.campaigns
    let s := if s.get 0x3420 8 = 0 then s else
      foldS (fun s c =>
        let n := s.get (0x3440 + c) 5
        if 0 < n ∧ n % s.get 0x3420 3 = 0 then s.fireDetector c else s) s chans
    { s with place := { s.place with surfs := s.place.surfs.map (fun f => { f with hot := 0 }) } }

/-! ## Content lost with a unit (R137) -/

/-- The bytes of a fallback image of a plan as a COMPRESSED surface lays them out: headers and tile slots. -/
def State.loadImage (s : State) (p : Plan) (f : Surf) (n : Nat) : State :=
  match p.imageOf n with
  | none => s
  | some i =>
    let q := imageSrc i (((s.libEntry i.libraryId).map (fun e => e.data)).getD [])
    foldS (fun s t => (s.wrMem (f.addr + t * rawTileBytes f.format) (q.data (t * rawTileBytes f.format) (rawTileBytes f.format))).wrMem
      (f.hdr + 8 * t) (leBytes 8 (q.hdr t))) s (List.range f.tiles)

/-- A preloaded image of the plan in force loaded again; one that is prepared is the staged plan's (owner 253). -/
def State.reloadImage (s : State) (f : Surf) (n : Nat) : State :=
  (if f.owner = 253 then s.plan.valid else s.plan.active).elim s (fun p => s.loadImage p f n)

/-- A frame store whose content is lost holds zero content in both copies (R137, R148). -/
def State.zeroStore (s : State) (id format : Nat) : State :=
  let z := zeroHeader format
  { s with comp := { s.comp with stores := s.comp.stores.map (fun x =>
      if x.surf == id then
        { x with tiles := x.tiles.map (fun f : FTile => { f with hdr0 := z, px0 := [], hdr1 := z, px1 := [], composed := false }) }
      else x) } }

/-- The layers that read a lost surface have their source re-placed (R137, R164). -/
def State.markReplaced (s : State) (f : Surf) : State :=
  let n := s.comp.repls + 1
  { s with comp := { s.comp with repls := n, layers := s.comp.layers.map (fun (l : LayerSt) =>
      if l.src = .surf f.id ∨ f.image.isSome ∧ f.image = (match l.src with | .image i => some i | _ => none)
      then { l with replaced := n } else l) } }

/-- A surface whose content is lost: it is re-placed under R123 with a new re-keyed context, unless its group was re-keyed
within REKEY_MIN_S (R129), and reloaded or zero-filled; without room it stays lost. Its owner and every grantee get
SURFACE_LOST for their handle. DEDUCED, log entry 124. -/
def State.loseSurface (s : State) (f : Surf) : State :=
  let s := s.dropMig f.id
  let s := ((s.putSurf { f with homeless := true }).zeroStore f.id f.format).markReplaced f
  let c := if f.owner < 16 then s.choosePlace f.owner f.cls f.size f.hdrSize
           else
             match s.findTs f.size f.hdrSize, s.bestGroup 255 f.cls f.span with
             | some a, _ => (s, some (0, 0, a), 0)
             | none, some (g, a) => (s, some (1, g, a), 0)
             | none, none => (s, none, codeNoSpace)
  let s := c.1
  let s := match c.2.1 with
    | some (loc, g, a) =>
      let s := if loc = 1 then s.rekeyAllowed g else s
      let f' := { f with loc := loc, group := g, addr := a, hdr := a + f.size, homeless := false, lost := f.image.isNone,
                         ctx := if loc = 1 then s.curCtx g else 0 }
      let s := s.putSurf f'
      match f.image with
      | some n => s.reloadImage f' n
      | none => s.zeroSurf f'
    | none => s.putSurf { f with homeless := true, lost := true }
  if f.image.isSome ∨ 16 ≤ f.owner then s
  else
    let s := foldS (fun s h => s.raise 0x3430 0 6 (if f.cls ≤ 1 then sevError else sevWarning) h.part
        (leBytes 4 codeSurfaceLost ++ leBytes 4 h.value)) s
      (s.place.handles.filter (fun h => h.live && h.surf == f.id))
    { s with comp := { s.comp with layers := s.comp.layers.map (fun l =>
      if l.src = .surf f.id then { l with src := .none, whole := true } else l) } }

/-- The content of a DRAM group is lost with one of its channels: the group is re-keyed at once, whatever REKEY_MIN_S
says (R129), and every surface in it is re-placed. -/
def State.loseGroup (s : State) (g : Nat) : State :=
  let s := s.syncDram
  let hit := s.place.surfs.filter (fun f => f.loc == 1 && f.group == g && !f.homeless)
  let into := s.place.migs.filter (fun m => m.loc == 1 && m.group == g && !hit.any (fun f => f.id == m.surf))
  let s := foldS (fun s (m : Migration) => s.abandonMigration m.surf) s into
  let s := (foldS (fun s (f : Surf) => (s.dropMig f.id).putSurf { f with homeless := true }) s hit).releaseCtxs
  let s := if (s.usableChans g).isEmpty then s else s.rekey g
  (foldS State.loseSurface s hit).releaseCtxs

/-- The content of a tile-store bank is lost. -/
def State.loseBank (s : State) (b : Nat) : State :=
  let hit := s.place.surfs.filter (fun f => f.loc == 0 && !f.homeless && (banksOf f.addr f.span).contains b)
  (foldS State.loseSurface s hit).settleBanks

/-! ## Engine binding (R134, R135, R28) -/

/-- Composer engines that are usable, ascending. -/
def State.usableEngines (s : State) : List Nat := (List.range s.cfg.engines).filter (fun e => s.get (0x4080 + e) 1 == 0)

/-- Cost of a tile with some layers shed: their steps are passed over at 16 clocks (R135, R144). -/
def Plan.shedCost (p : Plan) (shed : List Nat) (layout : Nat) (h : PlanHead) (t : Nat) : Nat :=
  let one := fun first => 64 + sumBy (fun v : Nat × Nat =>
    if stepOp v.1 = 0 then 0 else if stepOp v.1 ≤ 3 ∧ shed.contains (stepSlot v.1) then 16 else 256)
    (p.program (nth 0 p.dir (first + t)))
  ((p.dirsOf layout h).map one).foldl max 0

/-- Per-slot cost of a batch: its tiles' cost over its window length (R134). -/
def Plan.batchSlotCost (p : Plan) (shed : List Nat) (b : PlanBatch) : Rat :=
  let h := p.headOf b.head
  let n := sumBy (fun i => h.elim 0 (fun h => p.shedCost shed b.layout h (b.firstTile + i))) (List.range b.tiles)
  (n : Rat) / ((b.endSlot + 1 - b.startSlot : Nat) : Rat)

/-- The blocks of some logical engines may run on one physical engine: in every slot of every layout their summed cost
does not exceed C. -/
def Plan.mergeFits (p : Plan) (shed : List Nat) (logical : List Nat) : Bool :=
  let c := p.slotNs * 6 / 5
  let bs := (p.batches.filter (fun b => logical.contains b.engine)).map (fun b => (b, p.batchSlotCost shed b))
  bs.all (fun x =>
    let at_ := bs.filter (fun y => y.1.layout == x.1.layout && y.1.startSlot ≤ x.1.startSlot && x.1.startSlot ≤ y.1.endSlot)
    at_.length ≤ 1 || decide (at_.foldl (fun q y => q + y.2) 0 ≤ (c : Rat)))

/-- Physical engine of each logical engine: one to one in ascending order, then each further logical engine on the
lowest usable engine that it may merge with; none if one fits nowhere. -/
def Plan.bindEngines (p : Plan) (shed usable : List Nat) (n : Nat) : Option (List Nat) :=
  (List.range n).foldl (fun (acc : Option (List Nat)) k =>
    acc.bind (fun m =>
      if k < usable.length then some (m ++ [nth 0 usable k])
      else if !p.batches.any (fun b => b.engine == k) then some (m ++ [0xFF])
      else
        (usable.find? (fun e => p.mergeFits shed (k :: (m.zipIdx.filter (fun x => x.1 == e)).map (fun x => x.2)))).map
          (fun e => m ++ [e]))) (some [])

/-- What the usable Chamois ports that Pixel messages take carry in a slot at 0.8 of their trained user rate (R135, R339): in
a Twin the lowest-numbered port that is up (R344). -/
def State.pixelLimit (s : State) (p : Plan) : Nat :=
  let ports := if p.topology = 1 then s.upPorts.take 1 else s.upPorts.filter (fun k => decide (k < pixelPorts p.topology))
  sumBy (fun k => 40 * s.get (chIdx k + 1) 2 * s.get (chIdx k + 1) 3 * p.slotNs / 448) ports

/-- The limits of R105 on usable resources hold with some layers shed. -/
def State.reserveFits (s : State) (p : Plan) (shed : List Nat) : Bool :=
  let n := ((List.range 32).filter s.chanUsable).length
  let lim := dramPeak s.cfg.dramGen n (s.opRate (s.get 0x3000 6)) * p.slotNs / 2000000
  bit p.kind 0 || p.slotEdges.all (fun k => decide (p.slotBytes shed k ≤ lim ∧ p.slotFabric shed k ≤ s.pixelLimit p))

/-- Merges and reservation fit; the binding if so. -/
def State.carries (s : State) (p : Plan) (shed : List Nat) : Option (List Nat) :=
  match p.bindEngines shed s.usableEngines s.cfg.engines with
  | some m => if s.reserveFits p shed then some m else none
  | none => none

/-- The shedding order of R135: class D layers, lowest plan order first, then class C layers. -/
def Plan.shedOrder (p : Plan) : List Nat :=
  (p.layers.filter (fun l => l.cls == 3)).map (fun l => l.slot) ++ (p.layers.filter (fun l => l.cls == 2)).map (fun l => l.slot)

/-- Layers shed one after the other until the plan is carried: the binding and the layers shed. -/
def State.shedUntil (s : State) (p : Plan) : List Nat → List Nat → Option (List Nat × List Nat)
  | rest, shed =>
    match s.carries p shed with
    | some m => some (m, shed)
    | none =>
      match rest with
      | [] => none
      | x :: r => s.shedUntil p r (shed ++ [x])

/-- The class B layers of a plan in plan order of heads. -/
def Plan.classB (p : Plan) : List Nat :=
  (p.heads.map (fun h => (p.layers.filter (fun l => l.head == h.head && l.cls == 1)).map (fun l => l.slot))).flatten

/-- R28: every class A layer is kept, and class B layers are taken back one by one while they fit. The answer is the
binding and the class B layers dropped. -/
def State.dropB (s : State) (p : Plan) : List Nat × List Nat :=
  let cd := p.shedOrder
  let dropped := p.classB.foldl (fun (d : List Nat) x =>
    let d' := d.filter (fun y => y != x)
    if (s.carries p (cd ++ d')).isSome then d' else d) p.classB
  let m := ((p.bindEngines (cd ++ dropped) s.usableEngines s.cfg.engines)).getD
    ((List.range s.cfg.engines).map (fun k => nth (nth 0xFF s.usableEngines 0) s.usableEngines k))
  (m, dropped)

/-- ShedState (0x3478) of the layers shed and dropped. -/
def State.putShed (s : State) (shed dropped : List Nat) : State :=
  let cls := fun (c : Nat) => (shed.filter (fun n => (s.layer n).elim false (fun l => l.cls == c))).length
  let s := { s with place := { s.place with shed := shed, dropped := dropped } }
  let s := ((s.put 0x3478 1 (cls 3)).put 0x3478 2 (cls 2)).put 0x3478 3 dropped.length
  s.putBlk (okey 0 0x3478 4) ((List.range 64).map (fun i => byteOf ((List.range 8).foldl (fun m j =>
    if shed.contains (8 * i + j) ∨ dropped.contains (8 * i + j) then m + 2 ^ j else m) 0)))

/-- EngineBinding (0x3470) of a binding. -/
def State.putBinding (s : State) (m : List Nat) : State :=
  foldS (fun s k => s.put 0x3470 (k + 1) (nth 0xFF m k)) s (List.range s.cfg.engines)

/-- A SHED event for each layer newly shed. -/
def State.shedEvents (s : State) (layers : List Nat) : State :=
  foldS (fun s n => s.raise 0x3430 0 5 sevWarning ((s.layer n).elim 0 (fun l => l.owner)) (leBytes 2 n)) s layers

/-- Class A or B content was on the lost unit itself: layers of a lost head. -/
def Plan.unitShowsAB (p : Plan) (u : UnitKind × Nat) : Bool :=
  u.1 == .head && p.layers.any (fun l => l.head == u.2 && decide (l.cls ≤ 1))

/-- The event after a re-binding (R27): it names the unit and the first seven layers newly shed (the SHED events of R135 name
each of them), as an Error where a class A or B layer is affected. DEDUCED, log entry 126. -/
def State.rebindEvent (s : State) (p : Plan) (u : UnitKind × Nat) (new : List Nat) (ab : Bool) : State :=
  s.raise 0x3430 0 4 (if ab || p.unitShowsAB u then sevError else sevWarning) 0
    (leBytes 2 (unitCode u) ++ ((new.take 7).map (leBytes 2)).flatten)

/-- BINDING_COMPUTED: the new binding after a unit loss (R135, R136, R28); it applies at the next frame epoch, with the
event of R27 for each unit lost since the last one. Where class A and B do not fit with every other layer shed, SAFE_OK
drops. -/
def execBindingComputed (t : Nat) (s : State) : Host.Outcome State Fault Refusal :=
  planned t s fun s =>
    if s.place.rebinding.isEmpty then s
    else
      let units := s.place.rebinding
      let s := { s with place := { s.place with rebinding := [] } }
      match s.plan.active with
      | none => s
      | some p =>
        let order := p.shedOrder.filter (fun n => !s.place.shed.contains n)
        match s.shedUntil p order s.place.shed with
        | some (m, shed) =>
          let new := shed.filter (fun n => !s.place.shed.contains n)
          let s := s.shedEvents new
          let s := { s with place := { s.place with binding := some (m, shed, s.place.dropped) } }
          foldS (fun s u => s.rebindEvent p u new false) s units
        | none =>
          let (m, dropped) := s.dropB p
          let s := s.shedEvents order
          let s := { s with place := { s.place with binding := some (m, s.place.shed ++ order, dropped) } }
          let s := foldS (fun s u => s.rebindEvent p u (order ++ dropped) true) s units
          let unit := (units.getLast?).elim 0 unitCode
          let s := s.occur ⟨3 * 256, 4 * 4096 + 0x430, 0, sevCritical, leBytes 2 unit ++ leBytes 2 dropped.length⟩
          s.hold 3 true

/-- BINDING_APPLY (R136): a binding that has been computed takes effect at the frame epoch. -/
def State.applyBinding (s : State) : State :=
  match s.place.binding with
  | none => s
  | some (m, shed, dropped) =>
    ({ s with place := { s.place with binding := none } }.putBinding m).putShed shed dropped

/-- A stale layer with the hide reaction (R230). -/
def State.isStaleHidden (s : State) (slot : Nat) : Bool :=
  s.get (0x6C00 + slot) 4 == 1 && bit (s.get (0x6C00 + slot) 5) 1

/-- A layer is shed or dropped: it reads as not visible (R135). -/
def State.isShed (s : State) (slot : Nat) : Bool := s.place.shed.contains slot || s.place.dropped.contains slot

end Sys2Proof.Machine
end

