-- ==== Sys2Proof/Machine/Cmac.lean ====
section
/-!
DEFINITION. AES-128-CMAC (NIST SP 800-38B) and the counter-mode key derivation over it (SP 800-108), which R73, R309 and R310
name: the tag of every Tilsol frame and the keys that follow one another. A key is a number below 2^128, its first byte the most
significant one. The cipher is FIPS 197's.
-/
namespace Sys2Proof.Machine

/-- The S-box: 16 rows of 16 bytes, byte 0 of a row the least significant. -/
def aesSbox : List Nat :=
  [0x76ABD7FE2B670130C56F6BF27B777C63, 0xC072A49CAFA2D4ADF04759FA7DC982CA,
   0x1531D871F1E5A534CCF73F362693FDB7, 0x75B227EBE28012079A059618C323C704,
   0x842FE329B3D63B52A05A6E1B1A2C8309, 0xCF584C4A39BECB6A5BB1FC20ED00D153,
   0xA89F3C507F02F94585334D43FBAAEFD0, 0xD2F3FF1021DAB6BCF5389D928F40A351,
   0x73195D643D7EA7C41744975FEC130CCD, 0xDB0B5EDE14B8EE4688902A22DC4F8160,
   0x79E4959162ACD3C25C2406490A3A32E0, 0x08AE7A65EAF4566CA94ED58D6D37C8E7,
   0x8A8BBD4B1F74DDE8C6B4A61C2E2578BA, 0x9E1DC186B95735610EF6034866B53E70,
   0xDF2855CEE9871E9B948ED9691198F8E1, 0x16BB54B00F2D99416842E6BF0D89A18C]

def aesSub (x : Nat) : Nat := nth 0 aesSbox (x / 16) / 2 ^ (8 * (x % 16)) % 256

/-- A byte times x in the field of the cipher. -/
def aesDouble (x : Nat) : Nat := if x < 128 then 2 * x else Nat.xor (2 * x - 256) 0x1B

/-- The bytes of a 128-bit number, the most significant first. -/
def aesBytes (v : Nat) : List Nat := (List.range 16).map (fun i => v / 2 ^ (8 * (15 - i)) % 256)

/-- The number that bytes spell, the most significant first. -/
def bytesNum (l : List Nat) : Nat := l.foldl (fun n b => n * 256 + b) 0

/-- One word of the key schedule from the word before it, for a round constant. -/
def aesWord (rcon w : Nat) : Nat :=
  let b := fun i => aesSub (w / 2 ^ (8 * i) % 256)
  Nat.xor (b 2 * 2 ^ 24 + b 1 * 2 ^ 16 + b 0 * 2 ^ 8 + b 3) (rcon * 2 ^ 24)

/-- The round key that follows a round key. -/
def aesNextKey (rcon k : Nat) : Nat :=
  let w := fun i => k / 2 ^ (32 * (3 - i)) % 2 ^ 32
  let a := Nat.xor (w 0) (aesWord rcon (w 3))
  let b := Nat.xor (w 1) a
  let c := Nat.xor (w 2) b
  let d := Nat.xor (w 3) c
  a * 2 ^ 96 + b * 2 ^ 64 + c * 2 ^ 32 + d

/-- SubBytes and ShiftRows: byte `i` of the result comes from column (column of i + row of i) mod 4. -/
def aesShift (l : List Nat) : List Nat :=
  let t := l.map aesSub
  (List.range 16).map (fun i => nth 0 t ((i + 4 * (i % 4)) % 16))

/-- MixColumns. -/
def aesMix (l : List Nat) : List Nat :=
  (List.range 16).map (fun i =>
    let b := fun j => nth 0 l (i / 4 * 4 + (i + j) % 4)
    Nat.xor (Nat.xor (aesDouble (Nat.xor (b 0) (b 1))) (b 1)) (Nat.xor (b 2) (b 3)))

/-- The rounds after the first key addition, one for each round constant; the last has no MixColumns. -/
def aesRounds : List Nat → Nat → Nat → Nat
  | [], _, v => v
  | rcon :: r, k, v =>
    let k' := aesNextKey rcon k
    let t := aesShift (aesBytes v)
    aesRounds r k' (Nat.xor (bytesNum (if r.isEmpty then t else aesMix t)) k')

/-- AES-128 of one block. -/
def aes (k v : Nat) : Nat := aesRounds [0x01, 0x02, 0x04, 0x08, 0x10, 0x20, 0x40, 0x80, 0x1B, 0x36] k (Nat.xor v k)

/-- A block doubled in the field of CMAC: the subkeys. -/
def cmacDouble (v : Nat) : Nat := if v < 2 ^ 127 then 2 * v else Nat.xor (2 * v - 2 ^ 128) 0x87

/-- The chain over a message with fuel: whole blocks, then the last one under its subkey. -/
def cmacChain (k k1 : Nat) : Nat → Nat → List Nat → Nat
  | 0, c, _ => c
  | n + 1, c, l =>
    if l.length < 16 then
      aes k (Nat.xor c (Nat.xor (bytesNum (l ++ [0x80] ++ List.replicate (15 - l.length) 0)) (cmacDouble k1)))
    else if l.length = 16 then aes k (Nat.xor c (Nat.xor (bytesNum l) k1))
    else cmacChain k k1 n (aes k (Nat.xor c (bytesNum (l.take 16)))) (l.drop 16)

/-- AES-128-CMAC of a message. -/
def cmac (k : Nat) (m : List Byte) : Nat :=
  let k1 := cmacDouble (aes k 0)
  cmacChain k k1 (m.length / 16 + 1) 0 (m.map (fun b => b.toNat))

/-- The tag of R73: the leftmost 64 bits, first byte first. -/
def cmacTag (k : Nat) (m : List Byte) : List Byte := ((aesBytes (cmac k m)).take 8).map byteOf

/-- The key that follows a key (R309, R310): SP 800-108 in counter mode with AES-CMAC, for one 128-bit block. The width of its
counter and length fields, 32 bits each, and the zero byte between label and context are the usual ones (PRESUMED, log entry
91). -/
def nextKey (k : Nat) (label : List Byte) (context : List Byte) : Nat :=
  cmac k ([0, 0, 0, 1] ++ label ++ [0] ++ context ++ [0, 0, 0, 128])

end Sys2Proof.Machine
end

