-- ==== Sys2Proof/Machine/Operands.lean ====
section
/-!
DEFINITION. The forms in which commands name what they act on: slots of the control window and their halves (R38, R40, R41,
R58), instances of families of indices, values in a type's natural size (R39, R77), and Tilsol frames (R64, R65, R68, R71).
-/
namespace Sys2Proof.Machine

/-! ## The control window -/

/-- An offset in a function's BAR0, or from CW_BASE, as window, index, sub-index and byte of the slot (R38). -/
def winAt (off : Nat) : Nat × Nat × Nat × Nat :=
  (off / 2 ^ 27 % 4, off % 2 ^ 27 / 2 ^ 11, off % 2 ^ 11 / 8, off % 8)

/-- The block object is a DOMAIN. -/
def Obj.isDomain (o : Obj) : Bool :=
  match o.row.ty with
  | .domain _ => true
  | _ => false

/-- The slot of an object of more than 32 bits, or of a DOMAIN object, whose slot holds its generation above its length
(R41); an absent slot counts as one of 32 bits (R494). -/
def State.wideSlot (s : State) (idx sub : Nat) : Bool :=
  match findObj s.cfg (canonIdx idx) sub with
  | some o => decide (32 < o.row.ty.width) || o.isDomain
  | none => false

/-- A 32-bit value written to the low half of the slot of an object of 32 bits or fewer, extended (R40). -/
def State.extend32 (s : State) (idx sub : Nat) (v : Nat) : Word :=
  if (findObj s.cfg (canonIdx idx) sub).elim false (fun o => o.row.ty.isSigned) then BitVec.ofInt 64 (sext 32 v) else w64 (v % 2 ^ 32)

/-- The slot a half latch holds, as a number. -/
def latchSlot (win idx sub : Nat) : Nat := win * 2 ^ 24 + idx * 256 + sub

def latchOf (l : List HalfLatch) (ini : Ini) : Option HalfLatch := l.find? (fun x => x.part == ini.part && x.secure == ini.secure)
def latchDrop (l : List HalfLatch) (ini : Ini) : List HalfLatch := l.filter (fun x => !(x.part == ini.part && x.secure == ini.secure))

/-! ## Instances -/

/-- An instance of a family of indices: base + i × stride, with i below n. -/
def instAt (idx base stride n : Nat) : Option Nat :=
  if base ≤ idx ∧ (idx - base) % stride = 0 ∧ (idx - base) / stride < n then some ((idx - base) / stride) else none

/-- A queue's index. -/
def queueAt (idx : Nat) : Option (Nat × Nat) :=
  if 0x7400 ≤ idx ∧ idx < 0x7500 ∧ idx % 16 < 8 then some ((idx - 0x7400) / 16, idx % 16) else none

/-! ## Tilsol -/

/-- The maximum LENGTH of a transport (R68). -/
def maxLength (via : Nat) : Nat := if via = 0 then 48 else if via = 3 then 4096 else 1024

/-- The opcode and the ALIAS of OP (R65). -/
def opcodeOf (h : TilHead) : Nat := h.op % 16
def windowOf (h : TilHead) : Nat := h.op / 16 % 8

/-- The canonical header with LENGTH `len`, then COUNTER (R64). -/
def headBytes (h : TilHead) (len : Nat) : List Byte :=
  [byteOf h.op, byteOf h.client, byteOf h.tag] ++ leBytes 2 h.index ++ [byteOf h.sub] ++ leBytes 2 len ++ leBytes 4 h.counter

/-- The bytes of a frame in canonical form. -/
def frameBytes (f : TilFrame) : List Byte := headBytes f.head f.len ++ f.payload ++ f.mac

/-- OP of a device frame with an opcode (R65). -/
def deviceOp (op : Nat) : Nat := op % 128 + 128

/-- The 29-bit CAN FD identifier (R69). -/
def canId (prio mark : Nat) (h : TilHead) : Nat := prio * 2 ^ 27 + mark * 2 ^ 24 + h.op * 2 ^ 16 + h.client * 2 ^ 8 + h.tag

/-- The acceptance field on CAN XL (R68). -/
def xlAccept (mark : Nat) (h : TilHead) : Nat := mark * 2 ^ 24 + h.op * 2 ^ 16 + h.client * 2 ^ 8 + h.tag

/-- The CAN FD data length that holds `n` bytes. -/
def canLen (n : Nat) : Nat := ([0, 1, 2, 3, 4, 5, 6, 7, 8, 12, 16, 20, 24, 32, 48, 64].find? (fun k => n ≤ k)).getD n

/-- The CAN FD data field, padded with zeros (R69). -/
def canData (h : TilHead) (payload mac : List Byte) : List Byte :=
  let d := leBytes 2 h.index ++ [byteOf h.sub, byteOf payload.length] ++ leBytes 4 h.counter ++ payload ++ mac
  d ++ List.replicate (canLen d.length - d.length) 0

/-- The route word of a frame to the device that receives it (R70). -/
def routeHere : List Byte := [0xFF, 0, 0, 0]

/-- The request in a mailbox buffer: the route word, then the canonical frame (R68, R71).
The other bits of the route word: DESIGN CHOICE, log entry 120. -/
def mailFrame (m : Mail) : TilFrame :=
  let d := m.data
  let b := fun i => numAt d i 1
  { head := ⟨3, m.part, b 4, b 5, b 6, numAt d 7 2, b 9, numAt d 12 4⟩, route := b 0, len := numAt d 10 2,
    payload := (d.drop 16).take (d.length - 24), mac := d.drop (d.length - 8), ident := 0 }

/-- A scalar value in its type's natural size (R77). -/
def natSize (o : Obj) : Nat := o.row.ty.width / 8
def natBytes (o : Obj) (v : Word) : List Byte := leBytes (natSize o) v.toNat

/-- The value that natural-size bytes spell, extended to 64 bits by their type (R39). -/
def natValue (o : Obj) (d : List Byte) : Word :=
  if o.row.ty.isSigned then BitVec.ofInt 64 (sext (8 * d.length) (leNat d)) else w64 (leNat d)

end Sys2Proof.Machine
end

