-- ==== Sys2Proof/Machine/Session.lean ====
section
/-!
DEFINITION. What Tilsol sends (R64 to R76, R81, R82, R84): frames with their tags on the five transports, the answers that are
kept for requests taken, pushes, and the counters of sessions.
-/
namespace Sys2Proof.Machine

/-- A counter accepted from a binding: the last eight are kept (R74). -/
def cacheWith (l : List TilCached) (b c : Nat) : List TilCached :=
  (⟨b, c, none⟩ :: l.filter (fun (x : TilCached) => x.binding == b)).take 8 ++ l.filter (fun (x : TilCached) => x.binding != b)

/-- The response to an accepted counter kept beside it, while it is one of the last eight. -/
def cacheAnswer (l : List TilCached) (b : Nat) (h : TilHead) (status : Nat) (payload : List Byte) : List TilCached :=
  l.map (fun (x : TilCached) => if x.binding == b && x.counter == h.counter then { x with answer := some (h, status, payload) } else x)

/-! ## Keys and tags (R72, R73) -/

/-- The binding of a client. -/
def State.bindingFor (s : State) (client : Nat) : Option Nat :=
  (List.range 64).find? (fun k => s.get (0x1200 + k) 1 == client && (s.get (0x1200 + k) 4 == 1 || s.get (0x1200 + k) 4 == 2))

/-- The key of a binding. -/
def State.keyOf (s : State) (k : Nat) : Nat := mget 0 k s.til.keys

/-- The tag of a frame of a node under a key: over NODE_ID, the canonical header, COUNTER and the payload (R73). -/
def tagOf (key node : Nat) (h : TilHead) (len : Nat) (payload : List Byte) : List Byte :=
  cmacTag key (byteOf node :: headBytes h len ++ payload)

/-- A frame's tag verifies under a binding's key. -/
def State.verifies (s : State) (k : Nat) (f : TilFrame) : Bool := f.mac == tagOf (s.keyOf k) s.selfNode f.head f.len f.payload

/-! ## Markhor's mailbox channels (R293, R294) -/

/-- The channel of a service: 0 for KEY, FUSE and FOXGLOVE, 1 for PLAN_VERIFY and HDCP, 2 for INTEGRITY. -/
def serviceChan (service : Nat) : Nat := if service = 2 then 2 else if service = 1 ∨ service = 5 then 1 else 0

/-- A request that its service still has to answer. -/
def State.mailLive (s : State) (m : MailMsg) : Bool :=
  match m.service with
  | 1 => s.get 0x4000 4 == 2
  | 2 => if m.ref < 256 then s.integ.reqs.any (fun x => x.region == m.ref && !x.done) else s.dict.sets.any (fun x => x.markhor)
  | 3 => if m.ref < 64 then s.til.rekeying.contains m.ref else !s.sec.bundles.isEmpty
  | 4 => !s.sec.fuseReqs.isEmpty
  | 5 => s.get (0x5801 + m.ref * 0x10) 6 == 1
  | _ => if m.ref = 0 then !s.sec.tokens.isEmpty else !s.sec.challenges.isEmpty

/-- A request put to a service: its channel's owner queues it behind those before it. A verification or authentication asked for
again while it waits stays where it is. -/
def State.post (s : State) (service ref : Nat) : State :=
  let l := s.sec.mail.filter s.mailLive
  let again := (service = 1 ∨ service = 5) ∧ l.contains ⟨service, ref⟩
  { s with sec := { s.sec with mail := if again then l else l ++ [⟨service, ref⟩] } }

/-- The request in the slot of a service's channel. -/
def State.slotMail (s : State) (service : Nat) : Option MailMsg :=
  s.sec.mail.find? (fun m => serviceChan m.service == serviceChan service && s.mailLive m)

/-- A request is the one in its channel's slot. -/
def State.inSlot (s : State) (service ref : Nat) : Bool := s.slotMail service == some ⟨service, ref⟩

/-- A request answered: it leaves its slot. -/
def State.unpost (s : State) (service ref : Nat) : State :=
  { s with sec := { s.sec with mail := (s.sec.mail.filter s.mailLive).erase ⟨service, ref⟩ } }

/-! ## CAN (R467) -/

def canIdx (c : Nat) : Nat := 0x9480 + c * 2

/-- A frame sent on a CAN controller that is on: at once, or queued while it is bus-off: 16 of a class, the oldest dropped. -/
def State.canSend (s : State) (c cls : Nat) (hb : Bool) (o : Out) : State :=
  if s.get (canIdx c) 1 = 0 then s
  else if s.get (canIdx c + 1) 1 ≠ 3 then s.emit o
  else
    let q := s.low.can
    let mine := fun (f : CanFrame) => f.can == c && f.cls == cls
    if (q.filter mine).length < 16 then { s with low := { s.low with can := q ++ [⟨c, cls, hb, o⟩] } }
    else
      let old := q.find? mine
      let s := if old.elim false (fun f => f.hb) then s.bump (canIdx c + 1) 5 else s
      { s with low := { s.low with can := q.eraseP mine ++ [⟨c, cls, hb, o⟩] } }

/-- The field transports CAN FD, CAN XL and UDP run while PD18 does and the edge die answers (R14, R15). -/
def State.fieldUp (s : State) : Bool := s.pdOn 18

def ethIdx (m : Nat) : Nat := 0x94A0 + m * 4

/-- A MAC is enabled and its link is up. -/
def State.macUp (s : State) (m : Nat) : Bool := decide (m < 2) && s.fieldUp && s.get (ethIdx m) 1 == 1 && s.get (ethIdx m + 1) 1 == 1

/-- The address, VLAN and priority of a MAC. -/
def State.ethSend (s : State) (m : Nat) : EthSend :=
  ⟨m, bytesAt (s.getLive (okey 0 (ethIdx m) 5)).data 0 16, s.get (ethIdx m) 7, s.get (ethIdx m) 8⟩

/-- A datagram sent by a MAC (R468); it counts in TX_FRAMES. -/
def State.sendEth (s : State) (m : Nat) (o : EthSend → Out) : State :=
  if s.macUp m then (s.bump (ethIdx m + 1) 4).emit (o (s.ethSend m)) else s

/-- The MAC by which a UDP sender reaches the device: the senders that requests number are those of MAC 0 and of MAC 1 in turn (DESIGN
CHOICE, DESIGN CHOICE, log entry 92). -/
def senderMac (sender : Nat) : Nat := sender % 2

/-- A device frame with its tag sent on the transport its header names (R68 to R71): on a CAN controller with PRIORITY `cls`,
where it waits during bus-off; back to a UDP sender; into the function's RSP_ADDR with its interrupt; or as a control-class
message to a node. -/
def State.sendFrame (s : State) (h : TilHead) (cls : Nat) (hb : Bool) (payload mac : List Byte) : State :=
  let canon := headBytes h payload.length ++ payload ++ mac
  if h.via ≤ 2 ∧ !s.fieldUp then s
  else
    match h.via with
    | 0 => s.canSend h.port cls hb (.canFd h.port (canId cls (s.get 0x1040 1) h) (canData h payload mac))
    | 1 => s.canSend h.port cls hb (.canXl h.port (xlAccept (s.get 0x1040 2) h) (s.get 0x1040 3) canon)
    | 2 => s.sendEth (senderMac h.port) (fun e => .udpReply h.port e (s.get 0x1040 4) (routeHere ++ canon))
    | 3 => (s.emit (.hostWrite h.port (s.getB h.port 0x1060 2) (routeHere ++ canon))).emit (.msi h.port (s.getB h.port 0x1060 4))
    | _ => s.sendMsg h.port 1 1 0 0 (s.flowOf h.client 0) canon

/-- The frame reaches the device by its transport (R68, R69): CAN FD and CAN XL by the marks of a controller that is on, UDP by
its port on a MAC whose link is up; the field transports run with PD18. -/
def State.heard (s : State) (f : TilFrame) : Bool :=
  let can := s.fieldUp && s.get (canIdx f.head.port) 1 == 1 && s.get (canIdx f.head.port + 1) 1 != 3 && decide (f.head.port < 4)
  match f.head.via with
  | 0 => can && f.ident % 8 == s.get 0x1040 1 && (decide (3 ≤ f.ident / 8) || bit f.head.op 7)
  | 1 => can && f.ident == s.get 0x1040 2 * 256 + s.get 0x1040 3
  | 2 => s.macUp (senderMac f.head.port) && f.ident == s.get 0x1040 4
  | _ => true

/-- A frame that comes by UDP counts in RX_FRAMES of its MAC. -/
def State.countRx (s : State) (f : TilFrame) : State := if f.head.via = 2 then s.bump (ethIdx (senderMac f.head.port) + 1) 3 else s

/-- The frame that answers a request: what it echoes with OP bit 7 set, and STATUS ahead of the payload (R66). -/
def respHead (h : TilHead) : TilHead := { h with op := deviceOp h.op }
def respBody (status : Nat) (payload : List Byte) : List Byte := leBytes 4 status ++ payload

/-- A response sent the way its request came, under the client's key; through a mailbox it leaves the mailbox free (R71). A
client that has no key here, whose request a gateway could not pass on, gets a tag that is a free value (DESIGN CHOICE, log
entry 92). -/
def State.respond (s : State) (h : TilHead) (status : Nat) (payload : List Byte) : State :=
  let r := respHead h
  let d := respBody status payload
  let s := if h.via = 3 then
      { s with til := { s.til with mailbox := s.til.mailbox.filter (fun (m : Mail) => m.part != h.port) } }
    else s
  match s.bindingFor h.client with
  | some k => s.sendFrame r 2 false d (tagOf (s.keyOf k) s.selfNode r d.length d)
  | none => s.useFree.sendFrame r 2 false d (leBytes 8 s.freeW.toNat)

/-- A taken request answered: the response is sent, and kept with its counter unless the request went to another node, and
the request is no longer outstanding. -/
def State.tilAnswer (s : State) (r : TilReq) (status : Nat) (payload : List Byte) : State :=
  let rest := s.til.reqs.filter (fun (x : TilReq) => !(x.binding == r.binding && x.head == r.head))
  let kept := if r.node.isSome then s.til.cached else cacheAnswer s.til.cached r.binding r.head status payload
  ({ s with til := { s.til with reqs := rest, cached := kept } } : State).respond r.head status payload

/-- The oldest local request that waits for the service behind object `key` is answered. -/
def State.answerKey (s : State) (key status : Nat) : State :=
  match s.til.reqs.reverse.find? (fun (r : TilReq) => r.node.isNone && r.key == key) with
  | some r => s.tilAnswer r status (if status = 0 then r.payload else [])
  | none => s

/-- Every local request that waits for the service behind object `key` is answered. -/
def State.answerAll (s : State) (key status : Nat) : State :=
  foldS (fun s r => s.tilAnswer r status (if status = 0 then r.payload else [])) s
    (s.til.reqs.reverse.filter (fun (r : TilReq) => r.node.isNone && r.key == key))

/-- A binding whose session starts anew under a new key (R74, R308): both counters and their stored values are 0 and
no response is cached. -/
def State.freshSession (s : State) (k gen key : Nat) : State :=
  let s := (((s.put (0x1200 + k) 4 1).put (0x1200 + k) 5 0).put (0x1200 + k) 6 0).put (0x1200 + k) 9 gen
  { s with til := { s.til with
      cached := s.til.cached.filter (fun (x : TilCached) => x.binding != k),
      rxStored := mput 0 k 0 s.til.rxStored, pushStored := mput 0 k 0 s.til.pushStored, keys := mput 0 k key s.til.keys } }

/-! ## Counters and pushes (R74, R75, R81, R82) -/

/-- The largest value of a Tilsol counter. -/
def counterMax : Nat := 0xFFFFFFFF

/-- A counter that has reached 4,096 above its stored value is stored (R75): the stored value that follows. -/
def checkpoint (stored now : Nat) : Nat := if stored + 4096 ≤ now then now else stored

/-- Where a counter starts after a reset of PD0 (R75). -/
def restartCounter (stored : Nat) : Nat := min (stored + 4096) counterMax

/-- Event records that wait for a path leave it; a record with no path left is freed (R428). -/
def State.dropPath (s : State) (q : EvPath) : State :=
  let l := s.ev.store.map (fun (r : EvRec) => { r with paths := r.paths.filter (fun x => !x.eqb q) })
  let s := s.setStore (l.filter (fun (r : EvRec) => !r.paths.isEmpty))
  { s with ev := { s.ev with losses := s.ev.losses.filter (fun x => !x.path.eqb q) } }

/-- A subscription ended, without a push. -/
def State.endSub (s : State) (u : TilSub) : State :=
  ({ s with til := { s.til with subs := s.til.subs.filter (fun (x : TilSub) => x.id != u.id) } } : State).dropPath (.sub u.id)

/-- The subscriptions of a binding end (R82). -/
def State.endSubs (s : State) (k : Nat) : State :=
  foldS State.endSub s (s.til.subs.filter (fun (u : TilSub) => u.binding == k))

/-- The subscriptions of a binding whose PUSH_COUNTER has reached its limit end with a Warning event (R75, R82). -/
def State.endPushes (s : State) (k : Nat) : State := (s.endSubs k).raise 0x1041 0 5 sevWarning (s.bindingPart k) [byteOf k]

/-- A push to a client: PUSH_COUNTER advances and the frame carries it, with OP 0x8C and a tag under the client's key; past the
limit nothing is pushed (R73, R75, R82). -/
def State.push (s : State) (k tag obj : Nat) (payload : List Byte) : State :=
  let c := s.get (0x1200 + k) 6
  if counterMax ≤ c then s
  else
    let way := mget (2, 0) k s.til.ways
    let h : TilHead := ⟨way.1, way.2, 0x8C, s.get (0x1200 + k) 1, tag, obj / 256, obj % 256, c + 1⟩
    let s := (s.put (0x1200 + k) 6 (c + 1)).sendFrame h 2 false payload (tagOf (s.keyOf k) s.selfNode h payload.length payload)
    let kept := mput 0 k (checkpoint (mget 0 k s.til.pushStored) (c + 1)) s.til.pushStored
    let s := { s with til := { s.til with pushStored := kept } }
    if c + 1 = counterMax then s.endPushes k else s

/-- The attributes a binding's requests are executed with (R72). -/
def State.clientIni (s : State) (k : Nat) : Ini := ⟨s.bindingPart k, false, .tilsol k⟩

/-- The object that a push of a subscription names. -/
def TilSub.obj (u : TilSub) : Nat := keyIdx u.key * 256 + keySub u.key

/-- A plan swap ends the subscriptions of objects that their partition may no longer read, each with a final push (R82). -/
def State.endUnreadable (s : State) : State :=
  foldS (fun s (u : TilSub) => (s.push u.binding u.tag u.obj (leBytes 4 codeNoReadAccess)).endSub u) s
    (s.til.subs.filter (fun (u : TilSub) => u.kind == 0 && (findObj s.cfg (keyIdx u.key) (keySub u.key)).elim false (fun o =>
      !s.hasRight (s.clientIni u.binding) false o (keyIdx u.key) (keySub u.key))))

end Sys2Proof.Machine
end

