-- ==== Sys2Proof/Machine/Fabric.lean ====
section
/-!
DEFINITION. What Chamois takes in (R340 to R346, R351, R353, R362): acknowledgements and time-outs, flits, Bulk traffic, tiles of
remote streams, node hellos and node heartbeats.
-/
namespace Sys2Proof.Machine

/-! ## End to end (R345) -/

/-- E2E_ACK_RX (R345): node `src` acknowledges messages of a class up to a MSG_SEQ. -/
def execE2eAckRx (t src cls seq : Nat) (s : State) : Host.Outcome State Fault Refusal :=
  at_ t s fun s =>
    let r := s.e2eTx src cls
    let left := r.msgs.filter (fun m => serialLater 16 m.1 seq)
    if left.length < r.msgs.length then
      (s.putE2eTx { r with msgs := left, at_ := s.now, tries := 0 }).drainE2e src cls r.held.length
    else s

/-- A read of a surface homed on another node ends: its initiator is answered with the data, zero where none has come. -/
def State.answerRead (s : State) (r : RemoteRead) (data : List Byte) : State :=
  ({ s with fabric := { s.fabric with reads := s.fabric.reads.erase r } } : State).emit (.readBytes r.part (bytesAt data 0 r.len))

/-- E2E_TIMEOUT (R345): the first unacknowledged message of a destination and class has waited for E2E_TIMEOUT_US. It is retransmitted
with those after it, or abandoned after three retransmissions. -/
def execE2eTimeout (t dest cls : Nat) (s : State) : Host.Outcome State Fault Refusal :=
  at_ t s fun s =>
    let r := s.e2eTx dest cls
    if r.msgs.isEmpty ∨ s.now < r.at_ + s.get 0x7800 7 * 1000 then s
    else if r.tries < 3 then
      foldS (fun s (m : Nat × Nat × List Byte) => s.sendFlits dest cls m.2.1 m.2.2)
        (s.putE2eTx { r with at_ := s.now, tries := r.tries + 1 }) r.msgs
    else
      let s := s.putE2eTx { r with msgs := r.msgs.drop 1, at_ := s.now, tries := 0 }
      let s := s.setFlag (okey 0 0x7801 0) 7
      -- a forwarded Tilsol request is answered NODE_UNREACHABLE (R365)
      let s := match r.msgs.head? with
        | some m =>
          if numAt m.2.2 2 1 = 1 then
            match s.til.reqs.find? (fun (q : TilReq) => q.node == some dest) with
            | some q => s.tilAnswer q codeNodeUnreachable []
            | none => s
          else s
        | none => s
      -- a read of a remote surface that fails is answered with zeros (DESIGN CHOICE, log entry 106)
      let s := match r.msgs.head? with
        | some m =>
          if numAt m.2.2 2 1 = 0x21 then
            match s.fabric.reads.find? (fun (q : RemoteRead) => q.node == dest && q.addr == numAt m.2.2 8 8) with
            | some q => s.answerRead q []
            | none => s
          else s
        | none => s
      let s := if s.nodeReach dest then s else s.setFlag (okey 0 0x7801 0) 6
      s.drainE2e dest cls r.held.length

/-! ## Receiving flits (R341, R362) -/

def kindKnown (k : Nat) : Bool := [1, 2, 3, 4, 5, 6, 0x10, 0x20, 0x21, 0x22].contains k

/-- A whole message has arrived for this node: Control and Bulk messages are taken in sequence and acknowledged, and a
message with a reserved KIND counts as a CRC error (R340, R345). What the message does is the row of its KIND. -/
def State.takeMessage (s : State) (k cls src : Nat) (m : List Byte) : State :=
  let kind := numAt m 2 1
  let seq := numAt m 0 2
  if !kindKnown kind then s.bump (chIdx k + 2) 3
  else if (cls = 1 ∨ cls = 3) ∧ kind ≠ 2 then
    let r := (s.fabric.rx.find? (fun x => x.src == src && x.cls == cls)).getD ⟨src, cls, 0⟩
    let ack := fun (s : State) => s.sendMsg src 1 2 0 (seq + cls * 65536) 0 [0]
    if seq = r.expected then
      ack { s with fabric := { s.fabric with rx := ⟨src, cls, (seq + 1) % 65536⟩
                                 :: s.fabric.rx.filter (fun x => !(x.src == src && x.cls == cls)) } }
    else if serialLater 16 seq r.expected then s
    else ack s
  else s

/-- A flit that is a whole node hello, which goes from port to port (R351): its sender does not yet know the neighbour's ID, so it is for
whoever gets it and outside the sequence of R345 (DESIGN CHOICE, log entry 107). -/
def Flit.isHello (f : Flit) : Bool := f.cls == 1 && f.first && f.last && numAt f.payload 2 1 == 5

/-- A data flit accepted in sequence: put together for this node, or passed on toward its destination. From an excluded neighbour
only a hello is taken (R351); its effect is the row NODE_HELLO_RX. -/
def State.takeFlit (s : State) (k : Nat) (f : Flit) : State :=
  if (s.link k).barred ∨ f.isHello then s
  else if f.dest = s.selfNode then
    let here := fun (a : MsgAsm) => a.port == k && a.vc == f.vc && a.cls == f.cls && a.src == f.src
    let old := if f.first then [] else ((s.fabric.asm.find? here).map (fun a => a.bytes)).getD []
    let bytes := old ++ f.payload
    let rest := s.fabric.asm.filter (fun a => !here a)
    if f.last then { s with fabric := { s.fabric with asm := rest } }.takeMessage k f.cls f.src bytes
    else { s with fabric := { s.fabric with asm := ⟨k, f.vc, f.cls, f.src, bytes⟩ :: rest } }
  else
    match s.onward k f.src f.dest with
    | none => s.noRoute f.cls
    | some p =>
      let turned := decide (k / 2 ≠ p / 2)
      s.portSend p [{ f with vc := if s.crosses p then 1 else if turned then 0 else f.vc }]

/-- Foxglove counts an injected event. -/
def State.injected (s : State) (k : Nat) : State := s.bump (chIdx k + 3) 8

/-- What Foxglove does to a flit of a class on a port at a layer (R362): 0 nothing, 1 it is dropped, 2 it is corrupted. -/
def State.foxFlit (s : State) (k cls layer : Nat) : State × Nat :=
  let i := chIdx k + 3
  let mode := s.get i 1
  if mode = 0 ∨ s.get i 2 ≠ layer ∨ !bit (s.get i 7) cls then (s, 0)
  else
    let r := s.link k
    let n := r.foxCount + 1
    let s := s.putLink { r with foxCount := n }
    let every := bit mode 0 && n % max 1 (s.get i 3) == 0
    let (s, byChance) := if bit mode 1 then (s.useFree, decide (s.freeW.toNat % 2 ^ 32 < s.get i 4)) else (s, false)
    if every || byChance then (s.injected k, 1) else if bit mode 3 then (s.injected k, 2) else (s, 0)

/-- Foxglove's swap (R362, mode 4): of each VC of a masked class the two flits of every 1,024th pair change places. The answer is the
flits that go on, in their order. -/
def State.foxSwap (s : State) (k : Nat) (f : Flit) (layer : Nat) : State × List Flit :=
  let i := chIdx k + 3
  let v := f.cls * 2 + f.vc
  let r := s.link k
  let n := mget 0 v r.foxPairs
  let counted := { r with foxPairs := mput 0 v (n + 1) r.foxPairs }
  match r.foxHeld with
  | some (l, b) =>
    let h := Flit.ofBytes b
    if l = layer ∧ h.cls = f.cls ∧ h.vc = f.vc then (s.putLink { counted with foxHeld := none }, [f, h]) else (s, [f])
  | none =>
    if !bit (s.get i 1) 4 ∨ s.get i 2 ≠ layer ∨ !bit (s.get i 7) f.cls then (s, [f])
    else if n % 2048 = 2046 then ((s.putLink { counted with foxHeld := some (layer, f.bytes) }).injected k, [])
    else (s.putLink counted, [f])

/-- Foxglove's delay (R362, mode 5) counts as injected; by how much it delays is timing (DESIGN CHOICE, log entry 2). -/
def State.foxDelay (s : State) (k cls : Nat) : State :=
  let i := chIdx k + 3
  if bit (s.get i 1) 5 ∧ bit (s.get i 7) cls ∧ s.get i 6 ≠ 0 then s.injected k else s

/-- Symbols corrupted before FEC decoding (R362, mode 2): more than 15 of them cannot be corrected. Which bits share a
symbol is not given, so from 16 bits on a free value tells whether the codeword is lost. -/
def State.foxFec (s : State) (k : Nat) : State × Nat :=
  let i := chIdx k + 3
  if !bit (s.get i 1) 2 then (s, 0)
  else
    let s := s.injected k
    if s.get i 6 ≤ 15 then (s, 1) else (s.useFree, if s.freeW.toNat % 2 = 0 then 1 else 2)

/-- A NAK sent once for the SEQ expected. -/
def State.nak (s : State) (k : Nat) : State :=
  let r := s.link k
  if r.nakSent then s else (s.sendControl k 2 r.rxSeq).putLink { r with nakSent := true }

/-- A data flit past FEC and CRC. -/
def State.rxData (s : State) (k : Nat) (f : Flit) : State :=
  let s := s.takeAck k f.ack
  let r := s.link k
  if f.seq = r.rxSeq then
    let s := s.putLink { r with rxSeq := (r.rxSeq + 1) % 4096, nakSent := false }
    let (s, lost) := if f.last then s.foxFlit k f.cls 1 else (s, 0)
    if lost ≠ 0 then
      { s with fabric := { s.fabric with asm := s.fabric.asm.filter (fun a =>
        !(a.port == k && a.vc == f.vc && a.cls == f.cls && a.src == f.src)) } }
    else
      let (s, l) := s.foxSwap k f 1
      foldS (fun s g => s.takeFlit k g) s l
  else s.nak k

/-- What FEC makes of a flit's codeword (R340): `fec` is 0 for no error, 1 for a corrected and 2 for an uncorrectable
codeword. Foxglove acts on it where the flit has a class in CLASS_MASK; idle flits and NAKs have none (DEDUCED, log entry 108). -/
def State.rxFec (s : State) (k fec : Nat) (cls : Option Nat) : State × Bool :=
  let (s, fox) := if cls.elim false (fun c => bit (s.get (chIdx k + 3) 7) c) then s.foxFec k else (s, 0)
  let e := max fec fox
  if e = 0 then (s, true)
  else if e = 1 then (s.bump64 (chIdx k + 2) 1 1, true)
  else (s.bump (chIdx k + 2) 2, false)

/-- DATA_FLIT_RX (R341): a data flit of 256 bytes arrives on a port. -/
def execDataFlitRx (t port : Nat) (bytes : List Byte) (fec : Nat) (s : State) : Host.Outcome State Fault Refusal :=
  at_ t s fun s =>
    if !s.linkRuns port then s
    else
      let f := Flit.ofBytes bytes
      let (s, ok) := s.rxFec port fec (some f.cls)
      if !ok then s
      else
        let (s, bad) := s.foxFlit port f.cls 0
        if bad = 1 then s
        else if bad = 2 || !flitCrcOk bytes then (s.bump (chIdx port + 2) 3).nak port
        else if f.ty ≠ 1 then s
        else
          let (s, l) := s.foxSwap port f 0
          foldS (fun s g => s.rxData port g) ((s.foxDelay port f.cls).traceSource 4 bytes) l

/-- NAK_FLIT_RX (R341): the sender replays from the SEQ named. -/
def execNakFlitRx (t port : Nat) (bytes : List Byte) (fec : Nat) (s : State) : Host.Outcome State Fault Refusal :=
  at_ t s fun s =>
    if !s.linkRuns port then s
    else
      let (s, ok) := s.rxFec port fec none
      let f := Flit.ofBytes bytes
      if !ok then s
      else if !flitCrcOk bytes then s.bump (chIdx port + 2) 3
      else if f.ty ≠ 2 then s
      else (s.takeAck port ((f.seq + 4095) % 4096)).replayFrom port f.seq

/-- IDLE_FLIT_RX (R341): its ACK releases acknowledged flits. -/
def execIdleFlitRx (t port : Nat) (bytes : List Byte) (fec : Nat) (s : State) : Host.Outcome State Fault Refusal :=
  at_ t s fun s =>
    if !s.linkRuns port then s
    else
      let (s, ok) := s.rxFec port fec none
      let f := Flit.ofBytes bytes
      if !ok then s
      else if !flitCrcOk bytes then s.bump (chIdx port + 2) 3
      else if f.ty ≠ 0 then s
      else s.takeAck port f.ack

/-- IDLE_FLIT_SEND (R341): after 1 µs without data. -/
def execIdleFlitSend (t port : Nat) (s : State) : Host.Outcome State Fault Refusal :=
  at_ t s fun s =>
    let r := s.link port
    if s.linkRuns port ∧ r.sentAt + 1000 ≤ s.now then (s.sendControl port 0 0).putLink { r with sentAt := s.now } else s

/-- REPLAY_TIMEOUT (R341): no ACK has advanced for 10 µs. -/
def execReplayTimeout (t port : Nat) (s : State) : Host.Outcome State Fault Refusal :=
  at_ t s fun s =>
    let r := s.link port
    match r.unacked.head? with
    | some f => if s.linkRuns port ∧ r.ackAt + 10000 ≤ s.now then s.replayFrom port f.seq else s
    | none => s

/-! ## Link training (R339, R342, R351) -/

/-- The hello a port sends after link-up (R351): serial, configuration, node ID and port number, and STRAP_SENIOR for the formation of a
Twin (R355; DESIGN CHOICE, log entry 107). -/
def State.sendHello (s : State) (k : Nat) : State :=
  let m := msgBytes 0 5 0 (s.get 0x1018 4) [byteOf (if s.cfg.compact then 0x43 else 0x46), byteOf s.selfNode, byteOf k,
    byteOf (s.get 0x7840 7)]
  s.portSend k [{ ty := 1, seq := 0, ack := 0, dest := 0, cls := 1, src := s.selfNode, vc := 0, first := true, last := true,
                  flow := 0, payload := m }]

/-- The fastest of R339's lane rates that MAX_RATE allows. -/
def State.laneGbps (s : State) (k gbps : Nat) : Nat :=
  min gbps (match s.get (chIdx k) 2 with
    | 0 => 112
    | 1 => 56
    | _ => 28)

/-- A port that Pixel traffic was reserved on is down (R346): where the reservations do not fit the ports that are left, a new binding is
computed (R135). -/
def State.detourBinding (s : State) (k : Nat) : State :=
  s.plan.active.elim s (fun p =>
    if s.reserveFits p s.place.shed then s
    else { s with place := { s.place with rebinding := s.place.rebinding ++ [(.chamois, k)] } })

/-- PORT_RETRAIN_DONE (R342): training of a port ends on a number of lanes at a lane rate; on none the link is down. -/
def execPortRetrainDone (t port lanes gbps : Nat) (s : State) : Host.Outcome State Fault Refusal :=
  at_ t s fun s =>
    if s.cfg.chamois ≤ port ∨ s.get (chIdx port + 1) 1 ≠ 1 ∨ !s.pdOn 13 then s
    else
      let max_ := s.get (chIdx port) 3
      let n := if 4 ≤ min lanes max_ then 4 else if 2 ≤ min lanes max_ then 2 else min lanes max_
      if n = 0 then (s.linkDown port).detourBinding port
      else
        let r := s.link port
        let fresh := r.unacked.isEmpty && r.txSeq == 0
        let s := ((s.put (chIdx port + 1) 1 (if n < max_ then 3 else 2)).put (chIdx port + 1) 2 n).put (chIdx port + 1) 3
          (s.laneGbps port gbps)
        let s := s.setFlag (okey 0 0x7801 0) 2
        let s := if n < max_ then s.raise 0x7801 port 1 sevWarning 0 [byteOf port, byteOf n] else s
        let s := s.putLink { s.link port with ackAt := s.now, sentAt := s.now, replays := 0, nakSent := false }
        if fresh then s.sendHello port else foldS (fun s f => s.resend port f) s r.unacked

/-- LINK_RETRY (R342): a port that is down trains again every 1 s while ENABLE is set. -/
def execLinkRetry (t port : Nat) (s : State) : Host.Outcome State Fault Refusal :=
  at_ t s fun s =>
    if port < s.cfg.chamois ∧ s.pdOn 13 ∧ s.get (chIdx port) 1 = 1 ∧ s.get (chIdx port + 1) 1 = 4 ∧ !s.isLost .chamois port
        ∧ (s.link port).downAt + 1000000000 ≤ s.now then
      (s.put (chIdx port + 1) 1 1).bump (chIdx port + 2) 5
    else s

/-- The node ID a neighbour must hold, and its port, by position (R344, R351); none in a Twin, where IDs only differ. -/
def State.neighbourOf (s : State) (k : Nat) : Option (Nat × Nat) :=
  let me := s.selfNode
  let n := max 1 s.fabric.ringSize
  let (cols, rows) := (max 1 s.fabric.cols, max 1 s.fabric.rows)
  match s.fabric.topology, k with
  | 2, 0 => some ((me + 1) % n, 1)
  | 2, _ => some ((me + n - 1) % n, 0)
  | 3, 0 => some (me / 8 * 8 + (me % 8 + 1) % cols, 1)
  | 3, 1 => some (me / 8 * 8 + (me % 8 + cols - 1) % cols, 0)
  | 3, 2 => some ((me / 8 + 1) % rows * 8 + me % 8, 3)
  | 3, _ => some ((me / 8 + rows - 1) % rows * 8 + me % 8, 2)
  | _, _ => none

/-- NODES_PRESENT and NODES_REACHABLE follow the members (R351); of the GATEWAYS this device knows itself alone (DESIGN CHOICE, log entry
107). -/
def State.syncNodes (s : State) : State :=
  let bits := fun (p : Nat → Bool) => (List.range 64).foldl (fun m n => setBit m n (p n)) 0
  let present := bits (fun n => n == s.selfNode || s.get (0x7940 + n) 1 == 1)
  let reach := bits (fun n => n == s.selfNode || s.nodeReach n)
  let way := fun (g : Nat) => if s.fabric.gateway = g then s.selfNode % 256 else 0xFF
  let s := s.put 0x7900 4 (way 1 + 256 * way 2)
  ((s.put 0x7900 2 present).put 0x7900 3 reach).put 0x7900 1
    (if (List.range 64).any (fun n => s.get (0x7940 + n) 1 == 2) then 3
     else if s.upPorts.all (fun k => s.get (chIdx k + 1) 4 != 0xFF) then 2 else 1)

/-- ROLE (0x1020:02) follows the topology in force, the seniority and GATEWAY. -/
def State.syncRole (s : State) : State :=
  s.put 0x1020 2 (match s.fabric.topology with
    | 0 => 0
    | 1 => if s.get 0x7840 8 = 1 then 1 else 2
    | 2 => 3
    | _ => if s.fabric.gateway = 0 then 4 else 5)

/-- The Twin forms (R355): the senior device is the one whose strap alone is high, else the one with the lower
SERIAL, which is a conflict. Markhor exchanges the partner's broadcast key (R354): a free value here, and its generation
(DESIGN CHOICE, log entry 3). -/
def State.formTwin (s : State) (serial : Nat) (strap : Bool) : State :=
  let mine := s.get 0x7840 7 == 1
  let senior := if mine = strap then decide (s.get 0x1018 4 < serial) else mine
  let key := s.freeW.toNat + 2 ^ 64 * s.useFree.freeW.toNat
  let gen := s.useFree.useFree.freeW.toNat % 256
  let s := s.useFree.useFree.useFree
  let x := { s.fabric.twin with formed := true, hbAt := s.now, pinAt := s.now, witAt := s.now, goodSince := some s.now, key := key, gen := gen }
  let s := { s with fabric := { s.fabric with twin := x } }
  let s := (s.put 0x7840 8 (if senior then 1 else 0)).put 0x7841 1 1
  let s := s.syncRole
  if mine = strap then s.raise 0x7842 0 7 sevWarning 0 [] else s

/-- A neighbour that the configurations shut out (R5, R6, R350): a Compact in a torus; another configuration than this
device's in a Twin; and any member of a ring of more than 8 with a Compact on this side or that. The manual gives the
reason Compact (1) for the torus; the other two show it as well (DESIGN CHOICE, log entry 90). -/
def State.configBars (s : State) (config : Nat) : Bool :=
  match s.fabric.topology with
  | 1 => config != (if s.cfg.compact then 0x43 else 0x46)
  | 2 => decide (8 < s.fabric.ringSize) && (s.cfg.compact || config == 0x43)
  | 3 => s.cfg.compact || config == 0x43
  | _ => false

/-- NODE_HELLO_RX (R351): the hello of the neighbour of a port, with its serial, configuration (0x46 or 0x43), node ID, port
number and STRAP_SENIOR. -/
def execNodeHelloRx (t port serial config node nport : Nat) (strap : Bool) (s : State) : Host.Outcome State Fault Refusal :=
  at_ t s fun s =>
    if !s.linkUp port ∨ 64 ≤ node then s
    else
      let w := 0x7940 + node
      let fits := match s.neighbourOf port with
        | some (n, p) => decide (n = node ∧ p = nport)
        | none => decide (node ≠ s.selfNode ∧ nport = port)
      let dup := decide (node = s.selfNode ∨ (s.get w 1 = 1 ∧ s.get w 2 ≠ serial))
      let reason := if s.configBars config then 1 else if dup then 3 else if !fits then 2 else 0
      let joined := s.get w 1 ≠ 1
      let s := ((s.put (chIdx port + 1) 4 node).put (chIdx port + 1) 5 nport)
      if s.fabric.topology = 0 then s
      else
      let s := s.putLink { s.link port with barred := reason != 0 }
      if dup ∧ reason = 3 then (s.put w 4 3).syncNodes
      else
        let s := if reason = 1 ∧ s.get w 1 ≠ 2 then s.raiseCode 7 port codeOk sevNotice 0 [byteOf node] else s
        let s := (((s.put w 1 (if reason = 0 then 1 else 2)).put w 2 serial).put w 3 config).put w 4 reason
        let s := if reason = 2 then s.raise 0x7801 port 5 sevWarning 0 [byteOf port, byteOf nport] else s
        let s := if reason = 0 ∧ joined then s.setFlag (okey 0 0x7801 0) 4 else s
        let s := { s with fabric := { s.fabric with heard := (node, s.now) :: s.fabric.heard.filter (fun x => x.1 != node) } }
        let s := if s.fabric.topology = 1 ∧ reason = 0 ∧ !s.fabric.twin.formed then s.formTwin serial strap else s
        s.syncNodes

/-! ## Node heartbeats (R353) -/

/-- HEALTH as R86 (DEDUCED, log entry 23 for DEGRADED and PLAN_RUNNING). -/
def State.health (s : State) : Nat :=
  let run := s.plan.active.isSome
  (if s.get 0x8C60 2 = 1 then 1 else 0) + (if run && !s.plan.early then 2 else 0) + (if run && s.plan.early then 4 else 0)
    + (if s.get 0x2000 1 = 1 then 8 else 0) + (if s.get 0x7841 1 = 1 then 16 else 0)
    + (if !s.place.lost.isEmpty ∨ !s.place.shed.isEmpty ∨ !s.place.dropped.isEmpty then 32 else 0)

/-- ACTIVE_PLAN_ID [31:0]. -/
def State.planIdLow (s : State) : Nat := s.plan.active.elim 0 (fun p => p.planId % 2 ^ 32)

/-- NODE_HEARTBEAT_SEND: every 1 ms a member of a ring or torus sends a node heartbeat to each neighbour. -/
def execNodeHeartbeatSend (t : Nat) (s : State) : Host.Outcome State Fault Refusal :=
  at_ t s fun s =>
    if s.fabric.topology < 2 then s
    else
      let body := [byteOf s.selfNode, byteOf (s.get 0x1020 2)] ++ leBytes 2 s.health ++ leBytes 4 s.epoch ++ leBytes 4 s.planIdLow
      foldS (fun s k =>
        let n := s.get (chIdx k + 1) 4
        if s.get (0x7940 + n) 1 = 1 ∧ n < 64 then s.sendMsgOn k n 6 0 0 (s.flowOf s.selfNode 0) body else s) s s.carryPorts

/-- A node holds a position of the ring or torus that is not next to this one. How its own neighbours' enumeration reaches this device
the manual does not say: that it is heard tells that it is a member (DESIGN CHOICE, log entry 107). -/
def State.farNode (s : State) (n : Nat) : Bool :=
  n != s.selfNode && !(List.range s.cfg.chamois).any (fun k => (s.neighbourOf k).elim false (fun x => x.1 == n))
    && (match s.fabric.topology with
        | 2 => decide (n < s.fabric.ringSize)
        | 3 => decide (n % 8 < s.fabric.cols ∧ n / 8 < s.fabric.rows)
        | _ => false)

/-- NODE_HEARTBEAT_RX: a node's heartbeat arrives; a member that was lost, or not yet known, joins (R353). -/
def execNodeHeartbeatRx (t node : Nat) (s : State) : Host.Outcome State Fault Refusal :=
  at_ t s fun s =>
    if 64 ≤ node ∨ s.get (0x7940 + node) 1 = 2 then s
    else
      let s := { s with fabric := { s.fabric with heard := (node, s.now) :: s.fabric.heard.filter (fun x => x.1 != node) } }
      if s.get (0x7940 + node) 1 ≠ 1 ∧ s.farNode node then ((s.put (0x7940 + node) 1 1).setFlag (okey 0 0x7801 0) 4).syncNodes else s

/-- Hops to a node by the routes of R344. -/
def State.hopsTo (s : State) (n : Nat) : Nat :=
  let near := fun (d : Nat × Nat) => min d.1 d.2
  let me := s.selfNode
  if n = me then 0
  else match s.fabric.topology with
    | 2 => near (ringDist (max 1 s.fabric.ringSize) me n)
    | 3 => near (ringDist (max 1 s.fabric.cols) (me % 8) (n % 8)) + near (ringDist (max 1 s.fabric.rows) (me / 8) (n / 8))
    | _ => 1

/-- MASTER_NODE and HOPS; a change from one master to another sets MASTER_CHANGED (R349). A follower that becomes the master goes on
from its own Wall time; with TIME_SOURCE 3 that is not TAI (R347). -/
def State.setMaster (s : State) (n : Nat) : State :=
  let old := s.get 0x7820 7
  let s := if old ≠ 0xFF ∧ old ≠ n then s.setFlag (okey 0 0x7821 0) 4 else s
  let s := (s.put 0x7820 7 n).put 0x7820 9 (if n = 0xFF then 0 else min 8 (s.hopsTo n))
  if n = s.selfNode ∧ s.get 0x7820 6 = 2 then (s.put 0x7820 6 4).put 0x7820 0xA (if s.get 0x7820 1 = 3 then 1 else 0) else s

/-- NODE_LOST (R353): a member that no neighbour has heard for NODE_TIMEOUT_MS, or that no route reaches. Surfaces
homed on it are lost, and `master` is the next time master if the lost node was the master (R349). -/
def execNodeLost (t node : Nat) (master : Nat) (s : State) : Host.Outcome State Fault Refusal :=
  at_ t s fun s =>
    let w := 0x7940 + node
    let silent := (s.fabric.heard.find? (fun x => x.1 == node)).elim true (fun x =>
      decide (x.2 + s.get 0x7800 6 * 1000000 ≤ s.now))
    if s.get w 1 ≠ 1 ∨ 64 ≤ node ∨ (!silent && s.nodeReach node) then s
    else
      let s := s.put w 1 3
      let s := if s.fabric.gateway ≠ 0 then s.raise 0x7801 0 3 sevError 0 [byteOf node] else s.setFlag (okey 0 0x7801 0) 3
      let s := foldS (fun s (m : Migration) => s.abandonMigration m.surf) s (s.place.migs.filter (fun m => m.loc == 2 && m.group == node))
      let hit := s.place.surfs.filter (fun f => f.loc == 2 && f.group == node && !f.homeless)
      let s := foldS State.loseSurface s hit
      let s := if s.get 0x7820 7 = node then s.setMaster (if 64 ≤ master then 0xFF else master) else s
      s.syncNodes

/-! ## Bulk traffic (R281, R340) and remote tiles (R139) -/

/-- The initiator code a remote transaction is recorded with: that of the PCIe function it came from (DEDUCED, log entry 22). -/
def remoteInit (part : Nat) : Nat := if part = 0 then 2 else 0

/-- The check of a Bulk transaction of another node (R281, R282): remote secure traffic fails, and so does a transaction any byte of
which fails. The violation is recorded. -/
def State.bulkCheck (s : State) (part : Nat) (secure write : Bool) (addr len : Nat) : Option State :=
  if secure then some (s.violate (remoteInit part) part true (s.targetOf addr) addr)
  else (s.accessFails part false write addr len).map (fun x => s.violate (remoteInit part) part false x.2 x.1)

/-- Bytes written to memory, through the surface that holds them where there is one (R131, R148). -/
def State.writeData (s : State) (addr : Nat) (data : List Byte) : State :=
  match s.surfAt addr with
  | some f => if addr + data.length ≤ f.addr + f.size then s.wrSurf f (addr - f.addr) data else s.wrMem addr data
  | none => s.wrMem addr data

/-- BULK_WRITE_RX: a Bulk Write message writes data at an internal address of this node. -/
def execBulkWriteRx (t src part : Nat) (secure : Bool) (addr : Nat) (data : List Byte) (s : State) :
    Host.Outcome State Fault Refusal :=
  at_ t s fun s =>
    if s.get (0x7940 + src) 1 ≠ 1 then s
    else (s.bulkCheck part secure true addr data.length).getD (s.writeData addr data)

/-- BULK_READ_REQUEST_RX: the data at an internal address goes back in a read-data message; a failed read returns
zeros. -/
def execBulkReadRequestRx (t src part : Nat) (secure : Bool) (addr len : Nat) (s : State) :
    Host.Outcome State Fault Refusal :=
  at_ t s fun s =>
    if s.get (0x7940 + src) 1 ≠ 1 ∨ len = 0 ∨ 65536 < len then s
    else
      let send := fun (s : State) (d : List Byte) =>
        s.sendMsg src 3 0x22 (part % 16) addr (s.flowOf part (addr / 65536)) d
      match s.bulkCheck part secure false addr len with
      | some s => send s (List.replicate len 0)
      | none => send (s.reportBroken addr len) (s.rdSectors addr len)

/-- BULK_READ_DATA_RX: read data returns to the read that waits for it. -/
def execBulkReadDataRx (t src addr : Nat) (data : List Byte) (s : State) : Host.Outcome State Fault Refusal :=
  at_ t s fun s =>
    let hit := fun (r : RemoteRead) => r.node == src && r.addr == addr
    match s.fabric.reads.find? hit with
    | none => s
    | some r => s.answerRead r data

/-- TILE_MESSAGE_RX (R139): a tile of frame `epoch` of a remote stream arrives, with its R153 header and data and its
PRESENT_TIME in Wall time. `need` are the tiles of that frame this node needs. A frame that came too late for its epoch is
adopted at the first epoch by which all its tiles have arrived. -/
def execTileMessageRx (t src stream tile epoch header : Nat) (data : List Byte) (present : Nat) (need : List Nat) (s : State) :
    Host.Outcome State Fault Refusal :=
  at_ t s fun s =>
    if s.get (0x7940 + src) 1 ≠ 1 then s
    else
      let here := fun (x : Stream) => x.node == src && x.stream == stream
      let old := (s.place.streams.find? here).getD ⟨src, stream, [], 0, [], epoch, need, false, 0⟩
      let x := if old.want = epoch ∧ !old.next.isEmpty then old else { old with want := epoch, next := [], need := need, late := false }
      let local_ := (present + 2 ^ 64 - s.time.wallOff % 2 ^ 64) % 2 ^ 64
      let x := { x with next := ⟨tile, header, data⟩ :: x.next.filter (fun y => y.tile != tile),
                        time := if s.get 0x9060 3 = 1 then local_ else s.now }
      { s with place := { s.place with streams := x :: s.place.streams.filter (fun y => !here y) } }

/-- The surface that a layer has latched has its home on a node. -/
def State.homedOn (s : State) (l : LayerSt) (node : Nat) : Bool :=
  match l.src with
  | .surf id => (s.surf id).elim false (fun f => f.loc == 2 && f.group == node)
  | _ => false

/-- REMOTE_PRESENT_ADOPT (R139): at an epoch a remote frame whose tiles have all arrived is shown; one that misses
tiles counts once in LATE_REMOTE and keeps the previous content. Streams of an unreachable node stay as they are. -/
def State.adoptStreams (s : State) : State :=
  foldS (fun s (x : Stream) =>
    let put := fun (s : State) (y : Stream) =>
      { s with place := { s.place with streams := y :: s.place.streams.filter (fun z => !(z.node == y.node && z.stream == y.stream)) } }
    if x.next.isEmpty ∨ !serialLater 32 s.epoch x.want then s
    else if x.need.all (fun t => x.next.any (fun y => y.tile == t)) then
      let tiles := x.next ++ x.tiles.filter (fun y => !x.next.any (fun z => z.tile == y.tile))
      let s := put s { x with tiles := tiles, epoch := x.want, next := [], late := false }
      foldS (fun s (l : PlanLayer) =>
        let s := s.putLayerSt { s.layerSt l.slot with src := .stream x.node x.stream, whole := true, time := x.time }
        let s := (s.put (0x4400 + l.slot) 0xF s.epoch).put (0x4400 + l.slot) 0x10 x.time
        { s with integ := { s.integ with latched := l.slot :: s.integ.latched.filter (fun n => n != l.slot) } }) s
        (s.layers.filter (fun l => l.kind == 3 && bitsOf l.sourceRef 15 8 == x.node && bitsOf l.sourceRef 7 0 == x.stream))
      |> fun s => { s with comp := { s.comp with layers := s.comp.layers.map (fun (l : LayerSt) =>
          if s.homedOn l x.node ∧ l.slot % 256 = x.stream then { l with whole := true } else l) } }
    else if x.late then s
    else ((put s { x with late := true }).bump 0x3431 6).setFlag (okey 0 0x3430 0) 8) s s.place.streams

/-! ## Foxglove (R363) and reset of PD13 (R350) -/

/-- Bit `n` of the fuse array as FuseView shows it (R302). -/
def State.fuseBit (s : State) (n : Nat) : Bool := bit (numAt (s.getBlk (okey 0 0x2080 0)).data (n / 8) 1) (n % 8)

/-- The refusal of a write of FoxgloveConfig of a port. -/
def State.foxRefusal (s : State) (k : Nat) : Option Nat :=
  if s.fuseBit 87 then some codeFoxgloveDisabled
  else if !(s.foxOn && bit (s.get 0x2110 4) k) then some codeNotAuthorised else none

/-- A write of FoxgloveConfig taken: the port's injection starts anew. -/
def State.foxWritten (s : State) (k : Nat) : State :=
  let s := s.putLink { s.link k with foxCount := 0 }
  if s.get (chIdx k + 3) 1 ≠ 0 then s.setFlag (okey 0 0x7801 0) 8 else s

/-- FOXGLOVE_CONFIG: a write of FoxgloveConfig of a port. -/
def execFoxgloveConfig (t : Nat) (ini : Ini) (port sub : Nat) (v : Word) (s : State) : Host.Outcome State Fault Refusal :=
  at_ t s fun s => s.when (port < 4 && sub != 0) fun s => s.writeAt ini (chIdx port + 3) sub v (fun s _ => s.foxRefusal port) (fun s _ => s.foxWritten port)

/-- The end of an authorisation (R363): every MODE reads 0. -/
def State.foxStop (s : State) : State := foldS (fun s k => s.put (chIdx k + 3) 1 0) s (List.range s.cfg.chamois)

/-- What a commit of CG_NET does to the ports: one switched off goes off, one switched on trains. -/
def State.netCommit (s : State) : State :=
  foldS (fun s k =>
    let st := s.get (chIdx k + 1) 1
    if s.get (chIdx k) 1 = 0 then (if st = 0 then s else ((s.linkDown k).put (chIdx k + 1) 1 0).detourBinding k)
    else if st = 0 ∧ s.pdOn 13 ∧ !s.isLost .chamois k then s.put (chIdx k + 1) 1 1 else s) s (List.range s.cfg.chamois)

/-- Reset of PD13 (R345, R350, R364): links down, counters zero, the topology taken from its objects, a new flow key. -/
def State.fabricReset (s : State) : State :=
  let key := s.freeW.toNat
  let s := { s.useFree with fabric := { State.reset.fabric with
    topology := s.get 0x7800 1, ringSize := s.get 0x7800 2, cols := s.get 0x7800 3, rows := s.get 0x7800 4,
    gateway := s.get 0x7800 5, flowKey := key } }
  let s := foldS (fun s k =>
    let s := foldS (fun s m => s.put (chIdx k + 1) m (if m = 4 ∨ m = 5 then 0xFF else 0)) s [1, 2, 3, 4, 5, 6]
    foldS (fun s m => s.put (chIdx k + 2) m 0) s [1, 2, 3, 4, 5, 6]) s (List.range s.cfg.chamois)
  let s := foldS (fun s n => foldS (fun s m => s.put (0x7940 + n) m 0) s [1, 2, 3, 4]) s (List.range 64)
  let s := foldS (fun s m => s.put 0x7843 m 0) s [1, 2, 3, 4, 5, 6]
  let s := ((s.put 0x7841 1 0).put 0x7841 2 0).put 0x7841 3 0
  s.netCommit.syncRole

end Sys2Proof.Machine
end

