-- ==== Sys2Proof/Machine/Access.lean ====
section
/-!
DEFINITION. Memory requests and aperture accesses (R126, R282, R317 to R320, R329).
-/
namespace Sys2Proof.Machine

/-! ## A request at its target -/

/-- The access itself: the data of a write is written, that of a read answered. A double-bit error answers an engine zeros for the
sector, an aperture a poisoned completion with zero data, and any other requester zeros (R329). -/
def State.performReq (s : State) (r : MemReq) : State :=
  let a := s.reqAddr r
  let ecc := if r.write || !s.eccCovers a then 0 else r.ecc
  let s := s.touchTs a r.len
  let s := if ecc = 1 then s.eccCorrected a else if ecc = 2 then s.breakWord a else s
  if r.write then s.writeData a r.data
  else
    let s := (s.surfAt a).elim s (fun f => s.heat f.id (a - f.addr) r.len)
    if (s.firstBroken a r.len).isNone then s.emit (.readBytes r.part (s.rdBytes a r.len))
    else
      let s := s.reportBroken a r.len
      if r.init = 6 ∨ r.init = 8 then s.emit (.readBytes r.part (s.rdSectors a r.len))
      else if r.init = 0 ∨ r.init = 2 then s.emit (.poisoned r.part (List.replicate r.len 0))
      else s.emit (.readBytes r.part (List.replicate r.len 0))

/-- A request admitted, with the tracker entry it takes. -/
def State.takeIn (s : State) (r : MemReq) (entry : Option Bool) : State :=
  let s := (s.traceFree 5).performReq r
  match entry with
  | none => s
  | some b => s.takeEntry { r with addr := s.reqAddr r, surf := none } b

/-- A request issued: admitted at once, or held at its port, which then stops issuing (R319). A Reserved request is held behind no wait for
the shared pool; one that finds no entry counts in RESERVED_WAITS (R318). -/
def State.issue (s : State) (r : MemReq) : State :=
  let r := { r with since := s.now }
  let wait := { s with memc := { s.memc with waiting := s.memc.waiting ++ [r] } }
  if s.memc.waiting.any (fun x => x.port == r.port && (r.cls != 0 || x.cls == 0)) then wait
  else
    match s.admission r with
    | some e => s.takeIn r e
    | none => if r.cls = 0 ∧ !s.reqHeld r ∧ !s.dramHeld (s.reqAddr r) then wait.bump 0x3002 8 else wait

/-- A waiting request leaves its port: the time it waited goes into STALL_NS of its partition. -/
def State.release1 (s : State) (r : MemReq) : State :=
  match s.admission r with
  | none => s
  | some e =>
    let s := { s with memc := { s.memc with waiting := s.memc.waiting.erase r } }
    (s.bump64 (0x3020 + r.part) 5 (s.now - r.since)).takeIn r e

/-- Waiting requests served as far as entries go, at most `n` of them: Reserved ones first, the others by deficit round
robin over the partitions. -/
def State.serve (s : State) : Nat → State
  | 0 => s
  | n + 1 =>
    match s.memc.waiting.find? (fun r => r.cls == 0 && (s.admission r).isSome) with
    | some r => (s.release1 r).serve n
    | none =>
      let (s', r) := s.drrTurn 48
      match r with
      | some r => (s'.release1 r).serve n
      | none => s

/-- TRACKER_ENTRY_FREE: the entry of request `id` is released, and waiting ports are served. -/
def execTrackerEntryFree (t id : Nat) (s : State) : Host.Outcome State Fault Refusal :=
  at_ t s fun s =>
    let s := ({ s with memc := { s.memc with inflight := s.memc.inflight.filter (fun r => r.id != id) } } : State).syncTracker
    s.serve s.memc.waiting.length

/-- AGE_PROMOTION: a Normal or Background request that has waited AGE_LIMIT_US since its admission becomes Urgent. -/
def execAgePromotion (t id : Nat) (s : State) : Host.Outcome State Fault Refusal :=
  at_ t s fun s =>
    match s.memc.inflight.find? (fun r => r.id == id) with
    | some r =>
      if 2 ≤ r.cls ∧ r.since + s.get 0x3010 3 * 1000 ≤ s.now then
        ({ s with memc := { s.memc with inflight := s.memc.inflight.map (fun x : MemReq => if x.id == id then { x with cls := 1 } else x) } } : State).bump
          (0x3020 + r.part) 6
      else s
    | none => s

/-! ## The owner-table cache (R286) -/

/-- One lookup of the entry cache in owner-table mode, for a normal-world access to DRAM. Which lines the cache keeps the
manual does not say: hit or miss is a free value (DESIGN CHOICE, log entry 3). -/
def State.cacheLookup (s : State) (secure : Bool) (addr : Nat) : State :=
  if s.get 0x2010 1 = 1 && !secure && s.targetOf addr == 0 then
    s.useFree.bump64 0x2010 (if s.freeW.toNat % 2 = 1 then 2 else 3) 1
  else s

/-! ## Apertures (R126, R149) -/

/-- The live handle of a partition in whose range a BAR2 offset lies. -/
def State.aperAt (s : State) (p off : Nat) : Option (Handle × Surf) :=
  (s.place.handles.find? (fun x => x.live && x.part == p
    && (s.surf x.surf).elim false (fun f => decide (x.aper ≤ off ∧ off < x.aper + f.size)))).bind
    (fun x => (s.surf x.surf).map (fun f => (x, f)))

/-- How one byte of an aperture access fails: target and recorded address. A range that no live handle has, or whose surface
has no place, is unmapped (R126, R137); a COMPRESSED surface takes no writes, and a read grant neither. -/
def State.aperFails (s : State) (p : Nat) (write : Bool) (off : Nat) : Option (Nat × Nat) :=
  match s.aperAt p off with
  | none => some (4, 2 ^ 63 + off)
  | some (x, f) =>
    let a := f.addr + (off - x.aper)
    if f.homeless then some (4, 2 ^ 63 + off)
    else if write && (f.layout == 2 || x.rights == 1) then some (if f.loc = 2 then 4 else s.targetOf a, a)
    else if f.loc < 2 then (s.byteFails p false write a).map (fun t => (t, a))
    else none

/-- One piece of an aperture access, within one surface. -/
def State.aperPiece (s : State) (id port : Nat) (ini : Ini) (write : Bool) (off len : Nat) (data : List Byte) (ecc : Nat) : State :=
  match s.aperAt ini.part off with
  | none => s
  | some (x, f) =>
    let o := off - x.aper
    if f.loc = 2 then
      if write then s.sendMsg f.group 3 0x20 (ini.part % 16) (f.addr + o) (s.flowOf ini.part (f.addr / 65536)) data
      else
        let s := { s with fabric := { s.fabric with reads := s.fabric.reads ++ [(⟨ini.part, f.group, f.addr + o, len⟩ : RemoteRead)] } }
        s.sendMsg f.group 3 0x21 (ini.part % 16) (f.addr + o) (s.flowOf ini.part (f.addr / 65536)) (leBytes 4 len)
    else
      (s.cacheLookup false (f.addr + o)).issue
        { id := id, port := port, init := if ini.path = .pf then 2 else 0, part := ini.part, secure := false, cls := 2, write := write,
          addr := o, len := len, data := data, ecc := ecc, since := 0, reserved := false, surf := some f.id }

/-- An aperture access: it fails as a whole with its first failing byte, or passes to the one or two surfaces it touches. -/
def State.aperture (s : State) (id port : Nat) (ini : Ini) (off len : Nat) (write : Bool) (data : List Byte) (ecc : Nat) : State :=
  let code := if ini.path = .pf then 2 else 0
  match (List.range len).findSome? (fun i => s.aperFails ini.part write (off + i)) with
  | some (t, a) =>
    let s := s.violate code ini.part false t a
    if write then s else s.emit (.readBytes ini.part (List.replicate len 0))
  | none =>
    let n := (s.aperAt ini.part off).elim len (fun x => min len (x.1.aper + x.2.size - off))
    let s := s.aperPiece id port ini write off n (data.take n) ecc
    if n < len then s.aperPiece (id + 1) port ini write (off + n) (len - n) (data.drop n) ecc else s

/-- APERTURE_ACCESS: a read of `len` bytes, or a write of `data`, at a BAR2 offset of an initiator's function, at most 256
bytes; the monitor function has no BAR2 (R360). -/
def execApertureAccess (t id port : Nat) (ini : Ini) (off len : Nat) (write : Bool) (data : List Byte) (ecc : Nat) (s : State) :
    Host.Outcome State Fault Refusal :=
  at_ t s fun s =>
    let n := min 256 (if write then data.length else len)
    if !(ini.path = .pf ∨ ini.path = .vf) ∨ n = 0 then s else s.aperture id port ini off n write (data.take n) ecc

end Sys2Proof.Machine
end

