-- ==== Sys2Proof/Machine/Audio.lean ====
section
/-!
DEFINITION. Audio (chapter 17): the mixer and its number format, the output chain, silence and the amplifier enables,
the class A chime, guest rings and AVB packets.
-/
namespace Sys2Proof.Machine

/-! ## Numbers (R408, R409) -/

def sat32 (v : Int) : Int := max (-2147483648) (min 2147483647 v)

/-- A saturation counted (R409). -/
def State.clip (s : State) (v : Int) : State × Int :=
  if sat32 v = v then (s, v) else ((s.bump 0x8802 1).setFlag (okey 0 0x8801 0) 0, sat32 v)

/-- A gain applied (R409). -/
def State.applyGain (s : State) (x gain : Int) : State × Int := s.clip (Int.ediv (x * gain + 2 ^ 23) (2 ^ 24))

/-- A code widened to the internal format (R408). -/
def widen (bits : Nat) (c : Int) : Int := if bits = 16 then c * 512 else if bits = 32 then Int.ediv c 256 * 2 else c * 2

/-- A sample as the code of a sink slot (R410, stage 8). -/
def quantise (bits : Nat) (x : Int) : Int :=
  let c24 := max (-8388608) (min 8388607 (Int.ediv (x + 1) 2))
  if bits = 16 then max (-32768) (min 32767 (Int.ediv (x + 256) 512)) else if bits = 32 then c24 * 256 else c24

/-! ## Channels -/

def inIdx (i : Nat) : Nat := 0x8840 + i
def outIdx (o : Nat) : Nat := 0x8880 + o

/-- Samples in a block (R404). -/
def State.blockLen (s : State) : Nat := s.audio.rate / 1000

def State.inRun (s : State) (i : Nat) : InRun :=
  (s.audio.ins.find? (fun r => r.input == i)).getD ⟨i, 0, 0, 0, false⟩

def State.putIn (s : State) (r : InRun) : State :=
  { s with audio := { s.audio with ins := r :: s.audio.ins.filter (fun x => x.input != r.input) } }

def State.outRun (s : State) (o : Nat) : OutRun :=
  (s.audio.outs.find? (fun r => r.output == o)).getD ⟨o, List.replicate 40 0, [], [], 0, 0, 0, 0⟩

def State.putOut (s : State) (r : OutRun) : State :=
  { s with audio := { s.audio with outs := r :: s.audio.outs.filter (fun x => x.output != r.output) } }

/-- Bits of a TDM port's slots. -/
def State.tdmBits (s : State) (k : Nat) : Nat := s.get (0x8810 + k) 5

/-- A source or sink passes a converter (R411): a TDM port at a rate other than the mixing rate. AVB streams run at the
mixing rate (DEDUCED, log entry 21). -/
def State.converted (s : State) (kind port : Nat) : Bool := kind == 1 && s.get (0x8810 + port) 3 != s.audio.rate

/-- Converter channels that the configuration read through `g` needs at a mixing rate (rule 0x1101). -/
def converters (g : Nat → Nat → Nat) (rate : Nat) : Nat :=
  let need := fun (kind port : Nat) => kind == 1 && g (0x8810 + port) 1 == 1 && g (0x8810 + port) 3 != rate
  ((List.range 64).filter (fun i => need (g (inIdx i) 1) (g (inIdx i) 2))).length
    + ((List.range 32).filter (fun o => need (g (outIdx o) 1) (g (outIdx o) 2))).length

/-! ## The chime (R414, R415) -/

/-- VOICES_ACTIVE follows the playing voices. -/
def State.syncVoices (s : State) : State :=
  s.put 0x89C0 5 (s.audio.voices.foldl (fun m v => setBit m v.voice true) 0)

/-- The next sample of the chime bus: the playing voices × CHIME_GAIN, saturated; a voice at its end stops. -/
def State.chimeSample (s : State) : State × Int :=
  let rate := s.audio.rate
  let sum := s.audio.voices.foldl (fun (a : Int) v => a + Config.chimeSample v.voice rate v.pos) 0
  let next := (s.audio.voices.map (fun v => { v with pos := v.pos + 1 })).filter
    (fun v => decide (v.pos < Config.chimeLength v.voice rate))
  let (s, x) := s.applyGain sum (s.get 0x89C0 2)
  (({ s with audio := { s.audio with voices := next } }).syncVoices, x)

/-- The duck gain now. -/
def State.duckGain (s : State) : Int :=
  let a := s.audio
  if a.duckLen ≤ a.duckPos then a.duckTo else a.duckFrom + Int.ediv ((a.duckTo - a.duckFrom) * a.duckPos) a.duckLen

/-- One sample of the duck ramp (R415): to DUCK_GAIN over 10 ms while a voice plays, back to 1.0 over DUCK_RELEASE_MS
after the last. -/
def State.duckStep (s : State) : State :=
  let want : Int := if s.audio.voices.isEmpty then 16777216 else s.get 0x89C0 3
  let s := if s.audio.duckTo = want then s
    else
      let ms := if s.audio.voices.isEmpty then s.get 0x89C0 4 else 10
      { s with audio := { s.audio with duckFrom := s.duckGain, duckTo := want, duckPos := 0,
                                       duckLen := ms * s.audio.rate / 1000 } }
  { s with audio := { s.audio with duckPos := min (s.audio.duckPos + 1) s.audio.duckLen } }

/-! ## Sources (R405 to R407) -/

/-- An empty block of an input: the 100th in a row is SOURCE_LOST. -/
def State.emptyBlock (s : State) (i flag : Nat) : State :=
  let r := s.inRun i
  let s := (s.putIn { r with empty := r.empty + 1 }).setFlag (okey 0 0x8801 0) flag
  if r.empty + 1 = 100 then s.raise 0x8801 i 2 sevWarning (s.get (inIdx i) 5) [byteOf i] else s

/-- The codes of a channel of the packets of a listener stream whose presentation time falls into this block. -/
def State.avbCodes (s : State) (stream slot : Nat) : Option (List Int) :=
  match s.audio.avb.filter (fun p => p.stream == stream && decide (p.time < s.now + 1000000)) with
  | [] => none
  | l => some (l.map (fun p => nth [] p.data slot)).flatten

/-- The samples of an input for a block, already in the internal format. `src` holds what the input's port or ring
delivers in this block. A converted source gives free values while its converter has lock (DESIGN CHOICE, log entry
21); a source that R405 does not have delivers nothing. -/
def State.inputBlock (s : State) (i : Nat) (src : Option (List Int)) : State × List Int :=
  let n := s.blockLen
  let zero := List.replicate n (0 : Int)
  let kind := s.get (inIdx i) 1
  let port := s.get (inIdx i) 2
  let slot := s.get (inIdx i) 3
  let got := fun (s : State) (bits : Nat) (l : List Int) =>
    (s.putIn { s.inRun i with empty := 0 }, (List.range n).map (fun k => widen bits (nth 0 l k)))
  match kind with
  | 1 =>
    if 4 ≤ port ∨ s.get (0x8810 + port) 1 = 0 ∨ s.get (0x8810 + port) 4 ≤ slot then (s, zero)
    else
      match src with
      | none => (s.emptyBlock i 2, zero)
      | some l =>
        if !s.converted 1 port then got s (s.tdmBits port) l
        else if (s.inRun i).unlocked then (s, zero)
        else
          let s := s.putIn { s.inRun i with empty := 0 }
          let v := (List.range n).map (fun k => sat32 (Config.freeWord (s.fresh + k)).toInt)
          ({ s with fresh := s.fresh + n }, v)
  | 2 =>
    if 4 ≤ port ∨ s.get (0x8818 + port) 1 = 0 then (s, zero)
    else match src with
      | none => (s.emptyBlock i 2, zero)
      | some l => got s 24 l
  | 3 =>
    if port < 8 ∨ 16 ≤ port ∨ s.get (0x8820 + port) 1 = 0 ∨ s.get (0x8820 + port) 3 ≤ slot then (s, zero)
    else
      match s.avbCodes port slot with
      | some l => got s 24 l
      | none => (s.emptyBlock i 4, zero)
  | 4 =>
    let ring := 0x8980 + port
    if 16 ≤ port ∨ s.get ring 1 = 0 ∨ s.get ring 4 ≤ slot then (s, zero)
    else if s.get ring 5 = s.get ring 6 then (s.emptyBlock i 3, zero)
    else got s 24 ((src.getD []).map (fun w => Int.ediv (sext 32 (w % 4294967296).toNat) 256))
  | 6 => match src with
    | none => (s.emptyBlock i 3, zero)
    | some l => got s 24 l
  | _ => (s, zero)

/-- Guest rings that an input reads: one block is taken at each block start (R407), or an underrun counted. -/
def State.readRings (s : State) : State :=
  foldS (fun s p =>
    let ring := 0x8980 + p
    let used := (List.range 64).any (fun i => s.get (inIdx i) 1 == 4 && s.get (inIdx i) 2 == p)
    if s.get ring 1 = 0 ∨ !used then s
    else if s.get ring 5 = s.get ring 6 then s.bump 0x8802 3
    else ((s.put ring 6 ((s.get ring 6 + 1) % 2 ^ 32))).emit (.msi p (s.get ring 7))) s (List.range 16)

/-! ## The output chain (R410) -/

/-- One biquad section on a sample: coefficients b0, b1, b2, a1, a2 and the state x₁, x₂, y₁, y₂. -/
def State.biquad (s : State) (c st : List Int) (x : Int) : State × List Int × Int :=
  let k := fun (l : List Int) (i : Nat) => nth 0 l i
  let acc := k c 0 * x + k c 1 * k st 0 + k c 2 * k st 1 - k c 3 * k st 2 - k c 4 * k st 3 + 2 ^ 27
  let (s, y) := s.clip (Int.ediv acc (2 ^ 28))
  (s, [x, k st 0, y, k st 2], y)

/-- The ten biquads of an output. -/
def State.biquads (s : State) (coef : List Byte) (st : List Int) (x : Int) : State × List Int × Int :=
  (List.range 10).foldl (fun (a : State × List Int × Int) b =>
    let c := (List.range 5).map (fun i => sext 32 (numAt coef (b * 20 + i * 4) 4))
    let (s, st', y) := a.1.biquad c ((st.drop (b * 4)).take 4) a.2.2
    (s, a.2.1 ++ st', y)) (s, [], x)

/-- The compressor: with a ratio of 1, or while no level has passed the threshold, the sample is unchanged before
MAKEUP; otherwise its arithmetic is not given and the sample is a free value (DESIGN CHOICE, log entry 21). -/
def State.compress (s : State) (o : Nat) (peak x : Int) : State × Int × Int :=
  let d := 0x88C0 + o
  let peak := max peak (x.natAbs : Int)
  let (s, y) := if s.get d 2 = 16 ∨ peak ≤ s.get d 1 then (s, x) else (s.useFree, sext 32 (s.freeW.toNat % 2 ^ 32))
  let (s, z) := s.applyGain y (s.get d 5)
  (s, peak, z)

/-- The limiter: every sample leaves 1 ms late, unchanged while no sample above the ceiling is in the look-ahead or was
within the release; otherwise as a free value; then the hard clamp (DESIGN CHOICE, log entry 21). -/
def State.limiter (s : State) (o : Nat) (r : OutRun) (x : Int) : State × OutRun × Int :=
  let d := 0x88C0 + o
  let ceil : Int := s.get d 6
  let n := s.blockLen
  let busy := if ceil < (x.natAbs : Int) then n * (1 + s.get d 7) else r.busy - 1
  let out := nth 0 r.look (n - 1)
  let (s, y) := if busy = 0 then (s, out) else (s.useFree, sext 32 (s.freeW.toNat % 2 ^ 32))
  let z := max (-ceil) (min ceil y)
  let s := if z = y then s else (s.bump 0x8802 2).setFlag (okey 0 0x8801 0) 1
  (s, { r with look := (x :: r.look).take n, busy := busy }, z)

/-- One sample of an output from its mix and the chime bus, up to the limiter. -/
def State.outSample (s : State) (o : Nat) (coef : List Byte) (m chime : Int) : State × Int :=
  let r := s.outRun o
  let inChime := bit (s.get 0x89C0 1) o
  let (s, x) := s.applyGain (if s.get (outIdx o) 6 = 1 then 0 else m) (s.getI (outIdx o) 5)
  let (s, x) := if inChime then s.applyGain x s.duckGain else (s, x)
  let (s, biq, x) := s.biquads coef r.biq x
  let n := s.get (outIdx o) 7
  let y := if n = 0 then x else nth 0 r.delay (n - 1)
  let delay := (x :: r.delay).take 1920
  let (s, peak, y) := s.compress o r.peak y
  let (s, y) := if inChime then s.clip (y + chime) else (s, y)
  let (s, r, z) := s.limiter o { r with biq := biq, delay := delay, peak := peak } y
  (s.putOut r, z)

/-- The mix of an output from the inputs' samples (R409). -/
def State.mixOf (s : State) (o : Nat) (ins : List Int) : State × Int :=
  let acc := (ins.zipIdx).foldl (fun (a : Int) (x : Int × Nat) => a + x.1 * s.getI (0x8900 + x.2) (o + 1)) 0
  s.clip (Int.ediv (acc + 2 ^ 23) (2 ^ 24))

/-! ## Blocks, silence and amplifiers (R404, R413) -/

/-- Outputs of the amplifier's map, and whether AMP_ENn has a reason to be high. -/
def State.ampWanted (s : State) (n : Nat) : Bool :=
  let map := s.get 0x89A0 (n + 1)
  bit (s.get 0x89A0 9) n
    || (List.range 32).any (fun o => bit map o && (s.get (outIdx o) 9 == 0 || bit (s.get 0x89C0 1) o))

def State.ampHigh (s : State) (n : Nat) : Bool := bit (s.get 0x89A0 0xA) n

def State.putAmp (s : State) (n : Nat) (on : Bool) : State :=
  (s.put 0x89A0 0xA (setBit (s.get 0x89A0 0xA) n on)).emit (.pin (.ampEn n) (if on then 1 else 0))

/-- The amplifiers that have a reason to be on rise. -/
def State.raiseAmps (s : State) : State :=
  foldS (fun s n => if s.ampWanted n && !s.ampHigh n then s.putAmp n true else s) s (List.range 8)

/-- The samples in a row below SILENCE_LEVEL after one more (R413). -/
def State.quietAfter (s : State) (n : Nat) (x : Int) : Nat := if s.get 0x8800 3 ≤ x.natAbs then 0 else n + 1

/-- SILENT of a channel: SILENCE_HOLD_MS of samples have been below the level. -/
def State.isSilent (s : State) (quiet : Nat) : Bool := decide (s.get 0x8800 4 * s.blockLen ≤ quiet)

/-- One sample of an input, measured after the source, with its GAIN applied (R409, R413). -/
def State.inSample (s : State) (i : Nat) (x : Int) : State × Int :=
  let r := s.inRun i
  let q := s.quietAfter r.quiet x
  let s := (s.putIn { r with quiet := q, peak := max r.peak x.natAbs }).put (inIdx i) 7 (if s.isSilent q then 1 else 0)
  s.applyGain x (s.getI (inIdx i) 4)

/-- One sample of an output from the inputs and the chime bus, measured after the limiter (R413). -/
def State.outLevel (s : State) (o : Nat) (ins : List Int) (chime : Int) : State × Int :=
  let (s, m) := s.mixOf o ins
  let (s, z) := s.outSample o (s.getLive (okey 0 (0x88A0 + o) 0)).data m chime
  let r := s.outRun o
  let q := s.quietAfter r.quiet z
  ((s.putOut { r with quiet := q, top := max r.top z.natAbs }).put (outIdx o) 9 (if s.isSilent q then 1 else 0), z)

/-- Sample `k` of the running block (R404 to R415): the duck ramp and the chime bus, the inputs, the mixes and the output
chains. An input of KIND 5 is the chime bus. -/
def State.audioSample (s : State) (k : Nat) : State :=
  match s.audio.block with
  | none => s
  | some b =>
    let (s, chime) := s.duckStep.chimeSample
    let (s, ins) := (List.range 64).foldl (fun (a : State × List Int) i =>
      let x := a.1.inSample i (if a.1.get (inIdx i) 1 = 5 then chime else nth 0 (nth [] b.ins i) k)
      (x.1, a.2 ++ [x.2])) (s, [])
    let (s, outs) := (List.range 32).foldl (fun (a : State × List (List Int)) o =>
      let x := a.1.outLevel o ins chime
      (x.1, a.2 ++ [nth [] b.outs o ++ [x.2]])) (s, [])
    { s with audio := { s.audio with block := some { b with done := k + 1, outs := outs } } }

/-- The running block up to sample `n`; amplifiers rise with the first sample that is not silent. -/
def State.audioTo (s : State) (n : Nat) : State :=
  match s.audio.block with
  | none => s
  | some b => if n ≤ b.done then s else (foldS State.audioSample s (List.range' b.done (n - b.done))).raiseAmps

/-- The running block up to this instant: a value written now holds from the next sample, which may be one of this very
instant (R404, R418). -/
def State.audioNow (s : State) : State :=
  match s.audio.block with
  | none => s
  | some b => s.audioTo (min s.blockLen (((s.now - b.at_) * s.audio.rate + 999999999) / 1000000000))

/-- A start of a chime voice (R414). -/
def State.startVoice (s : State) (v : Nat) : State :=
  let s := s.audioNow
  let vs := s.audio.voices
  let put := fun (s : State) (l : List VoiceRun) => ({ s with audio := { s.audio with voices := l } }.bump 0x8802 5).syncVoices
  if !s.pdOn 17 ∨ s.isLost .audio 0 then s
  else if vs.any (fun x => x.voice == v) then put s (vs.map (fun x => if x.voice = v then ⟨v, 0⟩ else x))
  else if vs.length < 4 then put s (vs ++ [⟨v, 0⟩])
  else
    let top := vs.foldl (fun m x => max m x.voice) 0
    if v < top then put s (vs.filter (fun x => x.voice != top) ++ [⟨v, 0⟩])
    else (s.bump 0x8802 6).raise 0x8801 0 5 sevWarning 0 [byteOf v]

/-- A block of an output goes to its sink (R405): a slot of a TDM port, or a ring of another node by a Bulk Write message.
A sink that passes a converter gets free values (DESIGN CHOICE, log entry 21). -/
def State.sinkBlock (s : State) (o : Nat) (l : List Int) : State :=
  let port := s.get (outIdx o) 2
  let slot := s.get (outIdx o) 3
  match s.get (outIdx o) 1 with
  | 1 =>
    if 4 ≤ port ∨ s.get (0x8810 + port) 1 = 0 ∨ s.get (0x8810 + port) 4 ≤ slot then s
    else if s.converted 1 port then
      ({ s with fresh := s.fresh + l.length }).emit (.audio o ((List.range l.length).map (fun k =>
        quantise (s.tdmBits port) (sat32 (Config.freeWord (s.fresh + k)).toInt))))
    else s.emit (.audio o (l.map (quantise (s.tdmBits port))))
  | 3 =>
    if 64 ≤ port ∨ 4 ≤ slot ∨ port = s.selfNode then s
    else s.sendMsg port 3 0x20 (s.get (outIdx o) 4) (Config.audioRing slot) (s.flowOf s.selfNode slot)
      (l.map (fun x => leBytes 4 ((quantise 32 x) % 4294967296).toNat)).flatten
  | _ => s

/-- A talker stream sends the block of its channels (R405); a channel that no output feeds is zero. -/
def State.talk (s : State) (outs : List (List Int)) (k : Nat) : State :=
  let i := 0x8820 + k
  if s.get i 1 = 0 then s
  else
    let chan := fun (c : Nat) =>
      match (List.range 32).find? (fun o => s.get (outIdx o) 1 == 2 && s.get (outIdx o) 2 == k && s.get (outIdx o) 3 == c) with
      | some o => (nth [] outs o).map (quantise 32)
      | none => List.replicate s.blockLen 0
    s.emit (.avb (s.get i 2) (s.get i 4) (s.get i 5) (s.now + s.get i 6 * 1000) ((List.range (s.get i 3)).map chan))

/-- The running block ends: its last samples are made, PEAK of every channel follows, and its outputs are handed over. -/
def State.endBlock (s : State) : State :=
  let s := s.audioTo s.blockLen
  match s.audio.block with
  | none => s
  | some b =>
    let s := { s with audio := { s.audio with block := none } }
    let s := foldS (fun s i => (s.put (inIdx i) 6 (s.inRun i).peak).putIn { s.inRun i with peak := 0 }) s (List.range 64)
    let s := foldS (fun s o => ((s.put (outIdx o) 8 (s.outRun o).top).putOut { s.outRun o with top := 0 }).sinkBlock o
      (nth [] b.outs o)) s (List.range 32)
    foldS (fun s k => s.talk b.outs k) s (List.range 8)

/-- A block starts (R404 to R407) with what its sources deliver. -/
def State.startBlock (s : State) (src : List (Option (List Int))) : State :=
  let (s, ins) := (List.range 64).foldl (fun (a : State × List (List Int)) i =>
    let x := a.1.inputBlock i (nth none src i)
    (x.1, a.2 ++ [x.2])) (s, [])
  let s := s.readRings
  { s with audio := { s.audio with avb := s.audio.avb.filter (fun p => !decide (p.time < s.now + 1000000)),
                                   lastAt := some s.now, block := some ⟨s.now, 0, ins, List.replicate 32 []⟩ } }

/-- A block may start now (R404): the first at a whole millisecond of device time, the others 1 ms of the media clock after
the one before, which is 1 ms of device time with MEDIA_CLOCK 0. -/
def State.blockDue (s : State) : Bool :=
  match s.audio.lastAt with
  | none => s.now % 1000000 == 0
  | some l => decide (l < s.now) && (s.get 0x8800 2 == 1 || (s.now - l) % 1000000 == 0)

/-- AMP_EN_FALL (R413): an amplifier whose reasons have all stopped holding goes low. -/
def execAmpEnFall (t n : Nat) (s : State) : Host.Outcome State Fault Refusal :=
  at_ t s fun s => if n < 8 ∧ s.ampHigh n ∧ !s.ampWanted n then s.putAmp n false else s

/-- AVB_PACKET_RX (R406): a packet of a listener stream with its presentation time, or a late one discarded. -/
def execAvbPacketRx (t stream time : Nat) (data : List (List Int)) (s : State) : Host.Outcome State Fault Refusal :=
  edgeClocked t 33 s fun s =>
    let s := if 8 ≤ stream ∧ stream < 16 then s.bump (0x94A1 + 4 * s.get (0x8820 + stream) 2) 3 else s
    if stream < 8 ∨ 16 ≤ stream ∨ s.get (0x8820 + stream) 1 = 0 ∨ !s.pdOn 17 then s
    else if time < s.now then (s.bump 0x8802 4).setFlag (okey 0 0x8801 0) 4
    else { s with audio := { s.audio with avb := s.audio.avb ++ [⟨stream, time, data⟩] } }

/-- ASRC_UNLOCK (R411): the converter of an input has not locked within 50 ms. -/
def execAsrcUnlock (t input : Nat) (s : State) : Host.Outcome State Fault Refusal :=
  edged t s fun s =>
    if input < 64 ∧ s.converted (s.get (inIdx input) 1) (s.get (inIdx input) 2) then
      (s.putIn { s.inRun input with unlocked := true }).setFlag (okey 0 0x8801 0) 6
    else s

/-- Converters that lock again. -/
def State.asrcLock (s : State) (inputs : List Nat) : State :=
  foldS (fun s i => s.putIn { s.inRun i with unlocked := false }) s inputs

/-- The pins of the TDM ports and PDM pairs in another use (R419): a port in controller role drives BCLK and FS. -/
def State.setAudioPins (s : State) (tdm pdm : List Nat) : State :=
  let old := s.audio
  let s := { s with audio := { s.audio with tdm := tdm, pdm := pdm } }
  foldS (fun s k =>
    let v := nth 0 tdm k
    let s := if nth 0 old.tdm k = v then s
             else (s.emit (.pin (.tdmClk k) (v / 2))).emit (.pin (.tdmDout k) (min 1 v))
    if nth 0 old.pdm k = nth 0 pdm k then s else s.emit (.pin (.pdmClk k) (nth 0 pdm k))) s (List.range 4)

/-- What a commit of CG_AUDIO does: ASRC_IN_USE and the pins follow the sources and sinks, and amplifiers rise that have a
reason now. -/
def State.audioCommit (s : State) : State :=
  let s := s.put 0x8800 5 (min 32 (converters s.get s.audio.rate))
  if !s.pdOn 17 ∨ s.isLost .audio 0 then s
  else
    (s.setAudioPins ((List.range 4).map (fun k => if s.get (0x8810 + k) 1 = 0 then 0 else 1 + s.get (0x8810 + k) 2))
      ((List.range 4).map (fun k => s.get (0x8818 + k) 1))).raiseAmps

/-- A gain, MUTE or AMP_FORCE is written (R404, R413). -/
def immediateAudio (idx sub : Nat) : Bool :=
  decide (0x8840 ≤ idx ∧ idx < 0x8880 ∧ sub = 4) || decide (0x8880 ≤ idx ∧ idx < 0x88A0 ∧ (sub = 5 ∨ sub = 6))
    || decide (0x8900 ≤ idx ∧ idx < 0x8940) || decide (idx = 0x89A0 ∧ sub = 9)

/-- The refusal of PRODUCER of a guest ring, which is handled as a ring index of R264 (R407). -/
def State.guestRingRefusal (s : State) (p v : Nat) : Option Nat :=
  let i := 0x8980 + p
  if 2 ^ s.get i 3 < (v + 2 ^ 32 - s.get i 6) % 2 ^ 32 ∨ 2 ^ 31 ≤ (v + 2 ^ 32 - s.get i 5) % 2 ^ 32 then some codeRingOverflow
  else none

/-- The audio block is lost (R27): it makes no more samples. -/
def State.audioLost (s : State) : State :=
  let s := { s with audio := { s.audio with block := none, lastAt := none, voices := [] } }
  let s := foldS (fun s n => if s.ampHigh n then s.putAmp n false else s) s (List.range 8)
  (s.put 0x89C0 5 0).setAudioPins [0, 0, 0, 0] [0, 0, 0, 0]

/-- Reset of PD17 (R418, R420): outputs zero, amplifiers low, voices stopped, counters zero; MIX_RATE takes effect. -/
def State.audioReset (s : State) : State :=
  let s := s.setAudioPins [0, 0, 0, 0] [0, 0, 0, 0]
  let s := { s with audio := { State.reset.audio with rate := s.get 0x8800 1 } }
  let s := foldS (fun s m => s.put 0x8802 m 0) s [1, 2, 3, 4, 5, 6]
  let s := foldS (fun s n => if s.ampHigh n then s.putAmp n false else s) s (List.range 8)
  let s := foldS (fun s i => (s.put (inIdx i) 6 0).put (inIdx i) 7 0) s (List.range 64)
  let s := foldS (fun s o => (s.put (outIdx o) 8 0).put (outIdx o) 9 0) s (List.range 32)
  (s.put 0x89C0 5 0).put 0x8800 5 0

/-- PD17 works again after its reset. -/
def State.audioStart (s : State) : State := s.audioCommit

end Sys2Proof.Machine
end

