-- ==== Sys2Proof/Machine/Compose.lean ====
section
/-!
DEFINITION. Composition (chapter 06): layer sources, the tile program, culling and clean tiles, the frame stores and
the engines that execute the slot tables.
-/
namespace Sys2Proof.Machine

/-! ## Frame stores (R159, R160, R162) -/

/-- Opaque black in both copies, every pending state IDLE (R116, R162). -/
def FTile.black : FTile := ⟨false, 0, 0xC000000000000400, [], 0xC000000000000400, [], false, false, 0, 0, 0⟩

def State.store (s : State) (h : Nat) : Option FStore := s.comp.stores.find? (fun x => x.head == h)

def State.putStore (s : State) (x : FStore) : State :=
  { s with comp := { s.comp with stores := x :: s.comp.stores.filter (fun y => y.head != x.head) } }

/-- The stored word of pixel `i` of a copy: from the header where it resolves the tile, else from the data. -/
def FTile.word (f : FTile) (copy : Bool) (i : Nat) : Nat :=
  let h := if copy then f.hdr1 else f.hdr0
  let px := if copy then f.px1 else f.px0
  if hdrConstant h then hdrValue h else if hdrTransparent h then 0 else nth 0 px i

/-- The header of a copy. -/
def FTile.hdr (f : FTile) (copy : Bool) : Nat := if copy then f.hdr1 else f.hdr0

def FStore.tile (x : FStore) (t : Nat) : FTile := nth FTile.black x.tiles t

def FStore.setTile (x : FStore) (t : Nat) (f : FTile) : FStore := { x with tiles := setNth FTile.black x.tiles t f }

/-! ## Layers (R98, R165) -/

/-- The live geometry of a layer slot (0x4400 + n:01–06). -/
def State.liveGeom (s : State) (slot : Nat) : Geom :=
  let s := (s.layer slot).elim s (fun l => s.heldView (20 + l.group))
  let i := 0x4400 + slot
  ⟨s.getI i 1, s.getI i 2, s.get i 3, s.get i 4, s.get i 5, s.get i 6 == 1⟩

/-- The frame of a remote stream as a source: its tiles in the order of the layer's source window (R138). -/
def streamSrc (l : PlanLayer) (tiles : List StreamTile) : PixSrc :=
  let n := rawTileBytes l.format
  let find := fun t => tiles.find? (fun x => x.tile == t)
  { w := l.srcXMax + l.width, h := l.srcYMax + l.height, format := l.format, layout := 2, clear := 0,
    data := fun o k => (find (o / n)).elim (List.replicate k 0) (fun x => bytesAt x.data (o % n) k),
    hdr := fun t => (find t).elim (zeroHeader l.format) (fun x => x.header) }

/-- An entry of a video ring as a source; for YUY2 the layer's code names matrix and range (R205). -/
def ringSrc (x : RingEntry) (fmt : Nat) : PixSrc :=
  let n := rawTileBytes x.format
  { w := x.w, h := x.h, format := if 0x30 ≤ x.format then fmt else x.format, layout := if 0x30 ≤ x.format then 1 else 2, clear := 0,
    data := fun o k => bytesAt (nth (0, []) x.tiles (o / n)).2 (o % n) k, hdr := fun t => (nth (0, []) x.tiles t).1 }

/-- What a layer is read from in this frame; none where no source is latched or it is a constant. -/
def State.layerSrc (s : State) (p : Plan) (l : PlanLayer) : Option PixSrc :=
  match (s.layerSt l.slot).src with
  | .surf id => (s.surf id).map (fun f =>
      if f.loc = 2 then streamSrc l (((s.place.streams.find? (fun x => x.node == f.group && x.stream == l.slot % 256)).map
        (fun x => x.tiles)).getD [])
      else s.tileSrc f)
  | .image n => (p.imageOf n).map (fun i => imageSrc i (((s.libEntry i.libraryId).map (fun e => e.data)).getD []))
  | .ring input e => (s.comp.rings.find? (fun r => r.input == input)).bind (fun r =>
      (r.entries[e]?).map (fun x => ringSrc x l.format))
  | .stream n k => (s.place.streams.find? (fun x => x.node == n && x.stream == k)).map (fun x => streamSrc l x.tiles)
  | .none | .const => none

/-- A layer is visible in the running frame: its live field at the epoch, unless it was shed or hidden while stale. -/
def State.layerVisible (s : State) (slot : Nat) : Bool := (s.layerSt slot).geom.visible

/-- The live rectangle of a layer under a geometry. -/
def PlanLayer.rect (l : PlanLayer) (g : Geom) : PxRect := ⟨g.x, g.y, l.width, l.height⟩

/-- The pixel of a layer's source at a head position inside its rectangle (R98, R150, R165). -/
def PlanLayer.srcPx (l : PlanLayer) (src : Option PixSrc) (g : Geom) (x y : Int) : Px :=
  if l.kind = 4 then widenRgba l.sourceRef
  else
    match src with
    | some q =>
      let p := q.px (x - g.x + g.srcX) (y - g.y + g.srcY)
      if formatAlpha q.format then p
      else if 0 ≤ x - g.x + g.srcX ∧ x - g.x + g.srcX < q.w ∧ y - g.y + g.srcY < q.h then p else Px.zero
    | none => Px.zero

/-- The pixel that a step blends: every pixel of an ALWAYS_OPAQUE layer reads with As = 1.0 (R97). -/
def PlanLayer.px (l : PlanLayer) (src : Option PixSrc) (g : Geom) (x y : Int) : Px :=
  let p := l.srcPx src g x y
  if bit l.flags 1 then { p with a := 65535 } else p

/-! ## Tile programs (R99 to R102, R108) -/

/-- The directory entry of a tile under the layout a head composes under: of its own directory, or of the failover
layout's first or second one. `layouts` holds layout × 2, plus 1 for the fallback directory. -/
def State.dirEntry (s : State) (p : Plan) (h : PlanHead) (t : Nat) : Nat :=
  let k := ((s.plan.layouts.find? (fun x => x.1 == h.head)).map (fun x => x.2)).getD 0
  match if k = 0 then none else p.failovers.find? (fun f => f.layout == k / 2) with
  | some f => nth 0 p.dir ((if k % 2 = 1 then f.fallbackDirFirst else f.dirFirst) + t)
  | none => nth 0 p.dir (h.dirFirst + t)

/-- The layout number a head composes under. -/
def State.layoutOf (s : State) (h : Nat) : Nat := ((s.plan.layouts.find? (fun x => x.1 == h)).map (fun x => x.2 / 2)).getD 0

/-- Bit `i` of a tile mask. -/
def maskBit (m : List Byte) (i : Nat) : Bool := bit (nth 0 m (i / 8)).toNat (i % 8)

/-- A step of a program with the layer it names. -/
structure CStep where
  word : Nat
  layer : Option PlanLayer
  deriving DecidableEq, Repr

/-- The steps before END, topmost first. -/
def Plan.steps_ (p : Plan) (e : Nat) : List CStep :=
  ((p.program e).filter (fun v => stepOp v.1 != 0)).map (fun v =>
    ⟨v.1, if stepOp v.1 ≤ 3 then p.layerOf (stepSlot v.1) else none⟩)

/-- Source tiles that the live rectangle of a layer maps onto a destination tile (R163). -/
def mappedTiles (q : PixSrc) (l : PlanLayer) (g : Geom) (tx ty : Nat) : List Nat :=
  let x0 : Int := max (tx * 64 : Nat) g.x
  let y0 : Int := max (ty * 32 : Nat) g.y
  let x1 : Int := min ((tx * 64 + 64 : Nat)) (g.x + l.width)
  let y1 : Int := min ((ty * 32 + 32 : Nat)) (g.y + l.height)
  if x1 ≤ x0 ∨ y1 ≤ y0 then []
  else
    let sx0 := (x0 - g.x + g.srcX).toNat
    let sy0 := (y0 - g.y + g.srcY).toNat
    let sx1 := min (x1 - 1 - g.x + g.srcX).toNat (q.w - 1)
    let sy1 := min (y1 - 1 - g.y + g.srcY).toNat (q.h - 1)
    if q.w ≤ sx0 ∨ q.h ≤ sy0 then []
    else ((List.range (sy1 / 32 + 1 - sy0 / 32)).map (fun j => (List.range (sx1 / 64 + 1 - sx0 / 64)).map (fun i =>
      (sy0 / 32 + j) * tileCols q.w + sx0 / 64 + i))).flatten

/-- Headers exist in COMPRESSED layout only (R154). -/
def PixSrc.header (q : PixSrc) (t : Nat) : Nat := if q.layout = 2 then q.hdr t else 0

/-- A step covers its tile so that every step below it may be passed over (R163). A tile that is a decode error reads as
zero whatever its OPAQUE flag (R154), so it covers nothing: skipping never changes the stored result (DEDUCED, log entry
86). -/
def State.stepCovers (s : State) (c : CStep) (src : Option PixSrc) (tx ty : Nat) : Bool :=
  match c.layer with
  | none => false
  | some l =>
    let g := (s.layerSt l.slot).geom
    stepMask c.word == 0 && s.layerVisible l.slot && g.alpha == 65535
      && decide (g.x ≤ (tx * 64 : Nat)) && decide (g.y ≤ (ty * 32 : Nat))
      && decide (((tx * 64 + 64 : Nat) : Int) ≤ g.x + l.width) && decide (((ty * 32 + 32 : Nat) : Int) ≤ g.y + l.height)
      && (bit l.flags 1 || src.elim false (fun q =>
            let ts := mappedTiles q l g tx ty
            !ts.isEmpty && ts.all (fun t => hdrOpaque (q.header t) && !(q.tile t).bad)
              && decide (g.srcX + (tx * 64 + 64 : Nat) - g.x ≤ q.w) && decide (g.srcY + (ty * 32 + 32 : Nat) - g.y ≤ q.h)))

/-- Which steps are applied: not those whose layer is not visible or shed, nor those below a covering step while
CULL_ENABLE is 1. -/
def State.appliedSteps (s : State) (steps : List (CStep × Option PixSrc)) (tx ty : Nat) (cull : Bool) :
    List (CStep × Option PixSrc) :=
  match steps with
  | [] => []
  | x :: r =>
    let vis := x.1.layer.elim true (fun l => s.layerVisible l.slot)
    (if vis then [x] else []) ++ (if cull && s.stepCovers x.1 x.2 tx ty then [] else s.appliedSteps r tx ty cull)

/-- One step applied to a pixel at head position (x, y), pixel `i` of the tile (R101, R157, R158). -/
def State.applyStep (s : State) (p : Plan) (c : CStep × Option PixSrc) (x y : Int) (i : Nat) (d : Px) : Px :=
  let w := c.1.word
  let m := stepMask w = 0 ∨ maskBit (nth [] p.masks (stepMask w - 1)) i
  if ¬ m then d
  else
    match c.1.layer with
    | none => if stepOp w = 4 then
        let col := stepColour w
        ⟨widen8 (bitsOf col 31 24), widen8 (bitsOf col 23 16), widen8 (bitsOf col 15 8), widen8 (bitsOf col 7 0)⟩ else d
    | some l =>
      let g := (s.layerSt l.slot).geom
      if !(l.rect g).has x y then d
      else
        let src := l.px c.2 g x y
        if stepOp w = 3 then src else blendStep (stepOp w == 1) (stepLinear w) src d g.alpha

/-- The words that a tile of a head composes to: the applied steps from the bottom up, then R159. -/
def State.composeTile (s : State) (p : Plan) (steps : List (CStep × Option PixSrc)) (tx ty : Nat) : List Nat :=
  (List.range 2048).map (fun i =>
    let x : Int := (tx * 64 + i % 64 : Nat)
    let y : Int := (ty * 32 + i / 64 : Nat)
    storeWord (steps.reverse.foldl (fun d c => s.applyStep p c x y i d) Px.zero))

/-! ## Clean tiles (R164) -/

/-- A damage rectangle of a layer's source reaches a tile of the head. -/
def damageHits (l : PlanLayer) (g : Geom) (r : Rect) (tx ty : Nat) : Bool :=
  let d : PxRect := ⟨(r.x : Int) - g.srcX + g.x, (r.y : Int) - g.srcY + g.y, r.w, r.h⟩
  let t : PxRect := ⟨(tx * 64 : Nat), (ty * 32 : Nat), 64, 32⟩
  d.meets t && (l.rect g).meets t

/-- A store-point signature region of a head meets a tile. -/
def Plan.storeRegionAt (p : Plan) (h tx ty : Nat) : Bool :=
  p.regions.any (fun r => r.head == h && r.point == 0
    && (⟨(r.x : Int), (r.y : Int), r.w, r.h⟩ : PxRect).meets ⟨(tx * 64 : Nat), (ty * 32 : Nat), 64, 32⟩)

/-- R164: the tile is clean in the running frame. -/
def State.isClean (s : State) (p : Plan) (h : PlanHead) (e t : Nat) (f : FTile) : Bool :=
  let tx := t % max 1 h.cols
  let ty := t / max 1 h.cols
  let tile : PxRect := ⟨(tx * 64 : Nat), (ty * 32 : Nat), 64, 32⟩
  let named := (p.steps_ e).filterMap (fun c => c.layer)
  named.all (fun l =>
    let x := s.layerSt l.slot
    !(x.whole && (l.rect x.geom).meets tile) && !x.damage.any (fun r => damageHits l x.geom r tx ty)
      && x.old == x.geom && decide (x.replaced ≤ f.repl))
  && (p.layers.filter (fun l => l.head == h.head)).all (fun l =>
    let x := s.layerSt l.slot
    x.old == x.geom || !((l.rect x.old).meets tile || (l.rect x.geom).meets tile))
  && !f.overrun && f.composed && dirTop e != 0 && !p.storeRegionAt h.head tx ty && s.get 0x4040 2 == 1

/-! ## Engines (R143 to R145, R160, R161) -/

/-- The sub-frame that a batch composes (R103). -/
def PlanBatch.sub (b : PlanBatch) : Nat := bitsOf b.flags 2 1

def State.engine (s : State) (e : Nat) : Engine :=
  (s.comp.engines.find? (fun x => x.engine == e)).getD ⟨e, none, 0, [], [], 0, false, 0⟩

def State.putEngine (s : State) (x : Engine) : State :=
  { s with comp := { s.comp with engines := x :: s.comp.engines.filter (fun y => y.engine != x.engine) } }

/-- The physical engine that executes a batch (R134). -/
def State.engineOf (s : State) (b : PlanBatch) : Nat := s.get 0x3470 (b.engine + 1)

/-- The start of a slot of the running frame. -/
def State.slotStart (s : State) (p : Plan) (k : Nat) : Nat := s.time.lastEpoch + k * p.slotNs

/-- The deadline of a batch, the end of its END_SLOT, has come. -/
def State.pastDeadline (s : State) (p : Plan) (b : PlanBatch) : Bool := decide (s.slotStart p (b.endSlot + 1) ≤ s.now)

/-- A batch is next on its engine: every batch of the frame that the engine takes before it, in rising START_SLOT order,
has run or is past its deadline (R143). -/
def State.batchTurn (s : State) (p : Plan) (b : PlanBatch) : Bool :=
  p.batches.zipIdx.all (fun x =>
    !(s.engineOf x.1 == s.engineOf b && x.1.layout == s.layoutOf x.1.head && decide (x.1.startSlot < b.startSlot))
      || s.comp.ran.contains x.2 || s.pastDeadline p x.1)

/-- BATCH_START: the engine a batch is bound to begins it at its START_SLOT, in order, when it runs no other batch and its
head composes under the batch's layout. A batch that has run, or is past its deadline, is not started (R143, R145). -/
def execBatchStart (t batch : Nat) (s : State) : Host.Outcome State Fault Refusal :=
  clocked t 3 s fun s =>
    match s.plan.active with
    | none => s
    | some p =>
      match p.batches[batch]? with
      | none => s
      | some b =>
        let e := s.engineOf b
        if e < s.cfg.engines ∧ s.get (0x4080 + e) 1 = 0 ∧ (s.engine e).batch.isNone ∧ (s.engine e).flight.isEmpty
            ∧ b.layout = s.layoutOf b.head ∧ s.slotStart p b.startSlot ≤ s.now ∧ ¬ s.pastDeadline p b
            ∧ batch ∉ s.comp.ran ∧ s.batchTurn p b then
          s.putEngine { s.engine e with batch := some batch, next := 0, waits := [], stuck := false, frame := s.epoch }
        else s

/-- Clone heads of an owner, by the active plan. -/
def Plan.clonesOf (p : Plan) (owner : Nat) : List PlanHead :=
  p.heads.filter (fun h => h.head != owner && (p.ownerHead h).head == owner)

def State.headRun (s : State) (h : Nat) : Option HeadRun := s.scan.heads.find? (fun x => x.head == h)

def State.putRun (s : State) (x : HeadRun) : State :=
  { s with scan := { s.scan with heads := s.scan.heads.map (fun y => if y.head = x.head then x else y) } }

/-- Position in the raster of a head's source at which a clone begins reading a tile, and at which it has read the tile's
last band whole. -/
def readSpan (o : PlanHead) (t : Nat) : Nat × Nat :=
  let x := t % max 1 o.cols * 64
  let y := t / max 1 o.cols * 32
  let last := min (y + 31) (o.vActive - 1)
  (y * o.hActive + x, last * o.hActive + min (x + 64) o.hActive)

/-- A clone head is reading tile `t` of its owner from the copy that the engine is about to write (R184). -/
def State.cloneReading (s : State) (o : PlanHead) (c : PlanHead) (t : Nat) (copy : Bool) : Bool :=
  match s.headRun c.head with
  | none => false
  | some r =>
    let (a, b) := readSpan o t
    nth false r.view t == copy && decide (a < r.buf.length) && decide (r.buf.length < b)

/-- The composition frames that a head shows: the newest of its tiles' copies, and whether some tile is older (R223). -/
def State.shownFrames (s : State) (p : Plan) (h : PlanHead) : Nat × Bool :=
  let o := p.ownerHead h
  let frames := match s.store o.head, s.headRun h.head with
    | some st, some r => st.tiles.zipIdx.map (fun (x : FTile × Nat) =>
        if (if h.head = o.head then x.1.cur else nth false r.view x.2) then x.1.frame1 else x.1.frame0)
    | _, _ => []
  let shown := frames.foldl (fun m f => if serialLater 32 f m then f else m) (frames.headD 0)
  (shown, frames.any (fun f => f != shown))

/-- The wire-point regions of a head follow the frames that it shows. -/
def State.followShown (s : State) (p : Plan) (h : PlanHead) : State :=
  let (shown, older) := s.shownFrames p h
  let on := fun (x : RegionRun) => p.regions.any (fun r => r.region == x.region && r.head == h.head && r.point == 1)
  { s with integ := { s.integ with runs := s.integ.runs.map (fun (x : RegionRun) => if on x then { x with shown := shown, older := older } else x) } }

/-- A clone head that has not started reading the tile takes it from the other copy. -/
def State.cloneTurn (s : State) (p : Plan) (o : PlanHead) (t : Nat) (copy : Bool) (c : PlanHead) : State :=
  match s.headRun c.head with
  | none => s
  | some r =>
    if nth false r.view t == copy ∧ r.buf.length ≤ (readSpan o t).1 then
      (s.putRun { r with view := setNth false r.view t (!copy) }).followShown p c
    else s

/-- A decode error of a tile of a layer's source (R154). -/
def State.decodeError (s : State) (head slot tile : Nat) : State :=
  (s.bump (0x4100 + head) 8).raise 0x4041 0 2 sevError ((s.layer slot).elim 0 (fun l => l.owner)) (leBytes 2 slot ++ leBytes 2 tile)

/-- The read of a layer for a destination tile meets an uncorrectable error that was not known before, in the first source tile it
takes: in memory that carries ECC. -/
def State.breakSource (s : State) (slot tx ty : Nat) : State :=
  match s.layer slot, (s.layerSt slot).src with
  | some l, .surf id => (s.surf id).elim s (fun f =>
      match mappedTiles (s.surfSrc f) l (s.layerSt slot).geom tx ty with
      | n :: _ =>
        let a := f.addr + n * rawTileBytes f.format
        if f.loc ≠ 2 ∧ !f.homeless ∧ f.layout ≠ 0 ∧ s.eccCovers a then s.breakWord a else s
      | [] => s)
  | _, _ => s

/-- A composer reads a tile of a surface: the access counts, and an uncorrectable error it meets is reported. -/
def State.readTileOf (s : State) (id n : Nat) : State :=
  (s.surf id).elim s (fun f =>
    let s := s.heat id (n * rawTileBytes f.format) (rawTileBytes f.format)
    (s.tileBroken f n).elim s (fun w => s.eccUncorrected w))

/-- The tile an engine starts is composed from its sources as they read now; `ecc` names the layer slots whose read
meets an uncorrectable error (R329): of a memory surface the tile it meets it in is a decode error, of another source all that the
step maps. -/
def State.composeNow (s : State) (p : Plan) (e : Nat) (h : PlanHead) (t : Nat) (x : FStore) (sub : Nat) (ecc : List Nat) :
    State :=
  let tx := t % max 1 h.cols
  let ty := t / max 1 h.cols
  let s := foldS (fun s k => s.breakSource k tx ty) s ecc
  let onSurf := fun (l : PlanLayer) => match (s.layerSt l.slot).src with | .surf _ => true | _ => false
  let steps := (p.steps_ (s.dirEntry p h t)).map (fun c => (c, c.layer.bind (fun l =>
    if ecc.contains l.slot && !onSurf l then
      some ⟨l.srcXMax + l.width, l.srcYMax + l.height, 1, 2, 0, fun _ n => List.replicate n 0, fun _ => 0x3000⟩
    else s.layerSrc p l)))
  let app := s.appliedSteps steps tx ty (s.get 0x4040 1 == 1)
  let words := s.composeTile p app tx ty
  let bad := (app.map (fun c => match c.1.layer, c.2 with
    | some l, some q => if q.layout = 2 then ((mappedTiles q l (s.layerSt l.slot).geom tx ty).filter (fun n => (q.tile n).bad)).map
        (fun n => (l.slot, n)) else []
    | _, _ => [])).flatten
  let s := foldS (fun s b => s.decodeError h.head b.1 b.2) s bad
  let s := foldS (fun s c => match c.1.layer, c.2 with
    | some l, some q =>
      (match (s.layerSt l.slot).src with
      | .surf id => foldS (fun s n => s.readTileOf id n) s (mappedTiles q l (s.layerSt l.slot).geom tx ty)
      | _ => s)
    | _, _ => s) s app
  let f := x.tile t
  let s := s.putStore (x.setTile t { f with pend := 1, repl := s.comp.repls })
  let en := s.engine e
  let passed := steps.length - app.length
  let s := s.putEngine { en with next := en.next + 1, waits := [], flight := en.flight ++ [⟨h.head, t, words, en.frame, sub⟩],
                                 busy := en.busy + 64 + 256 * app.length + 16 * passed }
  (s.bump64 (0x4080 + e) 2 1).bump64 (0x4080 + e) 4 passed

/-- An engine lost or reset during a batch: the tiles it has completed stay, and the others stay WRITING or unstarted until
their deadline (R162). -/
def State.loseEngine (s : State) (e : Nat) : State :=
  if (s.engine e).batch.isSome then s.putEngine { s.engine e with stuck := true } else s

/-- An engine whose batch has nothing left to start or in flight is free for its next batch. -/
def State.endBatch (s : State) (e : Nat) : State :=
  let en := s.engine e
  match s.plan.active, en.batch with
  | some p, some k =>
    if (p.batches[k]?).elim true (fun b => b.tiles ≤ en.next) ∧ en.flight.isEmpty then
      let s := { s with comp := { s.comp with ran := k :: s.comp.ran } }
      s.putEngine { en with batch := none, next := 0, waits := [] }
    else s
  | _, _ => s

/-- TILE_START: an engine with room starts the next tile of its batch, passes it over as clean, or waits while a clone
head reads the copy it would write. -/
def execTileStart (t engine : Nat) (ecc : List Nat) (s : State) : Host.Outcome State Fault Refusal :=
  clocked t 3 s fun s =>
    let en := s.engine engine
    match s.plan.active, en.batch with
    | some p, some k =>
      match p.batches[k]? with
      | none => s
      | some b =>
        match p.headOf b.head, s.store b.head with
        | some h, some x =>
          let n := b.firstTile + en.next
          let f := x.tile n
          if s.get (0x4080 + engine) 1 ≠ 0 ∨ en.stuck ∨ s.pastDeadline p b ∨ b.tiles ≤ en.next ∨ 4 ≤ en.flight.length then s
          else if s.isClean p h (s.dirEntry p h n) n f then
            let f := if f.cur then { f with frame1 := s.epoch } else { f with frame0 := s.epoch }
            let s := s.putStore (x.setTile n f)
            ((s.putEngine { en with next := en.next + 1, waits := [], busy := en.busy + 16 }).bump64 (0x4080 + engine) 3 1).endBatch
              engine
          else
            let cl := p.clonesOf h.head
            let busy := (cl.filter (fun c => s.cloneReading h c n (!f.cur))).map (fun c => c.head)
            if busy.isEmpty then (foldS (fun s c => s.cloneTurn p h n (!f.cur) c) s cl).composeNow p engine h n x b.sub ecc
            else
              let new := busy.filter (fun c => !en.waits.contains c)
              foldS (fun s c => (s.bump (0x5003 + c * 0x40) 10).setFlag (okey 0 (0x5002 + c * 0x40) 0) 5)
                (s.putEngine { en with waits := en.waits ++ new }) new
        | _, _ => s
    | _, _ => s

/-- Where a frame store's surface holds the data of a copy of tile `t`: the copies of all tiles one after the other (DESIGN CHOICE, log
entry 103). -/
def storeOff (x : FStore) (copy : Bool) (t : Nat) : Nat := ((if copy then x.tiles.length else 0) + t) * 8192

/-- A tile written back: the non-current copy holds it and its pending state is COMPLETE (R160); `fr` is the frame of the
batch that produced it. -/
def State.writeBack (s : State) (x : FStore) (t : Nat) (words : List Nat) (fr : Nat) : State :=
  let f := x.tile t
  let hdr := (encodeTile 4 words).1
  let s := s.heat x.surf (storeOff x (!f.cur) t) (hdrSectors hdr * 256)
  let f' := if f.cur then { f with hdr0 := hdr, px0 := words, frame0 := fr } else { f with hdr1 := hdr, px1 := words, frame1 := fr }
  s.putStore { x.setTile t { f' with pend := 2, overrun := false, composed := true } with done := x.done + 1 }

/-- R145, R161: the tiles of a batch that are not complete at its deadline are overrun tiles. -/
def State.overrunTile (s : State) (p : Plan) (e : Nat) (h : PlanHead) (t : Nat) : State :=
  match s.store h.head with
  | none => s
  | some x =>
    let f := x.tile t
    let s := s.putStore { x.setTile t { f with pend := 0, overrun := true } with late := x.late + 1 }
    let a := dirTop (s.dirEntry p h t) == 0
    let i := 0x4100 + h.head
    let s := s.bump i 1
    let s := if e < s.cfg.engines then s.bump (0x4080 + e) 5 else s
    let s := if a then s.bump i 3 else s
    let s := if x.late = 0 then s.bump i 2 else s
    (s.put i 4 s.epoch).put i 5 t

/-- The overrun event of a frame with a class A overrun tile (R161): an Error, once per frame. -/
def State.overrunEvent (s : State) (h : Nat) : State :=
  match s.store h with
  | none => s
  | some x => if x.evented then s else (s.putStore { x with evented := true }).raise 0x4041 h 1 sevError 0 [byteOf h]

/-- The overrun event of a frame none of whose overrun tiles is of class A (R161): a Warning when they number
OVERRUN_EVENT_MIN_TILES. Whether one is of class A is known when the frame has ended, and the event is raised then
(DEDUCED, log entry 87). -/
def State.overrunWarning (s : State) (x : FStore) : State :=
  s.when (!x.evented && decide (0 < x.late ∧ s.get 0x4040 3 ≤ x.late)) (fun s => s.raise 0x4041 x.head 0 sevWarning 0 [byteOf x.head])

/-- The deadline of a batch at the end of END_SLOT: its tiles that are not complete are overrun, and the engine is free
for its next batch. A tile passed over as clean, or complete, stays as it is. The answer names the overrun tiles with
their head. -/
def State.batchDeadline (s : State) (batch : Nat) : State × List (Nat × Nat) :=
  match s.plan.active with
  | none => (s, [])
  | some p =>
    match p.batches[batch]? with
    | none => (s, [])
    | some b =>
      match p.headOf b.head with
      | none => (s, [])
      | some h =>
        if b.layout ≠ s.layoutOf b.head ∨ !s.pastDeadline p b ∨ s.comp.ran.contains batch then (s, [])
        else
          let e := s.engineOf b
          let en := s.engine e
          let mine := en.batch == some batch
          let ts := ((List.range b.tiles).filter (fun i =>
            !mine || en.next ≤ i || en.flight.any (fun g => g.head == h.head && g.tile == b.firstTile + i))).map
              (fun i => b.firstTile + i)
          let s := foldS (fun s n => s.overrunTile p e h n) s ts
          let s := s.when (ts.any (fun n => dirTop (s.dirEntry p h n) == 0)) (fun s => s.overrunEvent b.head)
          let s := { s with comp := { s.comp with ran := batch :: s.comp.ran } }
          (if mine then s.putEngine { en with batch := none, next := 0, waits := [], stuck := false, flight := [] } else s,
           ts.map (fun n => (h.head, n)))

end Sys2Proof.Machine
end

