-- ==== Sys2Proof/Machine/Scanout.lean ====
section
/-!
DEFINITION. Display heads and scan-out (chapter 07): the colour pipe, the scaler, fetch and line buffer, underrun, flips,
clone views and frame lock; and the start of a DRAM frequency change, which waits for the heads.
-/
namespace Sys2Proof.Machine

/-- The objects of head `n`. -/
def headIdx (n : Nat) : Nat := 0x5000 + n * 0x40

/-- A value within bounds, as a natural number. -/
def clampN (lo hi : Int) (v : Int) : Nat := (max lo (min hi v)).toNat

/-! ## Scaler (R185) -/

/-- Base position and phase of output sample `i` of an axis of source length `n` and destination length `d`. -/
def scalePos (n d i : Nat) : Int × Nat :=
  let step : Int := ((n * 65536 / d : Nat) : Int)
  let pos := step * i + step / 2 - 32768
  (pos / 65536, (pos % 65536 / 1024).toNat)

/-- A coefficient of a table: phase-major, taps ascending, 16 bits signed. -/
def coef (tab : List Byte) (phase tap : Nat) : Int := sext 16 (numAt tab (2 * (phase * 8 + tap)) 2)

/-- The eight taps of one sample over a source. -/
def taps (tab : List Byte) (n d i : Nat) (src : Nat → Int) : Int :=
  let (base, p) := scalePos n d i
  (List.range 8).foldl (fun sum k => sum + coef tab p k * src (clampN 0 (n - 1 : Nat) (base + k - 3))) 0

/-- One channel of an output pixel of a scaled head. -/
def scalePx (th tv : List Byte) (sw sh dw dh x y : Nat) (src : Nat → Nat → Nat) : Nat :=
  let hor := fun row : Nat => (clampN 0 65535 ((taps th sw dw x (fun c => (src c row : Int)) + 128) / 256) : Int)
  clampN 0 1023 ((taps tv sh dh y hor + 524288) / 1048576)

/-! ## Colour pipe (R187 to R190) -/

/-- Degamma of channel `ch`. -/
def State.degamma (s : State) (n ch c : Nat) : Nat :=
  match s.get (headIdx n + 8) 1 with
  | 0 => (c * 65535 + 511) / 1023
  | 1 => numAt (s.getLive (okey 0 (headIdx n + 0xA + ch) 0)).data (2 * c) 2
  | m => builtinTable false (m - 2) c

/-- The matrix: output channel `i` of the linear values. -/
def State.matrix (s : State) (n i : Nat) (l : Nat → Nat) : Nat :=
  if s.get (headIdx n + 8) 2 = 0 then l i
  else
    let m := fun j => s.getI (headIdx n + 9) (1 + 4 * i + j)
    clampN 0 65535 ((m 0 * l 0 + m 1 * l 1 + m 2 * l 2 + 32768) / 65536 + m 3)

/-- The interpolation of R189 in a table. -/
def regammaAt (t : Nat → Nat) (y : Nat) : Nat :=
  let idx := y * 1023 / 65535
  let frac := y * 1023 - idx * 65535
  if idx = 1023 then t 1023
  else
    let d : Int := (t (idx + 1) : Int) - t idx
    ((t idx : Int) + (d * frac + 32767) / 65535).toNat

/-- Regamma of channel `ch`. -/
def State.regamma (s : State) (n ch y : Nat) : Nat :=
  match s.get (headIdx n + 8) 3 with
  | 0 => y
  | 1 => regammaAt (fun i => numAt (s.getLive (okey 0 (headIdx n + 0xD + ch) 0)).data (2 * i) 2) y
  | m => regammaAt (builtinTable true (m - 2)) y

/-- The dither matrix of R190. -/
def ditherB : List (List Nat) := [[0, 8, 2, 10], [12, 4, 14, 6], [3, 11, 1, 9], [15, 7, 13, 5]]

/-- The threshold at an active position of frame `f`. -/
def ditherTh (f x y : Nat) : Nat := (2 * nth 0 (nth [] ditherB ((y + f / 4 % 4) % 4)) ((x + f % 4) % 4) + 1) * 2048 - 1

/-- One channel reduced to `b` bits. -/
def reduceBits (b th e : Nat) : Nat := (e * (2 ^ b - 1) + th) / 65535

/-- The wire-point triple of 10-bit components at (x, y) of the head's running frame (R191). -/
def State.wireOf (s : State) (n x y : Nat) (r g b : Nat) : Nat × Nat × Nat :=
  let lin := fun i : Nat => s.degamma n i (if i = 0 then r else if i = 1 then g else b)
  let th := if s.get (headIdx n + 8) 5 = 0 then 32767 else ditherTh (s.get (headIdx n + 1) 1) x y
  let o := fun i => reduceBits (s.get (headIdx n + 8) 4) th (s.regamma n i (s.matrix n i lin))
  (o 0, o 1, o 2)

/-! ## Fetch and line buffer (R179 to R181) -/

/-- The word of a raster position of a head's source: the owner's current copy, or the clone's view. -/
def State.sourceWord (s : State) (o : PlanHead) (r : HeadRun) (pos : Nat) : Nat :=
  let x := pos % max 1 o.hActive
  let y := pos / max 1 o.hActive
  let t := y / 32 * o.cols + x / 64
  match s.store o.head with
  | none => 0
  | some st =>
    let f := st.tile t
    f.word (if r.head = o.head then f.cur else nth false r.view t) (y % 32 * 64 + x % 64)

/-- The tile of a raster position. -/
def tileAt (o : PlanHead) (pos : Nat) : Nat := pos / max 1 o.hActive / 32 * o.cols + pos % max 1 o.hActive / 64

/-- The last source row of the taps of output row `y` of a scaled head. -/
def neededRow (o h : PlanHead) (y : Nat) : Nat := clampN 0 (o.vActive - 1 : Nat) ((scalePos o.vActive h.vActive y).1 + 4)

/-- The source position that the next output position needs: the position itself, or the last tap of a scaled pixel. -/
def neededPos (p : Plan) (h : PlanHead) (pos : Nat) : Nat :=
  let o := p.ownerHead h
  if p.scales h then
    neededRow o h (pos / max 1 h.hActive) * o.hActive
      + clampN 0 (o.hActive - 1 : Nat) ((scalePos o.hActive h.hActive (pos % max 1 h.hActive)).1 + 4)
  else pos

/-- Source position of the scan: up to it the line buffer has given its pixels to the scaler, which keeps those that later
taps name (R185; DEDUCED, log entry 97). -/
def scanPos (p : Plan) (h : PlanHead) (pos : Nat) : Nat :=
  let o := p.ownerHead h
  let y := pos / max 1 h.hActive
  if p.scales h && decide (0 < y) && neededRow o h y == neededRow o h (y - 1) then (neededRow o h y + 1) * o.hActive
  else neededPos p h pos

/-- SAFE_PX (R181). -/
def safePx (h : PlanHead) : Nat := min 32768 ((7000 * h.clockKhz + 999999) / 1000000)

/-- Pixels of a head's source frame. -/
def framePx (p : Plan) (h : PlanHead) : Nat := (p.ownerHead h).hActive * (p.ownerHead h).vActive

/-- The channels that hold a head's frame store. -/
def State.storeChans (s : State) (p : Plan) (h : Nat) : List Nat :=
  match p.headOf h with
  | none => []
  | some e =>
    match (s.store (p.ownerHead e).head).bind (fun x => s.surf x.surf) with
    | some f => if f.loc = 1 then s.usableChans f.group else []
    | none => []

/-- Panic at the channels follows the heads that assert it (R180, R321). -/
def State.syncPanic (s : State) (p : Plan) : State :=
  let under := ((s.scan.heads.filter (fun r => r.panic)).map (fun r => s.storeChans p r.head)).flatten
  foldS (fun s c => s.setPanic c (under.contains c)) s (List.range 32)

/-- The slot that runs, counted through all composition frames; and slot `k` of the newest composition frame in which it
has begun. -/
def State.slotNow (s : State) (p : Plan) : Nat := min 1023 ((s.now - s.time.lastEpoch) / max 1 p.slotNs)
def State.slotKey (s : State) (p : Plan) (k : Nat) : Nat :=
  (if k ≤ s.slotNow p then s.epoch else (s.epoch + 2 ^ 32 - 1) % 2 ^ 32) * 1024 + k % 1024

/-- Bytes that the fetcher reads for the next `n` source positions (R179): 8 for each tile's header, and for each of a tile's
four bands a quarter of the 256 × SECTORS bytes of its current copy. -/
def State.fetchBytes (s : State) (o : PlanHead) (r : HeadRun) (n : Nat) : Nat :=
  match s.store o.head with
  | none => 0
  | some st =>
    sumBy (fun j =>
      let pos := r.buf.length + j
      let x := pos % max 1 o.hActive
      let y := pos / max 1 o.hActive
      if x % 64 ≠ 0 ∨ y % 8 ≠ 0 then 0
      else
        let t := tileAt o pos
        let f := st.tile t
        (if y % 32 = 0 then 8 else 0) + 64 * hdrSectors (f.hdr (if r.head = o.head then f.cur else nth false r.view t))) (List.range n)

/-- FILL_PX and what follows from it: the class of fetches, which is Urgent where they go beyond the head's SCAN_4K
reservation for the running slot with FILL_PX under URGENT_PX; panic; and BLACKOUT_SAFE (R180, R181). Panic follows FILL_PX
alone, also once a frame is fetched whole (DEDUCED, log entry 16). The watermarks are those of the running frame (R173). -/
def State.updateFill (s : State) (p : Plan) (h : PlanHead) : State :=
  match s.headRun h.head with
  | none => s
  | some r =>
    let i := headIdx h.head
    let fill := r.buf.length - scanPos p h r.scan
    let v := s.rasterView h.head
    let up := v.get (i + 4) 1
    let beyond : Bool := r.slot == s.slotKey p (s.slotNow p) && decide (4096 * h.scan4k < r.used)
    let urgent : Bool := beyond && decide (fill < up)
    let panic : Bool := if r.panic then decide (fill < up) else decide (fill < v.get (i + 4) 2)
    let s := if urgent ∧ !r.urgent then s.bump (i + 3) 4 else s
    let s := if panic ∧ !r.panic then (s.bump (i + 3) 5).setFlag (okey 0 (i + 2) 0) 1 else s
    let s := s.putRun { r with urgent := urgent, panic := panic }
    let safe : Bool := safePx h ≤ fill || r.blank && min (safePx h) (p.ownerHead h).hActive ≤ r.buf.length
    let s := ((s.put (i + 1) 6 (min 32768 fill)).put (i + 1) 7 (if panic then 2 else if urgent then 1 else 0)).put (i + 1) 8
      (if safe then 1 else 0)
    if panic = r.panic then s else s.syncPanic p

/-- A head's read of a tile of a frame store's copy meets an uncorrectable error (R329): where the memory there carries ECC it is
counted and reported. -/
def State.storeError (s : State) (owner tile : Nat) (copy : Bool) : State :=
  match s.store owner with
  | none => s
  | some x => (s.surf x.surf).elim s (fun f =>
      let a := f.addr + storeOff x copy tile
      if f.loc < 2 && !f.homeless && s.eccCovers a then s.eccUncorrected a else s)

/-- A head's fetch reads tiles of the frame store it shows: accesses to its surface (R130, R331). -/
def State.heatStore (s : State) (owner : Nat) (view : List Bool) (tiles : List Nat) : State :=
  (s.store owner).elim s (fun x => foldS (fun s t => s.heat x.surf (storeOff x (nth false view t) t) 8192) s tiles)

/-- FETCH_DATA_RETURN: `n` more pixels of the frame, in raster order, have returned and are decoded into the line buffer
as far as it has room; `slot` is the slot of the composition frame in which they were requested, and `bad` names tiles whose read met
an uncorrectable error (R329), which are decode errors for the rest of the frame. -/
def execFetchDataReturn (t head n slot : Nat) (bad : List Nat) (s : State) : Host.Outcome State Fault Refusal :=
  at_ t s fun s =>
    match s.plan.active, s.headRun head with
    | some p, some r =>
      match p.headOf head with
      | none => s
      | some h =>
        let o := p.ownerHead h
        let room := 32768 + scanPos p h r.scan - r.buf.length
        let k := min (min n room) (framePx p h - r.buf.length)
        let hit := (bad.eraseDups).filter (fun b => !r.badTiles.contains b
          && (List.range k).any (fun j => tileAt o (r.buf.length + j) == b))
        let gone := r.badTiles ++ hit
        let words := (List.range k).map (fun j =>
          let pos := r.buf.length + j
          if gone.contains (tileAt o pos) then 0 else s.sourceWord o r pos)
        let s := s.bumpN (0x4100 + head) 8 hit.length
        let s := s.heatStore o.head r.view ((List.range k).map (fun j => tileAt o (r.buf.length + j))).eraseDups
        let s := foldS (fun s b => s.storeError o.head b (nth false r.view b)) s hit
        let key := s.slotKey p slot
        let used := (if r.slot = key then r.used else 0) + s.fetchBytes o r k
        (s.putRun { r with buf := r.buf ++ words, badTiles := gone, slot := key, used := used }).updateFill p h
    | _, _ => s

/-! ## Scan (R182, R185, R191) -/

/-- The active pixel due next: its position and wire-point triple, after the underrun accounting of R182. None where the
head is not running or its frame has been scanned. -/
def State.scanPixel (s : State) (p : Plan) (h : PlanHead) : State × Option (Nat × Nat × (Nat × Nat × Nat)) :=
  match s.headRun h.head with
  | none => (s, none)
  | some r =>
    let n := h.head
    let i := headIdx n
    let o := p.ownerHead h
    if h.hActive * h.vActive ≤ r.scan then (s, none)
    else
      let x := r.scan % max 1 h.hActive
      let y := r.scan / max 1 h.hActive
      let r := if x = 0 then { r with underLine := false } else r
      let r := { r with blank := false }
      if neededPos p h r.scan < r.buf.length then
        let word := fun c rr : Nat => nth 0 r.buf (rr * o.hActive + c)
        let chan := fun k : Nat =>
          if p.scales h then
            scalePx (s.getLive (okey 0 (i + 0x10) 0)).data (s.getLive (okey 0 (i + 0x11) 0)).data o.hActive o.vActive
              h.hActive h.vActive x y (fun c rr => bitsOf (word c rr) (10 * k + 9) (10 * k))
          else bitsOf (nth 0 r.buf r.scan) (10 * k + 9) (10 * k)
        let w := s.wireOf n x y (chan 0) (chan 1) (chan 2)
        ((s.putRun { r with scan := r.scan + 1, last := some w }).updateFill p h, some (x, y, w))
      else
        let w := r.last.getD (0, 0, 0)
        let s := s.bump (i + 3) 1
        let s := if r.underLine then s else s.bump (i + 3) 2
        let s := if r.underFrame then s else (s.bump (i + 3) 3).raise (i + 2) n 0 sevWarning 0 [byteOf n]
        ((s.putRun { r with scan := r.scan + 1, underLine := true, underFrame := true }).updateFill p h, some (x, y, w))

/-! ## The start of vertical blank (R173 to R178, R183) -/

/-- TILE_FLIP: the COMPLETE tiles of an owning head flip (R160); FLIPPED_LAST counts them. -/
def State.flipTiles (s : State) (h : Nat) : State :=
  match s.store h with
  | none => s
  | some x =>
    let n := (x.tiles.filter (fun f => f.pend == 2)).length
    let s := s.putStore { x with tiles := x.tiles.map (fun f => if f.pend = 2 then { f with cur := !f.cur, pend := 0 } else f) }
    s.put (0x4100 + h) 7 n

/-- CLONE_VIEW_LATCH (R183). -/
def State.latchClone (s : State) (p : Plan) (h : PlanHead) : State :=
  let o := p.ownerHead h
  if o.head = h.head then s
  else
    match s.headRun h.head, s.store o.head with
    | some r, some x =>
      let i := headIdx h.head
      let f := s.get (headIdx o.head + 1) 1
      let old := s.get (i + 0x18) 2
      let s := s.putRun { r with view := x.tiles.map (fun y => y.cur) }
      let d := sub32 f old
      let s := if r.first then s else if d = 0 then s.bump (i + 3) 8 else s.bumpN (i + 3) 9 (d - 1)
      s.put (i + 0x18) 2 f
    | _, _ => s

/-- The target instants of a frame whose epoch is `e` (R175). -/
def targetsOf (p : Plan) (h : PlanHead) (e : Int) : List Int :=
  (List.range h.mult).map (fun k => e + ((h.phaseNs + k * (p.epochPeriod / max 1 h.mult) : Nat) : Int))

/-- The error of a vertical-blank start against the nearest target instant (R175). -/
def State.lockError (s : State) (p : Plan) (h : PlanHead) : Int :=
  let targets := targetsOf p h ((s.time.lastEpoch : Int) - p.epochPeriod) ++ targetsOf p h (s.time.lastEpoch : Int)
    ++ targetsOf p h (s.time.nextEpoch : Int)
  targets.foldl (fun e tg => if ((s.now : Int) - tg).natAbs < e.natAbs then (s.now : Int) - tg else e) ((s.now : Int) - (targets.headD 0))

/-- The lines by which a re-phase lengthens the blank that begins now (R176): the end falls on the line boundary nearest to the
first target instant that the next vertical-blank start can reach without a shorter blank, within one target period. -/
def State.rephaseLines (s : State) (p : Plan) (h : PlanHead) : Nat :=
  let line : Int := ((h.hTotal * 1000000 : Nat) : Int)
  let lines := fun tg : Int => (2 * ((tg - s.now) * h.clockKhz - h.vTotal * line) + line) / (2 * max 1 line)
  let targets := targetsOf p h (s.time.lastEpoch : Int) ++ targetsOf p h (s.time.nextEpoch : Int)
    ++ targetsOf p h ((s.time.nextEpoch : Int) + p.epochPeriod)
  min (((targets.map lines).find? (fun n => decide (0 ≤ n))).getD 0).toNat
    (p.epochPeriod / max 1 h.mult * h.clockKhz / max 1 (h.hTotal * 1000000))

/-- LOCK_ERROR_MEASURE and REPHASE (R175, R176): the error, the trim within its bound, LOCK_STATE and a re-phase. What
trim the head picks within its bound is open (DESIGN CHOICE, log entry 3). -/
def State.measureLock (s : State) (p : Plan) (h : PlanHead) : State :=
  match s.headRun h.head with
  | none => s
  | some r =>
    let i := headIdx h.head
    if !bit h.flags 2 then s.putRun { r with extra := 0 }
    else
      let e := if r.first then 0 else s.lockError p h
      let bound := s.get (i + 5) 2 * 1000
      let trim : Int := if e = 0 then 0 else ((s.freeW.toNat % (2 * bound + 1) : Nat) : Int) - bound
      let s := ((s.useFree).putI (i + 1) 4 e).putI (i + 1) 5 trim
      let inWin : Bool := e.natAbs ≤ s.get (i + 5) 1
      let st := s.get (i + 1) 3
      let good := if inWin then r.good + 1 else 0
      let bad := if inWin then 0 else r.bad + 1
      let late : Bool := s.get (i + 5) 3 < e.natAbs
      let s := s.putRun { r with good := good, bad := bad, extra := if late then s.rephaseLines p h else 0 }
      let s := if st ≠ 2 ∧ 8 ≤ good then (s.put (i + 1) 3 2).setFlag (okey 0 (i + 2) 0) 2
        else if st = 2 ∧ 3 ≤ bad then ((s.put (i + 1) 3 1).bump (i + 3) 6).raise (i + 2) h.head 3 sevWarning 0 [byteOf h.head]
        else if st = 0 then s.put (i + 1) 3 1 else s
      if late then (s.bump (i + 3) 7).raise (i + 2) h.head 4 sevNotice 0 [byteOf h.head] else s

/-- VTOTAL_EFFECTIVE (R178). -/
def State.vtotal (s : State) (h : PlanHead) : Nat :=
  let i := headIdx h.head
  if bit h.flags 1 then
    let d := h.hTotal * s.get (i + 6) 0
    max h.vTotal ((h.clockKhz * 100000 + d - 1) / max 1 d)
  else h.vTotal

/-- The fetch of the frame that follows begins: the line buffer is empty and the scan stands before line 0. The blanking that
begins is signalled; the lines that VRR or a re-phase adds lie in its front porch (R178; DESIGN CHOICE for a re-phase, log
entry 98). -/
def State.startFetch (s : State) (p : Plan) (h : PlanHead) : State :=
  match s.headRun h.head with
  | none => s
  | some r =>
    let i := headIdx h.head
    let total := s.vtotal h + r.extra
    let s := s.putRun { r with blank := true, blankAt := s.now, scan := 0, buf := [], underLine := false,
                               underFrame := false, first := false, badTiles := [] }
    let s := ((s.put (i + 1) 9 (s.vtotal h)).put (i + 4) 3 (safePx h)).updateFill p h
    s.emit (.sync h.head (h.vSyncStart + (total - h.vTotal)) h.vSyncWidth total h.hSyncStart h.hSyncWidth h.hTotal
      (bit h.flags 3) (bit h.flags 4))

/-- LINE of a running head: the line of the scan, or of the blank by the time since it began; the blank has the lines that its
start fixed. -/
def State.lineOf (s : State) (h : PlanHead) (r : HeadRun) : Nat :=
  if r.blank then
    (h.vActive + (s.now - r.blankAt) * h.clockKhz / (1000000 * max 1 h.hTotal)) % max 1 (s.get (headIdx h.head + 1) 9 + r.extra)
  else min h.vActive (r.scan / max 1 h.hActive)

/-- A head that can run: not lost, its domain on and its PLL locked, with a planner core to start it (R27, R446). -/
def State.headUsable (s : State) (n : Nat) : Bool := !s.isLost .head n && s.pdOn (9 + n / 8) && !s.noLock (10 + n) && s.coresUp

/-- A head's timing starts (R116, R175): at the start of vertical blank, acquiring if it is locked. -/
def State.startHead (s : State) (h : PlanHead) : State :=
  if !s.headUsable h.head then s
  else
  let s := s.abandonCap h.head
  let r : HeadRun := ⟨h.head, true, s.now, 0, [], [], none, false, false, false, false, 0, 0, true, 0, [], 0, 0⟩
  let s := { s with scan := { s.scan with heads := r :: s.scan.heads.filter (fun y => y.head != h.head) } }
  (s.put (headIdx h.head + 1) 3 (if bit h.flags 2 then 1 else 0)).put (headIdx h.head + 4) 3 (safePx h)

/-- A head's timing stops: its ports go to their reset state elsewhere; it counts as blackout-safe. -/
def State.stopHead (s : State) (n : Nat) : State :=
  let s := s.abandonCap n
  let s := { s with scan := { s.scan with heads := s.scan.heads.filter (fun y => y.head != n) } }
  let i := headIdx n + 1
  let s := (((((s.put i 3 0).put i 6 0).put i 7 0).put i 8 1).put i 9 0).put (headIdx n + 4) 3 0
  s.plan.active.elim s (fun p => s.syncPanic p)

/-! ## Frequency change (R325) -/

/-- FREQ_CHANGE_START: a requested change starts at a safe instant: every active head blackout-safe, no channel under
panic, no forced refresh pending, and for VBLANK_PREF_MS after the request every active head in vertical blank. -/
def execFreqChangeStart (t : Nat) (s : State) : Host.Outcome State Fault Refusal :=
  at_ t s fun s =>
    match s.memc.freqReq, s.memc.freqRun with
    | some (op, at0), none =>
      let safe := s.scan.heads.all (fun r => s.get (headIdx r.head + 1) 8 == 1)
      let quiet := s.memc.panicSince.isEmpty && (List.range 32).all (fun c => decide (s.owed c < 4))
      let blank := s.scan.heads.all (fun r => r.blank) || decide (at0 + s.get 0x3060 3 * 1000000 ≤ s.now)
      if safe ∧ quiet ∧ blank ∧ s.get (0x3064 + op) 2 = 1 then
        { s with memc := { s.memc with freqReq := none, freqRun := some (op, s.now) } }
      else s
    | _, _ => s

end Sys2Proof.Machine
end

