-- ==== Sys2Proof/Machine/Haptics.lean ====
section
/-!
DEFINITION. Haptic channels (R383 to R389): how an effect starts, what a control tick drives, the brake, the
resonance tracking and the overcurrent fault.
-/
namespace Sys2Proof.Machine

/-! ## A channel and its records -/

def Cfg.haptics (c : Cfg) : Nat := if c.compact then 4 else 8

/-- Index of HapticConfig of a channel; HapticPlay, HapticState and FAULT_CLEAR follow it. -/
def hapIdx (c : Nat) : Nat := 0x8300 + c * 4

def HapticRun.new (c : Nat) : HapticRun :=
  { chan := c, effect := none, seg := 0, segAt := 0, phase := 0, driven := 0, braking := false, brakeAt := 0, small := 0,
    amp := 0, current := 0, backEmf := 0, startPeriod := none, startRank := 0, ended := [] }

def State.haptic (s : State) (c : Nat) : HapticRun :=
  (s.motion.haptics.find? (fun r => r.chan == c)).getD (HapticRun.new c)

def State.putHaptic (s : State) (r : HapticRun) : State :=
  { s with motion := { s.motion with haptics := r :: s.motion.haptics.filter (fun x => x.chan != r.chan) } }

/-- The gates of a channel's bridge at a duty (R383). With d > 0 the low side of B is on for the whole period and the
high side of A for d counts, its low side for the remainder; with d < 0 A and B are exchanged; with d = 0 both low
sides are on, which is brake. -/
def State.gates (s : State) (c : Nat) (d : Int) : Out :=
  let n := d.natAbs
  let dead := s.get (hapIdx c) 4
  if d < 0 then .bridge c 0 500 n (500 - n) dead else .bridge c n (500 - n) 0 500 dead

/-- The bridge of a channel driven with a duty (R383). -/
def State.drive (s : State) (c : Nat) (d : Int) : State := s.emit (s.gates c d)

/-- The channel's STATE: 0 off, 1 idle, 2 playing, 3 braking, 4 faulted. -/
def State.hapticState (s : State) (c : Nat) : Nat := s.get (hapIdx c + 2) 1

/-- Starts are refused on this channel (R389): disabled, faulted, lost, absent or without power. -/
def State.hapticRefuses (s : State) (c : Nat) : Bool :=
  s.cfg.haptics ≤ c || s.get (hapIdx c) 1 == 0 || s.hapticState c == 4 || s.isLost .haptic c || !s.pdOn 17

/-- The EffectRecord in force of an effect (R385). -/
def State.effectRecord (s : State) (e : Nat) : List Byte := (s.getLive (okey 0 (0x8380 + e) 0)).data

/-- SEGMENT_COUNT of a record. -/
def segCount (r : List Byte) : Nat := min 7 (numAt r 1 1)

/-- The fields of segment `i`: SHAPE, ENVELOPE, AMPLITUDE, FREQ_HZ, DURATION. -/
def segShape (r : List Byte) (i : Nat) : Nat := numAt r (8 + 8 * i) 1
def segEnvelope (r : List Byte) (i : Nat) : Nat := numAt r (9 + 8 * i) 1
def segAmp (r : List Byte) (i : Nat) : Nat := numAt r (10 + 8 * i) 2
def segFreq (r : List Byte) (i : Nat) : Nat := numAt r (12 + 8 * i) 2
def segNs (r : List Byte) (i : Nat) : Nat := numAt r (14 + 8 * i) 2 * 100000

/-- A user effect whose record is empty (R389). -/
def State.effectEmpty (s : State) (e : Nat) : Bool := 128 ≤ e && segCount (s.effectRecord e) == 0

/-! ## Drive values (R385, R386) -/

/-- The drive d of R385 for an amplitude A = `num` / `den`: ⌊500 × A × GAIN × AMPLITUDE_SCALE / 65,535³⌋. -/
def State.dutyOf (s : State) (c num den : Nat) : Nat :=
  500 * num * s.get (hapIdx c) 3 * s.get (hapIdx c + 1) 2 / (den * 65535 ^ 3)

/-- The amplitude of segment `i` after its envelope, `el` ns from its start, as a fraction. -/
def segLevel (r : List Byte) (i el : Nat) : Nat × Nat :=
  let d := max 1 (segNs r i)
  match segEnvelope r i with
  | 1 => (segAmp r i * el, d)
  | 2 => (segAmp r i * (d - el), d)
  | _ => (segAmp r i, 1)

/-- The first segment that is not silent, where the kick acts (R386). -/
def firstDriven (r : List Byte) : Nat := ((List.range (segCount r)).find? (fun i => segShape r i != 0)).getD 7

/-- The drive of a running segment before its waveform, with the kick (R386), limited to ±500. -/
def State.segDuty (s : State) (c : Nat) (r : List Byte) (run : HapticRun) : Nat :=
  let (num, den) := segLevel r run.seg (s.now - run.segAt)
  let d := s.dutyOf c num den
  if run.seg = firstDriven r ∧ run.driven < numAt r 2 1 * 48000 then min 500 (d * numAt r 4 2 / 256) else min 500 d

/-- The drive with its waveform at an oscillator phase in 1/48,000 cycle: a square exactly; a sine exactly at its
zeros and peaks, else a free value of the half-cycle's sign and at most the amplitude (DESIGN CHOICE, log entry 18). -/
def State.wave (s : State) (shape phase d : Nat) : State × Int :=
  let pos := decide (phase < 24000)
  if shape = 0 then (s, 0)
  else if shape = 3 then (s, if pos then d else -(d : Int))
  else if phase = 0 ∨ phase = 24000 then (s, 0)
  else if phase = 12000 then (s, d)
  else if phase = 36000 then (s, -(d : Int))
  else
    let m := s.freeW.toNat % (d + 1)
    (s.useFree, if pos then m else -(m : Int))

/-! ## Starting and ending effects (R386, R388, R389) -/

/-- The channel idles with its bridge in brake. -/
def State.hapticIdle (s : State) (c state : Nat) : State :=
  let s := s.putHaptic { s.haptic c with effect := none, braking := false, small := 0 }
  ((s.put (hapIdx c + 2) 1 state).put (hapIdx c + 2) 2 0).drive c 0

/-- A playing effect stops with its brake. DEDUCED, log entry 114. -/
def State.brakeEffect (s : State) (c : Nat) : State :=
  let run := s.haptic c
  match run.effect with
  | none => s
  | some r =>
    let s := s.putHaptic { run with effect := none, braking := true, brakeAt := s.now, small := 0,
                                    amp := segAmp r (min run.seg (segCount r - 1)) }
    (s.put (hapIdx c + 2) 1 3).put (hapIdx c + 2) 2 0

/-- The end of an effect after its last segment, or by the stop effect: the brake, unless NO_BRAKE is set. -/
def State.endEffect (s : State) (c : Nat) : State :=
  if (s.haptic c).effect.elim false (fun r => bit (numAt r 0 1) 0) then s.hapticIdle c 1 else s.brakeEffect c

/-- A start that lost against another in one carrier period. -/
def State.superseded (s : State) (c : Nat) : State := (s.bump (hapIdx c + 2) 5).setFlag (okey 0 0x8320 0) 3

/-- An effect begins on a channel. Where the running and the new segment are both shape 1 the oscillator's phase
continues (R388); otherwise the waveform begins at its phase zero (DESIGN CHOICE, log entry 18). -/
def State.beginEffect (s : State) (c rank e : Nat) : State :=
  let run := s.haptic c
  let period := s.now * 384 / 1000000
  if e = 0 then
    (s.endEffect c).putHaptic { (s.endEffect c).haptic c with startPeriod := some period, startRank := rank }
  else
    let r := s.effectRecord e
    let keep := run.effect.elim false (fun o => segShape o run.seg == 1) && segShape r 0 == 1
    let s := s.putHaptic { run with effect := some r, seg := 0, segAt := s.now, phase := if keep then run.phase else 0,
                                    driven := 0, braking := false, small := 0, startPeriod := some period,
                                    startRank := rank }
    (s.put (hapIdx c + 2) 1 2).put (hapIdx c + 2) 2 e

/-- A start of an effect from a source of rank `rank` (0 to 7 the pins, 8 a key's reflex, 9 an object write): what
R389 makes of it, with the code an object write is refused with. Of two starts of one rank in one carrier period the
first taken wins (DESIGN CHOICE, log entry 18). -/
def State.startEffect (s : State) (c rank e : Nat) : State × Nat :=
  if s.hapticRefuses c then
    (if s.cfg.haptics ≤ c then s else s.bump (hapIdx c + 2) 6, codeChannelFaulted)
  else if s.effectEmpty e then (s, codeEffectAbsent)
  else
    let run := s.haptic c
    if run.startPeriod = some (s.now * 384 / 1000000) then
      if rank < run.startRank then ((s.superseded c).beginEffect c rank e, 0) else (s.superseded c, 0)
    else ((s.bump (hapIdx c + 2) 4).beginEffect c rank e, 0)

/-- A write of HapticPlay:01, with its code; one refused for a faulted channel is counted there. -/
def State.playWrite (s : State) (w : Wr) (c : Nat) : State × Nat :=
  let own := fun (s : State) (e : Nat) =>
    if s.hapticRefuses c then some codeChannelFaulted else if s.effectEmpty e then some codeEffectAbsent else none
  let r := s.write w own (fun s e => (s.startEffect c 9 e).1)
  (if r.2 = codeChannelFaulted then r.1.bump (hapIdx c + 2) 6 else r.1, r.2)

/-- PLAY (R388). -/
def execPlay (t : Nat) (ini : Ini) (chan : Nat) (v : Word) (s : State) : Host.Outcome State Fault Refusal :=
  at_ t s fun s => s.when (chan < 8) fun s => (s.playWrite ⟨ini, 0, hapIdx chan + 1, 1, v⟩ chan).1

/-- HAPT_TRIG_EDGE (R388): a filtered edge of HAPT_TRIGn. -/
def execHaptTrigEdge (t n : Nat) (rising : Bool) (s : State) : Host.Outcome State Fault Refusal :=
  edged t s fun s =>
    let s := if n < 8 then s.setPin (5 + n) rising else s
    let edge := s.get (0x8330 + n) 3
    let chan := s.get (0x8330 + n) 1
    if n < 8 ∧ chan ≠ 0xFF ∧ (edge = 2 ∨ edge = (if rising then 0 else 1)) then
      (s.startEffect chan n (s.get (0x8330 + n) 2)).1
    else s

/-! ## The control tick (R383, R386, R387) -/

/-- Back-EMF in nV from the coil voltage in mV, the current in mA and its change since the last tick:
e = V − I × COIL_R − COIL_L × dI/dt at 48,000 ticks per second. -/
def State.backEmfOf (s : State) (c : Nat) (run : HapticRun) (mv ma : Int) : Int :=
  mv * 1000000 - ma * s.get (hapIdx c) 9 * 1000 - s.get (hapIdx c) 0xA * (ma - run.current) * 48000

/-- The tracked resonance corrected at a zero crossing of e (R387): by a free amount of at most 2 %, clamped to
RES_MIN_HZ to RES_MAX_HZ (DESIGN CHOICE, log entry 18). -/
def State.trackResonance (s : State) (c : Nat) : State :=
  let f := s.get (hapIdx c + 2) 3
  let lo := s.get (hapIdx c) 7
  let hi := s.get (hapIdx c) 8
  let g := f - f / 50 + s.freeW.toNat % (2 * (f / 50) + 1)
  let h := min (max g lo) hi
  let s := s.useFree.put (hapIdx c + 2) 3 h
  if h = lo ∨ h = hi then s.setFlag (okey 0 0x8320 0) 2 else s

/-- The running effect moved on to the segment of this instant; past the last one it ends. -/
def State.nextSegments (s : State) (c : Nat) : Nat → State
  | 0 => s
  | n + 1 =>
    let run := s.haptic c
    match run.effect with
    | none => s
    | some r =>
      if segCount r ≤ run.seg then s.endEffect c
      else if s.now < run.segAt + segNs r run.seg then s
      else
        let keep := segShape r run.seg == 1 && segShape r (run.seg + 1) == 1
        (s.putHaptic { run with seg := run.seg + 1, segAt := run.segAt + segNs r run.seg,
                                phase := if keep then run.phase else 0 }).nextSegments c n

/-- The tick of a channel that brakes: it ends after two ticks of small back-EMF, else drives in antiphase to e. -/
def State.brakeTick (s : State) (c : Nat) (e : Int) : State :=
  let run := s.haptic c
  let small := if e.natAbs < s.get (hapIdx c) 0xB * 1000000 then run.small + 1 else 0
  if 2 ≤ small then s.hapticIdle c 1
  else
    let d := min 500 (s.dutyOf c run.amp 1)
    (s.putHaptic { run with small := small }).drive c (if 0 < e then -(d : Int) else if e < 0 then d else 0)

/-- The tick of a channel that plays a segment. -/
def State.playTick (s : State) (c : Nat) (r : List Byte) (crossed : Bool) : State :=
  let run := s.haptic c
  let shape := segShape r run.seg
  let s := if shape = 1 ∧ crossed then s.trackResonance c else s
  let f := if shape = 1 then s.get (hapIdx c + 2) 3 else segFreq r run.seg
  let (s, w) := s.wave shape run.phase (s.segDuty c r run)
  let driven := if run.seg = firstDriven r then run.driven + f else run.driven
  (s.putHaptic { run with phase := (run.phase + f) % 48000, driven := driven }).drive c w

/-- HAPTIC_TICK: the 48 kHz tick of a channel with its sensed coil voltage and current. -/
def execHapticTick (t chan : Nat) (mv ma : Int) (s : State) : Host.Outcome State Fault Refusal :=
  clocked t 6 s fun s =>
    if s.hapticRefuses chan then s
    else
      let run := s.haptic chan
      let e := s.backEmfOf chan run mv ma
      let crossed := decide (run.backEmf < 0 ∧ 0 ≤ e ∨ 0 < run.backEmf ∧ e ≤ 0)
      let s := s.putHaptic { run with current := ma, backEmf := e }
      let s := s.nextSegments chan 8
      let run := s.haptic chan
      if run.braking then s.brakeTick chan e
      else
        match run.effect with
        | some r => s.playTick chan r crossed
        | none => s.drive chan 0

/-- BRAKE_TIMEOUT (R386): BRAKE_MAX_MS of braking have passed. -/
def execBrakeTimeout (t chan : Nat) (s : State) : Host.Outcome State Fault Refusal :=
  at_ t s fun s =>
    let run := s.haptic chan
    if run.braking ∧ run.brakeAt + s.get (hapIdx chan) 0xC * 1000000 ≤ s.now then
      ((s.hapticIdle chan 1).bump (hapIdx chan + 2) 8).setFlag (okey 0 0x8320 0) 1
    else s

/-! ## Faults, loss, commit and reset -/

/-- CHANNEL_OVERCURRENT (R384): a PWM period ended for current; more than half of the 3,840 periods of 10 ms fault
the channel. -/
def execChannelOvercurrent (t chan : Nat) (s : State) : Host.Outcome State Fault Refusal :=
  edged t s fun s =>
    if s.hapticRefuses chan then s
    else
      let run := s.haptic chan
      let ended := s.now :: run.ended.filter (fun x => s.now < x + 10000000)
      if 1920 < ended.length then
        let s := (s.putHaptic { run with ended := [] }).hapticIdle chan 4
        (s.bump (hapIdx chan + 2) 7).raise 0x8320 chan 0 sevWarning (s.get (hapIdx chan) 2) [byteOf chan]
      else s.putHaptic { run with ended := ended }

/-- FAULT_CLEAR written (R384): a faulted channel may start effects again. -/
def State.hapticClear (s : State) (c v : Nat) : State :=
  if v = 1 ∧ s.hapticState c = 4 ∧ !s.isLost .haptic c then
    (s.putHaptic { s.haptic c with ended := [] }).put (hapIdx c + 2) 1 (if s.get (hapIdx c) 1 = 1 then 1 else 0)
  else s

/-- HAPTIC_FAULT_CLEAR. -/
def execHapticFaultClear (t : Nat) (ini : Ini) (chan : Nat) (v : Word) (s : State) : Host.Outcome State Fault Refusal :=
  at_ t s fun s => s.when (chan < 8) fun s => s.writeAt ini (hapIdx chan + 3) 0 v noOwn (fun s v => s.hapticClear chan v)

/-- A channel lost under R27: its bridge in brake, starts refused as for a faulted channel (R389). -/
def State.hapticLost (s : State) (c : Nat) : State := s.hapticIdle c 4

/-- What a commit of CG_HAPTIC does to the channels, `old` being the state before it: a channel switched on idles,
one switched off brakes, and a changed resonance field restarts the tracked value (R387). -/
def State.hapticCommit (s old : State) : State :=
  foldS (fun s c =>
    let on := s.get (hapIdx c) 1 = 1
    let s := if !on then (if s.hapticState c = 0 then s else s.hapticIdle c 0)
             else if s.hapticState c = 0 then s.put (hapIdx c + 2) 1 1 else s
    if [6, 7, 8].any (fun m => s.get (hapIdx c) m != old.get (hapIdx c) m) then
      s.put (hapIdx c + 2) 3 (s.get (hapIdx c) 6)
    else s) s (List.range s.cfg.haptics)

/-- Reset of PD17 (R387, R400, R402): bridges in brake, effects ended, counters zero, the tracked resonance at its
nominal value. -/
def State.hapticReset (s : State) : State :=
  let s := { s with motion := { s.motion with haptics := [] } }
  foldS (fun s c =>
    let s := (s.put (hapIdx c + 2) 1 (if s.isLost .haptic c then 4 else s.get (hapIdx c) 1)).put (hapIdx c + 2) 2 0
    let s := s.put (hapIdx c + 2) 3 (s.get (hapIdx c) 6)
    (foldS (fun s m => s.put (hapIdx c + 2) m 0) s [4, 5, 6, 7, 8]).drive c 0) s (List.range s.cfg.haptics)

end Sys2Proof.Machine
end

