-- ==== Sys2Proof/Machine/Touch.lean ====
section
/-!
DEFINITION. Touch sensing (chapter 15): from the samples of a frame to deltas, touches and keys, the touch router, the
touch rings, hit masks and the self-test.
-/
namespace Sys2Proof.Machine

/-! ## Ports (R366) -/

def Cfg.touchPorts (c : Cfg) : Nat := if c.compact then 2 else 4

/-- Index of TouchPortConfig of a port; state, counters, self-test and delta frame follow it at 1 to 4. -/
def tpIdx (k : Nat) : Nat := 0x8010 + k * 8

def State.touchPort (s : State) (k : Nat) : PortRun :=
  (s.touch.ports.find? (fun r => r.port == k)).getD
    { port := k, baseline := [], taken := 0, sums := [], neg := [], touches := [], cands := [], gloves := 0, gloveAt := 0,
      nextMode := 1, badTx := [], badRx := [], lines := 0 }

def State.putTouchPort (s : State) (r : PortRun) : State :=
  { s with touch := { s.touch with ports := r :: s.touch.ports.filter (fun x => x.port != r.port) } }

/-- TX and RX electrodes of a gang (R366). -/
def gangDims (g : Nat) : Nat × Nat :=
  match g with
  | 1 => (96, 80)
  | 2 => (48, 160)
  | 3 => (96, 160)
  | _ => (48, 80)

/-- Touch points of a gang. -/
def gangPoints (g : Nat) : Nat := if g = 0 then 10 else 20

/-- The ports of the gang led by a port. -/
def State.gangPorts (s : State) (k : Nat) : List Nat :=
  match s.get (tpIdx k) 2 with
  | 1 | 2 => [k, k + 1]
  | 3 => [0, 1, 2, 3]
  | _ => [k]

/-- Some port of the gang is unusable (R27). -/
def State.gangLost (s : State) (k : Nat) : Bool := (s.gangPorts k).any (fun p => s.isLost .afe p)

/-- The pins of a port, or of each port of its gang, in another use (R380): TPk_TX are driven low in the reset state and scan else;
TPk_RX are of high impedance or sense; TPk_CP is discharged, with the pump off, or the pump runs. -/
def State.setLines (s : State) (k v : Nat) : State :=
  let r := s.touchPort k
  if r.lines = v then s
  else
    foldS (fun s p => ((s.emit (.pin (.tpTx p) (min 1 v))).emit (.pin (.tpRx p) (min 1 v))).emit (.pin (.tpCp p) (v / 2)))
      (s.putTouchPort { r with lines := v }) (s.gangPorts k)

/-- The head a port serves. -/
def State.portHead (s : State) (k : Nat) : Nat := s.get (tpIdx k) 3

/-- STATE of a port. -/
def State.portState (s : State) (k : Nat) : Nat := s.get (tpIdx k + 1) 1

/-! ## Deltas (R367 to R369) -/

/-- The raw counts of a frame from its samples: `q` holds the sample of group g, slot s and RX r at (16 g + s) × RX + r,
and the raw count of node (16 g + i, r) stands at (16 g + i) × RX + r. -/
def rawCounts (tx rx : Nat) (q : List Int) : List Int :=
  (List.range (tx * rx)).map (fun n =>
    let g := n / rx / 16
    let i := n / rx % 16
    let acc := (List.range 16).foldl (fun (a : Int) s =>
      let x := nth 0 q ((16 * g + s) * rx + n % rx)
      if popCount 4 (Nat.land i s) % 2 = 0 then a + x else a - x) 0
    max (-32768) (min 32767 (Int.ediv (acc + 8) 16)))

/-- A raw count on the finger-mode scale (R368): divided by the gain 2 × 7 / 3.3 or 4 × 7 / 3.3, toward zero
(DEDUCED, log entry 20). -/
def modeScale (mode : Nat) (raw : Int) : Int :=
  match mode with
  | 2 => Int.tdiv (raw * 33) 140
  | 3 => Int.tdiv (raw * 33) 280
  | _ => raw

/-- Integration time factor of a mode (R368). -/
def modeFactor (mode : Nat) : Nat := if mode = 2 then 2 else if mode = 3 then 4 else 1

/-- EFFECTIVE_HZ (R368) of a port in a mode: the highest of SCAN_HZ and its half and quarter at which the frame fits
90 % of the period. -/
def State.effectiveHz (s : State) (k mode : Nat) : Nat :=
  let tx := (gangDims (s.get (tpIdx k) 2)).1
  let us := ((tx + 15) / 16 * 16 + 2) * s.get (tpIdx k) 6 * modeFactor mode
  let hz := s.get (tpIdx k) 5
  if us * hz * 10 ≤ 9000000 then hz else if us * hz * 10 ≤ 18000000 then hz / 2 else hz / 4

/-- The active touch threshold of a mode (R368). -/
def State.touchThreshold (s : State) (k mode : Nat) : Int := if mode = 1 then s.get (tpIdx k) 8 else s.get (tpIdx k) 9

/-- A frame's deltas on a grid: the delta of node (row, column), 0 off the sensor. -/
structure Grid where
  tx : Nat
  rx : Nat
  d : List Int

def Grid.at (g : Grid) (row col : Int) : Int :=
  if row < 0 ∨ col < 0 ∨ (g.tx : Int) ≤ row ∨ (g.rx : Int) ≤ col then 0 else nth 0 g.d (row.toNat * g.rx + col.toNat)

/-- A node is a local maximum (R370), ties going to the lower TX and then the lower RX. -/
def Grid.isMax (g : Grid) (row col : Int) : Bool :=
  let d := g.at row col
  [(-1, -1), (-1, 0), (-1, 1), (0, -1), (0, 1), (1, -1), (1, 0), (1, 1)].all (fun (x : Int × Int) =>
    let r := row + x.1
    let c := col + x.2
    if r < 0 ∨ c < 0 ∨ (g.tx : Int) ≤ r ∨ (g.rx : Int) ≤ c then true
    else if x.1 < 0 ∨ (x.1 = 0 ∧ x.2 < 0) then g.at r c < d else g.at r c ≤ d)

/-- The local maxima of at least a threshold, in TX-major order. -/
def Grid.maxima (g : Grid) (thr : Int) : List (Nat × Nat) :=
  ((List.range (g.tx * g.rx)).map (fun n => (n / g.rx, n % g.rx))).filter
    (fun x => decide (thr ≤ g.at x.1 x.2) && g.isMax x.1 x.2)

/-- Nodes that are connected to a peak through nodes of at least a threshold, grown step by step. -/
def Grid.blob (g : Grid) (thr : Int) : Nat → List (Nat × Nat) → List (Nat × Nat)
  | 0, l => l
  | n + 1, l =>
    let near := fun (a b : Nat) => a ≤ b + 1 && b ≤ a + 1
    let more := ((List.range (g.tx * g.rx)).map (fun n => (n / g.rx, n % g.rx))).filter
      (fun x => !l.contains x && decide (thr ≤ g.at x.1 x.2) && l.any (fun y => near x.1 y.1 && near x.2 y.2))
    if more.isEmpty then l else g.blob thr n (l ++ more)

/-- AREA of a peak (R374): the connected nodes at or above the threshold. -/
def Grid.area (g : Grid) (thr : Int) (x : Nat × Nat) : Nat := (g.blob thr (g.tx * g.rx) [x]).length

/-- One coordinate of a peak in 1/256 node (R370); where the three deltas add to zero the quotient is a free value. -/
def State.peakCoord (s : State) (c : Nat) (lo mid hi : Int) : State × Int :=
  if lo + mid + hi = 0 then
    let f := sext 16 (s.freeW.toNat % 65536)
    (s.useFree, 256 * c + f)
  else (s, 256 * c + Int.tdiv (256 * (hi - lo)) (lo + mid + hi))

/-- (u, v) of a peak. -/
def State.peakUv (s : State) (g : Grid) (x : Nat × Nat) : State × Int × Int :=
  let (s, u) := s.peakCoord x.2 (g.at x.1 ((x.2 : Int) - 1)) (g.at x.1 x.2) (g.at x.1 (x.2 + 1))
  let (s, v) := s.peakCoord x.1 (g.at ((x.1 : Int) - 1) x.2) (g.at x.1 x.2) (g.at (x.1 + 1) x.2)
  (s, u, v)

/-- The head position of a sensor position (R370). -/
def State.headPos (s : State) (k : Nat) (u v : Int) : Int × Int :=
  let o := s.get (tpIdx k) 0x12
  let (tx, rx) := gangDims (s.get (tpIdx k) 2)
  let (u, v, cols, rows) := if bit o 0 then (v, u, tx, rx) else (u, v, rx, tx)
  let u := if bit o 1 then 256 * ((cols : Int) - 1) - u else u
  let v := if bit o 2 then 256 * ((rows : Int) - 1) - v else v
  (s.getI (tpIdx k) 0x10 + Int.ediv (u * s.get (tpIdx k) 0xE) 65536,
   s.getI (tpIdx k) 0x11 + Int.ediv (v * s.get (tpIdx k) 0xF) 65536)

/-! ## Records and rings (R374) -/

/-- The 64 bytes of a record. -/
def TouchRec.bytes (r : TouchRec) (seq : Nat) : List Byte :=
  leBytes 8 r.time ++ [byteOf r.kind, byteOf r.id, byteOf r.head, byteOf r.port] ++ leBytes 2 r.layer ++ [0, 0]
    ++ leBytes 4 (r.x % 4294967296).toNat ++ leBytes 4 (r.y % 4294967296).toNat ++ leBytes 2 (min r.z 65535)
    ++ leBytes 2 (min r.area 65535) ++ leBytes 4 r.frame ++ bytesAt r.pick 0 16 ++ leBytes 4 seq ++ List.replicate 12 0

/-- A record joins the records its partition's ring is to take; a partition without a function has no ring. -/
def State.addRec (s : State) (r : TouchRec) : State :=
  if s.hasFunction r.part then { s with touch := { s.touch with recs := s.touch.recs ++ [r] } } else s

/-- A dropped record counted. -/
def State.dropRec (s : State) (p : Nat) : State := (s.bump (0x8080 + p) 7).setFlag (okey 0 0x8001 0) 4

/-- A touch ring has room, and the link over which its records go is up. -/
def State.touchRoom (s : State) (p : Nat) : Bool :=
  s.get 0x7A00 1 != 0 && decide ((s.get (0x8080 + p) 4 + 2 ^ 32 - s.get (0x8080 + p) 5) % 2 ^ 32 < 2 ^ s.get (0x8080 + p) 3)

/-- A record written at PRODUCER with its SEQ, and the interrupt. -/
def State.writeTouchRec (s : State) (r : TouchRec) : State :=
  let i := 0x8080 + r.part
  let seq := nth 0 s.touch.seqs r.part
  let at_ := s.get i 2 + s.get i 4 % 2 ^ s.get i 3 * 64
  let s := { s with touch := { s.touch with seqs := setNth 0 s.touch.seqs r.part ((seq + 1) % 2 ^ 32) } }
  (((s.emit (.hostWrite r.part at_ (r.bytes seq))).wrap32 i 4)).emit (.msi r.part (s.get i 6))

/-- The first element that passes a test, and the list without it. -/
def takeFirst {α : Type} (p : α → Bool) : List α → Option α × List α
  | [] => (none, [])
  | x :: l => if p x then (some x, l) else ((takeFirst p l).1, x :: (takeFirst p l).2)

/-- TOUCH_RECORD_WRITE: the next waiting record of a partition is written, records that had to wait going first; when the ring is full
a down, move or hover record is dropped and an up or cancel waits, up to 16 of them. -/
def execTouchRecordWrite (t part : Nat) (s : State) : Host.Outcome State Fault Refusal :=
  at_ t s fun s =>
    let mine := fun (r : TouchRec) => r.part == part
    if s.get (0x8080 + part) 1 = 0 then
      { s with touch := { s.touch with recs := s.touch.recs.filter (fun r => !mine r),
                                       held := s.touch.held.filter (fun r => !mine r) } }
    else
      match takeFirst mine s.touch.held with
      | (some r, held) =>
        if s.touchRoom part then { s with touch := { s.touch with held := held } }.writeTouchRec r else s
      | (none, _) =>
        match takeFirst mine s.touch.recs with
        | (none, _) => s
        | (some r, recs) =>
          let s := { s with touch := { s.touch with recs := recs } }
          if s.touchRoom part then s.writeTouchRec r
          else if [3, 4, 7, 8].contains r.kind ∧ (s.touch.held.filter mine).length < 16 then
            { s with touch := { s.touch with held := s.touch.held ++ [r] } }
          else s.dropRec part

/-! ## The router (R372, R373) -/

/-- The mask bit of a layer point; a layer without a mask in force is hit everywhere. -/
def State.maskHit (s : State) (l : PlanLayer) (x y : Int) : Bool :=
  if s.get (0x8100 + l.slot) 4 ≠ 1 then true
  else
    match s.touch.masks.find? (fun m => m.slot == l.slot) with
    | none => true
    | some m =>
      let cell := 2 ^ m.cell
      let b := y.toNat / cell * ((l.width + cell - 1) / cell) + x.toNat / cell
      bit (nth 0 m.data (b / 8)).toNat (b % 8)

/-- A layer takes touches at the sample instant: it is visible, not shed and not stale-hidden. -/
def State.touchable (s : State) (slot : Nat) : Bool :=
  (s.liveGeom slot).visible && !s.isShed slot && !s.isStaleHidden slot

/-- The layer a new touch at a head position goes to (R372). -/
def State.routeTouch (s : State) (h : Nat) (x y : Int) : Option PlanLayer :=
  let inRect := fun (l : PlanLayer) =>
    let g := s.liveGeom l.slot
    decide (g.x ≤ x) && decide (x < g.x + l.width) && decide (g.y ≤ y) && decide (y < g.y + l.height)
  let l := s.layers.filter (fun l => l.head == h && s.get (0x8100 + l.slot) 1 == 1 && s.touchable l.slot && inRect l
    && s.maskHit l (x - (s.liveGeom l.slot).x) (y - (s.liveGeom l.slot).y))
  l.foldl (fun (b : Option PlanLayer) l => match b with
    | none => some l
    | some m => if l.z < m.z then some l else some m) none

/-- PICK of a record without a registration: STATUS 4. -/
def noPick : List Byte := [4, 0, 0, 0] ++ List.replicate 12 0

/-- A record of a captured touch in its layer's coordinates (R372, R374), which waits for its pick where the layer has
a registration (R257). -/
def State.touchRecord (s : State) (k kind : Nat) (p : TouchPt) : State :=
  match p.layer with
  | none => s
  | some slot =>
    let g := s.liveGeom slot
    let x := p.x - g.x
    let y := p.y - g.y
    let r : TouchRec := { part := p.owner, time := s.now, kind := kind, id := p.id, head := s.portHead k, port := k,
                          layer := slot, x := x * 256, y := y * 256, z := p.peak.toNat, area := p.area,
                          frame := s.get (tpIdx k + 1) 4, pick := noPick }
    match s.touch.regs.find? (fun e => e.1 == slot) with
    | none => s.addRec r
    | some e =>
      let job : PickJob := { record := r, slot := slot, u := x, v := y, bvh := e.2,
                             inv := (s.getLive (okey 0 (0x7200 + slot) 2)).data, flags := s.get (0x7200 + slot) 3,
                             w := (s.layer slot).elim 1 (fun l => l.width), h := (s.layer slot).elim 1 (fun l => l.height) }
      { s with touch := { s.touch with picks := s.touch.picks ++ [job] } }

/-- A record of a key of a head at its rectangle's origin, in head coordinates. -/
def State.keyRecord (s : State) (kind : Nat) (key : PlanKey) (z : Nat) : State :=
  s.addRec { part := key.owner, time := s.now, kind := kind, id := key.key, head := key.head, port := key.port,
             layer := 0xFFFF, x := key.x * 256, y := key.y * 256, z := z, area := 0,
             frame := s.get (tpIdx key.port + 1) 4, pick := [] }

/-- Every touch of a port cancelled (R379). -/
def State.cancelTouches (s : State) (k : Nat) : State :=
  let r := s.touchPort k
  let s := foldS (fun s p => s.touchRecord k 4 p) s r.touches
  (s.putTouchPort { r with touches := [], cands := [] }).put (tpIdx k + 1) 5 0

/-- Touches whose layer no longer takes them are cancelled to their former owner and end unreported (R379). -/
def State.dropLostTouches (s : State) : State :=
  foldS (fun s (r : PortRun) =>
    let gone := fun (p : TouchPt) => p.layer.elim false (fun n =>
      !(s.touchable n && (s.layer n).elim false (fun l => l.owner == p.owner && l.head == s.portHead r.port)))
    let s := foldS (fun s p => if gone p then s.touchRecord r.port 4 p else s) s r.touches
    s.putTouchPort { r with touches := r.touches.map (fun p => if gone p then { p with layer := none } else p) }) s
    s.touch.ports

/-! ## Keys (R375 to R377) -/

def State.keyRun (s : State) (h k : Nat) : KeyRun :=
  (s.touch.keys.find? (fun r => r.head == h && r.key == k)).getD ⟨h, k, 0, false, false, false⟩

def State.putKey (s : State) (r : KeyRun) : State :=
  { s with touch := { s.touch with keys := r :: s.touch.keys.filter (fun x => !(x.head == r.head && x.key == r.key)) } }

/-- A bit of KeyState: 1 DOWN, 2 DISABLED, 3 UNAVAILABLE. -/
def State.keyBit (s : State) (h k m : Nat) : Bool := bit (s.get (0x8043 + h * 4) m) k

def State.putKeyBit (s : State) (h k m : Nat) (on : Bool) : State :=
  s.put (0x8043 + h * 4) m (setBit (s.get (0x8043 + h * 4) m) k on)

/-- A key that is down is cancelled. -/
def State.cancelKey (s : State) (key : PlanKey) : State :=
  if s.keyBit key.head key.key 1 then
    ((s.putKeyBit key.head key.key 1 false).keyRecord 8 key 0).bump (tpIdx key.port + 2) 6
  else s

/-- A key is disabled (R376). -/
def State.keyDisabled (s : State) (h k : Nat) : Bool := (s.keyRun h k).region || (s.keyRun h k).fault

/-- The causes that disable a key changed: a key that becomes disabled is cancelled and must be seen up before it can
go down again. -/
def State.setKeyCauses (s : State) (key : PlanKey) (region fault : Bool) : State :=
  let was := s.keyDisabled key.head key.key
  let s := if (region || fault) && !was then s.cancelKey key else s
  let r := s.keyRun key.head key.key
  let s := s.putKey { r with region := region, fault := fault, count := if was then r.count else 0,
                             mustUp := r.mustUp || (region || fault) }
  s.putKeyBit key.head key.key 2 (region || fault)

/-- Fault causes of the keys of a port found again (R376): a key on a faulty electrode or on an unusable port. A class
A key that becomes unavailable raises an Error event. -/
def State.faultKey (s : State) (key : PlanKey) (fault : Bool) : State :=
  let was := (s.keyRun key.head key.key).fault
  let s := s.setKeyCauses key (s.keyRun key.head key.key).region fault
  if bit key.flags 0 then
    let s := s.putKeyBit key.head key.key 3 fault
    if fault && !was then s.raise 0x8001 key.port 3 sevError key.owner [byteOf key.head, byteOf key.key] else s
  else s

/-- The nodes of a key (R375): those whose centres lie inside its rectangle, else the one nearest the rectangle's
centre. -/
def State.keyNodes (s : State) (k : Nat) (key : PlanKey) : List (Nat × Nat) :=
  let (tx, rx) := gangDims (s.get (tpIdx k) 2)
  let nodes := (List.range (tx * rx)).map (fun n => (n / rx, n % rx))
  let pos := fun (n : Nat × Nat) => s.headPos k (256 * n.2) (256 * n.1)
  let inside := nodes.filter (fun n =>
    let p := pos n
    decide ((key.x : Int) ≤ p.1) && decide (p.1 < key.x + key.w) && decide ((key.y : Int) ≤ p.2)
      && decide (p.2 < key.y + key.h))
  if !inside.isEmpty then inside
  else
    let dist := fun (n : Nat × Nat) =>
      let p := pos n
      (2 * p.1 - (2 * key.x + key.w)) ^ 2 + (2 * p.2 - (2 * key.y + key.h)) ^ 2
    match nodes with
    | [] => []
    | x :: l => [l.foldl (fun b n => if dist n < dist b then n else b) x]

/-- Keys of the plan that a port reads. -/
def State.portKeys (s : State) (k : Nat) : List PlanKey :=
  s.planKeys.filter (fun key => key.port == k && key.head == s.portHead k)

/-- The keys of a port disabled for faulty electrodes or an unusable port, or enabled again. -/
def State.syncFaultKeys (s : State) (k : Nat) : State :=
  let r := s.touchPort k
  foldS (fun s key => s.faultKey key (s.gangLost k
    || (s.keyNodes k key).any (fun n => r.badTx.contains n.1 || r.badRx.contains n.2))) s (s.portKeys k)

/-- One frame of a key (R375, R377): it goes down or up after DEBOUNCE frames, and a REFLEX key going down starts its
effect. -/
def State.sampleKey (s : State) (k : Nat) (g : Grid) (key : PlanKey) : State :=
  let h := key.head
  let j := key.key
  let r := s.keyRun h j
  let sig := (s.keyNodes k key).foldl (fun (m : Option Int) n =>
    let d := g.at n.1 n.2
    some (m.elim d (fun x => max x d))) none
  let sig := sig.getD 0
  let thr : Int := s.get (0x8040 + h * 4) (j + 1)
  let hys : Int := s.get (0x8041 + h * 4) (j + 1)
  let deb := s.get (0x8042 + h * 4) (j + 1)
  let dis := s.keyDisabled h j
  if s.keyBit h j 1 || r.mustUp then
    if dis then s.putKey { r with count := 0 }
    else if sig < thr - hys then
      if deb ≤ r.count + 1 then
        let s := s.putKey { r with count := 0, mustUp := false }
        if s.keyBit h j 1 then (s.putKeyBit h j 1 false).keyRecord 7 key sig.toNat else s
      else s.putKey { r with count := r.count + 1 }
    else s.putKey { r with count := 0 }
  else if dis then s.putKey { r with count := 0 }
  else if thr ≤ sig then
    if deb ≤ r.count + 1 then
      let s := (s.putKey { r with count := 0 }).putKeyBit h j 1 true
      let s := s.keyRecord 6 key sig.toNat
      let chan := s.get (tpIdx k) 0x13
      if bit key.flags 1 ∧ chan ≠ 0xFF then (s.startEffect chan 8 key.effect).1 else s
    else s.putKey { r with count := r.count + 1 }
  else s.putKey { r with count := 0 }

/-- Every key of a port cancelled (R379). -/
def State.cancelKeys (s : State) (k : Nat) : State :=
  foldS (fun s key => (s.cancelKey key).putKey { (s.cancelKey key).keyRun key.head key.key with count := 0 }) s (s.portKeys k)

/-! ## One frame (R369 to R371) -/

/-- A peak of this frame: its node, position and delta. -/
structure Peak where
  node : Nat × Nat
  u : Int
  v : Int
  d : Int

def dist2 (u v u' v' : Int) : Int := (u - u') ^ 2 + (v - v') ^ 2

/-- The nearest pair of a touch and a peak within a radius, the lower touch ID winning ties. -/
def nearestPair (radius : Int) (ts : List TouchPt) (ps : List Peak) : Option (TouchPt × Peak) :=
  let pairs := ts.flatMap (fun t => ps.map (fun p => (t, p)))
  let d := fun (x : TouchPt × Peak) => dist2 x.1.u x.1.v x.2.u x.2.v
  (pairs.filter (fun x => decide (d x ≤ radius * radius))).foldl (fun (b : Option (TouchPt × Peak)) x =>
    match b with
    | none => some x
    | some y => if d x < d y ∨ (d x = d y ∧ x.1.id < y.1.id) then some x else some y) none

/-- Touches and peaks matched, nearest first (R371): the matched pairs, the touches and the peaks left over. -/
def matchPeaks (radius : Int) : Nat → List TouchPt → List Peak → List (TouchPt × Peak) × List TouchPt × List Peak
  | 0, ts, ps => ([], ts, ps)
  | n + 1, ts, ps =>
    match nearestPair radius ts ps with
    | none => ([], ts, ps)
    | some (t, p) =>
      let (m, ts', ps') := matchPeaks radius n (ts.filter (fun x => x.id != t.id)) (ps.filter (fun x => x.node != p.node))
      ((t, p) :: m, ts', ps')

/-- A point lies in an enabled key of the head (R372). -/
def State.inKey (s : State) (h : Nat) (x y : Int) : Bool :=
  s.planKeys.any (fun k => k.head == h && !s.keyDisabled h k.key && decide ((k.x : Int) ≤ x) && decide (x < k.x + k.w)
    && decide ((k.y : Int) ≤ y) && decide (y < k.y + k.h))

/-- A new touch: it takes the lowest free ID and is routed. -/
def State.touchDown (s : State) (k id : Nat) (p : Peak) (area : Nat) : State :=
  let (x, y) := s.headPos k p.u p.v
  let h := s.portHead k
  let key := s.inKey h x y
  let l := if key then none else s.routeTouch h x y
  let pt : TouchPt := { id := id, u := p.u, v := p.v, x := x, y := y, peak := p.d, area := area,
                        layer := l.map (fun l => l.slot), owner := l.elim 0 (fun l => l.owner), lastX := x, lastY := y }
  let r := s.touchPort k
  let s := s.putTouchPort { r with touches := r.touches ++ [pt] }
  match l with
  | some l => (s.bump (0x8100 + l.slot) 5).touchRecord k 1 pt
  | none => if key then s else s.bump (tpIdx k + 2) 5

/-- A candidate that no touch has matched (R371): it becomes a touch after two frames if an ID is free, else it is
counted once as dropped. -/
def State.newCandidate (s : State) (k : Nat) (g : Grid) (thr radius : Int) (old : List TouchCand) (p : Peak) : State :=
  let points := gangPoints (s.get (tpIdx k) 2)
  let r := s.touchPort k
  let prev := old.find? (fun c => decide (dist2 c.u c.v p.u p.v ≤ radius * radius))
  let seen := prev.elim 0 (fun c => c.seen)
  let counted := prev.elim false (fun c => c.counted)
  match (List.range points).find? (fun i => !r.touches.any (fun t => t.id == i)) with
  | some id =>
    if 1 ≤ seen then s.touchDown k id p (g.area thr p.node)
    else s.putTouchPort { r with cands := r.cands ++ [⟨p.u, p.v, 1, false⟩] }
  | none =>
    let s := s.putTouchPort { r with cands := r.cands ++ [⟨p.u, p.v, 0, true⟩] }
    if counted then s else s.bump (tpIdx k + 2) 2

/-- A touch that goes on: its position and peak, and a move record when it has moved. -/
def State.touchMove (s : State) (k : Nat) (g : Grid) (thr : Int) (t : TouchPt) (p : Peak) : State :=
  let (x, y) := s.headPos k p.u p.v
  let moved := decide (x ≠ t.lastX ∨ y ≠ t.lastY)
  let t' := { t with u := p.u, v := p.v, x := x, y := y, peak := p.d, area := g.area thr p.node,
                     lastX := if moved then x else t.lastX, lastY := if moved then y else t.lastY }
  let r := s.touchPort k
  let s := s.putTouchPort { r with touches := r.touches.map (fun q => if q.id = t.id then t' else q) }
  if moved then s.touchRecord k 2 t' else s

/-- A touch that ends. -/
def State.touchUp (s : State) (k : Nat) (t : TouchPt) : State :=
  let r := s.touchPort k
  (s.putTouchPort { r with touches := r.touches.filter (fun q => q.id != t.id) }).touchRecord k 3 t

/-- The peaks of at least a threshold with their positions. -/
def State.peaks (s : State) (g : Grid) (thr : Int) : State × List Peak :=
  (g.maxima thr).foldl (fun (a : State × List Peak) n =>
    let (s, u, v) := a.1.peakUv g n
    (s, a.2 ++ [⟨n, u, v, g.at n.1 n.2⟩])) (s, [])

/-- The touches of a frame (R371). A touch that lasts may fall below the threshold by TOUCH_HYSTERESIS. -/
def State.sampleTouches (s : State) (k : Nat) (g : Grid) (thr : Int) : State :=
  let radius : Int := 256 * s.get (tpIdx k) 0x15
  let (s, ps) := s.peaks g (max 1 (thr - s.get (tpIdx k) 0xB))
  let r := s.touchPort k
  let (m, ended, rest) := matchPeaks radius (r.touches.length) r.touches ps
  let s := foldS (fun s t => s.touchUp k t) s ended
  let s := foldS (fun s (x : TouchPt × Peak) => s.touchMove k g thr x.1 x.2) s m
  let old := (s.touchPort k).cands
  let s := s.putTouchPort { s.touchPort k with cands := [] }
  foldS (fun s p => s.newCandidate k g thr radius old p) s (rest.filter (fun p => decide (thr ≤ p.d)))

/-- Glove detection in auto mode (R368): three frames with a candidate between the thresholds enter glove mode. -/
def State.sampleGlove (s : State) (k : Nat) (g : Grid) : State :=
  let lo : Int := s.get (tpIdx k) 9
  let hi : Int := s.get (tpIdx k) 8
  let hit := (g.maxima lo).any (fun n => decide (g.at n.1 n.2 < hi) && decide (4 ≤ g.area lo n))
  let r := s.touchPort k
  if s.get (tpIdx k) 4 ≠ 0 then s
  else if !hit then s.putTouchPort { r with gloves := 0 }
  else
    let r := { r with gloves := r.gloves + 1, gloveAt := s.now }
    if 3 ≤ r.gloves ∧ r.nextMode = 1 then
      ((s.putTouchPort { r with nextMode := 2 }).bump (tpIdx k + 2) 3).setFlag (okey 0 0x8001 0) 0
    else s.putTouchPort r

/-- The nodes of the touches that go on, also those whose peak has fallen below the threshold by less than TOUCH_HYSTERESIS (R371). -/
def State.touchNodes (s : State) (k : Nat) (g : Grid) (thr : Int) : List (Nat × Nat) :=
  (g.maxima (max 1 (thr - s.get (tpIdx k) 0xB))).filter (fun n => (s.touchPort k).touches.any (fun t =>
    decide (t.peak = g.at n.1 n.2) && decide ((t.u - 256 * n.2).natAbs ≤ 256) && decide ((t.v - 256 * n.1).natAbs ≤ 256)))

/-- Baseline tracking (R369): nodes more than two nodes from every candidate follow their raw count. -/
def State.trackBaseline (s : State) (k : Nat) (g : Grid) (raw : List Int) (thr : Int) : State :=
  let r := s.touchPort k
  let c := g.maxima thr ++ s.touchNodes k g thr
  let shift : Int := 2 ^ s.get (tpIdx k) 0xC
  let near := fun (n : Nat) => c.any (fun x =>
    decide (n / g.rx ≤ x.1 + 2) && decide (x.1 ≤ n / g.rx + 2) && decide (n % g.rx ≤ x.2 + 2) && decide (x.2 ≤ n % g.rx + 2))
  let b := r.baseline.zipIdx.map (fun (y : Int × Nat) =>
    if near y.2 then y.1 else y.1 + Int.ediv (nth 0 raw y.2 - y.1) shift)
  s.putTouchPort { r with baseline := b }

/-- A frame while the baseline is taken (R369): the mean of eight frames, rounded toward zero. -/
def State.takeBaseline (s : State) (k : Nat) (raw : List Int) : State :=
  let r := s.touchPort k
  let sums := if r.taken = 0 then raw else List.zipWith (· + ·) r.sums raw
  if 7 ≤ r.taken then
    (s.putTouchPort { r with baseline := sums.map (fun x => Int.tdiv x 8), taken := 0, sums := [],
                             neg := [] }).put (tpIdx k + 1) 1 3
  else s.putTouchPort { r with taken := r.taken + 1, sums := sums }

/-- The port takes its baseline again (R369). -/
def State.retakeBaseline (s : State) (k : Nat) : State :=
  let s := (s.cancelTouches k).cancelKeys k
  let s := (s.putTouchPort { s.touchPort k with taken := 0, sums := [], neg := [] }).put (tpIdx k + 1) 1 2
  (s.bump (tpIdx k + 2) 1).raise 0x8001 k 1 sevNotice 0 [byteOf k]

/-- The position of the largest of a list, the first of equals. -/
def argMax (l : List Int) : Nat × Int :=
  l.zipIdx.foldl (fun (b : Nat × Int) x => if b.2 < x.1 then (x.2, x.1) else b) (0, (l.head?).getD 0)

/-- The hover point (R371): with no touch present, the peak of the self-phase profiles where both reach
HOVER_THRESHOLD. -/
def State.sampleHover (s : State) (k : Nat) (selfTx selfRx : List Int) : State :=
  let thr : Int := s.get (tpIdx k) 0xA
  let (r, dr) := argMax selfTx
  let (c, dc) := argMax selfRx
  if !(s.touchPort k).touches.isEmpty ∨ dr < thr ∨ dc < thr then s
  else
    let off := fun (l : List Int) (n : Nat) => if n = 0 then 0 else nth 0 l (n - 1)
    let (s, u) := s.peakCoord c (off selfRx c) dc (nth 0 selfRx (c + 1))
    let (s, v) := s.peakCoord r (off selfTx r) dr (nth 0 selfTx (r + 1))
    let (x, y) := s.headPos k u v
    s.addRec { part := 0, time := s.now, kind := 5, id := 0, head := s.portHead k, port := k, layer := 0xFFFF,
               x := x * 256, y := y * 256, z := (max dr dc).toNat, area := 0, frame := s.get (tpIdx k + 1) 4, pick := [] }

/-- A frame of deltas processed: points, keys, mode and baseline. -/
def State.sampleFrame (s : State) (k mode : Nat) (g : Grid) (raw selfTx selfRx : List Int) : State :=
  let thr := s.touchThreshold k mode
  let s := s.dropLostTouches
  let s := s.sampleTouches k g thr
  let s := if mode = 3 then s.sampleHover k selfTx selfRx else s
  let s := foldS (fun s key => s.sampleKey k g key) s (s.portKeys k)
  let s := (s.sampleGlove k g).trackBaseline k g raw thr
  s.put (tpIdx k + 1) 5 (s.touchPort k).touches.length

/-- TOUCH_SAMPLE: a frame of a port, or of the gang it leads, reaches its sample instant. `q` are the samples of its
mutual phase (R367), `selfTx` and `selfRx` the profiles of its self phase. -/
def execTouchSample (t port : Nat) (q selfTx selfRx : List Int) (s : State) : Host.Outcome State Fault Refusal :=
  clocked t 6 s fun s =>
    let k := port
    let st := s.portState k
    if s.cfg.touchPorts ≤ k ∨ s.get (tpIdx k) 1 = 0 ∨ !s.pdOn 16 ∨ s.gangLost k ∨ (st ≠ 2 ∧ st ≠ 3) then s
    else
      let s := s.wrap32 (tpIdx k + 1) 4
      let mode := s.get (tpIdx k + 1) 2
      let (tx, rx) := gangDims (s.get (tpIdx k) 2)
      let raw := (rawCounts tx rx q).map (modeScale mode)
      let r := s.touchPort k
      let s :=
        if st = 2 then s.takeBaseline k raw
        else
          let bad := fun (n : Nat) => r.badTx.contains (n / rx) || r.badRx.contains (n % rx)
          let d := (List.zipWith (fun b x => b - x) r.baseline raw).zipIdx.map (fun (y : Int × Nat) =>
            if bad y.2 then 0 else y.1)
          let low : Int := -(s.get (tpIdx k) 0xD : Int)
          let neg := d.zipIdx.map (fun (y : Int × Nat) => if y.1 < low then nth 0 r.neg y.2 + 1 else 0)
          let s := s.putTouchPort { r with neg := neg }
          let s := s.putBlk (okey 0 (tpIdx k + 4) 0) ((d.map (fun x => leBytes 2 (x % 65536).toNat)).flatten)
          if neg.any (fun n => decide (8 ≤ n)) then s.retakeBaseline k
          else s.sampleFrame k mode ⟨tx, rx, d⟩ raw selfTx selfRx
      let next := (s.touchPort k).nextMode
      if next = mode then s
      else ((s.put (tpIdx k + 1) 2 next).put (tpIdx k + 1) 3 (s.effectiveHz k next)).setLines k (if next = 1 then 1 else 2)

/-- GLOVE_EXIT (R368): no glove candidate has been seen for GLOVE_EXIT_MS. -/
def execGloveExit (t port : Nat) (s : State) : Host.Outcome State Fault Refusal :=
  edged t s fun s =>
    let r := s.touchPort port
    if s.get (tpIdx port) 4 = 0 ∧ r.nextMode = 2 ∧ r.gloveAt + s.get (tpIdx port) 0x14 * 1000000 ≤ s.now then
      s.putTouchPort { r with nextMode := 1, gloves := 0 }
    else s

/-! ## Self-test (R378) -/

/-- A self-test begins: points and keys are cancelled for its duration. -/
def State.startSelftest (s : State) (k : Nat) : State :=
  (((s.cancelTouches k).cancelKeys k).put (tpIdx k + 1) 1 1).setLines k (max 1 (s.touchPort k).lines)

/-- A list of counts, sorted. -/
def insertInt (x : Int) : List Int → List Int
  | [] => [x]
  | y :: l => if x ≤ y then x :: y :: l else y :: insertInt x l

def sortInts : List Int → List Int
  | [] => []
  | x :: l => insertInt x (sortInts l)

/-- A median; of an even number of counts the greater of the two in the middle (DESIGN CHOICE, log entry 110). -/
def medianOf (l : List Int) : Int := nth 0 (sortInts l) (l.length / 2)

/-- The greatest of some counts. -/
def maxInt : List Int → Int
  | [] => 0
  | x :: l => l.foldl max x

/-- `a` as a percentage of `b`, saturating; where `b` is not above zero the manual states none: a free value. -/
def pctOf (free : Nat) (a b : Int) : Nat := if b ≤ 0 then free else min 65535 (Int.tdiv (100 * a) b).toNat

/-- Two counts lie within 1 % of each other. -/
def nearPct (a b : Int) : Bool := decide (100 * (a - b).natAbs ≤ max a.natAbs b.natAbs)

/-- The faults that a self-test finds in what it measures (R378): KIND, AXIS, ELECTRODE, PARTNER and percentage, kind by kind in
rising order of their electrodes. The self-phase converter's limits are those of a 16-bit count (DESIGN CHOICE, log entry 110). -/
def State.selfFaults (s : State) (k : Nat) (m : SelfMeas) : List (Nat × Nat × Nat × Nat × Nat) :=
  let (tx, rx) := gangDims (s.get (tpIdx k) 2)
  let free := s.freeW.toNat % 65536
  let openPct : Int := s.get (tpIdx k) 0x16 % 256
  let leakPct : Int := s.get (tpIdx k) 0x16 / 256
  let limit := openPct * medianOf (m.raw.take (tx * rx))
  let row := fun (i : Nat) => (List.range rx).map (fun c => nth 0 m.raw (i * rx + c))
  let col := fun (c : Nat) => (List.range tx).map (fun i => nth 0 m.raw (i * rx + c))
  let isOpen := fun (l : List Int) => l.all (fun x => decide (100 * x < limit))
  let opened := fun (kind axis n : Nat) (line : Nat → List Int) =>
    ((List.range n).filter (fun e => isOpen (line e))).map (fun e => ((kind, axis, e, 0xFFFF, pctOf free (100 * maxInt (line e)) limit) : Nat × Nat × Nat × Nat × Nat))
  let at_ := fun (i j : Nat) => nth 0 m.driven (i * tx + j)
  let shorts := ((List.range tx).map (fun i =>
    ((List.range tx).filter (fun j => j != i && decide (leakPct * at_ i i < 100 * at_ i j))).map (fun j =>
      ((3, 0, i, j, pctOf free (100 * at_ i j) (leakPct * at_ i i)) : Nat × Nat × Nat × Nat × Nat)))).flatten
  let rail := fun (kind axis : Nat) (l : List Int) (hit : Int → Bool) =>
    ((List.range l.length).filter (fun e => hit (nth 0 l e))).map (fun e => ((kind, axis, e, 0xFFFF, 100) : Nat × Nat × Nat × Nat × Nat))
  let ground := fun (x : Int) => decide (x ≤ -32768)
  let supply := fun (x : Int) => decide (32767 ≤ x)
  let selfTx := (List.range tx).map (nth 0 m.selfTx)
  let selfRx := (List.range rx).map (nth 0 m.selfRx)
  let twins := ((List.range (rx - 1)).filter (fun c => nearPct (nth 0 selfRx c) (nth 0 selfRx (c + 1))
      && (List.zipWith nearPct (col c) (col (c + 1))).all id)).map (fun c =>
    let (a, b) := (nth 0 selfRx c, nth 0 selfRx (c + 1))
    ((6, 1, c, c + 1, pctOf free (100 * (a - b).natAbs) (max a.natAbs b.natAbs)) : Nat × Nat × Nat × Nat × Nat))
  opened 1 1 rx col ++ opened 2 0 tx row ++ shorts ++ rail 4 0 selfTx ground ++ rail 4 1 selfRx ground
    ++ rail 5 0 selfTx supply ++ rail 5 1 selfRx supply ++ twins

/-- The refusal of SELFTEST_RUN while a test runs. -/
def State.selftestRefusal (s : State) (k : Nat) : Option Nat := if s.portState k = 1 then some codeSelftestBusy else none

/-- SELFTEST_RUN written. -/
def State.selftestWritten (s : State) (k v : Nat) : State := if v = 1 ∧ s.pdOn 16 then s.startSelftest k else s

/-- SELFTEST_RUN. -/
def execSelftestRun (t : Nat) (ini : Ini) (port : Nat) (v : Word) (s : State) : Host.Outcome State Fault Refusal :=
  at_ t s fun s => s.when (port < 4) fun s => s.writeAt ini (tpIdx port + 3) 1 v (fun s _ => s.selftestRefusal port) (fun s v => s.selftestWritten port v)

/-- SELFTEST_DONE: the test of a port ends with the faults it finds in what it has measured. -/
def execSelftestDone (t port : Nat) (m : SelfMeas) (s : State) : Host.Outcome State Fault Refusal :=
  edged t s fun s =>
    if s.portState port ≠ 1 then s
    else
      let faults := s.selfFaults port m
      let s := s.useFree
      let word := fun (f : Nat × Nat × Nat × Nat × Nat) =>
        f.1 % 256 + f.2.1 % 2 * 256 + f.2.2.1 % 65536 * 2 ^ 16 + f.2.2.2.1 % 65536 * 2 ^ 32 + min f.2.2.2.2 65535 * 2 ^ 48
      let s := foldS (fun s j => s.put (tpIdx port + 3) (3 + j) ((faults[j]?).elim 0 word)) s (List.range 32)
      let s := (s.put (tpIdx port + 3) 2 (min 32 faults.length)).bumpN (tpIdx port + 2) 4 faults.length
      let bad := fun (a : Nat) => ((faults.filter (fun f => f.2.1 % 2 == a)).map (fun f => f.2.2.1)).eraseDups
      let n := (bad 0).length + (bad 1).length
      let s := s.putTouchPort { s.touchPort port with badTx := bad 0, badRx := bad 1, taken := 0, sums := [], neg := [] }
      let s := (s.put (tpIdx port + 1) 6 n).put (tpIdx port + 1) 1
        (if s.gangLost port then 5 else if 8 < n then 4 else if s.get (tpIdx port) 1 = 1 then 2 else 0)
      let s := if faults.isEmpty then s else s.setFlag (okey 0 0x8001 0) 2
      let s := if s.get (tpIdx port) 1 = 1 then s else s.setLines port 0
      s.syncFaultKeys port

/-! ## Hit masks (R373) -/

/-- Bits of a mask of a layer, in bytes. -/
def maskBytes (l : PlanLayer) (log2 : Nat) : Nat :=
  let cell := 2 ^ log2
  (((l.width + cell - 1) / cell) * ((l.height + cell - 1) / cell) + 7) / 8

/-- What a write of HIT_MASK is refused with. -/
def State.maskRefusal (s : State) (slot : Nat) (data : List Byte) : Option Nat :=
  let others := (s.touch.masks ++ s.touch.newMasks).filter (fun m => m.slot != slot)
  let total := sumBy (fun m : HitMask => m.data.length) others + data.length
  if data.isEmpty then none
  else if (s.layer slot).elim true (fun l => maskBytes l (s.get (0x8100 + slot) 2) != data.length) then some codeMaskInvalid
  else if (if s.cfg.compact then 16 else 32) * mib < total then some codeMaskStoreFull
  else none

/-- What a completed write of HIT_MASK does: the mask takes effect at the next epoch. -/
def State.maskWritten (s : State) (slot : Nat) (data : List Byte) : State :=
  let m : HitMask := ⟨slot, s.get (0x8100 + slot) 2, data⟩
  { s with touch := { s.touch with newMasks := m :: s.touch.newMasks.filter (fun x => x.slot != slot) } }

/-- MASK_INVALID is flagged too. -/
def State.maskAnswered (s : State) (c : Nat) : State := if c = codeMaskInvalid then s.setFlag (okey 0 0x8001 0) 5 else s

/-- HIT_MASK: a completed write of a layer's hit mask. -/
def execHitMask (t : Nat) (ini : Ini) (slot : Nat) (data : List Byte) (s : State) : Host.Outcome State Fault Refusal :=
  at_ t s fun s => s.when (slot < 512) fun s =>
    let a := s.writeBlock ini (0x8100 + slot) 3 data (fun s d => s.maskRefusal slot d) (fun s d => s.maskWritten slot d)
    a.1.maskAnswered a.2

/-- The masks written since the last epoch take effect (R373). -/
def State.applyMasks (s : State) : State :=
  foldS (fun s (m : HitMask) =>
    let rest := s.touch.masks.filter (fun x => x.slot != m.slot)
    if m.data.isEmpty then { s with touch := { s.touch with masks := rest } }.put (0x8100 + m.slot) 4 0
    else { s with touch := { s.touch with masks := m :: rest } }.put (0x8100 + m.slot) 4
      (if m.cell = s.get (0x8100 + m.slot) 2 then 1 else 2))
    { s with touch := { s.touch with newMasks := [] } } s.touch.newMasks.reverse

/-- A commit of a layer group may leave a mask that does not match MASK_CELL_LOG2 (R373). -/
def State.checkMasks (s : State) : State :=
  foldS (fun s (m : HitMask) => if m.cell = s.get (0x8100 + m.slot) 2 then s else s.put (0x8100 + m.slot) 4 2) s s.touch.masks

/-! ## Commit, swap, loss and reset -/

/-- What a commit of CG_TOUCH does, `old` being the state before it: a port switched on runs its self-test, one
switched off cancels and stops, and MODE chooses the mode of the next frame. -/
def State.touchCommit (s old : State) : State :=
  foldS (fun s k =>
    let on := s.get (tpIdx k) 1 == 1
    let was := old.get (tpIdx k) 1 == 1
    let s := if on && !was then (if s.gangLost k then s.put (tpIdx k + 1) 1 5 else s.startSelftest k)
             else if !on && was then (((s.cancelTouches k).cancelKeys k).put (tpIdx k + 1) 1 0).setLines k 0 else s
    let mode := s.get (tpIdx k) 4
    let r := s.touchPort k
    let s := if mode = 0 then (if old.get (tpIdx k) 4 = 0 then s else s.putTouchPort { r with nextMode := 1, gloves := 0 })
             else s.putTouchPort { r with nextMode := mode }
    if on then s.put (tpIdx k + 1) 3 (s.effectiveHz k (s.get (tpIdx k + 1) 2)) else s) s (List.range s.cfg.touchPorts)

/-- Every touch and key cancelled at a plan swap (R379); called before the new plan applies. -/
def State.touchSwapCancel (s : State) : State :=
  foldS (fun s k => (s.cancelTouches k).cancelKeys k) s (List.range s.cfg.touchPorts)

/-- The new key map applies at a plan swap (R109, R379): key states start up with the plan's settings. -/
def State.touchSwapStart (s : State) : State :=
  let s := { s with touch := { s.touch with keys := [],
                                            masks := s.touch.masks.filter (fun m => s.layers.any (fun l => l.slot == m.slot)) } }
  let heads := List.range (if s.cfg.compact then 8 else 16)
  let s := foldS (fun s h => foldS (fun s m => s.put (0x8043 + h * 4) m 0) s [1, 2, 3]) s heads
  let s := foldS (fun s h => foldS (fun s j =>
    let k := s.planKeys.find? (fun k => k.head == h && k.key == j)
    let put := fun (s : State) (b v : Nat) => s.putBoth (okey 0 (0x8040 + b + h * 4) (j + 1)) (w64 v)
    put (put (put s 0 (k.elim 0 (fun k => k.threshold))) 1 (k.elim 0 (fun k => k.hysteresis))) 2
      (k.elim 0 (fun k => k.debounce))) s (List.range 64)) s heads
  foldS (fun s k => s.syncFaultKeys k) s (List.range s.cfg.touchPorts)

/-- A touch port lost under R27. -/
def State.touchLost (s : State) (p : Nat) : State :=
  let leads := (List.range s.cfg.touchPorts).filter (fun k => (s.gangPorts k).contains p)
  foldS (fun s k => (((s.cancelTouches k).cancelKeys k).put (tpIdx k + 1) 1 5).syncFaultKeys k) s leads

/-- Reset of PD16: ports off with their pins in the reset state (R380), hit masks gone, counters zero. -/
def State.touchReset (s : State) : State :=
  let s := s.touchSwapCancel
  let s := foldS (fun s k => s.setLines k 0) s (List.range s.cfg.touchPorts)
  let s := { s with touch := { s.touch with ports := [], masks := [], newMasks := [] } }
  foldS (fun s k =>
    let s := foldS (fun s m => s.put (tpIdx k + 1) m 0) s [1, 3, 4, 5, 6]
    let s := s.put (tpIdx k + 1) 2 1
    let s := foldS (fun s m => s.put (tpIdx k + 2) m 0) s [1, 2, 3, 4, 5, 6]
    foldS (fun s j => s.put (tpIdx k + 3) j 0) s ((List.range 33).map (· + 2))) s (List.range s.cfg.touchPorts)

/-- PD16 works again after its reset: every enabled port runs its self-test. -/
def State.touchStart (s : State) : State :=
  foldS (fun s k => if s.get (tpIdx k) 1 = 1 then (if s.gangLost k then s.put (tpIdx k + 1) 1 5 else s.startSelftest k) else s)
    s (List.range s.cfg.touchPorts)

end Sys2Proof.Machine
end

