-- ==== Sys2Proof/Machine/Twin.lean ====
section
/-!
DEFINITION. Twin supervision (R354 to R358): heartbeats, the pin and witness channels, their evaluation, notices, and
the takeover and its end at a frame epoch.
-/
namespace Sys2Proof.Machine

def State.twin (s : State) : TwinRun := s.fabric.twin

def State.putTwin (s : State) (w : TwinRun) : State := { s with fabric := { s.fabric with twin := w } }

/-- PARTNER: 0 none, 1 alive, 2 link lost, 3 dead. -/
def State.partner (s : State) : Nat := s.get 0x7841 1

/-! ## What this device sends -/

/-- TWIN_HEARTBEAT_SEND: every 1 ms on every up port. -/
def execTwinHeartbeatSend (t : Nat) (s : State) : Host.Outcome State Fault Refusal :=
  planned t s fun s =>
    if s.fabric.topology ≠ 1 then s
    else
      let body := [byteOf s.selfNode, 0] ++ leBytes 2 s.health ++ leBytes 4 s.epoch ++ leBytes 4 s.planIdLow
      foldS (fun s k =>
        let n := s.get (chIdx k + 1) 4
        if n < 64 then s.sendMsgOn k n 3 0 0 (s.flowOf s.selfNode 0) body else s) s s.carryPorts

/-- The planner has been released and at least one of its cores is usable (R27, R299, R433). -/
def State.plannerUp (s : State) : Bool := s.sys.released && s.pdOn 2 && s.coresUp

/-- TWIN_ALIVE_OUT_TOGGLE: every 500 µs while the device runs a plan and a planner core is usable. -/
def execTwinAliveOutToggle (t : Nat) (s : State) : Host.Outcome State Fault Refusal :=
  at_ t s fun s =>
    if s.plan.active.isSome && s.plannerUp then
      let lv := !s.twin.aliveOut
      (s.putTwin { s.twin with aliveOut := lv }).emit (.pin .twinAliveOut (if lv then 1 else 0))
    else s

/-- A Twin notice (R357) of an onset or a lift: cause, head and region. The cause is the reaction's source: 0 a region,
1 a freshness monitor, 2 a link; bit 7 tells a lift (DEDUCED, log entry 23). -/
def State.sendNotice (s : State) (cause head region : Nat) (lift : Bool) : State :=
  if s.fabric.topology ≠ 1 then s
  else
    match (List.range 64).find? (fun n => s.nodeReach n) with
    | none => s
    | some n => s.sendMsg n 1 4 0 (cause % 128 + (if lift then 128 else 0) + head % 256 * 256 + region % 65536 * 65536)
        (s.flowOf s.selfNode 0) [0]

/-! ## What this device hears -/

/-- TWIN_HEARTBEAT_RX (R354, R356): the partner's heartbeat on a port. A partner whose link was lost is alive again at
once. Two devices that both took over see each other as not alive while both run (R358). -/
def execTwinHeartbeatRx (t port health plan : Nat) (s : State) : Host.Outcome State Fault Refusal :=
  at_ t s fun s =>
    if s.fabric.topology ≠ 1 ∨ !s.linkUp port then s
    else
      let s := s.putTwin { s.twin with hbAt := s.now }
      let s := (s.put 0x7841 5 (plan % 2 ^ 32)).put 0x7841 6 (health % 65536)
      let s := if s.partner = 2 then s.put 0x7841 1 1 else s
      if s.partner = 3 ∧ bit health 1 ∧ !bit health 4 ∧ s.get 0x7841 3 = 1 ∧ s.get 0x7840 1 ≠ 0
      then s.setFlag (okey 0 0x7842 0) 6 else s

/-- TWIN_ALIVE_IN_EDGE. -/
def execTwinAliveInEdge (t : Nat) (s : State) : Host.Outcome State Fault Refusal :=
  at_ t s fun s => (s.putTwin { s.twin with pinAt := s.now }).setPin 2 (!bit (s.get 0x9700 1) 2)

/-- The partner's broadcast key followed from the generation held to generation `gen` (R310, R354). -/
def followKey (node : Nat) : Nat → Nat → Nat → Nat
  | 0, _, k => k
  | n + 1, gen, k =>
    followKey node n ((gen + 1) % 256) (nextKey k (strBytes "TILSOL-BCAST") [byteOf node, byteOf ((gen + 1) % 256)])

/-- WITNESS_HEARTBEAT_RX: the partner's Tilsol heartbeat on the witness transport, which counts when its tag verifies under the
partner's broadcast key of the generation it names (R86, R88, R354). -/
def execWitnessHeartbeatRx (t transport : Nat) (f : TilFrame) (s : State) : Host.Outcome State Fault Refusal :=
  at_ t s fun s =>
    let f := { f with head := { f.head with via := transport } }
    let gen := numAt f.payload 20 1
    let key := followKey f.head.tag ((gen + 256 - s.twin.gen) % 256) s.twin.gen s.twin.key
    if s.heard f ∧ f.head.op = 0x8D ∧ f.head.client = 0 ∧ s.get 0x7840 1 ≠ 0 ∧ f.head.via + 1 = s.get 0x7840 1
        ∧ f.mac = tagOf key f.head.tag f.head f.len f.payload then
      (s.countRx f).putTwin { s.twin with witAt := s.now, key := key, gen := gen }
    else s

/-! ## Evaluation (R354, R355, R358) -/

/-- CHANNELS_LOST at this instant. -/
def State.channelsLost (s : State) : Bool × Bool × Bool :=
  let w := s.twin
  (decide (w.hbAt + s.get 0x7840 3 * 1000000 ≤ s.now), decide (w.pinAt + s.get 0x7840 4 * 1000000 ≤ s.now),
   s.get 0x7840 1 != 0 && decide (w.witAt + s.get 0x7840 2 * 1000000 ≤ s.now))

/-- The partner state that R355 gives for the lost channels: 1 alive, 2 link lost, 3 dead. -/
def partnerState (witness senior : Bool) (c p w : Bool) : Nat :=
  if witness then
    if (c && p) || (c && w) || (p && w) then 3 else if c then 2 else 1
  else if c && p then (if senior then 3 else 2)
  else if c then 2
  else 1

/-- TWIN_EVALUATION: every 1 ms. A dead partner stays dead until its takeover ends. -/
def execTwinEvaluation (t : Nat) (s : State) : Host.Outcome State Fault Refusal :=
  at_ t s fun s =>
    if s.fabric.topology ≠ 1 ∨ !s.twin.formed then s
    else
      let (c, p, w) := s.channelsLost
      let old := s.get 0x7841 2
      let s := s.put 0x7841 2 ((if c then 1 else 0) + (if p then 2 else 0) + (if w then 4 else 0))
      let witness := s.get 0x7840 1 ≠ 0
      let now_ := partnerState witness (s.get 0x7840 8 == 1) c p w
      let was := s.partner
      let s := if p ∧ !bit old 1 ∧ now_ = 1 then (s.bump 0x7843 4).raise 0x7842 0 3 sevWarning 0 [] else s
      let s := if w ∧ !bit old 2 ∧ now_ = 1 then (s.bump 0x7843 5).raise 0x7842 0 4 sevWarning 0 [] else s
      let s := if now_ = 2 ∧ was = 1 then ((s.put 0x7841 1 2).bump 0x7843 3).raise 0x7842 0 2 sevWarning 0 [] else s
      let s := if now_ = 1 ∧ was = 2 then s.put 0x7841 1 1 else s
      let s := if now_ = 3 ∧ was ≠ 3 then
          ((s.put 0x7841 1 3).put 0x7841 7 s.now).putTwin { s.twin with declared := some s.now, ending := false }
        else s
      let good := !c && !p && !w && bit (s.get 0x7841 6) 1
      let tw := s.twin
      let since := if good then some (tw.goodSince.getD s.now) else none
      let s := s.putTwin { tw with goodSince := since }
      if s.partner = 3 ∧ since.elim false (fun x => decide (x + s.get 0x7840 5 * 1000000 ≤ s.now)) then
        s.putTwin { s.twin with ending := true, declared := none }
      else s

/-- TWIN_NOTICE_RX (R357): the partner's notice of an onset or a lift over one of its heads. -/
def execTwinNoticeRx (t head : Nat) (lift : Bool) (s : State) : Host.Outcome State Fault Refusal :=
  at_ t s fun s =>
    if s.fabric.topology ≠ 1 then s
    else
      let s := (s.bump 0x7843 6).setFlag (okey 0 0x7842 0) 5
      let rest := s.twin.notices.filter (fun h => h != head)
      if lift then s.putTwin { s.twin with notices := rest }
      else if s.get 0x7840 6 = 1 then s.putTwin { s.twin with notices := rest ++ [head] }
      else s

/-! ## Takeover at an epoch (R108, R357, R358) -/

/-- The failover layout a local head takes: the lowest-numbered entry that passes the test, with its fallback directory
where the partner's last verified plan is another one. The answer is twice the layout number, plus one for the fallback. -/
def State.failoverFor (s : State) (p : Plan) (h : Nat) (ok : PlanFailover → Bool) : Nat :=
  let l := (p.failovers.filter (fun f => f.localHead == h && ok f)).foldl (fun (b : Option PlanFailover) f =>
    match b with
    | none => some f
    | some g => if f.layout < g.layout then some f else some g) none
  l.elim 0 (fun f => 2 * f.layout + (if s.get 0x7841 5 = f.partnerPlan % 2 ^ 32 then 0 else 1))

/-- The layouts of all heads for a takeover state: 1 full, 2 of the partner heads under a notice, 0 none. -/
def State.layoutsFor (s : State) (p : Plan) (mode : Nat) : List (Nat × Nat) :=
  (p.heads.map (fun h => (h.head, if mode = 1 then s.failoverFor p h.head (fun _ => true)
    else if mode = 2 then s.failoverFor p h.head (fun f => s.twin.notices.contains f.partnerHead) else 0))).filter
    (fun x => x.2 != 0)

/-- The layouts put in force, with LAYOUTS_ACTIVE and TAKEOVER; a head whose layout changes is composed anew. -/
def State.setLayouts (s : State) (mode : Nat) (l : List (Nat × Nat)) : State :=
  let old : List (Nat × Nat) := s.plan.layouts
  let changed := fun (h : Nat) => (old.find? (fun (x : Nat × Nat) => x.1 == h)).map (fun x => x.2) != (l.find? (fun (x : Nat × Nat) => x.1 == h)).map (fun x => x.2)
  let s := { s with plan := { s.plan with layouts := l } }
  let s := { s with comp := { s.comp with stores := s.comp.stores.map (fun (x : FStore) =>
    if changed x.head then { x with tiles := x.tiles.map (fun (f : FTile) => { f with composed := false }) } else x) } }
  (s.put 0x7841 3 mode).put 0x7841 4 (l.foldl (fun m (x : Nat × Nat) => setBit m (x.2 / 2) true) 0)

/-- TAKEOVER_SWITCH and TAKEOVER_END (R357, R358) at a frame epoch: a takeover declared at least 200 µs before, its end,
and the partial failover of the heads under a notice. -/
def State.twinEpoch (s : State) : State :=
  match s.plan.active with
  | none => s
  | some p =>
    if s.twin.ending then
      let s := s.putTwin { s.twin with ending := false, declared := none }
      let s := (s.put 0x7841 1 1).setFlag (okey 0 0x7842 0) 1
      let l := s.layoutsFor p 2
      s.setLayouts (if l.isEmpty then 0 else 2) l
    else
      match s.twin.declared with
      | some d =>
        if d + 200000 ≤ s.now then
          let s := s.putTwin { s.twin with declared := none }
          let s := s.setLayouts 1 (s.layoutsFor p 1)
          (s.bump 0x7843 1).raise 0x7842 0 0 sevError 0 (leBytes 4 (s.get 0x7841 5))
        else s
      | none =>
        if s.get 0x7841 3 = 1 then s
        else
          let l := s.layoutsFor p 2
          if l = s.plan.layouts then s
          else
            let s := if s.plan.layouts.isEmpty ∧ !l.isEmpty then s.bump 0x7843 2 else s
            s.setLayouts (if l.isEmpty then 0 else 2) l

/-- A plan swap while a takeover is active (R358): each head takes the new plan's layout naming the partner's head, or
layout 0. -/
def State.twinSwap (s : State) : State :=
  match s.plan.active with
  | none => s
  | some p => s.setLayouts (s.get 0x7841 3) (s.layoutsFor p (s.get 0x7841 3))

/-! ## Time flits (R347) -/

/-- TIME_FLIT_SEND: every 1 ms each up port sends a time flit with the Wall time at which it leaves, in 0.1 ns, and the
receive time of the partner's last one. -/
def execTimeFlitSend (t port : Nat) (s : State) : Host.Outcome State Fault Refusal :=
  at_ t s fun s =>
    if s.linkRuns port then
      let r := s.link port
      let sent := (s.now + s.time.wallOff) % 2 ^ 64 * 10
      (s.putLink { r with timeSent := sent }).emit (.timeFlit port sent r.timeGot)
    else s

/-- A commit of CG_NET that changes TIME_SOURCE starts acquisition anew; `old` is the state before it. -/
def State.timeCommit (s old : State) : State :=
  if s.get 0x7820 1 = old.get 0x7820 1 then s
  else { (s.put 0x7820 6 1).put 0x7820 0xA 0 with time := { s.time with good := 0, bad := 0 } }

end Sys2Proof.Machine
end

