-- ==== Sys2Proof/Machine/Integrity.lean ====
section
/-!
DEFINITION. Content integrity (chapter 09): check values, expected values, comparison, reactions, state requests and
freshness monitors.
-/
namespace Sys2Proof.Machine

/-! ## Check values (R212 to R217) -/

/-- The register after `m` has run through it from `r`. -/
def PlanCvu.raw (c : PlanCvu) (r : Nat) (m : List Byte) : Nat := crcBytes c.width c.poly c.refin r m

/-- The value reported for a register. -/
def PlanCvu.out (c : PlanCvu) (r : Nat) : Nat := crcFinal c.width c.refout c.xorout r

/-- The settings that a region names. -/
def Plan.cvuOf (p : Plan) (r : PlanRegion) : PlanCvu := nth ⟨0, 0, 0, 32, false, false⟩ p.cvus r.cvu

/-- The prefix of a region's stream (R216). -/
def regionPrefix (r : PlanRegion) (sub counter : Nat) : List Byte :=
  leBytes 2 r.region ++ [byteOf r.point, byteOf sub] ++ leBytes 4 counter

/-- Ef: an expected value over the payload alone folded with the expected prefix (R217); `n` is the payload's length in
bytes. -/
def PlanCvu.fold (c : PlanCvu) (pre : List Byte) (n ep : Nat) : Nat :=
  let k := c.raw (Nat.xor (c.raw c.init pre) c.init) (List.replicate n 0)
  Nat.xor ep (if c.refout then reflect c.width k else k)

/-- Bytes of one component at the wire point (R215). -/
def wireBytes (bpc v : Nat) : List Byte := if bpc ≤ 8 then [byteOf v] else leBytes 2 v

/-- Bytes of a pixel at the wire point. -/
def wireTriple (bpc : Nat) (w : Nat × Nat × Nat) : List Byte := wireBytes bpc w.1 ++ wireBytes bpc w.2.1 ++ wireBytes bpc w.2.2

def PlanRegion.px (r : PlanRegion) : PxRect := ⟨(r.x : Int), (r.y : Int), r.w, r.h⟩

/-- The tiles of a head that a region meets, ascending. -/
def PlanRegion.tiles (r : PlanRegion) (h : PlanHead) : List Nat :=
  (List.range (h.cols * h.rows)).filter (fun t =>
    r.px.meets ⟨((t % max 1 h.cols * 64 : Nat) : Int), ((t / max 1 h.cols * 32 : Nat) : Int), 64, 32⟩)

/-- The positions of the store-point payload in feed order (R214): tile, pixel of the tile, and head position. -/
def PlanRegion.feed (r : PlanRegion) (h : PlanHead) : List (Nat × Nat × Nat × Nat) :=
  ((r.tiles h).map (fun t => (List.range 2048).filterMap (fun i =>
    let x := t % max 1 h.cols * 64 + i % 64
    let y := t / max 1 h.cols * 32 + i / 64
    if r.px.has x y then some (t, i, x, y) else none))).flatten

/-- Length of a region's payload in bytes, with the OUT_BPC of the head's running frame. -/
def State.payloadLen (s : State) (r : PlanRegion) : Nat :=
  if r.point = 0 then 4 * r.w * r.h else (if (s.rasterView r.head).get (headIdx r.head + 8) 4 ≤ 8 then 3 else 6) * r.w * r.h

/-! ## Region records -/

def State.regionRun (s : State) (n : Nat) : Option RegionRun := s.integ.runs.find? (fun (x : RegionRun) => x.region == n)

def State.putRegion (s : State) (x : RegionRun) : State :=
  { s with integ := { s.integ with runs := s.integ.runs.map (fun (y : RegionRun) => if y.region = x.region then x else y) } }

/-- RegionConfig, RegionResult and RegionRequest of region `n`. -/
def rcIdx (n : Nat) : Nat := 0x6900 + n
def rrIdx (n : Nat) : Nat := 0x6A00 + n
def rqIdx (n : Nat) : Nat := 0x6B00 + n

/-- An epoch number is at or after another. -/
def reached (a b : Nat) : Bool := !serialLater 32 b a

/-! ## The store point (R213, R214) -/

/-- The frame store of a head as it stands once the completed tiles have flipped: the word of a pixel of a tile. -/
def FStore.flipped (x : FStore) (t i : Nat) : Nat :=
  let f := x.tile t
  f.word (if f.pend = 2 then !f.cur else f.cur) i

/-- The unit of a store-point region delivers its value: every tile of the sub-frame is settled. The prefix has the N and s
that the stream carries; the comparator takes those of the frame it compares (R216, R217). DEDUCED, log entry 127. -/
def State.captureStore (s : State) (p : Plan) (r : PlanRegion) (h : PlanHead) (x : RegionRun) : State :=
  match s.store h.head with
  | none => s
  | some st =>
    let c := p.cvuOf r
    let body := ((r.feed h).map (fun q => leBytes 4 (st.flipped q.1 q.2.1))).flatten
    let k := x.stamp.getD (s.epoch, x.sub)
    let v := c.out (c.raw (c.raw c.init (regionPrefix r k.2 k.1)) body)
    let old := (r.tiles h).any (fun t => (st.tile t).overrun)
    s.putRegion { x with got := x.got ++ [⟨s.epoch, x.sub, v, old, s.epoch, s.payloadLen r, none, s.now⟩],
                         left := r.tiles h, sub := x.sub + 1, stamp := none }

/-- A tile of a head is settled for its sub-frame: written back with the N and s of its batch, or an overrun tile.
DEDUCED, log entry 127. -/
def State.settleTile (s : State) (head t : Nat) (stamp : Option (Nat × Nat)) : State :=
  match s.plan.active with
  | none => s
  | some p =>
    match p.headOf head with
    | none => s
    | some h =>
      foldS (fun s (r : PlanRegion) =>
        match s.regionRun r.region with
        | none => s
        | some x =>
          if r.head ≠ head ∨ r.point ≠ 0 ∨ !x.left.contains t ∨ h.subframes ≤ x.sub then s
          else
            let x := { x with left := x.left.filter (fun k => k != t), stamp := x.stamp <|> stamp }
            if x.left.isEmpty then (s.putRegion x).captureStore p r h x else s.putRegion x) s p.regions

/-- TILE_WRITEBACK_DONE: the oldest tile in flight on an engine is accepted by the frame store (R160). -/
def execTileWritebackDone (t engine : Nat) (s : State) : Host.Outcome State Fault Refusal :=
  clocked t 3 s fun s =>
    let en := s.engine engine
    match if en.stuck then [] else en.flight with
    | [] => s
    | g :: rest =>
      let s := s.putEngine { en with flight := rest }
      match s.store g.head with
      | none => s
      | some x => ((s.writeBack x g.tile g.words g.frame).settleTile g.head g.tile (some (g.frame, g.sub))).endBatch engine

/-- BATCH_DEADLINE (R145, R161): the deadline of a batch, whose overrun tiles are settled for their regions. -/
def execBatchDeadline (t batch : Nat) (s : State) : Host.Outcome State Fault Refusal :=
  at_ t s fun s =>
    let (s, late) := s.batchDeadline batch
    foldS (fun s (x : Nat × Nat) => s.settleTile x.1 x.2 none) s late

/-! ## The wire point (R215, R216) -/

/-- The pixel reactions that a head frame which begins at `now` has: those in force since 100 µs or longer (R227). -/
def pixelsAt (edges : List (Nat × Nat)) (now : Nat) : Nat := ((edges.find? (fun e => decide (e.1 + 100000 ≤ now))).map (fun e => e.2)).getD 0

/-- Onsets and lifts that later frames may still need. -/
def keepEdges (edges : List (Nat × Nat)) (now : Nat) : List (Nat × Nat) :=
  edges.filter (fun e => decide (now < e.1 + 100000)) ++ (edges.filter (fun e => decide (e.1 + 100000 ≤ now))).take 1

/-- At the start of vertical blank of a head its wire-point regions begin a frame: the newest composition frame it
shows, whether it shows older tiles, and the register at INIT with the prefix; and the replacements of its regions are those
in force. -/
def State.startWire (s : State) (p : Plan) (h : PlanHead) : State :=
  let (shown, older) := s.shownFrames p h
  let f := s.get (headIdx h.head + 1) 1
  let s := { s with integ := { s.integ with tails := s.integ.tails.filter (fun x => x.region.head != h.head) } }
  foldS (fun s (r : PlanRegion) =>
    match s.regionRun r.region with
    | none => s
    | some x =>
      let x := { x with pixels := pixelsAt x.edges s.now, edges := keepEdges x.edges s.now }
      let c := p.cvuOf r
      s.putRegion (if r.point = 1 then
        { x with crc := c.raw c.init (regionPrefix r 0 f), fed := 0, counter := f, open_ := true, shown := shown, older := older }
      else x)) s (p.regions.filter (fun r => r.head == h.head))

/-- The values of CG_HEADn that a head's running frame has. -/
def State.pipeOf (s : State) (n : Nat) : RasterHold :=
  let v := s.rasterView n
  ⟨n + 1, n, v.objs.filter (fun e => s.keyGroup e.1 == n + 1), v.liveBlocks.filter (fun e => s.keyGroup e.1 == n + 1)⟩

/-- Ep of a wire-point Sentinel region for a head frame: the recomposed words through the colour pipe as that frame had it,
with the frame's number (R220). -/
def State.wireEp (s : State) (p : Plan) (r : PlanRegion) (cap : RegionCap) (words : List Nat) : Nat :=
  let c := p.cvuOf r
  let s := { s with dict := { s.dict with rasters := cap.pipe.toList } }
  let s := (s.rasterView r.head).put (headIdx r.head + 1) 1 cap.counter
  let bpc := s.get (headIdx r.head + 8) 4
  c.out (c.raw c.init ((words.zipIdx.map (fun (w : Nat × Nat) =>
    wireTriple bpc (s.wireOf r.head (r.x + w.2 % max 1 r.w) (r.y + w.2 / max 1 r.w) (bitsOf w.1 9 0) (bitsOf w.1 19 10)
      (bitsOf w.1 29 20)))).flatten))

/-- A wire-point pixel of a head fed to its regions, with the OUT_BPC of its frame (R215). -/
def State.feedWire (s : State) (p : Plan) (head x y : Nat) (w : Nat × Nat × Nat) : State :=
  let bpc := (s.rasterView head).get (headIdx head + 8) 4
  foldS (fun s (r : PlanRegion) =>
    match s.regionRun r.region with
    | none => s
    | some q =>
      if !r.px.has x y then s
      else
        let c := p.cvuOf r
        let q := { q with crc := c.raw q.crc (wireTriple bpc w), fed := q.fed + 1 }
        let q := { q with open_ := q.open_ && decide (q.fed < r.w * r.h) }
        if q.fed < r.w * r.h ∨ !reached q.shown q.from_ then s.putRegion q
        else
          let pipe := if r.expect = 1 then some (s.pipeOf head) else none
          s.putRegion { q with got := q.got ++ [⟨q.counter, 0, c.out q.crc, q.older, q.shown, s.payloadLen r, pipe, s.now⟩] })
    s (p.regions.filter (fun r => r.head == head && r.point == 1))

/-- The fallback image of a region with the data of its library entry; none where it cannot be read. -/
def State.fallbackOf (s : State) (p : Plan) (r : PlanRegion) : Option (PlanImage × List Byte) :=
  (p.imageOf r.fallback).bind (fun i =>
    let lib := (s.libEntry i.libraryId).map (fun e => e.data)
    if i.whereIs ≠ 0 ∧ lib.isNone then none else some (i, lib.getD []))

/-- The pixel that a substitution shows (R226); none where the image cannot be read. -/
def State.substitute (s : State) (x : RegionTail) (px py : Nat) : Option (Nat × Nat × Nat) :=
  x.image.map (fun i =>
    let v := (imageSrc i.1 i.2).px ((px : Int) - x.region.x) ((py : Int) - x.region.y)
    let w := storeWord { v with a := 65535 }
    let b := (s.rasterView x.region.head).get (headIdx x.region.head + 8) 4
    let o := fun c : Nat => reduceBits b 32767 ((c * 65535 + 511) / 1023)
    (o (bitsOf w 9 0), o (bitsOf w 19 10), o (bitsOf w 29 20)))

/-- The replacements at work on a pixel of a head's running frame: those of the plan's regions, and those that a swap has left
to the frame (R229). -/
def State.replacements (s : State) (p : Plan) (head x y : Nat) : List RegionTail :=
  (s.integ.tails ++ p.regions.filterMap (fun (r : PlanRegion) => (s.regionRun r.region).bind (fun q =>
      if q.pixels = 0 then none else some (RegionTail.mk r q.pixels (s.fallbackOf p r))))).filter
    (fun (z : RegionTail) => z.region.head == head && z.region.px.has x y)

/-- The pixel that goes to the link: the composed one, unless an active region replaces it; of several the
lowest-numbered (R226). -/
def State.replacePixel (s : State) (p : Plan) (head x y : Nat) (w : Nat × Nat × Nat) : Nat × Nat × Nat :=
  let low := (s.replacements p head x y).foldl (fun (b : Option RegionTail) r => match b with
    | none => some r
    | some g => if r.region.region < g.region.region then some r else some g) none
  match low with
  | none => w
  | some r =>
    match if bit r.pixels 1 then s.substitute r x y else none with
    | some v => v
    | none => if bit r.pixels 2 then (0, 0, 0) else w

/-! ## Reactions (R226, R227) -/

/-- The reactions in force for a region. -/
def State.inForce (s : State) (r : PlanRegion) : Nat := r.reactions &&& s.get (rcIdx r.region) 8

/-- REACTION_ACTIVE bits of a region whose reactions are active. -/
def State.activeBits (s : State) (n : Nat) : Nat := s.get (rrIdx n) 6

/-- Keys, SAFE_OK and REGIONS_REACTING follow the active reactions. -/
def State.syncReactions (s : State) : State :=
  let regs := s.regions.filter (fun r => (s.regionRun r.region).elim false (fun q => q.failing))
  let s := s.put 0x6800 4 regs.length
  let safe := regs.any (fun r => bit (s.activeBits r.region) 5)
  let s := (s.put 0x6800 5 (setBit (s.get 0x6800 5) 0 safe)).hold 0 safe
  foldS (fun s (k : PlanKey) =>
    let on := regs.any (fun r => r.head == k.head && bit (s.activeBits r.region) 3
      && r.px.meets ⟨(k.x : Int), (k.y : Int), k.w, k.h⟩)
    let q := s.keyRun k.head k.key
    if on = q.region then s else s.setKeyCauses k on q.fault) s s.planKeys

/-- Some tile of a region's rectangle has TOP_CLASS 0. -/
def State.regionCritical (s : State) (p : Plan) (r : PlanRegion) : Bool :=
  match p.headOf r.head with
  | none => false
  | some h =>
    let o := p.ownerHead h
    if p.scales h then (List.range (o.cols * o.rows)).any (fun t => dirTop (s.dirEntry p o t) == 0)
    else (r.tiles o).any (fun t => dirTop (s.dirEntry p o t) == 0)

/-- Onset of a region's reactions. `flag` of IntegrityStatus names what failed. -/
def State.onset (s : State) (p : Plan) (r : PlanRegion) (flag : Nat) : State :=
  match s.regionRun r.region with
  | none => s
  | some q =>
    let n := r.region
    let bits := s.inForce r
    let s := s.putRegion { q with failing := true, edges := (s.now, bits &&& 6) :: q.edges, passes := 0 }
    let s := ((s.put (rrIdx n) 6 bits).put (rrIdx n) 0xA s.now).bump 0x6802 3
    let s := if bit bits 0 then
        s.raise 0x6801 n flag (if s.regionCritical p r then sevCritical else sevError) 0
          (leBytes 2 n ++ leBytes 8 (s.get (rrIdx n) 2) ++ leBytes 8 (s.get (rrIdx n) 3) ++ leBytes 4 (s.get (rrIdx n) 4))
      else s
    let s := if bit bits 4 then s.startVoice (s.get (rcIdx n) 0xA) else s
    let s := if bit bits 6 then s.sendNotice 0 r.head n false else s
    s.syncReactions

/-- Lift of a region's reactions. -/
def State.lift (s : State) (r : PlanRegion) : State :=
  match s.regionRun r.region with
  | none => s
  | some q =>
    let n := r.region
    let bits := s.activeBits n
    let s := s.putRegion { q with failing := false, edges := (s.now, 0) :: q.edges, passes := 0 }
    let s := s.put (rrIdx n) 6 0
    let s := if bit bits 0 then s.raise 0x6801 n 4 sevNotice 0 (leBytes 2 n) else s
    let s := if bit bits 6 then s.sendNotice 0 r.head n true else s
    s.syncReactions

/-- One failure frame (R227): onset after FAIL_FRAMES in succession. -/
def State.failFrame (s : State) (p : Plan) (r : PlanRegion) (flag : Nat) : State :=
  match s.regionRun r.region with
  | none => s
  | some q =>
    let s := s.putRegion { q with fails := q.fails + 1, passes := 0 }
    if !q.failing ∧ s.get (rcIdx r.region) 0xB ≤ q.fails + 1 then s.onset p r flag else s

/-- A region's current state set, with a dwell count of 0 (R218). -/
def State.setRegionState (s : State) (q : RegionRun) (st : Nat) : State :=
  (s.putRegion { q with state := st, dwell := 0 }).put (rrIdx q.region) 5 st

/-- Committed states come into force with the first frame that shows their composition frames. -/
def State.settleState (s : State) (n shown : Nat) : State :=
  match s.regionRun n with
  | none => s
  | some q =>
    match (q.pend.filter (fun x => reached shown x.1)).getLast? with
    | some x => s.setRegionState { q with pend := q.pend.filter (fun x => !reached shown x.1) } x.2
    | none => s

/-- A compared frame of a state table, whatever its verdict: the dwell count advances, and the region moves to NEXT when it is
reached. -/
def State.advanceState (s : State) (p : Plan) (r : PlanRegion) : State :=
  match s.regionRun r.region with
  | none => s
  | some q =>
    let row := nth ⟨0, 0, 0⟩ (nth ⟨0, 0, []⟩ p.tables r.table).states q.state
    if r.table = 0xFFFF ∨ row.dwell = 0 then s
    else if row.dwell ≤ q.dwell + 1 then s.setRegionState q row.next
    else s.putRegion { q with dwell := q.dwell + 1 }

/-- A no-verdict frame (R224), with its value where the stream was whole. A run of NO_VERDICT_FRAMES of them is one failure
frame. -/
def State.noVerdict (s : State) (p : Plan) (r : PlanRegion) (v : Option Nat) (counter : Nat) : State :=
  match s.regionRun r.region with
  | none => s
  | some q =>
    let n := r.region
    let s := v.elim s (fun v => s.put (rrIdx n) 2 v)
    let s := (((s.put (rrIdx n) 1 3).put (rrIdx n) 4 counter).bump (rrIdx n) 9).bump 0x6802 2
    let s := s.setFlag (okey 0 0x6801 0) 1
    let k := q.noVerdicts + 1
    (if s.get (rcIdx n) 0xD ≤ k then (s.putRegion { q with noVerdicts := 0, passes := 0 }).failFrame p r 1
     else s.putRegion { q with noVerdicts := k, passes := 0 }).advanceState p r

/-- A pass. -/
def State.passFrame (s : State) (r : PlanRegion) : State :=
  match s.regionRun r.region with
  | none => s
  | some q =>
    let n := r.region
    let s := (s.put (rrIdx n) 1 1).bump64 (rrIdx n) 8 1
    let k := q.passes + 1
    let s := s.putRegion { q with passes := k, fails := 0, noVerdicts := 0 }
    if q.failing ∧ !q.dead ∧ s.get (rcIdx n) 0xC ≠ 0 ∧ s.get (rcIdx n) 0xC ≤ k then s.lift r else s

/-- A mismatch. -/
def State.mismatch (s : State) (p : Plan) (r : PlanRegion) : State :=
  match s.regionRun r.region with
  | none => s
  | some q =>
    let n := r.region
    let s := ((s.put (rrIdx n) 1 2).bump (rrIdx n) 7).bump 0x6802 1
    let s := (s.putRegion { q with noVerdicts := 0 }).setFlag (okey 0 0x6801 0) 0
    s.failFrame p r 0

/-- A region that fails at once and stays failed (R224, R27). -/
def State.killRegion (s : State) (p : Plan) (r : PlanRegion) : State :=
  match s.regionRun r.region with
  | none => s
  | some q =>
    if q.dead then s
    else
      let s := s.putRegion { q with dead := true }
      if q.failing then s else s.onset p r 1

/-! ## Comparison (R218, R221 to R223) -/

/-- The Sentinel's words for a delivered value, where they were ready by their deadline (R220). -/
def RegionRun.sentFor (q : RegionRun) (r : PlanRegion) (c : RegionCap) : Option (List Nat) :=
  (q.sent.find? (fun (z : Nat × Nat × List Nat) => z.1 == c.shown && (r.point == 0 || decide (z.2.1 ≤ c.at_ + 200000)))).map (fun z => z.2.2)

/-- Ep for a delivered value: none while it is not available. -/
def State.expectedFor (s : State) (p : Plan) (r : PlanRegion) (c : RegionCap) : Option Nat :=
  match s.regionRun r.region with
  | none => none
  | some q =>
    if r.expect = 0 then
      some (if r.table = 0xFFFF then r.golden else (nth ⟨0, 0, 0⟩ (nth ⟨0, 0, []⟩ p.tables r.table).states q.state).golden)
    else if r.expect = 1 then
      if r.point = 1 then (q.sentFor r c).map (fun z => s.wireEp p r c z)
      else
        match p.headOf r.head, q.sentFor r c with
        | some h, some z =>
          let u := p.cvuOf r
          some (u.out (u.raw u.init (((r.feed h).map (fun f =>
            leBytes 4 (nth 0 z ((f.2.2.2 - r.y) * r.w + (f.2.2.1 - r.x))))).flatten)))
        | _, _ => none
    else (q.guest.find? (fun (z : Nat × Nat) => reached c.shown z.1)).map (fun z => z.2)

/-- REGION_COMPARE: the oldest delivered value of a region is compared with its expected value (R223). A value whose
Sentinel value is not ready yet waits. -/
def execRegionCompare (t region : Nat) (s : State) : Host.Outcome State Fault Refusal :=
  at_ t s fun s =>
    match s.plan.active, s.region region, s.regionRun region with
    | some p, some r, some q =>
      match q.got with
      | [] => s
      | c :: rest =>
        let u := p.cvuOf r
        let pre := regionPrefix r c.sub c.counter
        let fold := u.fold pre c.len
        let n := r.region
        let take := fun (s : State) => s.putRegion { q with got := rest }
        let note := fun (s : State) => ((s.put (rrIdx n) 2 c.value).put (rrIdx n) 4 c.counter)
        if q.dead then take s
        else if r.expect = 3 then (note (take s)).put (rrIdx n) 1 4
        else
          let s1 := (take s).settleState n c.shown
          match s1.expectedFor p r c with
          | none => if r.expect = 1 then s else s1.noVerdict p r (some c.value) c.counter
          | some ep =>
            let ef := fold ep
            let prev := q.prevEp
            let s := (note s1).put (rrIdx n) 3 ef
            let s := match s.regionRun n with
              | some z => s.putRegion { z with prevEp := some ep }
              | none => s
            let ok := c.value == ef || c.older && prev.elim false (fun e => c.value == fold e)
            (if ok then s.passFrame r else s.mismatch p r).advanceState p r
    | _, _, _ => s

/-! ## The Sentinel (R220) -/

/-- The Sentinel is usable. -/
def State.sentinelUp (s : State) : Bool := s.pdOn 8 && !s.isLost .sentinel 0

/-- The region has one of the 64 Sentinel units: the units serve the EXPECT 1 regions in rising number (R211; DESIGN CHOICE,
log entry 99). -/
def Plan.sentinelUnit (p : Plan) (r : PlanRegion) : Bool :=
  decide ((p.regions.filter (fun x => x.expect == 1 && decide (x.region < r.region))).length < 64)

/-- Composition frames whose expected values a region may still need: those that it shows, or that its values to be compared
show, and later ones. -/
def RegionRun.needs (q : RegionRun) (r : PlanRegion) (epoch fr : Nat) : Bool :=
  (if r.point = 0 then fr == epoch else reached fr q.shown) || q.got.any (fun c => c.shown == fr)

/-- SENTINEL_VALUE_READY: the Sentinel has recomposed a region from the sources latched for the running composition
frame. It runs every step of the tile programs. -/
def execSentinelValueReady (t region : Nat) (s : State) : Host.Outcome State Fault Refusal :=
  clocked t 4 s fun s =>
    match s.plan.active, s.region region, s.regionRun region with
    | some p, some r, some q =>
      match p.headOf r.head with
      | none => s
      | some h =>
        if r.expect ≠ 1 ∨ !s.sentinelUp ∨ !p.sentinelUnit r then s
        else
          let o := p.ownerHead h
          let tiles := (r.tiles o).map (fun tl =>
            let tx := tl % max 1 o.cols
            let ty := tl / max 1 o.cols
            let steps := (p.steps_ (s.dirEntry p o tl)).map (fun c => (c, c.layer.bind (fun l => s.layerSrc p l)))
            (tl, s.composeTile p (s.appliedSteps steps tx ty false) tx ty))
          let words := (List.range (r.w * r.h)).map (fun i =>
            let x := r.x + i % max 1 r.w
            let y := r.y + i / max 1 r.w
            let tl := y / 32 * o.cols + x / 64
            (tiles.find? (fun (z : Nat × List Nat) => z.1 == tl)).elim 0 (fun z => nth 0 z.2 (y % 32 * 64 + x % 64)))
          s.putRegion { q with sent := (s.epoch, s.now, words) :: q.sent.filter (fun (z : Nat × Nat × List Nat) =>
            z.1 != s.epoch && q.needs r s.epoch z.1) }
    | _, _, _ => s

/-- SENTINEL_LATE: the oldest value of a Sentinel region has passed its deadline without an expected value. -/
def execSentinelLate (t region : Nat) (s : State) : Host.Outcome State Fault Refusal :=
  at_ t s fun s =>
    match s.plan.active, s.region region, s.regionRun region with
    | some p, some r, some q =>
      match q.got with
      | [] => s
      | c :: rest =>
        let due : Bool := if r.point = 0 then s.epoch != c.shown else decide (c.at_ + 200000 ≤ s.now)
        if r.expect = 1 ∧ due ∧ (s.expectedFor p r c).isNone ∧ !q.dead then
          (((s.putRegion { q with got := rest }).bump 0x6802 5).setFlag (okey 0 0x6801 0) 3).noVerdict p r (some c.value) c.counter
        else s
    | _, _, _ => s

/-! ## Releases and state requests (R219, R227) -/

/-- The refusal of a release: the region's last verdict was not a pass. -/
def State.releaseRefusal (s : State) (v : Nat) : Option Nat :=
  if s.get (rrIdx v) 1 = 1 then none else some codeRegionStillFailing

/-- A release of a region whose reactions are latched. -/
def State.releaseRegion (s : State) (v : Nat) : State :=
  match s.region v, s.regionRun v with
  | some r, some q => if q.failing ∧ !q.dead ∧ s.get (rcIdx v) 0xC = 0 then s.lift r else s
  | _, _ => s

/-- RELEASE_REGION: a write of the object. -/
def execReleaseRegion (t : Nat) (ini : Ini) (v : Word) (s : State) : Host.Outcome State Fault Refusal :=
  at_ t s fun s => s.writeAt ini 0x6800 1 v (fun s v => s.releaseRefusal v) (fun s v => s.releaseRegion v)

/-- STATE_NOT_ALLOWED: the writer owns no class A layer on the region's head. -/
def State.requestRefusal (s : State) (ini : Ini) (n : Nat) : Option Nat :=
  if (s.region n).elim false (fun r => s.layers.any (fun l => l.head == r.head && l.owner == ini.part && l.cls == 0)) then none
  else some codeStateNotAllowed

/-- A request for a state goes to Markhor's integrity service: for the next epoch if that is at least 1 ms away, else
for the one after it. -/
def State.requestState (s : State) (n v : Nat) : State :=
  if !s.markhorUp then (s.put (rqIdx n) 2 codeKeyServiceUnavailable).setFlag (okey 0 0x6801 0) 5
  else
    let e := (s.epoch + (if s.now + 1000000 ≤ s.time.nextEpoch then 1 else 2)) % 2 ^ 32
    (({ s with integ := { s.integ with reqs := s.integ.reqs ++ [(⟨n, v, e, false⟩ : RegionReq)] } } : State).put (rqIdx n) 2 1).post 2 n

/-- REQUESTED_STATE: a write of the object. -/
def execRequestedState (t : Nat) (ini : Ini) (region : Nat) (v : Word) (s : State) : Host.Outcome State Fault Refusal :=
  at_ t s fun s => s.when (region < 256) fun s => s.writeAt ini (rqIdx region) 1 v (fun s _ => s.requestRefusal ini region) (fun s v => s.requestState region v)

/-- States that the table of a region has. -/
def Plan.stateCount (p : Plan) (r : PlanRegion) : Nat := if r.table = 0xFFFF then 1 else (nth ⟨0, 0, []⟩ p.tables r.table).count

/-- INTEGRITY_REQUEST_DONE: Markhor commits the newest request of a region, or (`none`) accepts the CG_INTEGRITY commits
that wait for it. A state that rule 0x0901 forbids is not committed. -/
def execIntegrityRequestDone (t : Nat) (region : Option Nat) (s : State) : Host.Outcome State Fault Refusal :=
  clocked t 0 s fun s =>
    if !s.markhorUp || !s.inSlot 2 (region.getD 256) then s
    else
      let s := s.unpost 2 (region.getD 256)
      match region with
      | none => { s with dict := { s.dict with sets := s.dict.sets.map (fun (x : PendingSet) =>
          if x.group = 57 then { x with markhor := false } else x) } }
      | some n =>
        match s.plan.active, s.region n with
        | some p, some r =>
          let bad := fun (x : RegionReq) => x.region == n && !x.done && decide (p.stateCount r ≤ x.state)
          let hit := s.integ.reqs.any bad
          let l := (s.integ.reqs.filter (fun x => !bad x)).map (fun (x : RegionReq) => if x.region = n then { x with done := true } else x)
          let s := { s with integ := { s.integ with reqs := l } }
          if hit then (s.put (rqIdx n) 2 codeRuleFailed).setFlag (okey 0 0x6801 0) 5 else s
        | _, _ => s

/-- Requests that wait when Markhor is lost are answered KEY_SERVICE_UNAVAILABLE (R219, R297). -/
def State.requestsLost (s : State) : State :=
  let wait := s.integ.reqs.filter (fun (x : RegionReq) => !x.done)
  let s := { s with integ := { s.integ with reqs := s.integ.reqs.filter (fun (x : RegionReq) => x.done) } }
  foldS (fun s (x : RegionReq) => (s.put (rqIdx x.region) 2 codeKeyServiceUnavailable).setFlag (okey 0 0x6801 0) 5) s wait

/-- A state committed at an epoch: STATE_SELECT holds it, and the region takes it with the frames that show the epoch's
composition frame. -/
def State.commitState (s : State) (n v : Nat) : State :=
  match s.regionRun n, s.region n with
  | some q, some r =>
    let s := s.putRegion { q with pend := q.pend ++ [(s.epoch, v)] }
    if r.point = 0 ∧ q.got.isEmpty then s.settleState n s.epoch else s
  | _, _ => s

/-- Requested states at a frame epoch: of several for one epoch the newest. -/
def State.applyRequests (s : State) : State :=
  let due := s.integ.reqs.filter (fun (x : RegionReq) => x.done && reached s.epoch x.target)
  let s := { s with integ := { s.integ with reqs := s.integ.reqs.filter (fun (x : RegionReq) => !(x.done && reached s.epoch x.target)) } }
  foldS (fun s (x : RegionReq) =>
    ((s.putBoth (okey 0 (rcIdx x.region) 9) (w64 x.state)).put (rqIdx x.region) 2
      (if s.integ.reqs.any (fun (y : RegionReq) => y.region == x.region) then 1 else 0)).commitState x.region x.state) s due

/-- What a CG_INTEGRITY commit does beside the stored values: states committed, and reactions in force. -/
def State.integrityCommit (s : State) : State :=
  let l := s.integ.committing
  let s := { s with integ := { s.integ with committing := [] } }
  let s := foldS (fun s n => s.commitState n (s.get (rcIdx n) 9)) s l
  let s := foldS (fun s (r : PlanRegion) =>
    match s.regionRun r.region with
    | some q => if q.failing then
        (s.put (rrIdx r.region) 6 (s.inForce r)).putRegion { q with edges := (s.now, s.inForce r &&& 6) :: q.edges } else s
    | none => s) s s.regions
  s.syncReactions

/-! ## Frames, epochs and swaps (R224, R229) -/

/-- A new composition frame: store-point regions begin with all their tiles; a frame whose stream stayed incomplete has
no verdict. -/
def State.startFrames (s : State) : State :=
  match s.plan.active with
  | none => s
  | some p =>
    foldS (fun s (r : PlanRegion) =>
      match s.regionRun r.region, p.headOf r.head with
      | some q, some h =>
        if r.point ≠ 0 then s
        else
          let s := if q.from_ = s.epoch ∨ q.dead ∨ r.expect = 3 then s
            else foldS (fun s _ => s.noVerdict p r none ((s.epoch + 2 ^ 32 - 1) % 2 ^ 32)) s (List.range (h.subframes - q.sub))
          match s.regionRun r.region with
          | some q => s.putRegion { q with left := r.tiles h, sub := 0, stamp := none }
          | none => s
      | _, _ => s) s p.regions

/-- A head's timing stopped: a wire-point frame that has begun and whose region has not passed has no verdict (R224). -/
def State.wireStopped (s : State) (p : Plan) (head : Nat) : State :=
  foldS (fun s (r : PlanRegion) =>
    match s.regionRun r.region with
    | none => s
    | some q =>
      if q.open_ ∧ reached q.shown q.from_ ∧ !q.dead ∧ r.expect ≠ 3 then (s.putRegion { q with open_ := false }).noVerdict p r none q.counter
      else s) s (p.regions.filter (fun r => r.head == head && r.point == 1))

/-- A head's timing stops, with what its wire-point regions have of the frame. -/
def State.haltHead (s : State) (n : Nat) : State :=
  let on := (s.headRun n).isSome
  let s := s.stopHead n
  s.plan.active.elim s (fun p => if on then s.wireStopped p n else s)

/-- At a swap the old plan's reactions lift; what they replace in the running frames of the heads they replace to the end of
these frames (R229). -/
def State.integritySwapEnd (s : State) : State :=
  let tails := s.plan.active.elim [] (fun p => p.regions.filterMap (fun (r : PlanRegion) => (s.regionRun r.region).bind (fun q =>
    if q.pixels = 0 then none else some (RegionTail.mk r q.pixels (s.fallbackOf p r)))))
  let s := { s with integ := { s.integ with tails := s.integ.tails ++ tails } }
  let s := foldS (fun s (r : PlanRegion) =>
    if (s.regionRun r.region).elim false (fun q => q.failing) then s.lift r else s) s s.regions
  { s with integ := { s.integ with reqs := [], selects := [], committing := [] } }

/-- A unit that a region's expected value depends on is unusable (R224, R27): the Sentinel, the region's head, or every
composer engine for a class A region. A region that only records never reacts (R222). -/
def State.regionDoomed (s : State) (p : Plan) (r : PlanRegion) : Bool :=
  r.expect != 3 && (r.expect == 1 && s.isLost .sentinel 0 || s.isLost .head r.head
    || (List.range s.cfg.engines).all (fun e => s.isLost .composer e) && s.regionCritical p r)

/-- The regions that depend on a lost unit fail at once. -/
def State.killRegions (s : State) : State :=
  match s.plan.active with
  | none => s
  | some p => foldS (fun s (r : PlanRegion) => if s.regionDoomed p r then s.killRegion p r else s) s p.regions

/-- The records of a region that a new plan brings, zero for a region it does not have (R232). -/
def State.regionRecord (s : State) (p : Plan) (n : Nat) : State :=
  let clear := fun (s : State) => foldS (fun s k => s.put (rrIdx n) k 0) s ((List.range 10).map (fun k => k + 1))
  let s := (clear s).put (rqIdx n) 2 0
  let s := s.put (rqIdx n) 1 0
  match p.regions.find? (fun r => r.region == n) with
  | none => foldS (fun s k => s.put (rcIdx n) k 0) s ((List.range 7).map (fun k => k + 1))
  | some r =>
    let init := if r.table = 0xFFFF then 0 else (nth ⟨0, 0, []⟩ p.tables r.table).initial
    let s := (((((((s.put (rcIdx n) 1 1).put (rcIdx n) 2 r.head).put (rcIdx n) 3 r.point).put (rcIdx n) 4
      (r.x + r.y * 2 ^ 16 + r.w * 2 ^ 32 + r.h * 2 ^ 48)).put (rcIdx n) 5 r.cvu).put (rcIdx n) 6 r.expect).put (rcIdx n) 7 r.reactions)
    let s := foldS (fun s (x : Nat × Nat) => s.putBoth (okey 0 (rcIdx n) x.1) (w64 x.2)) s
      [(8, 0x7F), (9, init), (0xA, 0), (0xB, 1), (0xC, 3), (0xD, 2)]
    s.put (rrIdx n) 5 init

/-- The integrity objects and region units of a new plan (R218, R229, R232). -/
def State.integritySwapStart (s : State) (p : Plan) : State :=
  let s := foldS (fun s n => s.regionRecord p n) s (List.range s.cfg.regions)
  let s := foldS (fun s k =>
    let u := nth ⟨0, 0, 0, 8, false, false⟩ p.cvus k
    let on : Nat := if k < p.cvus.length then 1 else 0
    ((((s.put (0x6810 + k) 1 (u.poly * on)).put (0x6810 + k) 2 (u.init * on)).put (0x6810 + k) 3 (u.xorout * on)).put (0x6810 + k) 4
      (u.width * on)).put (0x6810 + k) 5 (on * ((if u.refin then 1 else 0) + (if u.refout then 2 else 0)))) s (List.range 64)
  let s := foldS (fun s n =>
    let l := p.layers.find? (fun l => l.slot == n && l.cls == 1 && (l.maxSourceAge != 0 || l.maxFrameAge != 0))
    let s := foldS (fun s k => s.put (0x6C00 + n) k 0) s (if l.isSome ∧ s.get (0x6C00 + n) 1 = 1 then [2, 3, 4] else [2, 3, 4, 6])
    (s.put (0x6C00 + n) 1 (if l.isSome then 1 else 0)).putBoth (okey 0 (0x6C00 + n) 5) 1) s (List.range s.cfg.slots)
  let fps := fun (r : PlanRegion) => match p.headOf r.head with
    | none => 0
    | some h => if r.point = 0 then h.subframes * 1000000000 / max 1 p.epochPeriod
        else h.clockKhz * 1000 / max 1 (h.hTotal * h.vTotal)
  let load := sumBy (fun (r : PlanRegion) => r.w * r.h * fps r) (p.regions.filter (fun r => r.expect == 1))
  let s := s.put 0x6800 3 (min 100 (load * 100 / 120000000))
  let run := fun (r : PlanRegion) => RegionRun.mk r.region s.epoch ((p.headOf r.head).elim [] (fun h => r.tiles h)) 0 none 0 0 0 false s.epoch
    false [] [] [] [] (s.get (rrIdx r.region) 5) 0 none 0 0 0 false [] 0 false
  let runs := p.regions.map run
  let s := { s with integ := { s.integ with runs := runs, swapTime := s.now, swapEpoch := s.epoch, latched := [] } }
  let s := (s.put 0x6800 5 (setBit (s.get 0x6800 5) 1 false)).hold 1 false
  s.syncReactions.killRegions

/-! ## Guest values (R221) -/

/-- A present may carry a value for region `n`: the region is EXPECT 2, on the layer's head (or at the wire point on a
head of its clone group), and the presenter is of class A or B. -/
def State.guestAllowed (s : State) (p : Plan) (slot part n : Nat) : Bool :=
  match s.region n, s.layer slot with
  | some r, some l =>
    r.expect == 2 && decide (p.maxClass part ≤ 1)
      && (r.head == l.head || r.point == 1 && (p.headOf r.head).elim false (fun h =>
            (p.headOf l.head).elim false (fun g => (p.ownerHead h).head == (p.ownerHead g).head)))
  | _, _ => false

/-- A value of a latched present applies from the composition frame of the epoch. -/
def State.guestValue (s : State) (n ep : Nat) : State :=
  match s.regionRun n with
  | none => s
  | some q =>
    let old := q.guest.filter (fun (z : Nat × Nat) => z.1 != s.epoch)
    let used := fun (z : Nat × Nat) (e : Nat) => (old.find? (fun (y : Nat × Nat) => reached e y.1)).elim false (fun y => y.1 == z.1)
    s.putRegion { q with guest := (s.epoch, ep) :: old.filter (fun z => reached z.1 q.shown || used z q.shown || q.got.any (fun c => used z c.shown)) }

/-! ## Freshness (R230) -/

/-- FRESHNESS_CHECK of one layer at an epoch. -/
def State.checkFresh (s : State) (l : PlanLayer) : State :=
  let i := 0x6C00 + l.slot
  let seen := s.integ.latched.contains l.slot
  let src := if seen then s.now - s.get (0x4400 + l.slot) 0x10 else s.now - s.integ.swapTime
  let age := sub32 s.epoch (if seen then s.get (0x4400 + l.slot) 0xF else s.integ.swapEpoch)
  let s := (s.put i 2 (min (src / 1000) (2 ^ 32 - 1))).put i 3 age
  let stale : Bool := l.maxSourceAge != 0 && decide (l.maxSourceAge * 1000 < src) || l.maxFrameAge != 0 && decide (l.maxFrameAge < age)
  let was := s.get i 4 = 1
  let re := s.get i 5
  let s := s.put i 4 (if stale then 1 else 0)
  if stale ∧ !was then
    let s := (s.bump i 6).bump 0x6802 4
    let s := if bit re 0 then s.raise 0x6801 l.slot 2 sevWarning l.owner (leBytes 2 l.slot) else s.setFlag (okey 0 0x6801 0) 2
    if bit re 6 then s.sendNotice 1 l.head l.slot false else s
  else if was ∧ !stale ∧ bit re 6 then s.sendNotice 1 l.head l.slot true
  else s

/-- The SAFE_OK hold of the stale layers. -/
def State.freshHold (s : State) : State :=
  let on := s.layers.any (fun l => s.get (0x6C00 + l.slot) 4 == 1 && bit (s.get (0x6C00 + l.slot) 5) 5)
  (s.put 0x6800 5 (setBit (s.get 0x6800 5) 1 on)).hold 1 on

/-- FRESHNESS_CHECK at a frame epoch, after the presents are latched. -/
def State.freshness (s : State) : State :=
  (foldS (fun s (l : PlanLayer) => if s.get (0x6C00 + l.slot) 1 = 1 then s.checkFresh l else s) s s.layers).freshHold

/-- Reset of PD8: counters and results are zero and no region is at work until a plan swap. -/
def State.integrityReset (s : State) : State :=
  let s := { s with integ := { s.integ with runs := [], reqs := [], tails := [], selects := [], committing := [] } }
  let s := foldS (fun s k => s.put 0x6802 k 0) s [1, 2, 3, 4, 5]
  s.syncReactions

end Sys2Proof.Machine
end

