-- ==== Sys2Proof/Machine/Links.lean ====
section
/-!
DEFINITION. Display and video links (chapter 08): link capacity and training, hot-plug, link loss and class A content,
HDCP, and video inputs.
-/
namespace Sys2Proof.Machine

/-- PortConfig of output port `q`; PortState, PortStatus and PortCounters follow it. -/
def poIdx (q : Nat) : Nat := 0x5800 + q * 0x10

/-- InputConfig of video input `i`; InputState, InputStatus and InputCounters follow it. -/
def viIdx (i : Nat) : Nat := 0x5A00 + i * 0x10

/-- No sink has been read. -/
def Sink.unknown : Sink := ⟨false, 0, 0, false, false, []⟩

def State.linkRun (s : State) (q : Nat) : LinkRun :=
  (s.links.ports.find? (fun (r : LinkRun) => r.port == q)).getD
    ⟨q, Sink.unknown, 0, 0, 0, false, 0, [], none, false, 0, 0, false, [], []⟩

def State.putLinkRun (s : State) (r : LinkRun) : State :=
  { s with links := { s.links with ports := r :: s.links.ports.filter (fun (x : LinkRun) => x.port != r.port) } }

def State.linkState (s : State) (q : Nat) : Nat := s.get (poIdx q + 1) 1

/-- The link of a port carries video or self-refresh. -/
def State.portUp (s : State) (q : Nat) : Bool := s.linkState q == 3 || s.linkState q == 5

/-- The fields of PortConfig that apply from a vertical-blank start (R201). -/
def lateFields : List Nat := [7, 8, 0xA, 0xB, 0xC, 0xD, 0xE]

/-- Such a field of a port as it applies now. -/
def State.lateField (s : State) (q k : Nat) : Nat :=
  match ((lateFields.zip (s.linkRun q).eff).find? (fun x => x.1 == k)) with
  | some x => x.2
  | none => s.get (poIdx q) k

/-! ## Heads and capacity (R194, R196, R197) -/

/-- The heads whose pixels a port carries, with the streams they name. -/
def State.portHeads (s : State) (q : Nat) : List PlanHead := s.heads.filter (fun h => h.port != 0xFFFF && h.port % 256 == q)

/-- BPC_CARRIED of a protocol, with DSC_EN and LDI_FORMAT (R196). -/
def bpcCarried (proto dsc ldi : Nat) : Nat :=
  if proto ≤ 1 then (if dsc = 1 then 0x1500 else 0x1540)
  else if proto = 2 then 0x1500
  else if proto = 3 ∨ proto = 5 then 0x540
  else if ldi % 4 = 0 then 0x40 else 0x100

/-- BPC_CARRIED of a port by its configuration. -/
def carriedBy (get : Nat → Nat → Nat) (q : Nat) : Nat := bpcCarried (get (poIdx q) 1) (get (poIdx q) 5) (get (poIdx q) 9)

/-- N of a head's stream in sixteenths of a kbit/s, with DSC if it is active (R197). -/
def streamNeed (h : PlanHead) (bpc : Nat) (dsc : Option Nat) : Nat :=
  match dsc with
  | some b => h.clockKhz * b
  | none => h.clockKhz * 48 * bpc

/-- The sum of N over the streams of a port, in sixteenths of a kbit/s. -/
def State.portNeed (s : State) (q : Nat) (dsc : Bool) : Nat :=
  sumBy (fun h => streamNeed h (s.get (headIdx h.head + 8) 4) (if dsc then some (s.get (poIdx q) 6) else none)) (s.portHeads q)

/-- C of a link in sixteenths of a kbit/s: lanes × lane rate × E. -/
def linkCapacity (proto lanes rate : Nat) : Nat :=
  let e := if proto ≤ 1 then (if rate ≤ 8100 then 780 else 950) else if proto = 2 then 860 else if proto = 3 then 850 else 900
  16 * lanes * rate * e

/-- The limits of a TMDS link: the character rate lies between 25,000 kHz and `top`. -/
def State.tmdsFits (s : State) (q top : Nat) : Bool :=
  (s.portHeads q).all (fun h =>
    let c := h.clockKhz * s.get (headIdx h.head + 8) 4
    decide (8 * 25000 ≤ c) && decide (c ≤ 8 * top))

/-- The highest character rate of a port's TMDS link: 165 MHz without a valid EDID (R198). -/
def State.tmdsTop (s : State) (q : Nat) : Nat := if (s.linkRun q).sink.edid then 600000 else 165000

/-- A head's clock fits the OpenLDI links of a format (R197). -/
def ldiOk (fmt : Nat) (h : PlanHead) : Bool :=
  let n := if 4 ≤ fmt then 2 else 1
  decide (20000 * n ≤ h.clockKhz) && decide (h.clockKhz ≤ 112000 * n) && h.hActive % n == 0

/-- The streams of a DSI-2 or OpenLDI port fit the configured link (R197). -/
def State.portFits (s : State) (get : Nat → Nat → Nat) (q : Nat) : Bool :=
  let i := poIdx q
  if 16 ≤ q ∧ q < 20 then (s.portHeads q).all (ldiOk (get i 9))
  else if 20 ≤ q then
    decide (sumBy (fun h : PlanHead => streamNeed h (get (headIdx h.head + 8) 4) none) (s.portHeads q)
      ≤ linkCapacity 5 (get i 2) (min 4500 (get i 3)))
  else true

/-- The clone owner of a head, or the head itself, has a class A layer (R203). -/
def State.classAPort (s : State) (q : Nat) : Bool :=
  match s.plan.active with
  | none => false
  | some p => (s.portHeads q).any (fun h =>
      p.layers.any (fun l => l.cls == 0 && (l.head == h.head || l.head == (p.ownerHead h).head)))

/-- The second port of a dual-link pair of Compact, which is not available (R193). -/
def State.portTaken (s : State) (q : Nat) : Bool := s.cfg.compact && (q == 17 || q == 19) && decide (4 ≤ s.get (poIdx (q - 1)) 9)

/-- The rules 0x0801 to 0x0804 hold for a port (R201). -/
def State.portRules (s : State) (q : Nat) : Bool :=
  (s.portHeads q).all (fun h => bit (carriedBy s.get q) (s.get (headIdx h.head + 8) 4)) && s.portFits s.get q
    && !(s.cfg.compact && (q == 16 || q == 18) && decide (4 ≤ s.get (poIdx q) 9) && !(s.portHeads (q + 1)).isEmpty)
    && !(s.get (poIdx q) 8 == 1 && s.classAPort q)

/-- A display or video port that failed its self-test: outputs are instances 0 to 21 of kind 15, inputs 22 to 31 (R449). -/
def State.portFailed (s : State) (n : Nat) : Bool := let r := s.get 0x911F (n + 1); r == 3 || r == 4

/-- A port that can work: its domain on, its self-test not failed, not the second of a dual-link pair, and on the edge die only
while that answers (R15). -/
def State.portAble (s : State) (q : Nat) : Bool :=
  s.pdOn 15 && !s.portFailed q && !s.portTaken q && (s.edgeUp || !(16 ≤ q && q < 20))

/-- The lines of a port (R209). -/
def State.portLines (s : State) (q : Nat) : PortLines :=
  let st := s.linkState q
  let proto := s.get (poIdx q) 1
  let idle := st == 1 || st == 4 && decide (1 < proto) || st == 2 && (s.linkRun q).failed
  if st ≠ 0 ∧ !idle then .active
  else if proto ≤ 1 then .electricalIdle (st != 0)
  else if proto = 2 then .driversOff (st != 0)
  else if proto = 3 then .noSignal
  else if proto = 4 then .drivenLow
  else if st = 0 then .highImpedance else .stopState

/-- A change of a port's lines from what they were. -/
def State.showLines (s : State) (q : Nat) (old : PortLines) : State :=
  if s.portLines q = old then s else s.emit (.lines q (s.portLines q))

/-! ## Link state changes (R199, R203) -/

/-- The link of a port leaves the up states: video stops, and the timer of class A content starts. -/
def State.linkGoesDown (s : State) (q : Nat) : State :=
  let r := s.linkRun q
  let s := s.putLinkRun { r with video := [], downAt := some (r.downAt.getD s.now) }
  (((s.put (poIdx q + 1) 2 0).put (poIdx q + 1) 3 0).put (poIdx q + 1) 5 0).put (poIdx q + 1) 6 0

/-- LINK_STATE set; a change out of the up states takes the link down, and in reset the port knows no sink (R209). -/
def State.setLink (s : State) (q st : Nat) : State :=
  let was := s.portUp q
  let old := s.portLines q
  let s := s.put (poIdx q + 1) 1 st
  let s := if was ∧ st ≠ 3 ∧ st ≠ 5 then s.linkGoesDown q else s
  let s := if st = 0 then ((s.putLinkRun { s.linkRun q with sink := Sink.unknown, failed := false, attempts := 0, eff := [], hdr := [] }).put
      (poIdx q + 1) 7 0).put (poIdx q + 1) 8 0 else s
  s.showLines q old

/-- An authentication starts where HDCP_EN asks for one (R204). -/
def State.startHdcp (s : State) (q : Nat) : State :=
  let proto := s.get (poIdx q) 1
  if s.lateField q 7 = 1 ∧ (proto = 0 ∨ proto = 2) ∧ s.portUp q then (s.post 5 q).put (poIdx q + 1) 6 1 else s.put (poIdx q + 1) 6 0

/-- A link is up with its lanes and rate: video starts at the next vertical blank of the head. -/
def State.linkComesUp (s : State) (q lanes rate : Nat) (dsc : Bool) : State :=
  let r := s.linkRun q
  let s := s.putLinkRun { r with failed := false, downAt := none, idle := 0, triedAt := s.now }
  let s := ((s.setLink q 3).put (poIdx q + 1) 2 lanes).put (poIdx q + 1) 3 rate
  (s.put (poIdx q + 1) 5 (if dsc then 1 else 0)).startHdcp q

/-- An insufficient link (R199). -/
def State.linkInsufficient (s : State) (q : Nat) : State :=
  let r := s.linkRun q
  let s := (s.putLinkRun { r with failed := false, triedAt := s.now }).setLink q 4
  s.raise (poIdx q + 2) q 3 (if s.classAPort q then sevError else sevWarning) 0 [byteOf q]

/-- Whether a DP or eDP port uses DSC at a capacity (R198), and whether its streams then fit. -/
def State.linkUse (s : State) (q lanes rate : Nat) : Bool × Bool :=
  let proto := s.get (poIdx q) 1
  let c := linkCapacity proto lanes rate
  let dsc := decide (c < s.portNeed q false) && proto ≤ 1 && s.get (poIdx q) 5 == 1 && (s.linkRun q).sink.dsc
  (dsc, decide (s.portNeed q dsc ≤ c))

/-- NEED_MBPS of a port. -/
def State.showNeed (s : State) (q : Nat) (dsc : Bool) : State := s.put (poIdx q + 1) 8 (s.portNeed q dsc / 16000)

/-- What a trained or committed link of a DP, HDMI FRL, A-PHY or DSI-2 port carries decides its state (R198, R199). -/
def State.settleLink (s : State) (q lanes rate : Nat) : State :=
  let (dsc, ok) := s.linkUse q lanes rate
  let s := s.showNeed q dsc
  if ok then s.linkComesUp q lanes rate dsc else s.linkInsufficient q

/-! ## Training (R198) -/

/-- The FRL configurations of R195 as lanes and lane rate, the highest first. -/
def frlSteps : List (Nat × Nat) := [(4, 12000), (4, 10000), (4, 8000), (4, 6000), (3, 6000), (3, 3000)]

/-- The lane counts from `n` down, each half of the one before. -/
def halves (n : Nat) : List Nat := [4, 2, 1].filter (fun k => k ≤ n)

/-- The configurations a port trains at, in order. A TMDS link, which alone an HDMI sink without FRL or without a valid EDID
gets, is (3, 0). -/
def State.trainSteps (s : State) (q : Nat) : List (Nat × Nat) :=
  let proto := s.get (poIdx q) 1
  let k := (s.linkRun q).sink
  let maxRate := s.get (poIdx q) 3
  if proto ≤ 1 then
    let rates := ((laneRates 0).reverse).filter (fun r => r ≤ maxRate && r ≤ k.rate)
    ((halves (min (s.get (poIdx q) 2) k.lanes)).map (fun l => rates.map (fun r => (l, r)))).flatten.take 12
  else if proto = 2 then
    let l := frlSteps.filter (fun x => k.edid && x.2 ≤ maxRate && x.2 ≤ k.rate && x.1 ≤ k.lanes)
    if l.isEmpty then [(3, 0)] else l
  else
    let gears := (laneRates 3).filter (fun r => r ≤ maxRate)
    let fit := gears.filter (fun r => decide (s.portNeed q false ≤ linkCapacity 3 1 r))
    match fit, gears.reverse with
    | g :: _, _ => [(1, g)]
    | [], g :: _ => [(1, g)]
    | [], [] => [(1, 2000)]

/-- A training attempt starts; `n` attempts have been made. -/
def State.startAttempt (s : State) (q n : Nat) : State :=
  match (s.trainSteps q)[n]? with
  | some (l, rt) =>
    let r := s.linkRun q
    ((s.putLinkRun { r with lanes := l, rate := rt, attempts := n, failed := false, triedAt := s.now }).setLink q 2).bump (poIdx q + 3) 1
  | none =>
    let r := s.linkRun q
    let old := s.portLines q
    ((((s.putLinkRun { r with attempts := 0, failed := true, triedAt := s.now }).setLink q 2).showLines q old).bump (poIdx q + 3) 2).setFlag
      (okey 0 (poIdx q + 2) 0) 2

/-- A port brings its link up: DSI-2 and OpenLDI as committed, a port with a sink or an A-PHY transmitter by training. A port
that a swap left with a rule unmet stays insufficient (R201). -/
def State.bringUp (s : State) (q : Nat) : State :=
  let proto := s.get (poIdx q) 1
  if (s.portHeads q).isEmpty ∨ !s.portAble q then s
  else if (s.linkRun q).barred then (s.showNeed q false).linkInsufficient q
  else if proto = 5 then s.settleLink q (s.get (poIdx q) 2) (min 4500 (s.get (poIdx q) 3))
  else if proto = 4 then
    let s := s.showNeed q false
    if s.portFits s.get q then s.linkComesUp q (s.get (poIdx q) 2) 0 false else s.linkInsufficient q
  else if proto = 3 then s.startAttempt q 0
  else if (s.linkRun q).sink.known then s.startAttempt q 0
  else s.setLink q 1

/-- TRAINING_ATTEMPT_DONE: an attempt ends. -/
def execTrainingAttemptDone (t port : Nat) (ok : Bool) (s : State) : Host.Outcome State Fault Refusal :=
  at_ t s fun s =>
    let r := s.linkRun port
    if s.linkState port ≠ 2 ∨ r.failed then s
    else if !ok then s.startAttempt port (r.attempts + 1)
    else if s.get (poIdx port) 1 = 2 ∧ r.rate = 0 then
      let s := s.showNeed port false
      if s.tmdsFits port (s.tmdsTop port) then s.linkComesUp port r.lanes 0 false else s.linkInsufficient port
    else s.settleLink port r.lanes r.rate

/-- RETRAIN_TIMER: an insufficient or failed port tries again every RETRAIN_MS, and so does a failed authentication. -/
def execRetrainTimer (t port : Nat) (s : State) : Host.Outcome State Fault Refusal :=
  at_ t s fun s =>
    let r := s.linkRun port
    let ms := s.lateField port 0xC * 1000000
    if (s.linkState port = 4 ∨ s.linkState port = 2 ∧ r.failed) ∧ r.triedAt + ms ≤ s.now then s.bringUp port
    else if s.get (poIdx port + 1) 6 = 4 ∧ s.portUp port ∧ r.hdcpAt + ms ≤ s.now then (s.post 5 port).put (poIdx port + 1) 6 1
    else s

/-! ## Hot-plug (R202) -/

/-- A port with a hot-plug pin that is out of reset. -/
def State.hpdPort (s : State) (q : Nat) : Bool := decide (q < 8) && s.pdOn 15 && s.linkState q != 0

/-- HPD_PLUG: HPD has been high for 100 ms; the sink is read. -/
def execHpdPlug (t port : Nat) (s : State) : Host.Outcome State Fault Refusal :=
  at_ t s fun s =>
    if s.hpdPort port then
      ((s.put (poIdx port + 1) 7 1).bump (poIdx port + 3) 4).setFlag (okey 0 (poIdx port + 2) 0) 0
    else s

/-- An EDID base block is there and its 128 bytes sum to 0 modulo 256. -/
def edidOk (d : List Byte) : Bool := decide (128 ≤ d.length) && (bytesAt d 0 128).foldl (fun n b => n + b.toNat) 0 % 256 == 0

/-- A head's timing is among the timings a sink lists. -/
def Sink.lists (k : Sink) (h : PlanHead) : Bool :=
  k.modes.any (fun m => m.hActive == h.hActive && m.hTotal == h.hTotal && m.vActive == h.vActive && m.vTotal == h.vTotal
    && m.clockKhz == h.clockKhz)

/-- MODE_NOT_IN_EDID where a sink that is known does not list the timing of one of some heads of a port. DEDUCED, log entry 125. -/
def State.checkModes (s : State) (q : Nat) (l : List PlanHead) : State :=
  let k := (s.linkRun q).sink
  if k.known && l.any (fun h => !k.lists h) then s.raise (poIdx q + 2) q 7 sevNotice 0 [byteOf q] else s

/-- SINK_ID_READ_DONE: after a plug, capabilities and the EDID base block have been read and training starts; once the sink is
known, further blocks have been read alongside. `modes` are the timings that the blocks list. -/
def execSinkIdReadDone (t port lanes rate : Nat) (dsc : Bool) (edid : List Byte) (modes : List SinkMode) (s : State) :
    Host.Outcome State Fault Refusal :=
  at_ t s fun s =>
    let r := s.linkRun port
    if !s.hpdPort port ∨ s.get (poIdx port + 1) 7 = 0 then s
    else if r.sink.known then
      (s.putBlk (okey 0 (poIdx port + 4) 0) (((s.getBlk (okey 0 (poIdx port + 4) 0)).data ++ edid).take 32768)).putLinkRun
        { r with sink := { r.sink with modes := r.sink.modes ++ modes } }
    else
      let ok := edidOk edid
      let s := s.putBlk (okey 0 (poIdx port + 4) 0) (edid.take 32768)
      let s := if ok ∨ edid = [] then s else s.setFlag (okey 0 (poIdx port + 2) 0) 6
      let s := s.putLinkRun { r with sink := ⟨true, lanes, rate, dsc, ok, modes⟩ }
      (s.checkModes port (s.portHeads port)).bringUp port

/-- A link lost: LINK_LOST and its count. -/
def State.loseLink (s : State) (q : Nat) : State := (s.bump (poIdx q + 3) 3).setFlag (okey 0 (poIdx q + 2) 0) 4

/-- HPD_UNPLUG: HPD has been low for more than 2 ms; reading and training end. -/
def execHpdUnplug (t port : Nat) (s : State) : Host.Outcome State Fault Refusal :=
  at_ t s fun s =>
    if s.hpdPort port then
      let s := if s.portUp port then s.loseLink port else s
      let s := (s.put (poIdx port + 1) 7 0).setFlag (okey 0 (poIdx port + 2) 0) 1
      (s.putLinkRun { s.linkRun port with sink := Sink.unknown, failed := false, attempts := 0 }).setLink port 1
    else s

/-- IRQ_HPD: the sink's link status is read; a lost lock retrains. -/
def execIrqHpd (t port : Nat) (lost : Bool) (s : State) : Host.Outcome State Fault Refusal :=
  at_ t s fun s =>
    if s.hpdPort port ∧ s.get (poIdx port + 1) 7 = 1 then
      let s := s.bump (poIdx port + 3) 5
      if lost ∧ (s.linkRun port).sink.known then
        (if s.portUp port then s.loseLink port else s).startAttempt port 0
      else s
    else s

/-! ## Link loss (R203) -/

/-- LINK_LOST: the link of a port goes down; it is brought up again. -/
def execLinkLost (t port : Nat) (s : State) : Host.Outcome State Fault Refusal :=
  at_ t s fun s => if s.portUp port then ((s.loseLink port).setLink port 2).bringUp port else s

/-- The SAFE_OK hold of the link reactions. -/
def State.linkHold (s : State) : State :=
  s.hold 2 (s.links.ports.any (fun (r : LinkRun) => r.reacting && bit (s.lateField r.port 0xB) 0))

/-- LINK_GRACE_EXPIRED: the link of class A content has been down for longer than LINK_GRACE_MS. -/
def execLinkGraceExpired (t port : Nat) (s : State) : Host.Outcome State Fault Refusal :=
  at_ t s fun s =>
    let r := s.linkRun port
    let re := s.lateField port 0xB
    let due := r.downAt.elim false (fun a => decide (a + s.lateField port 0xD * 1000000 < s.now))
    if s.classAPort port ∧ !s.portUp port ∧ due ∧ !r.reacting then
      let s := s.putLinkRun { r with reacting := true }
      let s := s.raise (poIdx port + 2) port 4 (if bit re 2 then sevCritical else sevError) 0 [byteOf port]
      let s := if bit re 1 then s.sendNotice 2 ((s.portHeads port).headD ⟨0, 0, 0, 0, 0, 0, 0, 0, 0, 0, 0, 0, 0, 0, 0, 0, 0, 0, 0, 0, 0⟩).head port false else s
      s.linkHold
    else s

/-- The fields of PortConfig that apply from a vertical-blank start are taken (R201); a change of HDCP_EN starts or ends an
authentication. -/
def State.takeLate (s : State) (q : Nat) : State :=
  let was := s.lateField q 7
  let s := s.putLinkRun { s.linkRun q with eff := lateFields.map (fun k => s.get (poIdx q) k),
                                           hdr := (s.getLive (okey 0 (poIdx q + 5) 0)).data }
  (if s.lateField q 7 ≠ was ∧ s.portUp q then s.startHdcp q else s).linkHold

/-- What a port sends its sink in the vertical blank of a head whose video it carries (R195, R200). DEDUCED, log entry 125. -/
def State.sendInfo (s : State) (q : Nat) (h : PlanHead) : State :=
  let proto := s.get (poIdx q) 1
  let s := if bit h.flags 1 ∧ proto ≤ 1 then s.emit (.adaptiveSync q h.head (s.vtotal h)) else s
  if s.lateField q 0xA ≠ 0 ∧ (proto = 0 ∨ proto = 2) then s.emit (.hdrInfo q (s.lateField q 0xA) (s.linkRun q).hdr) else s

/-- Self-refresh of an eDP port follows the flips of its head (R200). -/
def State.selfRefresh (s : State) (q : Nat) (h : PlanHead) : State :=
  let flips := s.plan.active.elim 0 (fun p => s.get (0x4100 + (p.ownerHead h).head) 7)
  let idle := if flips = 0 then (s.linkRun q).idle + 1 else 0
  let psr := s.get (poIdx q) 1 == 1 && s.lateField q 8 == 1 && decide (s.lateField q 0xE ≤ idle)
  let s := s.putLinkRun { s.linkRun q with idle := idle }
  let s := if s.linkState q = 5 ∧ !psr then s.emit (.psrExit q) else s
  s.setLink q (if psr then 5 else 3)

/-- What a vertical-blank start of a head does to its port (R200, R201, R203, R209): a port leaves reset; fields that wait for
it are taken; video starts on a link that is up; the timer of class A content starts at the head's first frame;
self-refresh is entered and left; and a link reaction ends when the link has been up for one whole frame of the head. -/
def State.portVblank (s : State) (h : PlanHead) (firstFrame : Bool) : State :=
  let q := h.port % 256
  if h.port = 0xFFFF then s
  else
    let s := if firstFrame ∧ !s.portUp q then s.putLinkRun { s.linkRun q with downAt := some s.now } else s
    if !s.portAble q then s
    else
      let s := s.takeLate q
      let s := if s.linkState q = 0 then (if q < 8 then s.setLink q 1 else s).bringUp q else s
      if !s.portUp q then s
      else
        let r := s.linkRun q
        if !r.video.contains h.head then (s.putLinkRun { r with video := h.head :: r.video }).sendInfo q h
        else
          let s := (s.selfRefresh q h).sendInfo q h
          if r.reacting then
            let s := s.putLinkRun { s.linkRun q with reacting := false }
            (if bit (s.lateField q 0xB) 1 then s.sendNotice 2 h.head q true else s).linkHold
          else s

/-! ## HDCP (R204) -/

/-- HDCP_AUTH_DONE: an authentication ends; without Markhor it fails. `type1` tells the content type. -/
def execHdcpAuthDone (t port : Nat) (ok type1 : Bool) (s : State) : Host.Outcome State Fault Refusal :=
  at_ t s fun s =>
    if s.get (poIdx port + 1) 6 ≠ 1 ∨ s.markhorUp ∧ s.inSlot 5 port = false then s
    else if ok && s.markhorUp then (s.unpost 5 port).put (poIdx port + 1) 6 (if type1 then 3 else 2)
    else (((s.unpost 5 port).putLinkRun { s.linkRun port with hdcpAt := s.now }).put (poIdx port + 1) 6 4).setFlag (okey 0 (poIdx port + 2) 0) 5

/-! ## Video inputs (R166, R205 to R208) -/

def State.ring (s : State) (i : Nat) : VideoRing :=
  (s.comp.rings.find? (fun (r : VideoRing) => r.input == i)).getD ⟨i, List.replicate 4 ⟨0, false, false, 0, 0, 0, 0, [], 0⟩⟩

def State.putRing (s : State) (r : VideoRing) : State :=
  { s with comp := { s.comp with rings := r :: s.comp.rings.filter (fun (x : VideoRing) => x.input != r.input) } }

def State.inputRun (s : State) (i : Nat) : InputRun :=
  (s.links.inputs.find? (fun (r : InputRun) => r.input == i)).getD ⟨i, 0, []⟩

def State.putInputRun (s : State) (r : InputRun) : State :=
  { s with links := { s.links with inputs := r :: s.links.inputs.filter (fun (x : InputRun) => x.input != r.input) } }

/-- The entry a new capture takes: a free one, else the oldest complete one that is not latched. -/
def VideoRing.pick (r : VideoRing) : Option Nat :=
  let l := (r.entries.zipIdx.filter (fun (x : RingEntry × Nat) => x.1.st != 1 && !x.1.held))
  match l.find? (fun (x : RingEntry × Nat) => x.1.st == 0) with
  | some x => some x.2
  | none => (l.foldl (fun (b : Option (RingEntry × Nat)) x => match b with
      | none => some x
      | some y => if x.1.order < y.1.order then some x else some y) none).map (fun x => x.2)

/-- A frame that was being captured and is discarded: its entry is free again. -/
def State.discardFrame (s : State) (i flag : Nat) : State :=
  let r := s.ring i
  let s := s.putRing { r with entries := r.entries.map (fun (e : RingEntry) => if e.st = 1 then { e with st := 0 } else e) }
  (s.bump (viIdx i + 3) 3).setFlag (okey 0 (viIdx i + 2) 0) flag

/-- An input that captures: enabled, in a powered domain, and not failed. -/
def State.inputOn (s : State) (i : Nat) : Bool := s.get (viIdx i) 1 == 1 && s.pdOn 15 && !s.portFailed (22 + i)

/-- VIDEO_FRAME_START: a capture begins. A frame still being captured has too few lines. -/
def execVideoFrameStart (t input : Nat) (s : State) : Host.Outcome State Fault Refusal :=
  clocked t 7 s fun s =>
    if !s.inputOn input then s
    else
      let s := if (s.ring input).entries.any (fun e => e.st == 1) then s.discardFrame input 1 else s
      let s := s.endFlagPeriods .perFrame (fun k => keyIdx k == viIdx input + 2)
      let r := s.ring input
      match r.pick with
      | none => s
      | some k =>
        let e := nth ⟨0, false, false, 0, 0, 0, 0, [], 0⟩ r.entries k
        let s := if e.st = 2 ∧ !e.seen then (s.bump (viIdx input + 3) 2).setFlag (okey 0 0x4041 0) 3 else s
        let s := s.putRing { r with entries := setNth e r.entries k ⟨1, false, false, s.now, 0, 0, 0, [], e.order⟩ }
        let q := s.inputRun input
        let starts := s.now :: q.starts.filter (fun a => decide (s.now < a + 1000000000))
        let s := s.putInputRun { q with starts := starts }
        let s := (s.put (viIdx input + 1) 2 s.now).put (viIdx input + 1) 3 (min 240000 (starts.length * 1000))
        if s.get (viIdx input + 1) 1 = 1 then s.put (viIdx input + 1) 1 2 else s

/-- The layer format that a data type is written as (R205). -/
def captureFormat (dt : Nat) : Nat := if dt = 0x24 then 1 else if dt = 0x22 then 3 else if dt = 0x2B then 4 else 0x30

/-- Alpha of a captured pixel: 255 for RGB, 3 for RGB 10. -/
def captureAlpha (dt : Nat) (data : List Byte) : List Byte :=
  if dt = 0x24 then data.zipIdx.map (fun (x : Byte × Nat) => if x.2 % 4 = 3 then 255 else x.1)
  else if dt = 0x2B then data.zipIdx.map (fun (x : Byte × Nat) => if x.2 % 4 = 3 then x.1 ||| 0xC0 else x.1)
  else data

/-- The tiles of a captured frame, given as LINEAR pixels: COMPRESSED under R155, or TILED for YUY2 (R205). Bytes of a tile
outside the frame are zero. -/
def captureTiles (f w h : Nat) (data : List Byte) : List (Nat × List Byte) :=
  let px := rowPxBytes f
  (List.range (tileCols w * tileRows h)).map (fun t =>
    let x := t % max 1 (tileCols w) * 64
    let y := t / max 1 (tileCols w) * 32
    let row := fun j => if h ≤ y + j then List.replicate (64 * px) 0
      else
        let n := min 64 (w - x) * px
        bytesAt data ((y + j) * linearPitch f w + x * px) n ++ List.replicate (64 * px - n) 0
    let raw := ((List.range 32).map row).flatten
    if 0x30 ≤ f then (0, raw) else encodeRaw f raw)

/-- VIDEO_FRAME_END: a captured frame ends with its width, lines, data identifier, whether it met an error, and its pixels in
the LINEAR layout of the layer format. The identifier holds the data type in bits 5 to 0 and on A-PHY the virtual channel
above; frames of another channel are ignored (R205). -/
def execVideoFrameEnd (t input w h ident : Nat) (err : Bool) (data : List Byte) (s : State) : Host.Outcome State Fault Refusal :=
  clocked t 7 s fun s =>
    let r := s.ring input
    let dt := ident % 64
    if !s.inputOn input ∨ !r.entries.any (fun e => e.st == 1) then s
    else if input < 8 ∧ ident / 64 ≠ s.get (viIdx input) 2 then s
    else if err then (s.bump (viIdx input + 3) 4).discardFrame input 2
    else if dt ≠ s.get (viIdx input) 3 then s.discardFrame input 3
    else if w ≠ s.get (viIdx input) 4 ∨ h ≠ s.get (viIdx input) 5 then s.discardFrame input 1
    else
      let next := r.entries.foldl (fun m (e : RingEntry) => max m e.order) 0 + 1
      let s := s.putRing { r with entries := r.entries.map (fun (e : RingEntry) => if e.st = 1 then
        { e with st := 2, w := w, h := h, format := captureFormat dt, tiles := captureTiles (captureFormat dt) w h (captureAlpha dt data),
                  order := next } else e) }
      ((s.bump (viIdx input + 3) 1).putInputRun { s.inputRun input with lastAt := s.now }).put (viIdx input + 1) 1 3

/-- VIDEO_INPUT_TIMEOUT: no complete frame for TIMEOUT_MS. -/
def execVideoInputTimeout (t input : Nat) (s : State) : Host.Outcome State Fault Refusal :=
  at_ t s fun s =>
    let st := s.get (viIdx input + 1) 1
    if s.inputOn input ∧ st ≠ 0 ∧ st ≠ 4 ∧ (s.inputRun input).lastAt + s.get (viIdx input) 6 * 1000000 ≤ s.now then
      ((s.put (viIdx input + 1) 1 4).bump (viIdx input + 3) 5).raise (viIdx input + 2) input 0 sevWarning 0 [byteOf input]
    else s

/-- Rule 0x0805 for one layer: its input, if enabled, captures its size and data type. -/
def inputMatches (get : Nat → Nat → Nat) (l : PlanLayer) : Bool :=
  let i := viIdx l.sourceRef
  get i 1 != 1 || get i 4 == l.srcXMax + l.width && get i 5 == l.srcYMax + l.height
    && (captureFormat (get i 3) == l.format || decide (0x30 ≤ captureFormat (get i 3)) && decide (0x30 ≤ l.format))

/-- A layer adopts an entry of its input's ring: its state and the records that follow each adoption (R168). -/
def State.adoptEntry (s : State) (l : PlanLayer) (k : Nat) (e : RingEntry) : State :=
  let s := s.putLayerSt { s.layerSt l.slot with src := .ring l.sourceRef k, whole := true }
  let s := (s.put (0x4400 + l.slot) 0x10 e.time).put (0x4400 + l.slot) 0xF s.epoch
  { s with integ := { s.integ with latched := l.slot :: s.integ.latched.filter (fun n => n != l.slot) } }

/-- At an epoch the newest complete entry of each input is latched for its layers (R165, R166), but for a layer that a swap left
without a match (R208). -/
def State.adoptRing (s : State) (l : PlanLayer) : State :=
  let i := l.sourceRef
  if s.links.mismatched.contains l.slot then s
  else
    let r := s.ring i
    let best := (r.entries.zipIdx.filter (fun (e : RingEntry × Nat) => e.1.st == 2)).foldl (fun (b : Option (RingEntry × Nat)) e => match b with
      | none => some e
      | some y => if y.1.order < e.1.order then some e else some y) none
    match best with
    | none => s
    | some (e, k) =>
      if e.held then (if (s.layerSt l.slot).src = .ring i k then s else s.adoptEntry l k e)
      else
        (s.putRing { r with entries := r.entries.zipIdx.map (fun (y : RingEntry × Nat) =>
          { y.1 with held := y.2 == k, seen := y.1.seen || y.2 == k }) }).adoptEntry l k e

/-- All video layers at an epoch. -/
def State.adoptRings (s : State) : State := foldS (fun s l => s.adoptRing l) s (s.layers.filter (fun l => l.kind == 1))

/-- At a swap a layer of the new plan that its input does not match has no latched source, with FORMAT_MISMATCH of the input
(R208). -/
def State.flagInputs (s : State) (p : Plan) : State :=
  let bad := p.layers.filter (fun l => l.kind == 1 && !inputMatches s.get l)
  let s := { s with links := { s.links with mismatched := bad.map (fun l => l.slot) } }
  foldS (fun s (l : PlanLayer) => (s.putLayerSt { s.layerSt l.slot with src := .none, whole := true }).setFlag
    (okey 0 (viIdx l.sourceRef + 2) 0) 3) s bad

/-- Layers whose inputs a commit has made match (R208). -/
def State.matchInputs (s : State) : State :=
  { s with links := { s.links with mismatched := s.links.mismatched.filter (fun n => (s.layer n).elim false (fun l => !inputMatches s.get l)) } }

/-- Ports whose rules a commit has made hold work again (R201). -/
def State.liftBars (s : State) : State :=
  foldS (fun s q => if (s.linkRun q).barred ∧ s.portRules q then (s.putLinkRun { s.linkRun q with barred := false }).bringUp q else s) s
    ((List.range 22).filter s.cfg.hasPort)

/-- An input starts: no signal yet, its time-out running, and the hot-plug pin of a DP receiver high (R206, R207). -/
def State.inputStart (s : State) (i : Nat) : State :=
  let s := if 8 ≤ i then s.emit (.pin (.rxHpd i) 1) else s
  (s.putInputRun ⟨i, s.now, []⟩).put (viIdx i + 1) 1 1

/-- An input stops. -/
def State.inputStop (s : State) (i : Nat) : State :=
  let s := if 8 ≤ i then s.emit (.pin (.rxHpd i) 0) else s
  (s.putInputRun ⟨i, s.now, []⟩).put (viIdx i + 1) 1 0

/-- What a CG_IO commit does to ports and inputs (R201, R204, R207); `old` is the state before it. -/
def State.linkCommit (s old : State) : State :=
  let s := foldS (fun s q =>
    let i := poIdx q
    let s := s.put (i + 1) 4 (carriedBy s.get q)
    if s.linkState q ≠ 0 ∧ [1, 2, 3, 4, 5, 6, 9].any (fun k => s.get i k != old.get i k) then (s.setLink q (if q < 8 then 1 else 2)).bringUp q
    else s) s ((List.range 22).filter s.cfg.hasPort)
  let s := foldS (fun s i =>
    if s.get (viIdx i) 1 = old.get (viIdx i) 1 then s
    else
      let r := s.ring i
      let s := s.putRing { r with entries := r.entries.map (fun (e : RingEntry) => if e.held then e else { e with st := 0 }) }
      if s.inputOn i then s.inputStart i else s.inputStop i) s (List.range 10)
  s.matchInputs.liftBars

/-- PD15 starts to work: BPC_CARRIED follows the configuration, and enabled inputs start (R196, R206, R207). -/
def State.linkStart (s : State) : State :=
  let s := foldS (fun s q => s.put (poIdx q + 1) 4 (carriedBy s.get q)) s ((List.range 22).filter s.cfg.hasPort)
  foldS (fun s i => if s.inputOn i then s.inputStart i else s) s ((List.range 10).filter (fun i => s.cfg.hasInst 0x5A00 i))

/-- A link that is up is judged again by what it can do for the streams of a new plan (R199). -/
def State.judgeLink (s : State) (q : Nat) : State :=
  let proto := s.get (poIdx q) 1
  let lanes := s.get (poIdx q + 1) 2
  let rate := s.get (poIdx q + 1) 3
  if proto = 3 then
    (if (s.trainSteps q)[0]? = some (1, rate) then (if (s.linkUse q 1 rate).2 then s.showNeed q false else s.linkInsufficient q)
     else (s.setLink q 2).bringUp q)
  else if proto = 4 then (if s.portFits s.get q then s.showNeed q false else s.linkInsufficient q)
  else if proto = 2 ∧ rate = 0 then (if s.tmdsFits q (s.tmdsTop q) then s.showNeed q false else s.linkInsufficient q)
  else
    let (dsc, ok) := s.linkUse q lanes rate
    let s := s.showNeed q dsc
    if ok then s.put (poIdx q + 1) 5 (if dsc then 1 else 0) else s.linkInsufficient q

/-- A swap (R201, R202, R209): ports of heads that the new plan does not have are in reset; a port whose rules the plan leaves
unmet is insufficient until a commit; links that are up are judged anew; a sink that does not list the timing of a head that
starts is reported; and a head that restarts starts its timer at its first frame. -/
def State.linkSwap (s : State) : State :=
  foldS (fun s q =>
    if (s.portHeads q).isEmpty then
      (s.setLink q 0).putLinkRun { s.linkRun q with downAt := none, reacting := false, barred := false }
    else
      let ok := s.portRules q
      let s := s.putLinkRun { s.linkRun q with barred := !ok }
      let s := s.checkModes q ((s.portHeads q).filter (fun h => (s.headRun h.head).elim false (fun r => r.first)))
      let s := s.putLinkRun { s.linkRun q with video := (s.linkRun q).video.filter (fun n => (s.headRun n).elim false (fun r => !r.first)) }
      if s.linkState q = 0 then s
      else if !ok then (s.showNeed q false).linkInsufficient q
      else if s.portUp q then s.judgeLink q
      else s) s ((List.range 22).filter s.cfg.hasPort) |>.linkHold

/-- Reset of PD15: every port in reset, inputs off, counters zero (R209, R210). What the grace timers of class A content count
goes on (R203). -/
def State.linkReset (s : State) : State :=
  let s := foldS (fun s q =>
    let s := (s.setLink q 0).putBlk (okey 0 (poIdx q + 4) 0) []
    foldS (fun s k => s.put (poIdx q + 3) k 0) s [1, 2, 3, 4, 5]) s ((List.range 22).filter s.cfg.hasPort)
  let s := foldS (fun s i =>
    let s := if s.get (viIdx i + 1) 1 ≠ 0 then s.inputStop i else s
    foldS (fun s k => s.put (viIdx i + 3) k 0) (((s.put (viIdx i + 1) 1 0).put (viIdx i + 1) 2 0).put (viIdx i + 1) 3 0) [1, 2, 3, 4, 5]) s (List.range 10)
  { s with links := { s.links with inputs := [] } }

end Sys2Proof.Machine
end

