-- ==== Sys2Proof/Machine/LowSpeed.lean ====
section
/-!
DEFINITION. Low-speed interfaces and pins (chapter 20): GPIO, I²C with bus recovery, SPI, UART, CAN and Ethernet.
-/
namespace Sys2Proof.Machine

/-! ## GPIO (R458 to R460, R289) -/

/-- GpioBank of pin `n`, and its GpioPin record. -/
def bankIdx (n : Nat) : Nat := 0x9500 + n / 16
def pinIdx (n : Nat) : Nat := 0x9600 + n

def i2cIdx (b : Nat) : Nat := 0x9410 + b * 2
def spiIdx (u : Nat) : Nat := 0x9440 + u * 2
def uartIdx (u : Nat) : Nat := 0x9460 + u * 2

/-- The configuration record of the controller whose alternate function a pin has, if any. -/
def pinController (n : Nat) : Option Nat :=
  if n < 32 then some (i2cIdx (n / 2))
  else if n < 52 then some (spiIdx ((n - 32) / 5))
  else if n < 68 then some (uartIdx ((n - 52) / 4))
  else if n < 76 then some (canIdx ((n - 68) / 2))
  else none

/-- An enabled controller has the pin. -/
def State.pinTaken (s : State) (n : Nat) : Bool := (pinController n).elim false (fun i => s.get i 1 == 1)

/-- The bank of a pin has its supply, and the block that works it runs. -/
def State.bankOk (s : State) (n : Nat) : Bool := s.get (bankIdx n) 4 == 0 && s.pdOn 18 && s.edgeUp

/-- A reset pulse of an I²C recovery is on the pin. -/
def State.pinPulsed (s : State) (n : Nat) : Bool :=
  s.low.i2c.any (fun (r : I2cRun) => r.pulse && s.get (i2cIdx r.bus) 5 == n)

/-- What the GPIO block drives at a pin (R459): nothing where the bank has no supply, a controller has the pin, or it is an input;
low in a reset pulse; OUT from a push-pull output, and its low level alone from an open-drain one. -/
def State.pinDrive (s : State) (n : Nat) : Option Bool :=
  let out := bit (s.get (bankIdx n) 1) (n % 16)
  if !s.bankOk n || s.pinTaken n then none
  else if s.pinPulsed n then some false
  else match s.get (pinIdx n) 1 with
    | 2 => some out
    | 3 => if out then none else some false
    | _ => none

/-- A pin as the GPIO block leaves it: what it drives, the strength, and the pull; no pull while the block is in reset. -/
def State.pad (s : State) (n : Nat) : Out :=
  .gpio n (s.pinDrive n) (s.get (pinIdx n) 2) (if s.pdOn 18 && s.edgeUp then s.get (pinIdx n) 3 else 0)

/-- Pins that change their state, `old` being the state before. -/
def State.syncPads (s old : State) (pins : List Nat) : State :=
  foldS (fun s n => if s.pad n = old.pad n then s else s.emit (s.pad n)) s pins

def bankPins (k : Nat) : List Nat := (List.range 16).map (fun i => 16 * k + i)
def allPins : List Nat := List.range 128

/-- Bits of a bank's pins that an initiator owns. -/
def State.ownedMask (s : State) (ini : Ini) (k : Nat) : Nat :=
  (List.range 16).foldl (fun m i => if s.ownsPin ini (16 * k + i) then m + 2 ^ i else m) 0

/-- A write of OUT stored: bits of pins the writer does not own are unchanged, and the pins follow. `old` is OUT before
the write. -/
def State.outWritten (s : State) (ini : Ini) (k old v : Nat) : State :=
  let m := s.ownedMask ini k
  let v := (v &&& m) ||| (old - (old &&& m))
  (s.put (0x9500 + k) 1 v).syncPads (s.put (0x9500 + k) 1 old) (bankPins k)

/-- GPIO_OUT_WRITE: a write of a bank's OUT through a window of R38. -/
def execGpioOutWrite (t : Nat) (ini : Ini) (bank win : Nat) (v : Word) (s : State) : Host.Outcome State Fault Refusal :=
  at_ t s fun s => s.when (bank < 8) fun s =>
    let old := s.get (0x9500 + bank) 1
    (s.write ⟨ini, win, 0x9500 + bank, 1, v⟩ noOwn (fun s v => s.outWritten ini bank old v)).1

/-- IN of a bank follows the levels of its pins: 0 for a pin whose buffer is off or whose bank has no supply. -/
def State.syncIn (s : State) (k : Nat) : State :=
  s.put (0x9500 + k) 2 ((List.range 16).foldl (fun m i =>
    let n := 16 * k + i
    if s.low.high.contains n && s.get (pinIdx n) 1 != 0 && s.bankOk n then m + 2 ^ i else m) 0)

/-- Interrupt line `n` delivered to the owner that IrqAttr names (R289): bit 4 for the secure world. -/
def State.irq (s : State) (n : Nat) : State := s.emit (.irqLine n (numAt (s.getLive (okey 0 0x2062 0)).data n 1 % 32))

/-- A pin's level after its debounce; its interrupt line follows the edges IRQ_EDGE sets. -/
def State.inputEdge (s : State) (pin : Nat) (level : Bool) : State :=
  let rest := s.low.high.filter (fun n => n != pin)
  let s := ({ s with low := { s.low with high := if level then pin :: rest else rest } } : State).syncIn (pin / 16)
  let irqOn := bit (s.get (pinIdx pin) 5) (if level then 0 else 1)
  s.when (s.get (pinIdx pin) 1 != 0 && s.bankOk pin && irqOn) (fun s => s.irq (384 + pin))

/-- GPIO_INPUT_EDGE: nothing where the pin has the level already. -/
def execGpioInputEdge (t pin : Nat) (level : Bool) (s : State) : Host.Outcome State Fault Refusal :=
  edged t s fun s =>
    s.when (decide (pin < 128) && s.low.high.contains pin != level) (fun s => s.inputEdge pin level)

/-! ## I²C (R461, R462) -/

def State.i2cRun (s : State) (b : Nat) : I2cRun :=
  (s.low.i2c.find? (fun (r : I2cRun) => r.bus == b)).getD ⟨b, 0, false, false, false⟩

def State.putI2c (s : State) (r : I2cRun) : State :=
  { s with low := { s.low with i2c := r :: s.low.i2c.filter (fun (x : I2cRun) => x.bus != r.bus) } }

/-- STATE of an I²C controller set: 0 off, 1 idle, 2 busy, 3 stuck. -/
def State.i2cState (s : State) (b st : Nat) : State := s.put (i2cIdx b + 1) 8 st

/-- A transfer ends with a code. -/
def State.i2cEnd (s : State) (b code : Nat) : State :=
  ((s.putI2c { s.i2cRun b with phase := 0 }).put (i2cIdx b + 1) 9 code).i2cState b 1

/-- Recovery begins; it waits while the bank of the bus has no supply. -/
def State.startRecovery (s : State) (b : Nat) : State :=
  if s.bankOk (2 * b) then (s.putI2c ⟨b, 2, false, false, false⟩).i2cState b 2
  else (s.putI2c ⟨b, 0, false, false, true⟩).i2cState b 2

/-- The refusal of GO (R461, R462). -/
def State.i2cRefusal (s : State) (b : Nat) : Option Nat :=
  let st := s.get (i2cIdx b + 1) 8
  if st = 2 then some codeControllerBusy else if st = 3 then some codeBusStuck else none

/-- GO taken: the transfer's bytes are sent. A controller that is off starts nothing. -/
def State.i2cStart (s : State) (b : Nat) : State :=
  if s.get (i2cIdx b + 1) 8 ≠ 1 then s
  else
    let x := i2cIdx b + 1
    let a := s.get x 1
    let w := s.get x 2
    let s := (s.putI2c ⟨b, 1, false, false, false⟩).i2cState b 2
    let s := if w = 0 then s else s.emit (.bus 0 b [s.get (i2cIdx b) 3] (byteOf (2 * a) :: bytesAt (s.getBlk (okey 0 x 4)).data 0 w))
    if s.get x 3 = 0 then s else s.emit (.bus 0 b [s.get (i2cIdx b) 3] [byteOf (2 * a + 1)])

/-- I2C_GO: a write of the object. -/
def execI2cGo (t : Nat) (ini : Ini) (bus : Nat) (v : Word) (s : State) : Host.Outcome State Fault Refusal :=
  at_ t s fun s => s.when (bus < 16) fun s => s.writeAt ini (i2cIdx bus + 1) 5 v (fun s _ => s.i2cRefusal bus) (fun s _ => s.i2cStart bus)

/-- I2C_TRANSFER_DONE: a transfer ends: `code` 0 success with the bytes read, 1 not acknowledged, 2 arbitration lost. -/
def execI2cTransferDone (t bus code : Nat) (data : List Byte) (s : State) : Host.Outcome State Fault Refusal :=
  edged t s fun s =>
    if (s.i2cRun bus).phase ≠ 1 then s
    else
      let n := s.get (i2cIdx bus + 1) 3
      let s := if code = 0 ∧ n ≠ 0 then s.putBlk (okey 0 (i2cIdx bus + 1) 7) (bytesAt (data.take n) 0 32) else s
      s.i2cEnd bus (if code = 0 then 0 else if code = 1 then codeAddressNack else codeArbLost)

/-- BUS_TIMEOUT: a line has been held low for longer than TIMEOUT_MS. -/
def execBusTimeout (t bus : Nat) (s : State) : Host.Outcome State Fault Refusal :=
  edged t s fun s => if (s.i2cRun bus).phase = 1 then (s.i2cEnd bus codeBusTimeout).startRecovery bus else s

/-- A recovery asked for: on an idle or stuck bus it begins; a running transfer ends with ABORTED first. -/
def State.recoverBus (s : State) (b : Nat) : State := s.when s.edgeUp fun s =>
  let st := s.get (i2cIdx b + 1) 8
  let r := s.i2cRun b
  if st = 0 ∨ r.phase = 2 ∨ r.waits then s
  else (if r.phase = 1 then s.i2cEnd b codeAborted else s).startRecovery b

/-- RECOVER: a write of the object. -/
def execRecover (t : Nat) (ini : Ini) (bus : Nat) (v : Word) (s : State) : Host.Outcome State Fault Refusal :=
  at_ t s fun s => s.when (bus < 16) fun s => s.writeAt ini (i2cIdx bus + 1) 6 v noOwn (fun s _ => s.recoverBus bus)

/-- I2C_RECOVERY_DONE: a pass of steps 1 to 3 ends. `scl` tells that SCL was high after 10 µs, `pulses` after how many
SCL pulses SDA was first sampled high, more than 9 if never. A failed pass gives the reset pulse once; the second
failure leaves the bus stuck. -/
def execI2cRecoveryDone (t bus : Nat) (scl : Bool) (pulses : Nat) (s : State) : Host.Outcome State Fault Refusal :=
  edged t s fun s =>
    let r := s.i2cRun bus
    if r.phase ≠ 2 then s
    else
      let x := i2cIdx bus + 1
      let pin := s.get (i2cIdx bus) 5
      let ended := fun (s : State) => (s.putI2c ⟨bus, 0, false, false, false⟩).syncPads s [pin]
      if scl && pulses = 0 then (ended s).i2cState bus 1
      else if scl && pulses ≤ 9 then (((ended s).bump x 0xA).raise 0x9401 bus 1 sevNotice 0 [byteOf bus]).i2cState bus 1
      else if pin ≠ 0xFF ∧ !r.tried then
        (s.putI2c { r with tried := true, pulse := true }).syncPads s [pin]
      else (((ended s).bump x 0xB).raise 0x9401 bus 0 sevError 0 [byteOf bus, if scl then 1 else 0]).i2cState bus 3

/-- BANK_UNDERVOLTAGE: outputs of the bank are high-impedance and its inputs read 0; its I²C transfers end with
BUS_TIMEOUT, and recovery runs once it resumes (R459, R471). -/
def execBankUndervoltage (t bank mv : Nat) (s : State) : Host.Outcome State Fault Refusal :=
  edged t s fun s =>
    if 8 ≤ bank then s
    else if s.get (0x9500 + bank) 4 = 1 ∨ 1620 ≤ mv then s.put (0x9500 + bank) 3 (min 3700 mv)
    else
      let old := s
      let s := ((s.put (0x9500 + bank) 4 1).put (0x9500 + bank) 3 mv).raise 0x9401 bank 6 sevWarning 0 [byteOf bank]
      let s := (s.syncIn bank).syncPads old (bankPins bank)
      foldS (fun s b =>
        let r := s.i2cRun b
        if 2 * b / 16 ≠ bank then s
        else if r.phase = 1 then (s.i2cEnd b codeBusTimeout).startRecovery b
        else if r.phase = 2 then s.startRecovery b
        else s) s (List.range 16)

/-- BANK_RESUME: 1 ms after the supply has returned above 1.65 V. -/
def execBankResume (t bank mv : Nat) (s : State) : Host.Outcome State Fault Refusal :=
  edged t s fun s =>
    if 8 ≤ bank then s
    else if s.get (0x9500 + bank) 4 = 0 ∨ mv ≤ 1650 then s.put (0x9500 + bank) 3 (min 3700 mv)
    else
      let old := s
      let s := ((s.put (0x9500 + bank) 4 0).put (0x9500 + bank) 3 (min 3700 mv)).syncIn bank
      let s := s.syncPads old (bankPins bank)
      foldS (fun s b => if 2 * b / 16 = bank ∧ (s.i2cRun b).waits then s.startRecovery b else s) s (List.range 16)

/-! ## SPI and UART (R463, R465) -/

def busyRefusal (b : Bool) : Option Nat := if b then some codeControllerBusy else none

/-- The n of an SPI clock of 100 MHz / n that is not above CLK_KHZ (R463). -/
def spiDivider (khz : Nat) : Nat := (100000 + khz - 1) / max 1 khz

/-- GO of an SPI controller: TX_LEN bytes are sent. A controller that is not enabled starts nothing. -/
def State.spiStart (s : State) (u : Nat) : State := s.when (s.edgeUp && s.pdOn 18) fun s =>
  if s.get (spiIdx u) 1 = 0 then s
  else
    let x := spiIdx u + 1
    ({ s with low := { s.low with spi := u :: s.low.spi } }).emit (.bus 1 u [s.get x 1, s.get (spiIdx u) 3, spiDivider (s.get (spiIdx u) 4)] (bytesAt (s.getBlk (okey 0 x 4)).data 0 (s.get x 2)))

/-- SPI_GO: a write of the object. -/
def execSpiGo (t : Nat) (ini : Ini) (unit : Nat) (v : Word) (s : State) : Host.Outcome State Fault Refusal :=
  at_ t s fun s => s.when (unit < 4) fun s => s.writeAt ini (spiIdx unit + 1) 3 v (fun s _ => busyRefusal (s.low.spi.contains unit)) (fun s _ => s.spiStart unit)

/-- SPI_TRANSFER_DONE: a transfer completes with the bytes read. -/
def execSpiTransferDone (t unit : Nat) (data : List Byte) (s : State) : Host.Outcome State Fault Refusal :=
  edged t s fun s =>
    if s.low.spi.contains unit then
      let x := spiIdx unit + 1
      let s := { s with low := { s.low with spi := s.low.spi.filter (fun u => u != unit) } }
      (s.putBlk (okey 0 x 5) (bytesAt (data.take (s.get x 2)) 0 64)).put x 6 0
    else s

/-- TX_LEN written: its bytes of TXDATA are sent. -/
def State.uartSend (s : State) (u n : Nat) : State := s.when (s.edgeUp && s.pdOn 18) fun s =>
  if s.get (uartIdx u) 1 = 0 then s
  else
    ({ s with low := { s.low with uart := u :: s.low.uart } }).emit (.bus 2 u
      ([3, 4, 5, 6, 7].map (s.get (uartIdx u))) (bytesAt (s.getBlk (okey 0 (uartIdx u + 1) 1)).data 0 n))

/-- TX_LEN: a write of the object. -/
def execTxLen (t : Nat) (ini : Ini) (uart : Nat) (v : Word) (s : State) : Host.Outcome State Fault Refusal :=
  at_ t s fun s => s.when (uart < 4) fun s => s.writeAt ini (uartIdx uart + 1) 2 v (fun s _ => busyRefusal (s.low.uart.contains uart)) (fun s v => s.uartSend uart v)

/-- UART_TX_COMPLETE: the last byte has left; no bytes are unsent. -/
def execUartTxComplete (t uart : Nat) (s : State) : Host.Outcome State Fault Refusal :=
  edged t s fun s => { s with low := { s.low with uart := s.low.uart.filter (fun u => u != uart) } }

/-- The receive buffer of a UART. -/
def rxKey (u : Nat) : Nat := okey 0 (uartIdx u + 1) 3

/-- UART_BYTE_RX: a received byte enters the buffer; `err` tells a parity or framing error. -/
def execUartByteRx (t uart : Nat) (b : Byte) (err : Bool) (s : State) : Host.Outcome State Fault Refusal :=
  edged t s fun s =>
    if 4 ≤ uart ∨ s.get (uartIdx uart) 1 = 0 ∨ !s.pdOn 18 then s
    else
      let s := if err then s.bump (uartIdx uart + 1) 5 else s
      let d := (s.getBlk (rxKey uart)).data
      if 4096 ≤ d.length then (s.bump (uartIdx uart + 1) 4).setFlag (okey 0 0x9401 0) 5
      else s.putBlk (rxKey uart) (d ++ [b])

/-- Bytes taken from a UART's buffer: the answer is what was taken. -/
def State.uartTake (s : State) (u n : Nat) : State × List Byte :=
  let d := (s.getBlk (rxKey u)).data
  (s.putBlk (rxKey u) (d.drop n), d.take n)

/-- UART_RXDATA_READ: a read of RXDATA takes up to `n` bytes and removes them; without read right it returns nothing. -/
def execUartRxdataRead (t : Nat) (ini : Ini) (uart n : Nat) (s : State) : Host.Outcome State Fault Refusal :=
  at_ t s fun s =>
    match findObj s.cfg (uartIdx uart + 1) 3 with
    | none => s.emit (.readBytes ini.part [])
    | some o =>
      if s.hasRight ini false o (uartIdx uart + 1) 3 && s.edgeUp then
        let (s, d) := s.uartTake uart n
        s.emit (.readBytes ini.part d)
      else s.emit (.readBytes ini.part [])

/-! ## CAN (R466, R467) -/

/-- CAN_BUS_ERROR: the error counters of a controller have changed. -/
def execCanBusError (t can tec rec_ : Nat) (s : State) : Host.Outcome State Fault Refusal :=
  edgeClocked t 6 s fun s =>
    let x := canIdx can + 1
    let st := s.get x 1
    if 4 ≤ can ∨ st = 0 ∨ st = 3 then s
    else
      let s := (s.put x 2 (min 255 tec)).put x 3 (min 255 rec_)
      if 256 ≤ tec then ((s.put x 1 3).bump x 4).raise 0x9401 can 2 sevError 0 [byteOf can]
      else if 128 ≤ tec ∨ 128 ≤ rec_ then
        if st = 2 then s else (s.put x 1 2).raise 0x9401 can 3 sevWarning 0 [byteOf can]
      else s.put x 1 1

/-- BUS_OFF_RECOVERY: the controller is active again and sends what was queued, by class. -/
def execBusOffRecovery (t can : Nat) (s : State) : Host.Outcome State Fault Refusal :=
  edgeClocked t 6 s fun s =>
    let x := canIdx can + 1
    if s.get x 1 ≠ 3 then s
    else
      let mine := s.low.can.filter (fun (f : CanFrame) => f.can == can)
      let s := { s with low := { s.low with can := s.low.can.filter (fun (f : CanFrame) => f.can != can) } }
      let s := ((s.put x 1 1).put x 2 0).put x 3 0
      foldS (fun s k => foldS (fun s (f : CanFrame) => s.emit f.frame) s (mine.filter (fun f => f.cls == k))) s [0, 1, 2, 3]

/-! ## Ethernet (R468, R469) -/

/-- ETH_LINK_CHANGE: a link goes up at a speed, or down. -/
def execEthLinkChange (t mac : Nat) (up : Bool) (speed : Nat) (s : State) : Host.Outcome State Fault Refusal :=
  edged t s fun s =>
    let x := ethIdx mac + 1
    if 2 ≤ mac ∨ s.get (ethIdx mac) 1 = 0 ∨ !s.pdOn 18 then s
    else if up then (s.put x 1 1).put x 2 speed
    else
      let was := s.get x 1
      let s := (s.put x 1 0).put x 2 0
      if was = 1 then s.setFlag (okey 0 0x9401 0) 4 else s

/-- GATE_CYCLE_START: the committed gate control list takes effect at a cycle start; while Wall time is not valid every
gate is open. -/
def execGateCycleStart (t mac : Nat) (s : State) : Host.Outcome State Fault Refusal :=
  edgeClocked t 33 s fun s =>
    if 2 ≤ mac ∨ s.get (ethIdx mac) 1 = 0 ∨ !s.pdOn 18 then s
    else
      let rest := s.low.gates.filter (fun (g : GateRun) => g.mac != mac)
      let x := ethIdx mac + 2
      if s.get 0x9060 3 = 0 then
        ({ s with low := { s.low with gates := ⟨mac, s.get x 1, s.get x 2, 1, leBytes 8 (s.get x 1 * 2 ^ 32 + 0xFF)⟩ :: rest } }).setFlag
          (okey 0 0x9401 0) 7
      else
        { s with low := { s.low with gates := ⟨mac, s.get x 1, s.get x 2, s.get x 4,
          bytesAt (s.getLive (okey 0 x 3)).data 0 (8 * s.get x 4)⟩ :: rest } }

/-! ## Commits, restarts, reset (R459, R462, R471) -/

/-- The block runs: PD18 is on and the edge die answers. -/
def State.lowRuns (s : State) : Bool := s.pdOn 18 && s.edgeUp

/-- A bus of a controller that is switched off. -/
def State.i2cOff (s : State) (b : Nat) : State := (s.putI2c ⟨b, 0, false, false, false⟩).i2cState b 0

/-- What a CG_IO commit does to this chapter's controllers and pins; `old` is the state before it. -/
def State.ioCommit (s old : State) : State := s.when s.lowRuns fun s =>
  let s := foldS (fun s b =>
    let e := s.get (i2cIdx b) 1
    if e = old.get (i2cIdx b) 1 then s else if e = 1 then s.startRecovery b else s.i2cOff b) s (List.range 16)
  let gone := fun (i : Nat) => s.get i 1 == 0
  let s := { s with low := { s.low with spi := s.low.spi.filter (fun u => !gone (spiIdx u)),
                                        uart := s.low.uart.filter (fun u => !gone (uartIdx u)) } }
  let s := foldS (fun s c =>
    let e := s.get (canIdx c) 1
    if e = old.get (canIdx c) 1 then s
    else ((({ s with low := { s.low with can := s.low.can.filter (fun (f : CanFrame) => f.can != c) } }).put (canIdx c + 1) 1 e).put
      (canIdx c + 1) 2 0).put (canIdx c + 1) 3 0) s (List.range 4)
  let s := foldS (fun s m => if s.get (ethIdx m) 1 = 0 then (s.put (ethIdx m + 1) 1 0).put (ethIdx m + 1) 2 0 else s) s [0, 1]
  let s := foldS (fun s k => s.syncIn k) s (List.range 8)
  s.syncPads old allPins

/-- A partition restart of controllers' owner (R471): transfers end with ABORTED, UART buffers are emptied, GPIO outputs
keep their levels. -/
def State.lowPartition (s : State) (p : Nat) : State :=
  let s := foldS (fun s b => if s.get (i2cIdx b) 2 = p ∧ (s.i2cRun b).phase = 1 then s.i2cEnd b codeAborted else s) s (List.range 16)
  let s := foldS (fun s u => if s.get (spiIdx u) 2 = p ∧ s.low.spi.contains u then
    ({ s with low := { s.low with spi := s.low.spi.filter (fun x => x != u) } }).put (spiIdx u + 1) 6 codeAborted else s) s (List.range 4)
  foldS (fun s u => if s.get (uartIdx u) 2 = p then
    ({ s with low := { s.low with uart := s.low.uart.filter (fun x => x != u) } }).putBlk (rxKey u) [] else s) s (List.range 4)

/-- A pin in reset (R459): an input, its output high-impedance, no pull. -/
def releasedPad (n : Nat) : Out := .gpio n none 0 0

/-- Reset of PD18: controllers stop, pins are inputs, counters are zero. -/
def State.lowReset (s : State) : State :=
  let old := s
  let s := { s with low := { s.low with i2c := [], spi := [], uart := [], can := [], gates := [], high := [] },
                    sec := { s.sec with dmaOn := [] } }
  let z := fun (s : State) (i : Nat) (l : List Nat) => foldS (fun s k => s.put i k 0) s l
  let s := foldS (fun s b => z s (i2cIdx b + 1) [8, 9, 0xA, 0xB]) s (List.range 16)
  let s := foldS (fun s u => (z (z s (spiIdx u + 1) [6]) (uartIdx u + 1) [4, 5]).putBlk (rxKey u) []) s (List.range 4)
  let s := foldS (fun s c => z s (canIdx c + 1) [1, 2, 3, 4, 5]) s (List.range 4)
  let s := foldS (fun s m => z s (ethIdx m + 1) [1, 2, 3, 4, 5]) s [0, 1]
  let s := foldS (fun s k => (s.put (0x9500 + k) 1 0).put (0x9500 + k) 2 0) s (List.range 8)
  let s := s.put 0x9700 2 0
  foldS (fun s n => if old.pad n = releasedPad n then s else s.emit (releasedPad n)) s allPins

/-- PD18 leaves reset: the controllers that are enabled start, I²C buses with recovery. -/
def State.lowStart (s : State) : State := s.when s.lowRuns fun s =>
  let s := foldS (fun s b => if s.get (i2cIdx b) 1 = 1 then s.startRecovery b else s) s (List.range 16)
  let s := foldS (fun s c => if s.get (canIdx c) 1 = 1 then s.put (canIdx c + 1) 1 1 else s) s (List.range 4)
  foldS (fun s n => if s.pad n = releasedPad n then s else s.emit (s.pad n)) s allPins

end Sys2Proof.Machine
end

