-- ==== Sys2Proof/Machine/Motion.lean ====
section
/-!
DEFINITION. Motion axes and encoders (R390 to R400): counting, limits, homing, safe torque off, the control update and
the hand-over.
-/
namespace Sys2Proof.Machine

/-! ## Axes and encoders -/

def Cfg.axes (c : Cfg) : Nat := if c.compact then 2 else 6

/-- Index of AxisConfig of an axis; AxisGains to KnobState follow it at 1 to 7. -/
def axIdx (a : Nat) : Nat := 0x8500 + a * 0x10

def LimitIn.new : LimitIn :=
  { on := false, since := 0, edges := [], chatterAt := none, ignored := false, wait := false, edgePos := 0, latchPos := 0 }

def AxisRun.new (a : Nat) : AxisRun :=
  { axis := a, base := 0, lo := .new, hi := .new, home := .new, ref := 0, posInt := 0, velInt := 0, first := false,
    handEnd := none, after := 0, homingAt := 0, overruns := 0, seq := 0, awaits := none }

def State.axis (s : State) (a : Nat) : AxisRun :=
  (s.motion.axes.find? (fun r => r.axis == a)).getD (AxisRun.new a)

def State.putAxis (s : State) (r : AxisRun) : State :=
  { s with motion := { s.motion with axes := r :: s.motion.axes.filter (fun x => x.axis != r.axis) } }

def State.encoder (s : State) (k : Nat) : EncRun :=
  (s.motion.encoders.find? (fun r => r.enc == k)).getD ⟨k, false, false, [], none, false⟩

def State.putEncoder (s : State) (r : EncRun) : State :=
  { s with motion := { s.motion with encoders := r :: s.motion.encoders.filter (fun x => x.enc != r.enc) } }

/-- The axis works: it exists, its domain is on and it is not lost. -/
def State.axisOn (s : State) (a : Nat) : Bool := a < s.cfg.axes && s.pdOn 17 && !s.isLost .axis a

def State.axMode (s : State) (a : Nat) : Nat := s.get (axIdx a) 1
def State.axKind (s : State) (a : Nat) : Nat := s.get (axIdx a) 3
def State.axState (s : State) (a : Nat) : Nat := s.get (axIdx a + 3) 1
def State.axFault (s : State) (a : Nat) : Nat := s.get (axIdx a + 3) 7
def State.axPos (s : State) (a : Nat) : Int := s.getI (axIdx a + 3) 2
def State.axOutput (s : State) (a : Nat) : Int := s.getI (axIdx a + 3) 4

def State.putAxState (s : State) (a n : Nat) : State := s.put (axIdx a + 3) 1 n

/-- A number as a 32-bit value that wraps. -/
def wrapI32 (v : Int) : Int := sext 32 (v % 4294967296).toNat

/-- The flags of a limit input in LIMITS: 0 LO, 1 HI, 2 HOME. -/
def State.limitBit (s : State) (a w : Nat) : Bool := bit (s.get (axIdx a + 3) 6) w

def State.putLimitBit (s : State) (a w : Nat) (on : Bool) : State :=
  s.put (axIdx a + 3) 6 (setBit (s.get (axIdx a + 3) 6) w on)

def AxisRun.input (r : AxisRun) (w : Nat) : LimitIn := if w = 0 then r.lo else if w = 1 then r.hi else r.home

def AxisRun.setInput (r : AxisRun) (w : Nat) (l : LimitIn) : AxisRun :=
  if w = 0 then { r with lo := l } else if w = 1 then { r with hi := l } else { r with home := l }

/-! ## Outputs (R390, R391) -/

/-- CRC-8 of R390 over 24 bits, most significant first: polynomial 0x07, initial value 0. -/
def crc8 (v : Nat) : Nat :=
  (List.range 24).foldl (fun c i =>
    let b := Nat.xor (c / 128 % 2) (v / 2 ^ (23 - i) % 2)
    let c := c * 2 % 256
    if b = 1 then Nat.xor c 7 else c) 0

/-- A frame of 24 payload bits with its CRC-8. -/
def motorFrame (top out seq : Nat) : Nat :=
  let p := top * 2 ^ 22 + out % 65536 * 64 + seq % 64
  p * 256 + crc8 p

/-- The electrical angle of a 3-phase output (R390), 65,536 to a turn. -/
def State.elecAngle (s : State) (a : Nat) : Nat :=
  let cpr := max 1 (s.get (axIdx a) 6)
  ((s.axPos a % (cpr : Int)).toNat * s.get (axIdx a) 7 * 65536 / cpr + s.get (axIdx a) 8) % 65536

/-- An axis driven with an output (R390). A step-and-direction axis takes its motion as steps. -/
def State.driveAxis (s : State) (a : Nat) (out : Int) : State :=
  let s := s.putI (axIdx a + 3) 4 out
  match s.axKind a with
  | 0 => s.emit (.motor a out (s.elecAngle a))
  | 2 =>
    let r := s.axis a
    let s := s.putAxis { r with seq := (r.seq + 1) % 64, awaits := some r.seq }
    s.emit (.motorFrame a (motorFrame 1 (out % 65536).toNat r.seq))
  | _ => s

/-- The output of an axis that goes to STO (R391): all gates off, the step enable high, or one SPI frame with output
0. -/
def State.stopOutput (s : State) (a : Nat) : State :=
  match s.axKind a with
  | 0 => (s.putI (axIdx a + 3) 4 0).emit (.gatesLow a)
  | 1 => (s.putI (axIdx a + 3) 4 0).emit (.pin (.enN a) 1)
  | _ => s.driveAxis a 0

/-- Entry to STO (R391) with a FAULT number, 0 for MODE 0: the STO pin low and the output stopped. -/
def State.enterSto (s : State) (a fault : Nat) : State :=
  let s := ((s.put (axIdx a + 3) 7 fault).emit (.pin (.sto a) 0)).stopOutput a
  let s := s.putAxis { s.axis a with handEnd := none, overruns := 0, awaits := none, posInt := 0, velInt := 0 }
  (((s.putAxState a 0).put (axIdx a + 3) 8 0).bump (axIdx a + 4) 4).setFlag (okey 0 0x85A1 0) 7

/-- A hand-over begins (R399) that ends in STATE `after`. -/
def State.handOver (s : State) (a after : Nat) : State :=
  let ms := s.get (axIdx a) 0xD
  let s := s.putAxis { s.axis a with first := true, handEnd := some (s.now + ms * 1000000), after := after,
                                     ref := s.axPos a }
  (s.putAxState a 5).put (axIdx a + 3) 8 ms

/-- A Warning event of MotionStatus about an axis. -/
def State.motionWarn (s : State) (a flag : Nat) : State :=
  s.raise 0x85A1 a flag sevWarning (s.get (axIdx a) 2) [byteOf a]

/-- HOMING_FAILED (R395): counted and raised; the axis is unhomed. -/
def State.homingFailed (s : State) (a : Nat) : State := ((s.put (axIdx a + 3) 5 0).bump (axIdx a + 4) 5).motionWarn a 5

/-! ## Encoders (R392, R393) -/

/-- Axes that name an encoder. -/
def State.axesOf (s : State) (k : Nat) : List Nat := (List.range s.cfg.axes).filter (fun a => s.get (axIdx a) 4 == k)

/-- An axis's encoder is FAULTY. -/
def State.encFaulty (s : State) (a : Nat) : Bool :=
  let k := s.get (axIdx a) 4
  k < 8 && s.get (0x8581 + k * 4) 3 == 1

/-- A latched limit is left behind by LIMIT_HYSTERESIS counts (R394): it releases if the input reads released, and
otherwise its edges count again and it latches anew at its next debounced assertion, releasing once it reads released
there (DEDUCED, log entry 111). -/
def State.settleLimit (s : State) (a w : Nat) : State :=
  let r := s.axis a
  let l := r.input w
  let back := if w = 0 then s.axPos a - l.latchPos else l.latchPos - s.axPos a
  if s.limitBit a w ∧ (s.get (axIdx a) 0x11 : Int) ≤ back then
    let s := s.putAxis (r.setInput w { l with ignored := false })
    if l.on then s else s.putLimitBit a w false
  else s

/-- POSITION follows a count (R392, R394). -/
def State.movePos (s : State) (a : Nat) (pos : Int) : State :=
  ((s.putI (axIdx a + 3) 2 (wrapI32 pos)).settleLimit a 0).settleLimit a 1

/-- The hold of an axis whose encoder is FAULTY (R393), with the homing it ends (R395). -/
def State.encHold (s : State) (a : Nat) : State :=
  let st := s.axState a
  let s := s.put (axIdx a + 3) 5 0
  let s := if st = 3 then s.homingFailed a else s
  if st = 0 then s
  else if s.axMode a = 2 then (((s.driveAxis a 0).put (axIdx a + 7) 2 1).putAxState a 4)
  else if s.axKind a = 1 then s.putAxState a 4
  else s.enterSto a 4

/-- FAULTY ends (R393): the knob unfreezes, and a step-and-direction axis resumes in its mode. -/
def State.encResume (s : State) (k : Nat) : State :=
  let s := s.put (0x8581 + k * 4) 3 0
  let s := s.putEncoder { s.encoder k with clearing := false, illegal := [] }
  foldS (fun s a =>
    let s := s.put (axIdx a + 7) 2 0
    if s.axState a = 4 ∧ (s.axMode a = 2 ∨ s.axKind a = 1) then s.putAxState a (s.axMode a) else s) s (s.axesOf k)

/-- A clear that waits is made once 100 ms have passed without an illegal transition. -/
def State.settleEncoder (s : State) (k : Nat) : State :=
  let e := s.encoder k
  if e.clearing ∧ e.lastIllegal.elim true (fun x => x + 100000000 ≤ s.now) then s.encResume k else s

/-- The position of a pair of levels in the quadrature cycle in which A leads B. -/
def quadPos (a b : Bool) : Nat := if a then (if b then 2 else 1) else (if b then 3 else 0)

/-- ENCODER_TRANSITION: the accepted A and B pins of an encoder go to new levels. -/
def execEncoderTransition (t enc : Nat) (a b : Bool) (s : State) : Host.Outcome State Fault Refusal :=
  edged t s fun s =>
    if 8 ≤ enc ∨ !s.pdOn 17 then s
    else
      let s := s.settleEncoder enc
      let swap := bit (s.get (0x8580 + enc * 4) 2) 0
      let (a, b) := if swap then (b, a) else (a, b)
      let e := s.encoder enc
      let d := (quadPos a b + 4 - quadPos e.a e.b) % 4
      let s := s.putEncoder { e with a := a, b := b }
      if d = 0 then s
      else if d = 2 then
        let ill := s.now :: e.illegal.filter (fun x => s.now < x + 1000000)
        let s := s.putEncoder { e with a := a, b := b, illegal := ill, lastIllegal := some s.now }
        let s := (s.bump (0x8581 + enc * 4) 4).raise 0x85A1 enc 2 sevWarning 0 [byteOf enc]
        if 16 < ill.length ∧ s.get (0x8581 + enc * 4) 3 = 0 then
          let s := (s.put (0x8581 + enc * 4) 3 1).setFlag (okey 0 0x85A1 0) 3
          foldS (fun s a => s.encHold a) s (s.axesOf enc)
        else s
      else
        let step : Int := if Config.quadForward = (d == 1) then 1 else -1
        let n := wrapI32 (s.getI (0x8581 + enc * 4) 1 + step)
        let s := s.putI (0x8581 + enc * 4) 1 n
        foldS (fun s a => s.movePos a (n + (s.axis a).base)) s (s.axesOf enc)

/-- ENCODER_INDEX_EDGE (R392): an edge of ENCk_I that INVERT makes a rising edge latches COUNT while A and B are
high. -/
def execEncoderIndexEdge (t enc : Nat) (rising : Bool) (s : State) : Host.Outcome State Fault Refusal :=
  edged t s fun s =>
    let e := s.encoder enc
    if enc < 8 ∧ s.pdOn 17 ∧ e.a ∧ e.b ∧ rising ≠ bit (s.get (0x8580 + enc * 4) 2) 1 then
      s.putI (0x8581 + enc * 4) 2 (s.getI (0x8581 + enc * 4) 1)
    else s

/-- ENC_CLEAR written (R393): FAULTY is to clear once 100 ms pass without an illegal transition. -/
def State.encClear (s : State) (k v : Nat) : State :=
  if v = 1 ∧ s.get (0x8581 + k * 4) 3 = 1 then (s.putEncoder { s.encoder k with clearing := true }).settleEncoder k else s

/-- ENC_CLEAR. -/
def execEncClear (t : Nat) (ini : Ini) (enc : Nat) (v : Word) (s : State) : Host.Outcome State Fault Refusal :=
  at_ t s fun s => s.when (enc < 8) fun s => s.writeAt ini (0x8580 + enc * 4) 3 v noOwn (fun s v => s.encClear enc v)

/-! ## Limits and homing (R394, R395) -/

/-- Homing ends with a home position: POSITION `at_` becomes HOME_OFFSET, HOMED is set, and the axis holds through the
hand-over. -/
def State.homed (s : State) (a : Nat) (pos : Int) : State :=
  let shift := s.getI (axIdx a) 0x10 - pos
  let r := s.axis a
  let mv := fun (l : LimitIn) => { l with edgePos := l.edgePos + shift, latchPos := l.latchPos + shift }
  let s := s.putAxis { r with base := wrapI32 (r.base + shift), lo := mv r.lo, hi := mv r.hi, home := mv r.home }
  let s := s.putI (axIdx a + 3) 2 (wrapI32 (s.axPos a + shift))
  ((s.put (axIdx a + 3) 5 1).setFlag (okey 0 0x85A1 0) 4).handOver a 1

/-- LIMIT_INPUT_EDGE (R394): a raw edge of LIM_LO (0), LIM_HI (1) or HOME (2) of an axis to a pin level. More than
eight edges within 10 ms are chatter. -/
def execLimitInputEdge (t axis input : Nat) (level : Bool) (s : State) : Host.Outcome State Fault Refusal :=
  edged t s fun s =>
    if !s.axisOn axis ∨ 2 < input then s
    else
      let on := level != bit (s.get (axIdx axis) 0xE) (3 + input)
      let r := s.axis axis
      let l := r.input input
      let edges := s.now :: l.edges.filter (fun x => s.now < x + 10000000)
      let chat := decide (8 < edges.length) && l.chatterAt.elim true (fun x => decide (x + 10000000 ≤ s.now))
      let l := { l with on := on, since := s.now, edges := edges, edgePos := if on then s.axPos axis else l.edgePos,
                        wait := l.wait && (l.ignored || !on), chatterAt := if chat then some s.now else l.chatterAt }
      let s := s.putAxis (r.setInput input l)
      let s := if input < 2 then s.settleLimit axis input else s
      let s := if input = 2 then s.putLimitBit axis 2 on else s
      if chat then (s.bump (axIdx axis + 4) 3).motionWarn axis 1 else s

/-- The target clamped to a latched limit (R394). -/
def State.clampTarget (s : State) (a : Nat) : State :=
  let r := s.axis a
  let t := s.getI (axIdx a + 2) 1
  let t := if s.limitBit a 0 ∧ t < r.lo.latchPos then r.lo.latchPos else t
  let t := if s.limitBit a 1 ∧ r.hi.latchPos < t then r.hi.latchPos else t
  if t = s.getI (axIdx a + 2) 1 then s else s.putI (axIdx a + 2) 1 t

/-- What a latched limit does to an axis that is homing (R395). -/
def State.homingLimit (s : State) (a w : Nat) : State :=
  let home := s.get (axIdx a) 0xE
  if (w = 1) ≠ (bit home 0 = true) then (s.homingFailed a).enterSto a 2
  else if bit home 1 then s.homed a ((s.axis a).input w).latchPos
  else (s.homingFailed a).handOver a 4

/-- LIMIT_LATCH (R394): an input that has been asserted for LIMIT_DEBOUNCE_US latches. -/
def execLimitLatch (t axis input : Nat) (s : State) : Host.Outcome State Fault Refusal :=
  at_ t s fun s =>
    let r := s.axis axis
    let l := r.input input
    if !s.axisOn axis ∨ 1 < input ∨ !l.on ∨ l.ignored ∨ l.wait ∨ s.now < l.since + s.get (axIdx axis) 0x12 * 1000 then s
    else
      let s := s.putAxis (r.setInput input { l with ignored := true, wait := true, latchPos := s.axPos axis })
      let s := s.putLimitBit axis input true
      let s := (s.bump (axIdx axis + 4) 2).raise 0x85A1 axis 0 sevNotice (s.get (axIdx axis) 2) [byteOf axis, byteOf input]
      let s := s.clampTarget axis
      let s := if s.axState axis = 3 then s.homingLimit axis input else s
      if s.limitBit axis 0 ∧ s.limitBit axis 1 ∧ s.axState axis ≠ 0 then s.enterSto axis 3 else s

/-- The refusal of HOME_REQUEST (R395): homing begins on an axis in mode 1 that is not in STO. -/
def State.homeRefusal (s : State) (a : Nat) : Option Nat :=
  if s.axMode a ≠ 1 ∨ s.axState a = 0 then some codeHomingNotAllowed else none

/-- Homing begins; with an encoder that is FAULTY it fails at once (R395). -/
def State.homeStart (s : State) (a v : Nat) : State :=
  if v = 1 then
    let s := (s.putAxis { s.axis a with homingAt := s.now, handEnd := none }).putAxState a 3
    if s.encFaulty a then s.encHold a else s
  else s

/-- HOME_REQUEST. -/
def execHomeRequest (t : Nat) (ini : Ini) (axis : Nat) (v : Word) (s : State) : Host.Outcome State Fault Refusal :=
  at_ t s fun s => s.when (axis < 6) fun s => s.writeAt ini (axIdx axis + 2) 2 v (fun s _ => s.homeRefusal axis) (fun s v => s.homeStart axis v)

/-- HOME_FOUND (R395): HOME stays asserted for the debounce time while the axis is homing. -/
def execHomeFound (t axis : Nat) (s : State) : Host.Outcome State Fault Refusal :=
  at_ t s fun s =>
    let l := (s.axis axis).home
    if s.axState axis = 3 ∧ l.on ∧ l.since + s.get (axIdx axis) 0x12 * 1000 ≤ s.now then s.homed axis l.edgePos else s

/-- HOMING_TIMEOUT (R395). -/
def execHomingTimeout (t axis : Nat) (s : State) : Host.Outcome State Fault Refusal :=
  at_ t s fun s =>
    if s.axState axis = 3 ∧ (s.axis axis).homingAt + s.get (axIdx axis) 0x13 * 1000000 ≤ s.now then
      (s.homingFailed axis).handOver axis 4
    else s

/-! ## The control update (R396, R397, R398) -/

/-- The detent table torque at a position (R397). -/
def State.detentTorque (s : State) (a : Nat) (p : Int) : Int :=
  let cpr : Int := max 1 (s.get (axIdx a) 6)
  let tbl := (s.getLive (okey 0 (axIdx a + 6) 0)).data
  let T := fun (i : Nat) => sext 16 (numAt tbl (2 * i) 2)
  let q := Int.emod p cpr * 1024
  let i := (q / cpr).toNat
  let f := q % cpr
  T i + Int.ediv ((T ((i + 1) % 1024) - T i) * f) cpr

/-- DETENT_INDEX (R396). -/
def State.detentIndex (s : State) (a : Nat) : Int :=
  Int.ediv (s.axPos a * s.get (axIdx a + 5) 4) (max 1 (s.get (axIdx a) 6))

/-- A signed free value of `w` bits. -/
def State.freeI (s : State) (w : Nat) : State × Int := (s.useFree, sext w (s.freeW.toNat % 2 ^ w))

/-- The loops of R396 up to the detent table: VELOCITY of the observer and the sum of the loop torque, the detent
torque and the wall torque. The manual gives the loops' gains and their order but neither their discretisation nor
their rounding, so VELOCITY and the loop torque are free values, the torque of a loop with zero gains and an empty
integrator and of a wall that is not touched being zero (DESIGN CHOICE, log entry 19). -/
def State.loopTorque (s : State) (a : Nat) : State × Int :=
  let (s, vel) := s.freeI 32
  let s := s.putI (axIdx a + 3) 3 vel
  let r := s.axis a
  let (s, u) := if s.get (axIdx a + 1) 3 = 0 ∧ s.get (axIdx a + 1) 4 = 0 ∧ r.velInt = 0 then (s, 0) else s.freeI 32
  if s.axMode a ≠ 2 then (s, u)
  else
    let p := s.axPos a
    let out := p < s.getI (axIdx a + 5) 1 ∨ s.getI (axIdx a + 5) 2 < p
    let (s, w) := if out ∧ s.get (axIdx a + 5) 3 ≠ 0 then s.freeI 32 else (s, 0)
    (s, u + s.detentTorque a p + w)

/-- The limiter (R394, R396): ±TORQUE_LIMIT, and nothing toward a latched limit. -/
def State.limitOutput (s : State) (a : Nat) (v : Int) : Int :=
  let m : Int := s.get (axIdx a) 0xA
  let v := max (-m) (min m v)
  let v := if s.limitBit a 0 then max 0 v else v
  if s.limitBit a 1 then min 0 v else v

/-- The step limit of a hand-over (R399): the first output equals the outgoing one, and every later one differs by at
most ⌊32,767 × 1,000 / (HANDOVER_MS × RATE_HZ)⌋ from the one before. -/
def State.slew (s : State) (a : Nat) (v : Int) : Int :=
  let r := s.axis a
  let prev := s.axOutput a
  if r.handEnd = none then v
  else if r.first then prev
  else
    let m : Int := (32767 * 1000 / (max 1 (s.get (axIdx a) 0xD) * max 1 (s.get (axIdx a) 5)) : Nat)
    max (prev - m) (min (prev + m) v)

/-- The steps of one update of a step-and-direction axis: free, at most 500 kHz, and none toward a latched limit.
POSITION follows them where the axis names no encoder (DESIGN CHOICE, log entry 19). -/
def State.stepAxis (s : State) (a : Nat) : State :=
  let m := 500000 / max 1 (s.get (axIdx a) 5)
  let n : Int := ((s.freeW.toNat % (2 * m + 1) : Nat) : Int) - m
  let n := if s.limitBit a 0 then max 0 n else n
  let n := if s.limitBit a 1 then min 0 n else n
  let s := s.useFree.emit (.steps a n)
  if s.get (axIdx a) 4 = 0xFF then s.movePos a (s.axPos a + n) else s

/-- A missing or corrupt reply of an SPI driver (R390). -/
def AxisRun.replyBad (r : AxisRun) (reply : Nat) : Bool :=
  match r.awaits with
  | none => false
  | some q => !(reply / 2 ^ 30 == 2 && reply / 256 % 64 == q && reply % 256 == crc8 (reply / 256))

/-- An update that overran (R398): the output is held, and the third in a row is a fault. -/
def State.overrunAxis (s : State) (a : Nat) : State :=
  let r := s.axis a
  let s := (s.bump (axIdx a + 4) 1).setFlag (okey 0 0x85A1 0) 6
  if 2 ≤ r.overruns then s.enterSto a 1 else s.putAxis { r with overruns := r.overruns + 1, awaits := none }

/-- An update that runs to its end. -/
def State.runAxis (s : State) (a : Nat) : State :=
  let s := s.putAxis { s.axis a with overruns := 0 }
  let s := if s.axMode a = 2 ∧ s.get (axIdx a + 7) 2 = 0 then s.putI (axIdx a + 7) 1 (s.detentIndex a) else s
  if s.axKind a = 1 then (if s.axState a = 4 ∧ s.encFaulty a then s else s.stepAxis a)
  else if s.axState a = 4 ∧ s.axMode a = 2 then s.driveAxis a 0
  else
    let (s, v) := s.loopTorque a
    let lim := s.limitOutput a v
    let out := s.limitOutput a (s.slew a lim)
    let r := s.axis a
    let (s, i1) := s.freeI 64
    let (s, i2) := s.freeI 64
    let r := if lim = v then { r with posInt := i1, velInt := i2 } else r
    (s.putAxis { r with first := false }).driveAxis a out

/-- AXIS_UPDATE (R396): one update of an axis. `late` tells that its computation or output transfer was not complete in
time; `reply` is the frame an SPI driver has answered the previous update with. -/
def execAxisUpdate (t axis : Nat) (late : Bool) (reply : Nat) (s : State) : Host.Outcome State Fault Refusal :=
  clocked t 6 s fun s =>
    let k := s.get (axIdx axis) 4
    let s := if k < 8 then s.settleEncoder k else s
    if !s.axisOn axis ∨ s.axState axis = 0 then s
    else
      let load := s.freeW.toNat % 10001
      let s := s.useFree.put 0x85A0 2 load
      let s := match (s.axis axis).handEnd with
        | some e => s.put (axIdx axis + 3) 8 ((e - s.now + 999999) / 1000000)
        | none => s
      let bad := s.axKind axis = 2 ∧ (s.axis axis).replyBad reply
      let s := if bad then s.overrunAxis axis else s
      if s.axState axis = 0 then s
      else if late then s.overrunAxis axis
      else if bad then (s.runAxis axis).putAxis { (s.runAxis axis).axis axis with overruns := (s.axis axis).overruns }
      else s.runAxis axis

/-- HANDOVER_END (R399). -/
def execHandoverEnd (t axis : Nat) (s : State) : Host.Outcome State Fault Refusal :=
  at_ t s fun s =>
    let r := s.axis axis
    match r.handEnd with
    | some e =>
      if e ≤ s.now ∧ s.axState axis = 5 then
        ((s.putAxis { r with handEnd := none, first := false }).putAxState axis r.after).put (axIdx axis + 3) 8 0
      else s
    | none => s

/-! ## Restart, loss, commit and reset -/

/-- The state of R391 and R394 that puts a restarted axis back into STO: 0 none, else its FAULT. -/
def State.stoCause (s : State) (a : Nat) : Nat :=
  if s.isLost .axis a then 6
  else if s.limitBit a 0 && s.limitBit a 1 then 3
  else if s.encFaulty a && s.axMode a == 1 && s.axKind a != 1 then 4
  else 0

/-- An axis enters its active MODE (R391, R399), from an output of 0 out of STO. -/
def State.enterMode (s : State) (a : Nat) : State :=
  if s.axMode a = 0 then (if s.axState a = 0 then s else s.enterSto a 0)
  else
    let s := (s.emit (.pin (.sto a) 1))
    let s := if s.axKind a = 1 then s.emit (.pin (.enN a) 0) else s
    s.handOver a (s.axMode a)

/-- An axis takes over its active MODE, and returns to STO where a cause of STO is present (R400). -/
def State.restartAxis (s : State) (a : Nat) : State :=
  let s := s.enterMode a
  if s.axMode a ≠ 0 ∧ s.stoCause a ≠ 0 then s.enterSto a (s.stoCause a) else s

/-- FAULT_CLEAR written (R391, R400): an axis in STO for a fault restarts in its active MODE, and returns to STO if the
cause is still present. -/
def State.axisClear (s : State) (a v : Nat) : State :=
  if v = 1 ∧ s.axState a = 0 ∧ s.axFault a ≠ 0 then
    let s := s.put (axIdx a + 3) 7 0
    (s.putAxis { s.axis a with posInt := 0, velInt := 0 }).restartAxis a
  else s

/-- AXIS_FAULT_CLEAR. -/
def execAxisFaultClear (t : Nat) (ini : Ini) (axis : Nat) (v : Word) (s : State) : Host.Outcome State Fault Refusal :=
  at_ t s fun s => s.when (axis < 6) fun s => s.writeAt ini (axIdx axis + 2) 3 v noOwn (fun s v => s.axisClear axis v)

/-- An axis lost under R27 (R400). -/
def State.axisLost (s : State) (a : Nat) : State := s.enterSto a 6

/-- PLANNED_LOAD_BP (R398) of a configuration, read through `g`; commits of CG_MOTION and CG_HAPTIC change it. -/
def plannedLoad (c : Cfg) (g : Nat → Nat → Nat) : Nat :=
  let axis := fun a =>
    let m := g (axIdx a) 1
    let out := match g (axIdx a) 3 with
      | 0 => 140
      | 1 => 40
      | _ => 180
    if m = 0 then 0 else g (axIdx a) 5 * (160 + (if m = 1 then 120 else 80) + 120 + 60 + out)
  let axes := (List.range c.axes).foldl (fun n a => n + axis a) 0
  let chans := (List.range c.haptics).foldl (fun n h => n + if g (hapIdx h) 1 = 1 then 48000 * 96 else 0) 0
  10000 * (axes + chans) / 192000000

def State.putLoad (s : State) : State := s.put 0x85A0 1 (plannedLoad s.cfg s.get)

/-- What a commit of CG_MOTION does to the axes (R392, R395, R399, R400), `old` being the state before it: POSITION
comes from the encoder now named; a new MODE takes over, ending a homing unhomed; a new target ends a hold; a target
beyond a latched limit is clamped. -/
def State.motionCommit (s old : State) : State :=
  let s := foldS (fun s a =>
    let k := s.get (axIdx a) 4
    let s := if k < 8 ∧ k ≠ old.get (axIdx a) 4 then s.movePos a (s.getI (0x8581 + k * 4) 1 + (s.axis a).base) else s
    let s := s.clampTarget a
    if s.axFault a ≠ 0 then s
    else if s.axMode a ≠ old.axMode a then (if s.axState a = 3 then s.put (axIdx a + 3) 5 0 else s).restartAxis a
    else if s.axState a = 4 ∧ !s.encFaulty a ∧ s.getI (axIdx a + 2) 1 ≠ old.getI (axIdx a + 2) 1 then
      s.putAxState a (s.axMode a)
    else s) s (List.range s.cfg.axes)
  s.putLoad

/-- An axis holds in its mode where it is (R452): TARGET_POS is its POSITION, and an axis in position mode is in hold, with a homing
ended unhomed; a knob has no target and stays a knob (DEDUCED, log entry 114). -/
def State.holdAxis (s : State) (a : Nat) : State :=
  let s := s.putBoth (okey 0 (axIdx a + 2) 1) (BitVec.ofInt 64 (s.axPos a))
  if s.axState a = 0 ∨ s.axMode a ≠ 1 then s
  else if s.axState a = 5 then s.putAxis { s.axis a with after := 4 }
  else (if s.axState a = 3 then s.put (axIdx a + 3) 5 0 else s).putAxState a 4

/-- Reset of PD17 (R400, R402): every axis in STO, counts zero, HOMED cleared, counters zero. -/
def State.motionReset (s : State) : State :=
  let s := { s with motion := { s.motion with axes := [], encoders := [] } }
  let s := foldS (fun s a =>
    let s := foldS (fun s m => s.put (axIdx a + 3) m 0) s [1, 2, 3, 4, 5, 6, 7, 8]
    let s := foldS (fun s m => s.put (axIdx a + 4) m 0) s [1, 2, 3, 4, 5]
    let s := (((s.put (axIdx a + 7) 1 0).put (axIdx a + 7) 2 0).emit (.pin (.sto a) 0)).emit (.gatesLow a)
    if s.isLost .axis a then s.put (axIdx a + 3) 7 6 else s) s (List.range s.cfg.axes)
  foldS (fun s k => foldS (fun s m => s.put (0x8581 + k * 4) m 0) s [1, 2, 3, 4]) s (List.range 8)

/-- PD17 works again after its reset: every axis enters its active MODE. -/
def State.motionStart (s : State) : State :=
  foldS (fun s a => if s.axFault a = 0 then s.restartAxis a else s) s.putLoad (List.range s.cfg.axes)

end Sys2Proof.Machine
end

