-- ==== Sys2Proof/Machine/Float.lean ====
section
/-!
DEFINITION. Binary floating point as the ray units compute it (R252, R253): IEEE 754 values, exact operations on them and
rounding to binary32 or binary64.
-/
namespace Sys2Proof.Machine

/-- A floating-point value: (−1)^neg × m × 2^e where it is finite. -/
inductive Fl where
  | nan
  | inf (neg : Bool)
  | fin (neg : Bool) (m : Nat) (e : Int)
  deriving DecidableEq, Repr

/-- Rounding modes: to nearest with ties to even, toward −∞, toward +∞. -/
inductive Rnd where
  | near | down | up
  deriving DecidableEq, Repr

/-- The value of a binary32 pattern. -/
def Fl.ofF32 (p : Nat) : Fl :=
  let neg := bit p 31
  let ex := bitsOf p 30 23
  let m := bitsOf p 22 0
  if ex = 255 then (if m = 0 then .inf neg else .nan)
  else if ex = 0 then .fin neg m (-149)
  else .fin neg (m + 2 ^ 23) ((ex : Int) - 150)

/-- Bits of a number. -/
def natBits (n : Nat) : Nat := if n = 0 then 0 else Nat.log2 n + 1

/-- m × 2^e rounded to `prec` bits with exponents from `emin` and below 2^`emax`; `sticky` tells that the exact value is
a little above m × 2^e. -/
def roundFl (prec : Nat) (emin emax : Int) (r : Rnd) (neg : Bool) (m : Nat) (e : Int) (sticky : Bool) : Fl :=
  if m = 0 ∧ !sticky then .fin neg 0 emin
  else
    -- two extra bits hold the sticky information exactly
    let m := m * 4 + (if sticky then 1 else 0)
    let e := e - 2
    let drop : Int := max ((natBits m : Int) - (prec : Int)) (emin - e)
    let a : Nat × Int :=
      if drop ≤ 0 then (m * 2 ^ (-drop).toNat, e + drop)
      else
        let d := 2 ^ drop.toNat
        let q := m / d
        let rest := m % d
        let up := match r with
          | .near => 2 * rest > d || (2 * rest == d && q % 2 == 1)
          | .down => neg && rest != 0
          | .up => !neg && rest != 0
        (if up then q + 1 else q, e + drop)
    let tooBig : Bool := decide (emax < (natBits a.1 : Int) + a.2)
    if tooBig then
      match r, neg with
      | .down, false => .fin false (2 ^ prec - 1) (emax - prec)
      | .up, true => .fin true (2 ^ prec - 1) (emax - prec)
      | _, _ => .inf neg
    else .fin neg a.1 a.2

/-- Rounded to binary32 and to binary64. -/
def round32 (r : Rnd) (neg : Bool) (m : Nat) (e : Int) (sticky : Bool) : Fl := roundFl 24 (-149) 128 r neg m e sticky
def round64 (r : Rnd) (neg : Bool) (m : Nat) (e : Int) (sticky : Bool) : Fl := roundFl 53 (-1074) 1024 r neg m e sticky

/-- How a result is rounded. -/
abbrev RoundTo := Rnd → Bool → Nat → Int → Bool → Fl

def Fl.neg : Fl → Fl
  | .nan => .nan
  | .inf n => .inf (!n)
  | .fin n m e => .fin (!n) m e

/-- The sum, rounded. -/
def Fl.add (rt : RoundTo) (r : Rnd) (a b : Fl) : Fl :=
  match a, b with
  | .nan, _ => .nan
  | _, .nan => .nan
  | .inf x, .inf y => if x = y then .inf x else .nan
  | .inf x, _ => .inf x
  | _, .inf y => .inf y
  | .fin n m e, .fin k l f =>
    let g := min e f
    let x : Int := (if n then -1 else 1) * ((m * 2 ^ (e - g).toNat : Nat) : Int)
    let y : Int := (if k then -1 else 1) * ((l * 2 ^ (f - g).toNat : Nat) : Int)
    let z := x + y
    if z = 0 then .fin (if m = 0 ∧ l = 0 ∧ n = k then n else decide (r = .down)) 0 g
    else rt r (decide (z < 0)) z.natAbs g false

def Fl.sub (rt : RoundTo) (r : Rnd) (a b : Fl) : Fl := a.add rt r b.neg

/-- The product, rounded. -/
def Fl.mul (rt : RoundTo) (r : Rnd) (a b : Fl) : Fl :=
  match a, b with
  | .nan, _ => .nan
  | _, .nan => .nan
  | .inf x, .inf y => .inf (x != y)
  | .inf x, .fin k l _ => if l = 0 then .nan else .inf (x != k)
  | .fin n m _, .inf y => if m = 0 then .nan else .inf (n != y)
  | .fin n m e, .fin k l f => rt r (n != k) (m * l) (e + f) false

/-- The quotient, rounded. -/
def Fl.div (rt : RoundTo) (r : Rnd) (a b : Fl) : Fl :=
  match a, b with
  | .nan, _ => .nan
  | _, .nan => .nan
  | .inf _, .inf _ => .nan
  | .inf x, .fin k _ _ => .inf (x != k)
  | .fin n _ _, .inf y => .fin (n != y) 0 0
  | .fin n m e, .fin k l f =>
    if l = 0 then (if m = 0 then .nan else .inf (n != k))
    else
      let s := 2 ^ (natBits l + 64)
      rt r (n != k) (m * s / l) (e - f - ((natBits l + 64 : Nat) : Int)) (m * s % l != 0)

/-- a ≤ b and a < b; false of NaN. -/
def Fl.le (a b : Fl) : Bool :=
  match a, b with
  | .nan, _ => false
  | _, .nan => false
  | .inf x, .inf y => x || !y
  | .inf x, _ => x
  | _, .inf y => !y
  | .fin n m e, .fin k l f =>
    let g := min e f
    decide ((if n then -1 else 1) * ((m * 2 ^ (e - g).toNat : Nat) : Int)
      ≤ (if k then -1 else 1) * ((l * 2 ^ (f - g).toNat : Nat) : Int))

def Fl.lt (a b : Fl) : Bool := a.le b && !b.le a

def Fl.isZero : Fl → Bool
  | .fin _ m _ => m == 0
  | _ => false

/-- The sign of a value that is not zero. -/
def Fl.isNeg : Fl → Bool
  | .fin n m _ => n && m != 0
  | .inf n => n
  | .nan => false

def Fl.abs : Fl → Fl
  | .fin _ m e => .fin false m e
  | .inf _ => .inf false
  | .nan => .nan

def Fl.zero : Fl := .fin false 0 0
def Fl.one : Fl := .fin false 1 0

/-- A signed number, rounded to binary32. -/
def Fl.ofInt (i : Int) : Fl := round32 .near (decide (i < 0)) i.natAbs 0 false

/-- The binary32 pattern of a value that binary32 holds. -/
def Fl.toF32 (a : Fl) : Nat :=
  match a with
  | .nan => 0x7FC00000
  | .inf n => (if n then 2 ^ 31 else 0) + 0x7F800000
  | .fin n m e =>
    let s := if n then 2 ^ 31 else 0
    match round32 .near n m e false with
    | .fin _ m e =>
      if m = 0 then s
      else
        let up := 24 - natBits m
        if -149 ≤ e - (up : Int) then
          s + ((e - (up : Int) + 150).toNat * 2 ^ 23 + (m * 2 ^ up - 2 ^ 23))
        else s + m * 2 ^ (e + 149).toNat
    | .inf _ => s + 0x7F800000
    | .nan => 0x7FC00000

end Sys2Proof.Machine
end

