-- ==== Sys2Proof/Machine/Copy.lean ====
section
/-!
DEFINITION. What the copy engines do tile by tile (R271, R272): the clipping of a command's rectangles, its checks, and
the content each destination tile takes.
-/
namespace Sys2Proof.Machine

/-- Bytes of a tile replaced from an offset on. -/
def patchBytes (l : List Byte) (off : Nat) (d : List Byte) : List Byte := l.take off ++ d ++ l.drop (off + d.length)

/-- The byte ranges of a surface's data area that hold the pixel (x, y). -/
def Surf.ranges (f : Surf) (x y : Nat) : List (Nat × Nat) :=
  if f.layout = 0 then linearSamples f.format f.w f.h x y
  else tileSamples f.format ((y / 32 * tileCols f.w + x / 64) * rawTileBytes f.format) (x % 64) (y % 32)

/-- Pixels of tile `t` written by a copy engine, each with the bytes of its ranges (R155 in COMPRESSED layout). -/
def State.wrPixels (s : State) (f : Surf) (t : Nat) (l : List ((Nat × Nat) × List (List Byte))) : State :=
  if f.layout = 2 then
    let raw := l.foldl (fun raw x =>
      ((tileSamples f.format 0 (x.1.1 % 64) (x.1.2 % 32)).zip x.2).foldl (fun raw r => patchBytes raw r.1.1 r.2) raw)
      ((s.surfSrc f).rawTile t)
    s.wrTile f t raw
  else foldS (fun s x => foldS (fun s r => s.wrSurf f r.1.1 r.2) s ((f.ranges x.1.1 x.1.2).zip x.2)) s l

/-- The rectangle of a command after clipping, and whether a part was clipped. -/
structure Clip where
  w : Nat
  h : Nat
  cut : Bool
  deriving DecidableEq, Repr

/-- A rectangle of `w` × `h` clipped to surfaces: for each, its size and where the rectangle begins in it. -/
def clipTo (w h : Nat) (l : List (Surf × Nat × Nat)) : Clip :=
  let w' := l.foldl (fun n x => min n (x.1.w - x.2.1)) w
  let h' := l.foldl (fun n x => min n (x.1.h - x.2.2)) h
  let none_ := w' = 0 ∨ h' = 0
  ⟨if none_ then 0 else w', if none_ then 0 else h', w' != w || h' != h⟩

/-- The tiles of a surface that a rectangle meets, ascending. -/
def rectTiles (f : Surf) (x y w h : Nat) : List Nat :=
  if w = 0 ∨ h = 0 then []
  else (List.range f.tiles).filter (fun t =>
    let tx := t % max 1 (tileCols f.w) * 64
    let ty := t / max 1 (tileCols f.w) * 32
    decide (tx < x + w ∧ x < tx + 64 ∧ ty < y + h ∧ y < ty + 32))

/-- The pixels of a rectangle within one tile, row-major. -/
def rectPixels (f : Surf) (t x y w h : Nat) : List (Nat × Nat) :=
  let tx := t % max 1 (tileCols f.w) * 64
  let ty := t / max 1 (tileCols f.w) * 32
  let x0 := max tx x
  let y0 := max ty y
  let nx := min (tx + 64) (x + w) - x0
  let ny := min (ty + 32) (y + h) - y0
  ((List.range ny).map (fun j => (List.range nx).map (fun i => (x0 + i, y0 + j)))).flatten

/-- The bytes that one VALUE of a fill gives the ranges of a pixel, in the format's memory order. -/
def fillBytes (f x v : Nat) : List (List Byte) :=
  match fmtFamily f with
  | 6 => [leBytes 1 (bitsOf v 7 0), leBytes 2 (bitsOf v 23 8)]
  | 7 => [leBytes 2 (bitsOf v 15 0), leBytes 4 (bitsOf v 47 16)]
  | 8 => [leBytes 1 (if x % 2 = 0 then bitsOf v 7 0 else bitsOf v 23 16), leBytes 1 (bitsOf v 15 8), leBytes 1 (bitsOf v 31 24)]
  | _ => [leBytes (rowPxBytes f) v]

/-- The rectangle covers every pixel of the surface in tile `t`. -/
def coversTile (f : Surf) (t x y w h : Nat) : Bool :=
  let tx := t % max 1 (tileCols f.w) * 64
  let ty := t / max 1 (tileCols f.w) * 32
  decide (x ≤ tx ∧ y ≤ ty ∧ min (tx + 64) f.w ≤ x + w ∧ min (ty + 32) f.h ≤ y + h)

/-- A tile of a fill: a whole tile of a COMPRESSED destination gets its header alone, or raw data where the format has no
constant header. -/
def State.fillTile (s : State) (f : Surf) (t x y w h v : Nat) : State :=
  if f.layout = 2 ∧ coversTile f t x y w h then
    if fmtFamily f.format = 8 then s.wrHeader f t (v % 2 ^ 32 * 2 ^ 32 + 0x400)
    else
      let fam := fmtFamily f.format
      if 6 ≤ fam then s.wrTile f t ((rectPixels f t 0 0 (tileCols f.w * 64) (tileRows f.h * 32)).foldl (fun raw p =>
        ((tileSamples f.format 0 (p.1 % 64) (p.2 % 32)).zip (fillBytes f.format p.1 v)).foldl
          (fun raw r => patchBytes raw r.1.1 r.2) raw) (List.replicate (rawTileBytes f.format) 0))
      else s.wrTile f t (fillRaw f.format v)
  else s.wrPixels f t ((rectPixels f t x y w h).map (fun p => (p, fillBytes f.format p.1 v)))

/-- A tile of a copy between surfaces of one format. -/
def State.copyTile (s : State) (a b : Surf) (t sx sy dx dy w h : Nat) : State :=
  let q := s.surfSrc a
  s.wrPixels b t ((rectPixels b t dx dy w h).map (fun p => (p, q.samples (p.1 - dx + sx) (p.2 - dy + sy))))

/-- A tile of a conversion (R271). -/
def State.convertTile (s : State) (a b : Surf) (t sx sy dx dy w h : Nat) : State :=
  let q := s.surfSrc a
  s.wrPixels b t ((rectPixels b t dx dy w h).map (fun p =>
    let v := q.px ((p.1 - dx + sx : Nat) : Int) ((p.2 - dy + sy : Nat) : Int)
    (p, [leBytes (rowPxBytes b.format) (narrowPx (fmtFamily b.format) v)])))

/-- The bytes of a source tile that a check value is computed over. -/
def State.checkBytes (s : State) (f : Surf) (t x y w h : Nat) : List Byte :=
  let q := s.surfSrc f
  ((rectPixels f t x y w h).map (fun p => (q.samples p.1 p.2).flatten)).flatten

/-- The settings a CVU_SET names in the active plan. -/
def State.cvuSet (s : State) (n : Nat) : Option PlanCvu := s.plan.active.bind (fun p => p.cvus[n]?)

/-- A format that commands do not write or check (R271). -/
def isYuv (f : Nat) : Bool := decide (6 ≤ fmtFamily f)

/-- The surfaces, clip and tiles of a command, or the code it ends with (R271, R272). The last of the tuple is the list
of tiles in the order they are taken. `cvu` is the settings entry of a check value. -/
def State.copyPlan (s : State) (p : Nat) (op : QOp) (cvu : Option PlanCvu) : Except Nat (Clip × List Nat) :=
  let pair := fun (src dst sx sy dx dy w h : Nat) (conv : Bool) =>
    match s.handleSurf p src, s.handleSurf p dst with
    | some (_, a), some (y, b) =>
      let c := clipTo w h [(a, sx, sy), (b, dx, dy)]
      if y.rights = 1 then (.error codeNoWriteRight : Except Nat (Clip × List Nat))
      else if conv && isYuv b.format || !conv && a.format != b.format then .error codeFormatUnsupported
      else if a.id = b.id ∧ sx < dx + c.w ∧ dx < sx + c.w ∧ sy < dy + c.h ∧ dy < sy + c.h then .error codeOverlap
      else .ok (c, rectTiles b dx dy c.w c.h)
    | _, _ => .error codeStaleHandle
  match op with
  | .copy src dst sx sy dx dy w h => pair src dst sx sy dx dy w h false
  | .convert src dst sx sy dx dy w h => pair src dst sx sy dx dy w h true
  | .fill dst dx dy w h _ =>
    match s.handleSurf p dst with
    | some (y, b) =>
      let c := clipTo w h [(b, dx, dy)]
      if y.rights = 1 then .error codeNoWriteRight else .ok (c, rectTiles b dx dy c.w c.h)
    | none => .error codeStaleHandle
  | .check hd x y w h =>
    match s.handleSurf p hd with
    | some (_, a) =>
      let c := clipTo w h [(a, x, y)]
      if cvu.isNone then .error codeCvuSetAbsent
      else if isYuv a.format then .error codeFormatUnsupported
      else .ok (c, rectTiles a x y c.w c.h)
    | none => .error codeStaleHandle
  | _ => .error codeBadCommand

/-- The byte ranges of a surface that the read of a rectangle takes: its tiles, or in LINEAR layout the surface. -/
def Surf.rectSpans (f : Surf) (x y w h : Nat) : List (Nat × Nat) :=
  if f.layout = 0 then [(0, f.size)] else (rectTiles f x y w h).map (fun t => (t * rawTileBytes f.format, rawTileBytes f.format))

/-- A source read by a copy engine for tile `t` of the rectangle of `b` at (dx, dy): the access counts, and an uncorrectable error it
meets is reported (R329). -/
def State.readSrc (s : State) (a b : Surf) (t sx sy dx dy w h : Nat) : State :=
  let tx := t % max 1 (tileCols b.w) * 64
  let ty := t / max 1 (tileCols b.w) * 32
  let x := max tx dx
  let y := max ty dy
  foldS (fun s r => (s.heat a.id r.1 r.2).when (a.loc != 2 && !a.homeless) (fun s => s.reportBroken (a.addr + r.1) r.2)) s
    (a.rectSpans (x - dx + sx) (y - dy + sy) (min (tx + 64) (dx + w) - x) (min (ty + 32) (dy + h) - y))

/-- One tile of a command done. -/
def State.copyStep (s : State) (p : Nat) (c : HeadCmd) (k : Clip) (t : Nat) : State × HeadCmd :=
  match c.op with
  | .copy src dst sx sy dx dy _ _ =>
    (match s.handleSurf p src, s.handleSurf p dst with
      | some (_, a), some (_, b) => (s.copyTile a b t sx sy dx dy k.w k.h).readSrc a b t sx sy dx dy k.w k.h
      | _, _ => s, c)
  | .convert src dst sx sy dx dy _ _ =>
    (match s.handleSurf p src, s.handleSurf p dst with
      | some (_, a), some (_, b) => (s.convertTile a b t sx sy dx dy k.w k.h).readSrc a b t sx sy dx dy k.w k.h
      | _, _ => s, c)
  | .fill dst dx dy _ _ v =>
    (match s.handleSurf p dst with
      | some (_, b) => s.fillTile b t dx dy k.w k.h v
      | none => s, c)
  | .check hd x y _ _ =>
    match s.handleSurf p hd, c.cvu with
    | some (_, a), some u =>
      let l := s.checkBytes a t x y k.w k.h
      (s.readSrc a a t x y x y k.w k.h, { c with crc := u.raw c.crc l, fed := c.fed + l.length })
    | _, _ => (s, c)
  | _ => (s, c)

/-- The surfaces that a command reads and writes, by their handles. -/
def QOp.surfaces : QOp → List (Nat × Bool)
  | .copy a b _ _ _ _ _ _ | .convert a b _ _ _ _ _ _ => [(a, false), (b, true)]
  | .fill b _ _ _ _ _ => [(b, true)]
  | .check a _ _ _ _ => [(a, false)]
  | _ => []

/-- Memory takes the accesses of a tile of a command. -/
def State.copyAdmit (s : State) (p : Nat) (op : QOp) : State × Bool :=
  op.surfaces.foldl (fun (a : State × Bool) h => match a.2, a.1.handleSurf p h.1 with
    | true, some x => a.1.unitAdmit 6 p h.2 x.2
    | _, _ => a) (s, true)

/-- Tiles of a command done in order as far as memory takes them. -/
def State.copyTiles (s : State) (p : Nat) (c : HeadCmd) (k : Clip) : List Nat → State × HeadCmd
  | [] => (s, c)
  | t :: rest =>
    let a := s.copyAdmit p c.op
    if a.2 then
      let b := a.1.copyStep p c k t
      b.1.copyTiles p { b.2 with next := b.2.next + 1 } k rest
    else (a.1, c)

/-- The tiles of a command from the one it stands at to `upto`, in order. -/
def State.copyTo (s : State) (p : Nat) (c : HeadCmd) (k : Clip) (tiles : List Nat) (upto : Nat) : State × HeadCmd :=
  s.copyTiles p c k ((tiles.take upto).drop c.next)

/-- A migration hold stalls a command on its surfaces (R131, R272). -/
def State.opStalled (s : State) (p : Nat) (op : QOp) : Bool :=
  op.surfaces.any (fun h => (s.handleSurf p h.1).elim false (fun x => s.isHeld x.2.id))

end Sys2Proof.Machine
end

