-- ==== Sys2Proof/Machine/Schedule.lean ====
section
/-!
DEFINITION. The dispatcher of the copy engines and the render engine (R246, R274 to R276): shares, deficits, the choice
of a queue, and preemption.
-/
namespace Sys2Proof.Machine

/-! ## Render units and shares (R246, R260) -/

/-- Shader clusters, and ray units, of a configuration. -/
def Cfg.clusters (c : Cfg) : Nat := if c.compact then 4 else 8

/-- Cluster `c` works: it is usable, its domain is on and the render engine is not stopped for its temperature (R477). -/
def State.clusterUp (s : State) (c : Nat) : Bool :=
  !s.sys.stopped && s.pdOn (if c < 4 then 11 else 12) && !s.isLost .cluster c

/-- Usable shader clusters. -/
def State.clusters (s : State) : Nat := ((List.range s.cfg.clusters).filter s.clusterUp).length

/-- Cluster time a partition has used in the running epoch, in ns. -/
def State.renderUsed (s : State) (p : Nat) : Nat := mget 0 p s.render.used

/-- SHARE_PCT of a partition as cluster time of one epoch while all clusters are usable. -/
def State.fullShare (s : State) (p : Nat) : Nat := s.get (0x7020 + p) 1 * s.get 0x9060 4 * s.cfg.clusters / 100

/-- The cluster time that R246 guarantees a partition in an epoch: whole for classes A and B as far as the usable clusters
allow, in proportion for the others. -/
def State.guaranteed (s : State) (p : Nat) : Nat :=
  let cap := s.clusters * s.get 0x9060 4
  let isAB := fun q => (s.plan.active.elim false (fun a => decide (a.maxClass q ≤ 1)))
  let parts := List.range s.cfg.parts
  let ab := sumBy s.fullShare (parts.filter isAB)
  let rest := sumBy s.fullShare (parts.filter (fun q => !isAB q))
  let scale := fun (x total room : Nat) => if total ≤ room then x else x * room / max 1 total
  if isAB p then scale (s.fullShare p) ab cap else scale (s.fullShare p) rest (cap - ab)

/-- A partition is below its share. -/
def State.belowShare (s : State) (p : Nat) : Bool := decide (s.renderUsed p < s.guaranteed p)

/-! ## Candidates -/

/-- The engine kind of an engine number: 0 and 1 are the copy engines, 2 the render engine. -/
def engineKind (e : Nat) : Nat := if e < 2 then 0 else 1

/-- The command at the head of a queue needs an engine of a kind, and its partition may run it: a partition whose logical
device is lost runs no render work (R248). -/
def State.wants (s : State) (x : QueueSt) (kind : Nat) : Bool :=
  x.head.elim false (fun c => c.op.kind == some kind) && !(kind == 1 && s.get (0x7020 + x.part) 5 == 1)

/-- The queues that wait for an engine of a kind. -/
def State.readyFor (s : State) (kind : Nat) : List QueueSt :=
  s.queue.queues.filter (fun x => s.wants x kind && s.queueReady x.part x.queue)

/-- The queue that runs on an engine. -/
def State.onEngine (s : State) (e : Nat) : Option QueueSt := s.queue.queues.find? (fun x => x.engine == some e)

/-- PRIORITY and the deficit now, the running time taken off. -/
def State.prio (s : State) (x : QueueSt) : Nat := s.get (qIdx x.part x.queue) 9
def State.deficitNow (s : State) (x : QueueSt) : Int :=
  if x.engine.isSome then x.deficit - ((s.now - x.runFrom : Nat) : Int) else x.deficit

/-- One gain of a queue: WEIGHT × QUANTUM_US. -/
def State.gain (s : State) (x : QueueSt) : Nat := max 1 (s.get (qIdx x.part x.queue) 8) * s.get 0x7700 1 * 1000

/-- Every ready queue of a level gains until one of them has a positive deficit, capped at twice the gain. -/
def State.refill (s : State) (l : List QueueSt) : State :=
  if l.isEmpty ∨ l.any (fun x => decide (0 < x.deficit)) then s
  else
    let rounds := fun (x : QueueSt) => ((-x.deficit).toNat / s.gain x) + 1
    let n := (l.map rounds).foldl min (((l.head?.map rounds)).getD 1)
    foldS (fun s x => s.putQueue { x with deficit := min (x.deficit + ((n * s.gain x : Nat) : Int)) ((2 * s.gain x : Nat) : Int) }) s l

/-- The next queue of a list in rotation after the last one served at a level, in the order p × 8 + q. -/
def State.rotate (s : State) (level : Nat) (l : List QueueSt) : Option QueueSt :=
  let num := fun (x : QueueSt) => x.part * 8 + x.queue
  let last := mget 127 level s.queue.last
  let key := fun (x : QueueSt) => (num x + 127 - last) % 128
  l.foldl (fun (b : Option QueueSt) x => match b with
    | none => some x
    | some y => if key x < key y then some x else some y) none

/-- The promoted queue with the longest wait. -/
def longestWait (l : List QueueSt) : Option QueueSt :=
  (l.filter (fun x => x.promoted)).foldl (fun (b : Option QueueSt) x => match b with
    | none => some x
    | some y => if x.ready.getD 0 < y.ready.getD 0 then some x else some y) none

/-- The queues that may be served on an engine kind: on the render engine those of partitions below their share, where
there are any. -/
def State.entitled (s : State) (kind : Nat) : List QueueSt :=
  let l := s.readyFor kind
  let below := l.filter (fun x => s.belowShare x.part)
  if kind = 1 ∧ !below.isEmpty then below else l

/-- The dispatcher's choice for an engine kind, with the deficits it leaves (R274). -/
def State.choose (s : State) (kind : Nat) : State × Option QueueSt :=
  let l := s.entitled kind
  match longestWait l with
  | some x => (s, some x)
  | none =>
    match (List.range 4).find? (fun k => l.any (fun x => s.prio x == k)) with
    | none => (s, none)
    | some k =>
      let s := s.refill (l.filter (fun x => s.prio x == k))
      let level := (s.entitled kind).filter (fun x => s.prio x == k && decide (0 < x.deficit))
      match s.rotate k level with
      | none => (s, none)
      | some x =>
        ({ s with queue := { s.queue with last := mput 127 k (x.part * 8 + x.queue) s.queue.last } }, some x)

/-- Every level of the queues that wait for an engine kind gains as R274 says. -/
def State.refillAll (s : State) (kind : Nat) : State :=
  foldS (fun s k => s.refill ((s.readyFor kind).filter (fun x => s.prio x == k))) s (List.range 4)

/-! ## Stopping -/

/-- An engine is usable: the copy engines with PD2, the render engine while a cluster is. -/
def State.engineUp (s : State) (e : Nat) : Bool := if e < 2 then s.pdOn 2 else decide (0 < s.clusters)

/-- The queue on an engine stops: its engine time leaves its deficit, and on the render engine counts against its
partition's share. -/
def State.leaveEngine (s : State) (x : QueueSt) : State :=
  let ran := s.now - x.runFrom
  let s := if x.engine = some 2 then
      { s with render := { s.render with
          used := mput 0 x.part (s.renderUsed x.part + (s.now - max x.runFrom s.time.lastEpoch) * s.clusters) s.render.used } }
    else s
  s.putQueue { x with engine := none, deficit := x.deficit - (ran : Int) }

/-- PROGRESS written into the command's entry (R266). -/
def State.writeProgress (s : State) (x : QueueSt) (c : HeadCmd) : State :=
  let i := s.consumer x.part x.queue % 2 ^ x.log2
  s.emit (.hostWrite x.part (x.base + i * 64 + 56) (leBytes 4 c.next ++ leBytes 2 c.interrupts ++ [0, 0]))

/-- The command at the head ends: CONSUMER passes it and it completes. -/
def State.finishHead (s : State) (p q : Nat) (c : HeadCmd) (status r0 r1 : Nat) : State :=
  let s := s.putQueue { s.queueSt p q with head := none }
  (s.advanceConsumer p q).complete c.hdr status r0 r1

/-- The command at the head stops at a boundary and stays there with its progress: INTERRUPTS counts it. -/
def State.interruptHead (s : State) (x : QueueSt) (c : HeadCmd) : State :=
  let c := { c with interrupts := min 65535 (c.interrupts + 1) }
  let s := s.leaveEngine x
  let y := s.queueSt x.part x.queue
  let ended := y.promoted && y.sliceEnd.elim false (fun e => decide (e ≤ s.now))
  let y := { y with head := some c, promoted := y.promoted && !ended, sliceEnd := if ended then none else y.sliceEnd,
                    deficit := if ended then 0 else y.deficit }
  ((s.putQueue y).writeProgress y c).settleQueue x.part x.queue

/-! ## Preemption (R275) -/

/-- A promoted queue's slice is over (R276). -/
def State.sliceOver (s : State) (x : QueueSt) : Bool := x.sliceEnd.elim true (fun e => decide (e ≤ s.now))

/-- The deficit that decides on preemption: 0 for a promoted queue whose slice has ended. -/
def State.deficitFor (s : State) (x : QueueSt) : Int := if x.promoted && s.sliceOver x then 0 else s.deficitNow x

/-- The dispatcher preempts the queue `x` on an engine of a kind: another waits for the same kind under R275, or under
R246 from a partition below its share while that of `x` is above its own. -/
def State.mustPreempt (s : State) (x : QueueSt) (kind : Nat) : Bool :=
  let held := x.promoted && !s.sliceOver x
  let above := fun (y : QueueSt) => kind == 1 && s.belowShare y.part && !s.belowShare x.part
  let allowed := fun (y : QueueSt) => kind != 1 || s.belowShare y.part || !s.belowShare x.part
  (s.readyFor kind).any (fun y => above y || allowed y && !held
    && (y.promoted || s.prio y < s.prio x && decide (0 < y.deficit)
        || s.prio y == s.prio x && decide (0 < y.deficit) && decide (s.deficitFor x ≤ 0)))

/-! ## Epochs -/

/-- USED_PCT and LOAD_PCT of the epoch that ends, and the shares of the one that begins. -/
def State.renderEpoch (s : State) : State :=
  let cap := max 1 (s.clusters * s.get 0x9060 4)
  let s := match s.onEngine 2 with
    | some x => { s with render := { s.render with
        used := mput 0 x.part (s.renderUsed x.part + (s.now - max x.runFrom s.time.lastEpoch) * s.clusters) s.render.used } }
    | none => s
  let s := foldS (fun s p => s.put (0x7020 + p) 2 (min 100 (s.renderUsed p * 100 / cap))) s (List.range s.cfg.parts)
  let load := min 100 (sumBy s.renderUsed (List.range s.cfg.parts) * 100 / cap)
  let s := foldS (fun s c => s.put (0x7010 + c) 2 (if s.clusterUp c then load else 0)) s (List.range s.cfg.clusters)
  { s with render := { s.render with used := [] } }

end Sys2Proof.Machine
end

