-- ==== Sys2Proof/Machine/Pick.lean ====
section
/-!
DEFINITION. Pick structures: their validation (R249 to R251, R256), and the traversal and triangle test of a pick ray
(R252 to R254, R257, R258).
-/
namespace Sys2Proof.Machine

/-! ## The published format -/

/-- A structure as the ray units read it: the little-endian number in `n` bytes at an offset from its header. -/
abbrev BvhMem := Nat → Nat → Nat

/-- The header fields of a structure. -/
def bvhNodes (d : BvhMem) : Nat := d 0x0C 4
def bvhLeaves (d : BvhMem) : Nat := d 0x10 4
def bvhVerts (d : BvhMem) : Nat := d 0x14 4
def bvhNodeAt (d : BvhMem) (n : Nat) : Nat := d 0x18 4 + 64 * n
def bvhLeafAt (d : BvhMem) (n : Nat) : Nat := d 0x1C 4 + 32 * n
def bvhVertAt (d : BvhMem) (n : Nat) : Nat := d 0x20 4 + 12 * n

/-- The children of a node: child number, KIND, and the node or first leaf and the count of leaves. -/
def bvhChildren (d : BvhMem) (n : Nat) : List (Nat × Nat × Nat × Nat) :=
  let o := bvhNodeAt d n
  let a := (List.range 4).foldl (fun (a : List (Nat × Nat × Nat × Nat) × Nat × Nat) c =>
    let m := d (o + 0x18 + c) 1
    let kind := m % 4
    if kind = 1 then (a.1 ++ [(c, 1, a.2.1, 0)], a.2.1 + 1, a.2.2)
    else if kind = 2 then (a.1 ++ [(c, 2, a.2.2, m / 4)], a.2.1, a.2.2 + m / 4)
    else (a.1 ++ [(c, kind, 0, 0)], a.2.1, a.2.2)) ([], d (o + 0x10) 4, d (o + 0x14) 4)
  a.1

/-! ## Validation (R256) -/

/-- One node is well formed. -/
def bvhNodeOk (d : BvhMem) (n : Nat) : Bool :=
  let o := bvhNodeAt d n
  (List.range 3).all (fun a =>
    let e := sext 8 (d (o + 0x0C + a) 1)
    decide (-100 ≤ e) && decide (e ≤ 100))
  && d (o + 0x0F) 1 == 0 && d (o + 0x1C) 4 == 0 && d (o + 0x38) 8 == 0
  && (bvhChildren d n).all (fun c =>
    let m := d (o + 0x18 + c.1) 1
    let box := (List.range 3).all (fun a => decide (d (o + 0x20 + 6 * c.1 + a) 1 ≤ d (o + 0x23 + 6 * c.1 + a) 1))
    match c.2.1 with
    | 0 => m / 4 == 0
    | 1 => m / 4 == 0 && box && decide (c.2.2.1 < bvhNodes d)
    | 2 => decide (1 ≤ m / 4) && box && decide (c.2.2.1 + c.2.2.2 ≤ bvhLeaves d)
    | _ => false)

/-- One leaf is well formed. -/
def bvhLeafOk (d : BvhMem) (n : Nat) : Bool :=
  let o := bvhLeafAt d n
  (List.range 3).all (fun v => decide (d (o + 4 * v) 4 < bvhVerts d)) && decide (d (o + 20) 4 < 4)
    && d (o + 24) 8 == 0

/-- The nodes at the next level below some nodes. -/
def bvhLevel (d : BvhMem) (l : List Nat) : List Nat :=
  (l.map (fun n => (bvhChildren d n).filterMap (fun c => if c.2.1 = 1 then some c.2.2.1 else none))).flatten.eraseDups

/-- Every path from the root ends within `n` levels. -/
def bvhDepthOk (d : BvhMem) : Nat → List Nat → Bool
  | 0, l => l.isEmpty
  | n + 1, l => l.isEmpty || bvhDepthOk d n (bvhLevel d l)

/-- The checks of R256. -/
def bvhValid (bytes : List Byte) : Bool :=
  let d : BvhMem := numAt bytes
  decide (64 ≤ bytes.length) && d 0 4 == 0x48564253 && d 4 4 == 0x00010000 && d 8 4 == 0
    && decide (1 ≤ bvhNodes d) && d 0x18 4 % 64 == 0 && d 0x1C 4 % 32 == 0 && d 0x20 4 % 4 == 0
    && d 0x3C 4 == 0 && decide (bvhNodeAt d (bvhNodes d) ≤ bytes.length) && decide (bvhLeafAt d (bvhLeaves d) ≤ bytes.length)
    && decide (bvhVertAt d (bvhVerts d) ≤ bytes.length) && (List.range (bvhNodes d)).all (bvhNodeOk d)
    && (List.range (bvhLeaves d)).all (bvhLeafOk d) && bvhDepthOk d 64 [0]

/-! ## The ray (R252, R257) -/

def f32at (d : BvhMem) (o : Nat) : Fl := Fl.ofF32 (d o 4)

/-- Binary32 operations rounded to nearest. -/
def addN := Fl.add round32 .near
def subN := Fl.sub round32 .near
def mulN := Fl.mul round32 .near
def divN := Fl.div round32 .near

/-- A ray: origin, direction and interval, and whether it culls back faces. -/
structure Ray where
  o : List Fl
  d : List Fl
  cull : Bool
  tmin : Fl
  tmax : Fl
  deriving DecidableEq, Repr

def ax (l : List Fl) (a : Nat) : Fl := nth Fl.zero l a

/-- A row-major 4 × 4 matrix applied to (x, y, z, 1), divided by w; each row is summed from the left. -/
def project (m : List Byte) (x y z : Fl) : List Fl :=
  let row := fun r => addN (addN (addN (mulN (f32at (numAt m) (16 * r)) x) (mulN (f32at (numAt m) (16 * r + 4)) y))
    (mulN (f32at (numAt m) (16 * r + 8)) z)) (mulN (f32at (numAt m) (16 * r + 12)) Fl.one)
  (List.range 3).map (fun r => divN (row r) (row 3))

/-- The ray of a touch point of a layer of `w` × `h`. -/
def pickRay (inv : List Byte) (u v : Int) (w h : Nat) (cull : Bool) : Ray :=
  let n := fun (i : Int) (k : Nat) => subN (divN (Fl.ofInt (2 * i)) (Fl.ofInt (k : Int))) Fl.one
  let near := project inv (n u w) (n v h) Fl.zero
  let far := project inv (n u w) (n v h) Fl.one
  ⟨near, (List.range 3).map (fun a => subN (ax far a) (ax near a)), cull, Fl.zero, Fl.one⟩

/-- The bounds of a child's box on an axis (R250). -/
def boxLo (d : BvhMem) (o c a : Nat) : Fl :=
  Fl.add round32 .down (f32at d (o + 4 * a)) (.fin false (d (o + 0x20 + 6 * c + a) 1) (sext 8 (d (o + 0x0C + a) 1)))
def boxHi (d : BvhMem) (o c a : Nat) : Fl :=
  Fl.add round32 .up (f32at d (o + 4 * a))
    (.fin false (d (o + 0x23 + 6 * c + a) 1 + 1) (sext 8 (d (o + 0x0C + a) 1)))

/-- Entry and exit of a ray on one axis of a box; none where the box is missed. -/
def slab (lo hi o d : Fl) : Option (Fl × Fl) :=
  if d.isZero then (if lo.le o && o.le hi then some (.inf true, .inf false) else none)
  else
    let inv := divN Fl.one d
    let at_ := fun (x : Fl) (r : Rnd) => Fl.mul round32 r (Fl.sub round32 r x o) inv
    if (at_ hi .down).lt (at_ lo .down) then some (at_ hi .down, at_ lo .up) else some (at_ lo .down, at_ hi .up)

/-- The entry distance at which a ray hits a child's box, up to a distance. -/
def boxHit (d : BvhMem) (o c : Nat) (r : Ray) (tcur : Fl) : Option Fl :=
  let s := (List.range 3).map (fun a => slab (boxLo d o c a) (boxHi d o c a) (ax r.o a) (ax r.d a))
  if s.any Option.isNone then none
  else
    let l := s.filterMap id
    let e := l.foldl (fun m x => if m.lt x.1 then x.1 else m) (Fl.inf true)
    let x := l.foldl (fun m x => if x.2.lt m then x.2 else m) (Fl.inf false)
    if e.le x && e.le tcur && r.tmin.le x then some e else none

/-! ## The triangle test (R253) -/

/-- The axes of a ray: kx, ky, kz. -/
def Ray.axes (r : Ray) : Nat × Nat × Nat :=
  let a := (List.range 3).map (fun k => (ax r.d k).abs)
  let kz := (List.range 3).foldl (fun b k => if (nth Fl.zero a b).lt (nth Fl.zero a k) then k else b) 0
  let kx := (kz + 1) % 3
  let ky := (kx + 1) % 3
  if (ax r.d kz).isNeg then (ky, kx, kz) else (kx, ky, kz)

/-- x × y − z × w in binary64 rounded to binary32. -/
def cross64 (x y z w : Fl) : Fl :=
  match Fl.sub round64 .near (Fl.mul round64 .near x y) (Fl.mul round64 .near z w) with
  | .fin n m e => round32 .near n m e false
  | f => f

/-- A zero value on the edge P → Q counts as inside. -/
def edgeIn (s : Bool) (px py qx qy : Fl) : Bool :=
  let dx := if s then subN px qx else subN qx px
  let dy := if s then subN py qy else subN qy py
  Fl.zero.lt dy || (dy.isZero && dx.lt Fl.zero)

/-- The distance at which a ray hits a leaf's triangle, up to a distance; none where it is missed or culled. -/
def leafHit (d : BvhMem) (leaf : Nat) (r : Ray) (tcur : Fl) : Option Fl :=
  let o := bvhLeafAt d leaf
  let k := r.axes
  let vert := fun v => (List.range 3).map (fun a => subN (f32at d (bvhVertAt d (d (o + 4 * v) 4) + 4 * a)) (ax r.o a))
  let dz := ax r.d k.2.2
  let sx := divN (ax r.d k.1) dz
  let sy := divN (ax r.d k.2.1) dz
  let sz := divN Fl.one dz
  let px := fun (p : List Fl) => subN (ax p k.1) (mulN sx (ax p k.2.2))
  let py := fun (p : List Fl) => subN (ax p k.2.1) (mulN sy (ax p k.2.2))
  let a := vert 0
  let b := vert 1
  let c := vert 2
  let (axx, ay, bx, by_, cx, cy) := (px a, py a, px b, py b, px c, py c)
  let e := fun (x y z w : Fl) => subN (mulN x y) (mulN z w)
  let u0 := e cx by_ cy bx
  let v0 := e axx cy ay cx
  let w0 := e bx ay by_ axx
  let again := u0.isZero || v0.isZero || w0.isZero
  let u := if again then cross64 cx by_ cy bx else u0
  let v := if again then cross64 axx cy ay cx else v0
  let w := if again then cross64 bx ay by_ axx else w0
  let nz := [u, v, w].filter (fun x => !x.isZero)
  let back := nz.any Fl.isNeg
  if nz.isEmpty || (back && nz.any (fun x => !x.isNeg)) then none
  else if u.isZero && !edgeIn back bx by_ cx cy || v.isZero && !edgeIn back cx cy axx ay
      || w.isZero && !edgeIn back axx ay bx by_ then none
  else if back && r.cull && !bit (d (o + 20) 4) 1 then none
  else
    let det := addN (addN u v) w
    let t := divN (addN (addN (mulN u (mulN sz (ax a k.2.2))) (mulN v (mulN sz (ax b k.2.2)))) (mulN w (mulN sz (ax c k.2.2)))) det
    if r.tmin.le t && t.le tcur then some t else none

/-! ## Traversal (R252, R254, R255) -/

/-- What is still to be visited: a node with its level, or leaf entries below one. -/
inductive Todo where
  | node (n level : Nat)
  | leaves (first count level : Nat)
  deriving DecidableEq, Repr

/-- A hit: its distance, instance and leaf (R254), and the PRIM_ID and GEOM_INDEX of the triangle. -/
structure Hit where
  t : Fl
  inst : Nat
  leaf : Nat
  prim : Nat
  geom : Nat
  deriving DecidableEq, Repr

/-- A traversal: the closest hit, the nodes visited, the box and triangle tests, the candidates that were not opaque, the
faults met, the reads made of memory (address and bytes), and whether the visit limit ended it. -/
structure Trav where
  best : Option Hit
  visits : Nat
  boxes : Nat
  tris : Nat
  cands : Nat
  faults : Nat
  reads : List (Nat × Nat)
  cut : Bool
  deriving DecidableEq, Repr

def Trav.start : Trav := ⟨none, 0, 0, 0, 0, 0, [], false⟩

/-- Memory read from. -/
def Trav.read (x : Trav) (a n : Nat) : Trav := { x with reads := x.reads ++ [(a, n)] }

/-- The distance of the closest hit so far, or tmax. -/
def Trav.tcur (x : Trav) (r : Ray) : Fl := x.best.elim r.tmax (fun b => b.t)

/-- Of two hits the closest: the smaller distance, then the lower instance, then the lower leaf (R254). -/
def Hit.closer (a b : Hit) : Bool :=
  a.t.lt b.t || !b.t.lt a.t && (a.inst < b.inst || a.inst == b.inst && a.leaf < b.leaf)

/-- A leaf triangle tested. One with a vertex index out of range is a missed triangle and a fault (R255). A candidate that is
not OPAQUE is what the any-hit shader decides on: `reject` numbers those it turns down. The structure begins at `base`. -/
def testTriangle (base : Nat) (d : BvhMem) (r : Ray) (opaqueAll : Bool) (reject : List Nat) (inst leaf : Nat) (x : Trav) : Trav :=
  let o := bvhLeafAt d leaf
  let x := x.read (base + o) 32
  if (List.range 3).any (fun v => decide (bvhVerts d ≤ d (o + 4 * v) 4)) then { x with faults := x.faults + 1 }
  else
    let x := (List.range 3).foldl (fun (x : Trav) v => x.read (base + bvhVertAt d (d (o + 4 * v) 4)) 12) { x with tris := x.tris + 1 }
    match leafHit d leaf r (x.tcur r) with
    | none => x
    | some t =>
      let solid := opaqueAll || bit (d (o + 20) 4) 0
      let ok := solid || !reject.contains x.cands
      let x := if solid then x else { x with cands := x.cands + 1 }
      let h : Hit := ⟨t, inst, leaf, d (o + 12) 4, d (o + 16) 4⟩
      if ok && x.best.elim true (fun b => h.closer b) then { x with best := some h } else x

/-- A child put in by ascending entry distance, behind those of equal distance. -/
def insertByDist (e : Fl) (t : Todo) : List (Fl × Todo) → List (Fl × Todo)
  | [] => [(e, t)]
  | x :: l => if e.lt x.1 then (e, t) :: x :: l else x :: insertByDist e t l

/-- A node's children that can be entered, and the faults of the others: a child index out of range reads as an empty child,
as does a reserved KIND (R255). -/
def liveChildren (d : BvhMem) (n : Nat) : List (Nat × Nat × Nat × Nat) × Nat :=
  let l := (bvhChildren d n).filter (fun c => c.2.1 != 0)
  let ok := fun (c : Nat × Nat × Nat × Nat) =>
    c.2.1 == 1 && decide (c.2.2.1 < bvhNodes d) || c.2.1 == 2 && decide (c.2.2.1 + c.2.2.2 ≤ bvhLeaves d)
  (l.filter ok, (l.filter (fun c => !ok c)).length)

/-- Depth-first traversal of the structure at `base` with at most `limit` node visits; `leaf` tests one leaf entry below a node
of a level. -/
def traverse (base : Nat) (d : BvhMem) (r : Ray) (leaf : Nat → Nat → Trav → Trav) (limit : Nat) : Nat → List Todo → Trav → Trav
  | 0, _, x => x
  | _ + 1, [], x => x
  | f + 1, .leaves a n level :: rest, x =>
    traverse base d r leaf limit f rest ((List.range n).foldl (fun x i => leaf level (a + i) x) x)
  | f + 1, .node n level :: rest, x =>
    if x.visits = limit then { x with cut := true }
    else if 64 ≤ level then traverse base d r leaf limit f rest { x with faults := x.faults + 1 }
    else
      let kids := liveChildren d n
      let hits := kids.1.foldl (fun (l : List (Fl × Todo)) c =>
        match boxHit d (bvhNodeAt d n) c.1 r (x.tcur r) with
        | none => l
        | some e => insertByDist e (if c.2.1 = 1 then .node c.2.2.1 (level + 1) else .leaves c.2.2.1 c.2.2.2 level) l) []
      let x := x.read (base + bvhNodeAt d n) 64
      traverse base d r leaf limit f (hits.map (fun h => h.2) ++ rest)
        { x with visits := x.visits + 1, boxes := x.boxes + kids.1.length, faults := x.faults + kids.2 }

/-- A triangle structure traversed from its root at a level. Every visited node brings at most four entries, so the fuel
suffices. -/
def traceTriangles (base : Nat) (d : BvhMem) (r : Ray) (opaqueAll : Bool) (reject : List Nat) (inst limit level : Nat) (x : Trav) :
    Trav :=
  if bvhNodes d = 0 then { x with faults := x.faults + 1 }
  else traverse base d r (fun _ n x => testTriangle base d r opaqueAll reject inst n x) limit (5 * limit + 2) [.node 0 level] x

/-- The traversal of a pick: every triangle is treated as opaque (R257). -/
def pickTraverse (bytes : List Byte) (r : Ray) (limit : Nat) : Trav :=
  traceTriangles 0 (numAt bytes) r true [] 0 limit 0 .start

/-- PICK of a record (R258). -/
def pickBytes (x : Trav) : List Byte :=
  match x.best with
  | none => [if x.cut then 3 else 0, 0, 0, 0] ++ List.replicate 12 0
  | some h => [if x.cut then 2 else 1, 0, 0, 0] ++ leBytes 4 h.prim ++ leBytes 4 h.geom ++ leBytes 4 h.t.toF32

/-! ## Ray units (R260) -/

/-- Ray unit `n` works: it is there and usable, its domain is on and the render engine is not stopped for its temperature
(R477). -/
def State.rayUp (s : State) (n : Nat) : Bool :=
  decide (n < (if s.cfg.compact then 4 else 8)) && !s.sys.stopped && s.pdOn (if n < 4 then 11 else 12) && !s.isLost .ray n

/-- Some ray unit works. -/
def State.rayUnits (s : State) : Bool := (List.range 8).any s.rayUp

/-- The tests of a traversal count at the ray unit that ran it; the shader clusters count none (R260). -/
def State.countTests (s : State) (ray : Nat) (x : Trav) : State :=
  if s.rayUp ray then (s.bump64 (0x7040 + ray) 2 x.boxes).bump64 (0x7040 + ray) 3 x.tris else s

/-! ## Commands -/

/-- PICK_RESULT: the oldest pick in flight ends on a ray unit, or where none is usable on the shader clusters (R257, R258,
R260); its record goes to the touch ring. -/
def execPickResult (t ray : Nat) (s : State) : Host.Outcome State Fault Refusal :=
  at_ t s fun s =>
    match s.touch.picks with
    | [] => s
    | j :: rest =>
      if !s.rayUp ray && (s.rayUnits || s.clusters == 0) then s
      else
        let s := { s with touch := { s.touch with picks := rest } }
        let x := pickTraverse j.bvh (pickRay j.inv j.u j.v j.w j.h (bit j.flags 1)) (s.get 0x7004 4)
        let s := ((s.bump 0x7002 4).bump (0x7200 + j.slot) 6).countTests ray x
        let s := if x.cut then (s.bump 0x7002 5).setFlag (okey 0 0x7001 0) 4 else s
        s.addRec { j.record with pick := pickBytes x }

/-- Bytes of all structures in effect or about to be, but for a slot's. -/
def State.pickStore (s : State) (slot : Nat) : Nat :=
  sumBy (fun (x : Nat × List Byte) => x.2.length) (s.touch.newRegs.filter (fun x => x.1 != slot)
    ++ s.touch.regs.filter (fun x => x.1 != slot && !s.touch.newRegs.any (fun y => y.1 == x.1)))

/-- A completed write of PICK_BVH of a layer slot: the structure is validated, or an empty one removes the registration
at the next epoch. -/
def State.pickWritten (s : State) (slot : Nat) (d : List Byte) : State :=
  if d.isEmpty then
    { s with touch := { s.touch with newRegs := (slot, []) :: s.touch.newRegs.filter (fun x => x.1 != slot) } }
  else s.put (0x7200 + slot) 4 1

/-- The refusal of a write of PICK_BVH while the previous one is validated (R259). -/
def State.pickRefusal (s : State) (slot : Nat) : Option Nat := if s.get (0x7200 + slot) 4 = 1 then some codeDomainBusy else none

/-- PICK_VALIDATION_DONE (R256). -/
def execPickValidationDone (t slot : Nat) (s : State) : Host.Outcome State Fault Refusal :=
  at_ t s fun s =>
    let i := 0x7200 + slot
    if s.get i 4 ≠ 1 then s
    else
      let d := (s.getBlk (okey 0 i 1)).data
      let room := (if s.cfg.compact then 8 else 16) * 2 ^ 20
      let code := if !bvhValid d then codeBvhInvalid
        else if room < s.pickStore slot + d.length then codePickStoreFull else 0
      let s := s.put i 5 code
      if code ≠ 0 then s.put i 4 3
      else { s.put i 4 2 with touch := { s.touch with
        newRegs := (slot, d) :: s.touch.newRegs.filter (fun x => x.1 != slot) } }

/-- Validated structures take effect at a frame epoch, and removals. -/
def State.adoptPicks (s : State) : State :=
  let s := foldS (fun s (x : Nat × List Byte) => if x.2.isEmpty then s.put (0x7200 + x.1) 4 0 else s) s s.touch.newRegs
  { s with touch := { s.touch with newRegs := [],
                                   regs := s.touch.newRegs.filter (fun x => !x.2.isEmpty)
                                     ++ s.touch.regs.filter (fun x => !s.touch.newRegs.any (fun y => y.1 == x.1)) } }

/-- A swap discards the registrations of layer slots that it removes or gives another owner (R259). -/
def State.dropPicks (s : State) (keep : Nat → Bool) : State :=
  let gone := (s.touch.regs ++ s.touch.newRegs).filter (fun x => !keep x.1)
  let s := foldS (fun s (x : Nat × List Byte) => s.put (0x7200 + x.1) 4 0) s gone
  { s with touch := { s.touch with regs := s.touch.regs.filter (fun x => keep x.1),
                                   newRegs := s.touch.newRegs.filter (fun x => keep x.1) } }

end Sys2Proof.Machine
end

