-- ==== Sys2Proof/Machine/Rays.lean ====
section
/-!
DEFINITION. The rays of shaders (R249 to R255): acceleration structures in guest memory, instances, faults and the visit
limit.
-/
namespace Sys2Proof.Machine

/-- Guest memory from an address on as the ray units read it for a partition: a byte that fails the check of R18 reads zero. -/
def State.guestMem (s : State) (p a : Nat) : BvhMem := fun o n =>
  leNat ((List.range n).map (fun i =>
    if (s.byteFails p false false (a + o + i)).isSome then 0 else nth 0 (s.rdBytes (a + o + i) 1) 0))

/-- A structure of a kind begins there (R249). -/
def bvhIs (d : BvhMem) (kind : Nat) : Bool := d 0 4 == 0x48564253 && d 4 4 == 0x00010000 && d 8 4 == kind

/-- A ray in the space of the instance whose record lies at an offset. -/
def objectRay (d : BvhMem) (o : Nat) (r : Ray) : Ray :=
  let word := fun i => Fl.ofF32 (Config.objectRay ((List.range 12).map (fun k => d (o + 4 * k) 4)) ((r.o ++ r.d).map Fl.toF32) i)
  { r with o := [word 0, word 1, word 2], d := [word 3, word 4, word 5] }

/-- An instance record tested: one whose mask has no bit of the ray's is passed over, the others lead into the triangle
structure at their device address. One that is none is a fault (DESIGN CHOICE, log entry 101). -/
def testInstance (mem : Nat → BvhMem) (base : Nat) (r : Ray) (mask : Nat) (reject : List Nat) (limit level n : Nat) (x : Trav) : Trav :=
  let d := mem base
  let o := d 0x1C 4 + 64 * n
  let x := x.read (base + o) 64
  if mask &&& d (o + 59) 1 = 0 then x
  else
    let a := d (o + 48) 8
    let x := x.read a 64
    if !bvhIs (mem a) 0 then { x with faults := x.faults + 1 }
    else traceTriangles a (mem a) (objectRay d o r) false reject n limit (level + 1) x

/-- The traversal of a shader's ray through the structure at an address. One that is neither of triangles nor of instances is a
fault (DESIGN CHOICE, log entry 101). -/
def rayTraverse (mem : Nat → BvhMem) (base : Nat) (r : Ray) (mask : Nat) (reject : List Nat) (limit : Nat) : Trav :=
  let d := mem base
  let x := Trav.start.read base 64
  if bvhIs d 0 then traceTriangles base d r false reject 0 limit 0 x
  else if !bvhIs d 1 || bvhNodes d == 0 then { x with faults := 1 }
  else traverse base d r (fun level n x => testInstance mem base r mask reject limit level n x) limit (5 * limit + 2) [.node 0 0] x

/-- The ray of a command. -/
def rayOf (c : RayCmd) : Ray :=
  let v := fun (l : List Nat) => (List.range 3).map (fun a => Fl.ofF32 (nth 0 l a))
  ⟨v c.o, v c.d, c.cull, Fl.ofF32 c.tmin, Fl.ofF32 c.tmax⟩

/-- One ray of a partition's shader: the tests count at their unit, each read outside the partition's memory is a violation
(R18), each fault is counted and raised, and a ray that exceeds RAY_MAX_VISITS ends as a miss (R255). -/
def State.traceRay (s : State) (p unit addr : Nat) (c : RayCmd) : State :=
  let x := rayTraverse (s.guestMem p) addr (rayOf c) c.mask c.reject (s.get 0x7004 3)
  let s := s.countTests unit x
  let s := foldS (fun s (a : Nat × Nat) => match s.accessFails p false false a.1 a.2 with
    | some (b, t) => s.violate 8 p false t b
    | none => s) s x.reads
  let s := foldS (fun s _ => (s.bump 0x7002 2).raise 0x7001 0 1 sevError p [byteOf p]) s (List.range x.faults)
  let s := if x.cut then s.bump 0x7002 3 else s
  s.emit (.rayHit p (if x.cut then none else x.best.map (fun h => (h.inst, h.prim, h.geom, h.t.toF32))))

end Sys2Proof.Machine
end

