-- ==== Sys2Proof/Machine/Render.lean ====
section
/-!
DEFINITION. Render submissions (R235, R242 to R248): what the steps of a driver payload do, completion, preemption, time limits,
and the translation cache (R237).
-/
namespace Sys2Proof.Machine

/-! ## Content -/

/-- A surface a partition may render to: a live handle with write right of a format of R242. -/
def State.target (s : State) (p h : Nat) : Option Surf :=
  match s.handleSurf p h with
  | some (x, f) => if x.rights = 1 ∨ isYuv f.format then none else some f
  | none => none

/-- A colour other than the recorded one: the tiles it leaves CLEARED are rewritten with the old colour first (R244). -/
def State.keepCleared (s : State) (f : Surf) (covered : List Nat) : State :=
  foldS (fun s t =>
    let h := leNat (s.rdBytes (f.hdr + 8 * t) 8)
    if hdrCleared h && !covered.contains t then
      (if fmtFamily f.format = 5 then
        let n := rawTileBytes f.format
        ((s.wrArea f false (t * n) (fillRaw f.format f.clear)).wrArea f true (8 * t) (leBytes 8 (n / 256))).markDirty f.id (t * n) n
       else s.wrHeader f t (f.clear % 2 ^ 32 * 2 ^ 32 + 0x400))
    else s) s (List.range f.tiles)

/-- A clear of a rectangle of a target (R243): the tiles it covers completely get a header alone, the others data. -/
def State.clearRect (s : State) (f : Surf) (x y w h colour : Nat) : State :=
  let v := colour % 2 ^ (8 * rowPxBytes f.format)
  let c := clipTo w h [(f, x, y)]
  let tiles := rectTiles f x y c.w c.h
  let whole := if f.layout = 2 ∧ !f.homeless ∧ f.loc < 2 then tiles.filter (fun t => coversTile f t x y c.w c.h) else []
  let s := if whole.isEmpty then s
    else
      let s := if f.clear = v then s else s.keepCleared f whole
      let s := s.putSurf { f with clear := v }
      foldS (fun s t => s.wrHeader f t 0x800) s whole
  let f := { f with clear := if whole.isEmpty then f.clear else v }
  foldS (fun s t => s.wrPixels f t ((rectPixels f t x y c.w c.h).map (fun p => (p, fillBytes f.format p.1 v)))) s
    (tiles.filter (fun t => !whole.contains t))

/-- A tile written back from a shader cluster: 2,048 pixel words of the tile, row-major. -/
def State.renderTile (s : State) (f : Surf) (t : Nat) (words : List Nat) : State :=
  let word := fun i => nth 0 words i
  if f.tiles ≤ t then s
  else if f.layout = 2 then s.wrTile f t (((List.range 2048).map (fun i => leBytes (rowPxBytes f.format) (word i))).flatten)
  else
    let cols := max 1 (tileCols f.w)
    let px := rectPixels f t (t % cols * 64) (t / cols * 32) (min 64 (f.w - t % cols * 64)) (min 32 (f.h - t / cols * 32))
    s.wrPixels f t (px.map (fun p => (p, [leBytes (rowPxBytes f.format) (word (p.2 % 32 * 64 + p.1 % 64))])))

/-- The cluster that processes a tile: the one named, or where it is not usable the first that is (R260). -/
def State.tileCluster (s : State) (c : Nat) : Nat :=
  let n := c % s.cfg.clusters
  if s.clusterUp n then n else ((List.range s.cfg.clusters).find? s.clusterUp).getD n

/-! ## Interlock sections (R245) -/

/-- Primitive order: draw, instance, primitive. -/
def fragBefore (a b : Frag) : Bool :=
  decide (a.draw < b.draw) || a.draw == b.draw && (decide (a.inst < b.inst) || a.inst == b.inst && decide (a.prim < b.prim))

/-- A section put in by primitive order, behind those of the same primitive. -/
def insertFrag (a : Frag) : List Frag → List Frag
  | [] => [a]
  | b :: l => if fragBefore a b then a :: b :: l else b :: insertFrag a l

/-- Sections in primitive order. -/
def sortFrags (l : List Frag) : List Frag := l.foldl (fun out a => insertFrag a out) []

/-- The sections between which a mode keeps primitive order: those of one pixel, or of one pixel and sample. -/
def interlockOrders (m : Interlock) (a b : Frag) : Bool :=
  a.x == b.x && a.y == b.y && (match m with
    | .pixelOrdered => true
    | .sampleOrdered => a.sample == b.sample
    | .pixelUnordered | .sampleUnordered => false)

/-- The order in which the sections of a tile run, one at a time: helper invocations execute none; the sections that the mode
orders run in primitive order, at the places where the clusters reach one of them; the others as they are reached. -/
def sectionOrder (m : Interlock) (l : List Frag) : List Frag :=
  let l := l.filter (fun a => !a.helper)
  let at_ := fun (n : Nat) (a : Frag) =>
    let same := l.filter (interlockOrders m a)
    if same.isEmpty then a else nth a (sortFrags same) (((l.take n).filter (interlockOrders m a)).length)
  (List.range l.length).zipWith at_ l

/-- The interlock sections of a tile run: each leaves its word at its pixel. -/
def State.runSections (s : State) (f : Surf) (m : Interlock) (l : List Frag) : State :=
  foldS (fun s (a : Frag) =>
    if f.w ≤ a.x ∨ f.h ≤ a.y then s
    else s.wrPixels f (a.y / 32 * max 1 (tileCols f.w) + a.x / 64) [((a.x, a.y), [leBytes (rowPxBytes f.format) a.word])])
    s (sectionOrder m l)

/-! ## Pipelines (R237) -/

def State.cacheKib (s : State) (p : Nat) : Nat := sumBy (fun (x : Pipeline) => x.kib) (s.render.cache.filter (fun x => x.part == p))

/-- PIPELINES_CACHED. -/
def State.countCache (s : State) (p : Nat) : State :=
  s.put (0x7020 + p) 4 (min 65535 (s.render.cache.filter (fun x => x.part == p)).length)

/-- The least recently used pipeline of a partition leaves its cache. -/
def State.evictOne (s : State) (p : Nat) : State :=
  match (s.render.cache.filter (fun x => x.part == p)).getLast? with
  | none => s
  | some x => ({ s with render := { s.render with cache := s.render.cache.filter (fun y => y.id != x.id) } } : State).setFlag
      (okey 0 0x7001 0) 5

/-- Pipelines are evicted until `kib` more fit, in at most `n` steps. -/
def State.evictFor (s : State) (p kib : Nat) : Nat → State
  | 0 => s
  | n + 1 => if s.cacheKib p + kib ≤ s.get (0x7020 + p) 3 * 1024 then s else (s.evictOne p).evictFor p kib n

/-- A pipeline stands in its partition's cache as the one used last, others evicted for it where it is new. -/
def State.cachePipeline (s : State) (p id kib : Nat) : State :=
  let s := s.evictFor p kib s.render.cache.length
  ({ s with render := { s.render with cache := ⟨p, id, kib⟩ :: s.render.cache } } : State).countCache p

/-- A draw uses a pipeline: it is the one used last, and one that was evicted is translated again. -/
def State.usePipeline (s : State) (p id kib : Nat) : State :=
  match s.render.cache.find? (fun x => x.part == p && x.id == id) with
  | some x => { s with render := { s.render with cache := x :: s.render.cache.filter (fun y => y.id != id) } }
  | none => if id < s.render.nextPipe then (s.bump 0x7002 6).cachePipeline p id kib else s

/-! ## Steps -/

/-- The target that a step writes. -/
def State.opTarget (s : State) (p : Nat) : RenderOp → Option Surf
  | .clear hd _ _ _ _ _ | .tile _ hd _ _ | .sections hd _ _ => s.target p hd
  | _ => none

/-- What a step does beside writing its target. -/
def State.opUnits (s : State) (p : Nat) : RenderOp → State
  | .tile cluster _ _ _ => s.bump64 (0x7010 + s.tileCluster cluster) 3 1
  | .pipeline id kib => s.usePipeline p id kib
  | .trace unit addr ray => s.traceRay p unit addr ray
  | _ => s

/-- What a step writes to its target. -/
def State.opWrite (s : State) (f : Surf) : RenderOp → State
  | .clear _ x y w h colour => s.clearRect f x y w h colour
  | .tile _ _ t words => s.renderTile f t words
  | .sections _ mode frags => s.runSections f mode frags
  | _ => s

/-- One step of a submission; the answer tells whether memory takes what it writes (R235). -/
def State.renderOp (s : State) (p : Nat) (o : RenderOp) : State × Bool :=
  match s.opTarget p o with
  | none => (s.opUnits p o, true)
  | some f =>
    let a := s.unitAdmit 8 p true f
    if a.2 then ((a.1.opUnits p o).opWrite f o, true) else (a.1, false)

/-- Steps done in order as far as memory takes them, and how many. -/
def State.renderSteps (s : State) (p : Nat) : List RenderOp → State × Nat
  | [] => (s, 0)
  | o :: rest =>
    let a := s.renderOp p o
    if a.2 then let b := a.1.renderSteps p rest; (b.1, b.2 + 1) else (a.1, 0)

/-- The steps of a submission from the one it stands at to `upto`, as far as memory takes them. -/
def State.renderTo (s : State) (p : Nat) (c : HeadCmd) (job : List RenderOp) (upto : Nat) : State × HeadCmd :=
  let a := s.renderSteps p ((job.take upto).drop c.next)
  (a.1, { c with next := c.next + a.2 })

/-- The submission that runs. -/
def State.rendering (s : State) : Option (QueueSt × HeadCmd × List RenderOp) :=
  match s.onEngine 2 with
  | some x => (match x.head with
    | some c => (match c.op with
      | .render job => some (x, c, job)
      | _ => none)
    | none => none)
  | none => none

/-- The head of queue `x` ends with a status after the engine time it took. -/
def State.endRender (s : State) (x : QueueSt) (c : HeadCmd) (status r0 r1 : Nat) : State :=
  (s.leaveEngine x).finishHead x.part x.queue c status r0 r1

/-- RENDER_SUBMIT: a driver payload taken from a ring. `newDevice` tells that its driver has created a new logical device,
which clears DEVICE_LOST. -/
def execRenderSubmit (t : Nat) (h : QHdr) (job : List RenderOp) (newDevice : Bool) (s : State) :
    Host.Outcome State Fault Refusal :=
  at_ t s fun s =>
    let s := if newDevice ∧ s.canTake h.part h.queue then s.put (0x7020 + h.part) 5 0 else s
    s.takeHead h 3 false true (.render job)

/-- RENDER_COMPLETE: the submission on the engine is done; RESULT0 and RESULT1 are the driver's. Where memory has not taken all
it writes it goes on (R242). -/
def execRenderComplete (t r0 r1 : Nat) (s : State) : Host.Outcome State Fault Refusal :=
  clocked t 5 s fun s =>
    match s.rendering with
    | none => s
    | some (x, c, job) =>
      let (s, c) := s.renderTo x.part c job job.length
      if job.length ≤ c.next then s.endRender x c 0 r0 r1 else s.putQueue { x with head := some c }

/-- RENDER_PREEMPT: the engine switches at a boundary, `n` steps of the submission done (R247). -/
def execRenderPreempt (t n : Nat) (s : State) : Host.Outcome State Fault Refusal :=
  at_ t s fun s =>
    match s.rendering with
    | none => s
    | some (x, c, job) =>
      let s := s.refillAll 1
      if !s.mustPreempt x 1 then s
      else
        let (s, c) := s.renderTo x.part c job n
        (s.interruptHead x c).bump (qState x.part x.queue) 8

/-- A tile or draw may have exceeded its limit: the engine has run that long. -/
def State.overLimit (s : State) (x : QueueSt) : Bool :=
  decide (min (s.get 0x7004 1) (s.get 0x7004 2) * 1000 < s.now - x.runFrom)

/-- RENDER_TIMEOUT: a tile or draw exceeds its limit after `n` steps (R248). -/
def execRenderTimeout (t n : Nat) (s : State) : Host.Outcome State Fault Refusal :=
  at_ t s fun s =>
    match s.rendering with
    | none => s
    | some (x, c, job) =>
      if !s.overLimit x then s
      else
        let (s, c) := s.renderTo x.part c job n
        let s := ((s.put (0x7020 + x.part) 5 1).bump 0x7002 1).raise 0x7001 0 0 sevError x.part [byteOf x.part]
        s.endRender x c codeRenderTimeout 0 0

/-- The last shader cluster is lost: the submission that runs ends unexecuted from where it stands (R260). -/
def State.renderLost (s : State) : State :=
  if 0 < s.clusters then s
  else match s.rendering with
    | none => s
    | some (x, c, _) => s.endRender x c codeRenderUnavailable 0 0

/-! ## Translation (R237) -/

/-- The result of a translation. -/
def State.translation (s : State) (p size kib : Nat) (valid supported sc : Bool) : Nat :=
  if 2 ^ 20 < size then codeModuleTooLarge
  else if !valid then codeSpirvInvalid
  else if !supported then codeSpirvUnsupported
  else if sc && decide (s.get (0x7020 + p) 3 * 1024 < s.cacheKib p + kib) then codeTranslationCacheFull
  else 0

/-- SPIRV_TRANSLATION_DONE: translation of a module of `size` bytes by a partition ends; `kib` is the size of its pipeline,
`sc` tells a Vulkan SC partition. The driver gets the code. -/
def execSpirvTranslationDone (t part size kib : Nat) (valid supported sc : Bool) (s : State) :
    Host.Outcome State Fault Refusal :=
  at_ t s fun s =>
    let p := part % s.cfg.parts
    let code := s.translation p size kib valid supported sc
    if code ≠ 0 then (s.setFlag (okey 0 0x7001 0) 2).emit (.code p code)
    else
      let n := s.render.nextPipe
      let s := (s.bump 0x7002 6).cachePipeline p n kib
      ({ s with render := { s.render with nextPipe := n + 1 } } : State).emit (.code p 0)

end Sys2Proof.Machine
end

