-- ==== Sys2Proof/Machine/Commands.lean ====
section
/-!
DEFINITION. The queue commands and the register writes that drive queues (chapter 11).
-/
namespace Sys2Proof.Machine

/-! ## Rings and doorbells (R263 to R265) -/

/-- ENABLE written: at its 0-to-1 transition the queue takes its ring fields as they stand. `old` is ENABLE before. -/
def State.queueEnabled (s : State) (p q old v : Nat) : State :=
  let i := qIdx p q
  let x := s.queueSt p q
  let s := if old = 0 ∧ v = 1 then s.putQueue { x with base := s.get i 2, log2 := s.get i 3, cqBase := s.get i 4 } else s
  s.settleQueue p q

/-- QUEUE_ENABLE: a write of ENABLE. -/
def execQueueEnable (t : Nat) (ini : Ini) (part queue : Nat) (v : Word) (s : State) : Host.Outcome State Fault Refusal :=
  at_ t s fun s => s.when (part < 16 && queue < 8) fun s =>
    let old := s.get (qIdx part queue) 1
    s.writeAt ini (qIdx part queue) 1 v noOwn (fun s v => s.queueEnabled part queue old v)

/-- The refusal of a DOORBELL value (R264). -/
def State.doorbellRefusal (s : State) (p q v : Nat) : Option Nat :=
  let size := 2 ^ (if s.get (qIdx p q) 1 = 1 then (s.queueSt p q).log2 else s.get (qIdx p q) 3)
  if size < sub32 v (s.consumer p q) ∨ 2 ^ 31 ≤ sub32 v (s.producer p q) then some codeRingOverflow else none

/-- A write of DOORBELL; one that is refused for the ring sets OVERFLOW. -/
def State.doorbell (s : State) (w : Wr) (p q : Nat) : State × Nat :=
  let a := s.write w (fun s v => s.doorbellRefusal p q v) (fun s v => (s.put (qState p q) 2 v).settleQueue p q)
  (if a.2 = codeRingOverflow then a.1.setFlag (okey p 0x7701 0) 0 else a.1, a.2)

/-- QUEUE_DOORBELL. -/
def execQueueDoorbell (t : Nat) (ini : Ini) (part queue : Nat) (v : Word) (s : State) : Host.Outcome State Fault Refusal :=
  at_ t s fun s => s.when (part < 16 && queue < 8) fun s => (s.doorbell ⟨ini, 0, qIdx part queue, 6, v⟩ part queue).1

/-- CQ_HEAD_WRITE: space in the completion ring ends its stall; waiting records are written by CQ_RECORD_WRITE. -/
def execCqHeadWrite (t : Nat) (ini : Ini) (part queue : Nat) (v : Word) (s : State) : Host.Outcome State Fault Refusal :=
  at_ t s fun s => s.when (part < 16 && queue < 8) fun s => s.writeAt ini (qIdx part queue) 7 v noOwn (fun s _ => s.settleQueue part queue)

/-- CQ_RECORD_WRITE: the oldest waiting record of a queue is written where the ring has space. -/
def execCqRecordWrite (t part queue : Nat) (s : State) : Host.Outcome State Fault Refusal :=
  at_ t s fun s =>
    let x := s.queueSt part queue
    match x.waiting with
    | [] => s
    | r :: rest =>
      if s.cqFull part queue then s
      else
        let s := (s.putQueue { x with waiting := rest }).writeCq part queue r
        (if s.cqFull part queue then s.setFlag (okey part 0x7701 0) 3 else s).settleQueue part queue

/-! ## Commands the planner executes (R268, R273) -/

/-- ALLOCATE. `reach` lists the nodes that a route reaches. -/
def execAllocate (t : Nat) (h : QHdr) (w ht format layout cls : Nat) (s : State) : Host.Outcome State Fault Refusal :=
  at_ t s fun s => s.plannerCmd h 3 (fun s => s.allocate s.nodeReach h.part w ht format layout cls)

/-- FREE. -/
def execFree (t : Nat) (h : QHdr) (handle : Nat) (s : State) : Host.Outcome State Fault Refusal :=
  at_ t s fun s => s.plannerCmd h 3 (fun s =>
    match s.handle h.part handle with
    | none => (s, ⟨codeStaleHandle, 0, 0⟩)
    | some x =>
      let s := s.freeHandle x
      (if x.rights = 0 then s.dropSurface x.surf else s, ⟨0, 0, 0⟩))

/-- SHARE. -/
def execShare (t : Nat) (h : QHdr) (handle grantee rights : Nat) (s : State) : Host.Outcome State Fault Refusal :=
  at_ t s fun s => s.plannerCmd h 3 (fun s =>
    let (s, a) := s.share h.part handle grantee rights
    (if a.status = 0 then s.shareGranted h.part grantee a.r0 else s, a))

/-- RESERVED_COMMAND: a reserved opcode, or a reserved byte or PROGRESS that is not zero. -/
def execReservedCommand (t : Nat) (h : QHdr) (s : State) : Host.Outcome State Fault Refusal :=
  at_ t s fun s => s.plannerCmd h 255 (fun s => (s, ⟨codeBadCommand, 0, 0⟩))

/-- FENCE_SIGNAL: it acts through SIGNAL. -/
def execFenceSignal (t : Nat) (h : QHdr) (s : State) : Host.Outcome State Fault Refusal :=
  at_ t s fun s => s.plannerCmd h 3 (fun s => (s, ⟨0, 0, 0⟩))

/-- FENCE_WAIT: ARG names the fence. It completes at once where the fence has the value. -/
def execFenceWait (t : Nat) (h : QHdr) (value timeoutUs : Nat) (s : State) : Host.Outcome State Fault Refusal :=
  at_ t s fun s =>
    let deadline := if timeoutUs = 0 then 0 else s.now + timeoutUs * 1000
    (s.takeHead h 3 true (decide (h.arg < 255)) (.wait h.arg value deadline)).wake 8 h.part

/-- FENCE_TIMEOUT: the wait at the head of a queue has lasted TIMEOUT_US. -/
def execFenceTimeout (t part queue : Nat) (s : State) : Host.Outcome State Fault Refusal :=
  at_ t s fun s =>
    match (s.queueSt part queue).head with
    | some c =>
      (match c.op with
      | .wait f _ d =>
        if d ≠ 0 ∧ d ≤ s.now then
          (s.setFlag (okey part 0x7701 0) 4).finishHead part queue c codeFenceTimeout (s.fenceVal part f) 0
        else s
      | _ => s)
    | none => s

/-- A write of a FenceValues entry signals the fence; it has no command, so FenceStatus stays. `old` is the value
before. -/
def State.fenceWritten (s : State) (p k old v : Nat) : State :=
  let s := s.put (0x7600 + p) (k + 1) old
  let st := s.get (0x7610 + p) (k + 1)
  (s.signal p k v st).wake 8 p

/-- FENCE_VALUES_WRITE. -/
def execFenceValuesWrite (t : Nat) (ini : Ini) (part fence : Nat) (v : Word) (s : State) : Host.Outcome State Fault Refusal :=
  at_ t s fun s => s.when (part < 16 && fence < 255) fun s =>
    let old := s.fenceVal part fence
    s.writeAt ini (0x7600 + part) (fence + 1) v noOwn (fun s v => s.fenceWritten part fence old v)

/-! ## Presents (R269) -/

/-- A render submission that has not completed writes the surface of a handle. -/
def State.renderPending (s : State) (p h : Nat) : Bool :=
  match s.handleSurf p h with
  | none => false
  | some (_, f) => s.queue.queues.any (fun x => x.head.elim false (fun c => match c.op with
    | .render job => job.any (fun o => (s.opTarget x.part o).elim false (fun g => g.id == f.id))
    | _ => false))

/-- The code a present completes with at once, 0 where it is held: handle, layer and owner, STATIC, format, expected
value, held presents, time. -/
def State.presentCode (s : State) (h : QHdr) (handle slot region presentAt : Nat) : Nat :=
  match s.handleSurf h.part handle, s.layer slot with
  | none, _ => codeStaleHandle
  | some _, none => codeLayerNotOwned
  | some (_, f), some l =>
    let now := if bit h.flags 2 then s.wallNow else s.now
    if l.owner ≠ h.part then codeLayerNotOwned
    else if bit l.flags 0 then codeStaticLayer
    else if !(l.kind == 0 || l.kind == 2) || f.format != l.format then codeFormatMismatch
    else if bit h.flags 3 && !(s.plan.active.elim false (fun p => s.guestAllowed p slot h.part region)) then codeExpectNotAllowed
    else if 4 ≤ (s.held slot).length then codeHeldFull
    else if bit h.flags 2 && s.get 0x9060 3 == 0 || decide (presentAt ≠ 0 ∧ now + 60000000000 < presentAt) then codeTimeInvalid
    else 0

/-- A present joins the held presents of its layer. -/
def State.holdPresent (s : State) (h : QHdr) (handle slot region presentAt expected : Nat) (rects : List Rect) : State :=
  match s.handleSurf h.part handle with
  | none => s
  | some (_, f) =>
    let x : Present := { hdr := h, slot := slot, handle := handle, surf := f.id, rects := rects, accepted := s.now,
                         order := s.queue.nextOrder, at_ := presentAt, wall := bit h.flags 2,
                         region := if bit h.flags 3 then some region else none, expected := expected, latched := false,
                         epoch := 0, time := 0, done := false }
    { s with queue := { s.queue with presents := s.queue.presents ++ [x], nextOrder := s.queue.nextOrder + 1 } }

/-- PRESENT. A present of a render target waits at the head of its queue until the target's render work has completed
(R165, R242). ARG tells the number of damage rectangles. -/
def execPresent (t : Nat) (h : QHdr) (handle slot region presentAt expected : Nat) (rects : List Rect) (s : State) :
    Host.Outcome State Fault Refusal :=
  at_ t s fun s =>
    let rectOk := rects.all (fun r => decide (1 ≤ r.w ∧ r.w ≤ 16384 ∧ 1 ≤ r.h ∧ r.h ≤ 16384))
    if !s.canTake h.part h.queue || s.renderPending h.part handle then s
    else
      let s := s.advanceConsumer h.part h.queue
      if badHdr h 15 true || decide (2 < h.arg) || rects.length != h.arg || !rectOk then s.complete h codeBadCommand 0 0
      else
        let code := s.presentCode h handle slot region presentAt
        if code = 0 then (s.holdPresent h handle slot region presentAt expected rects).settleQueue h.part h.queue
        else (if code = codeFormatMismatch then s.setFlag (okey 0 0x4041 0) 4 else s).complete h code 0 0

/-! ## Latching (R24 step 3, R25, R269, R270) -/

/-- A present is eligible at the epoch. -/
def State.eligible (s : State) (x : Present) : Bool :=
  decide (x.accepted < s.now)
    && (x.at_ == 0 || (if x.wall then s.get 0x9060 3 == 1 && decide (x.at_ ≤ s.wallNow) else decide (x.at_ ≤ s.now)))

/-- The newest of some presents. -/
def newestPresent (l : List Present) : Option Present :=
  l.foldl (fun (b : Option Present) x => match b with
    | none => some x
    | some y => if y.order < x.order then some x else some y) none

/-- A tile of a surface as R153 lays it out, for another node: one in the surface's clear colour with its value. -/
def State.tileForm (s : State) (f : Surf) (t : Nat) : Nat × List Byte :=
  let n := rawTileBytes f.format
  let q := s.surfSrc f
  if f.layout ≠ 2 then encodeRaw f.format (q.rawTile t)
  else
    let h := q.hdr t
    if hdrCleared h then
      (if 5 ≤ fmtFamily f.format ∧ fmtFamily f.format ≤ 7 then (n / 256, fillRaw f.format f.clear) else (f.clear % 2 ^ 32 * 2 ^ 32 + 0x400, []))
    else (h, if hdrConstant h || hdrTransparent h then [] else q.data (t * n) (hdrSectors h * 256))

/-- The damaged tiles of a present latched here sent to the other nodes of their columns' multicast sets (R139), as tiles of
the stream that the layer slot numbers, in the order of the receiving layer's source window (DESIGN CHOICE, log entry 96). -/
def State.sendColumns (s : State) (x : Present) (f : Surf) : State :=
  let cols := max 1 (tileCols f.w)
  let hit := fun (t : Nat) => x.rects.isEmpty || x.rects.any (fun r =>
    (⟨(r.x : Int), (r.y : Int), r.w, r.h⟩ : PxRect).meets ⟨(t % cols * 64 : Nat), (t / cols * 32 : Nat), 64, 32⟩)
  let tiles := (List.range f.tiles).filter hit
  let at_ := (x.accepted + s.wallNow + 2 ^ 64 - s.now % 2 ^ 64) % 2 ^ 64
  let send := fun (s : State) (y : Nat × PlanLayer) => foldS (fun s t =>
    let wide := tileCols (y.2.srcXMax + y.2.width)
    if !y.2.coversCol (t % cols) then s
    else
      let m := s.tileForm f t
      s.sendMsg y.1 2 0x10 (f.owner % 16) (x.slot % 256 * 2 ^ 56 + (t / cols * wide + t % cols) % 2 ^ 16 * 2 ^ 40 + s.epoch % 2 ^ 32)
        (s.flowOf f.owner 0) (leBytes 8 m.1 ++ m.2 ++ leBytes 8 at_)) s tiles
  foldS send s ((s.plan.active.elim [] (fun p => s.shownOn p x.slot)).filter (fun y => y.1 != s.selfNode))

/-- A present is latched for its layer. A surface that the layer did not show before may get another home (R138). -/
def State.latchOne (s : State) (x : Present) : State :=
  let y := { x with latched := true, epoch := s.epoch, time := s.now }
  let s := { s with queue := { s.queue with presents := s.queue.presents.map (fun (z : Present) => if z.order = x.order then y else z) } }
  let l := s.layerSt x.slot
  let s := s.putLayerSt { l with src := .surf x.surf, damage := x.rects, whole := x.rects.isEmpty, time := x.accepted }
  let s := (s.surf x.surf).elim s (fun f =>
    if f.loc = 2 ∨ f.homeless then s
    else
      let s := s.sendColumns x f
      if l.src = .surf x.surf then s else s.plan.active.elim s (fun p => s.checkHome p f))
  let s := ((s.put (0x4400 + x.slot) 0xE x.handle).put (0x4400 + x.slot) 0xF s.epoch).put (0x4400 + x.slot) 0x10 x.accepted
  let s := { s with integ := { s.integ with latched := x.slot :: s.integ.latched.filter (fun n => n != x.slot) } }
  match x.region with
  | some n => s.guestValue n x.expected
  | none => s

/-- The presents of one layer at an epoch: the newest eligible one is latched, the others it supersedes complete, and the
one latched before it is released. -/
def State.latchLayer (s : State) (slot : Nat) : State :=
  let el := (s.held slot).filter s.eligible
  match newestPresent el with
  | none => s
  | some x =>
    let s := foldS (fun s y => s.endPresent y codePresentSuperseded) s (el.filter (fun y => y.order != x.order))
    let s := foldS (fun s y => s.endPresent y 0) s (s.latchedPresents slot)
    s.latchOne x

/-- Layers whose surface was freed read none from this epoch, their presents complete, and its space is released
(R268). -/
def State.releaseFreed (s : State) : State :=
  let gone := (s.place.surfs.filter (fun f => f.owner == freedOwner)).map (fun f => f.id)
  let hit := s.comp.layers.filter (fun (l : LayerSt) => gone.any (fun n => decide (l.src = .surf n)))
  let s := foldS (fun s (l : LayerSt) => (s.putLayerSt { l with src := .none, whole := true }).put (0x4400 + l.slot) 0xE 0) s hit
  let s := foldS (fun s y => s.endPresent y 0) s (s.queue.presents.filter (fun y => y.latched && gone.contains y.surf))
  ({ s with place := { s.place with surfs := s.place.surfs.filter (fun f => f.owner != freedOwner) } } : State).releaseCtxs

/-- R24 step 3. -/
def State.latchPresents (s : State) : State := foldS (fun s (l : PlanLayer) => s.latchLayer l.slot) s.releaseFreed s.layers

/-- A plan swap ends the presents of the layer slots it removes (R270). -/
def State.endSlots (s : State) (removed : Nat → Bool) : State :=
  foldS (fun s y => s.endPresent y codePlanChanged) s (s.queue.presents.filter (fun y => removed y.slot))

/-! ## Copy-engine commands (R271, R272) -/

/-- The sides of a rectangle are in range. -/
def sidesOk (w h : Nat) : Bool := decide (1 ≤ w ∧ w ≤ 16384 ∧ 1 ≤ h ∧ h ≤ 16384)

/-- COPY. -/
def execCopy (t : Nat) (h : QHdr) (src dst srcX srcY dstX dstY w ht : Nat) (s : State) : Host.Outcome State Fault Refusal :=
  at_ t s fun s => s.takeHead h 3 false (sidesOk w ht) (.copy src dst srcX srcY dstX dstY w ht)

/-- FILL. -/
def execFill (t : Nat) (h : QHdr) (dst dstX dstY w ht value : Nat) (s : State) : Host.Outcome State Fault Refusal :=
  at_ t s fun s => s.takeHead h 3 false (sidesOk w ht) (.fill dst dstX dstY w ht value)

/-- CONVERT. -/
def execConvert (t : Nat) (h : QHdr) (src dst srcX srcY dstX dstY w ht : Nat) (s : State) :
    Host.Outcome State Fault Refusal :=
  at_ t s fun s => s.takeHead h 3 false (sidesOk w ht) (.convert src dst srcX srcY dstX dstY w ht)

/-- CHECK_VALUE: ARG names the CVU set. With no command unit free it waits at the head of its queue. -/
def execCheckValue (t : Nat) (h : QHdr) (handle x y w ht : Nat) (s : State) : Host.Outcome State Fault Refusal :=
  at_ t s fun s =>
    let was := s.canTake h.part h.queue
    let s := s.takeHead h 3 true (sidesOk w ht && decide (h.arg < 64)) (.check handle x y w ht)
    s.when (was && (s.queueSt h.part h.queue).head.elim false (fun c => !s.unitFree c)) (fun s => s.bumpW 32 h.part 0x7702 2 1)

/-- The status of a command that ran to its end, by its clip. -/
def clipStatus (k : Clip) : Nat := if k.cut then codeClampedHigh else 0

/-- A copy-engine command at its end: the results of R267. -/
def copyResult (c : HeadCmd) : Nat × Nat :=
  match c.op with
  | .check _ _ _ _ _ => (c.cvu.elim 0 (fun u => u.out c.crc), c.fed)
  | _ => (c.next, 0)

/-- A command starts, or resumes, on an engine; one whose checks fail completes at once. -/
def State.startOn (s : State) (x : QueueSt) (e : Nat) : State :=
  match x.head with
  | none => s
  | some c =>
    let run := fun (s : State) (c : HeadCmd) =>
      let s := s.putQueue { x with head := some c, engine := some e, runFrom := s.now, ready := none,
                                   sliceEnd := if x.promoted ∧ x.sliceEnd.isNone then some (s.now + s.get 0x7700 3 * 1000)
                                     else x.sliceEnd }
      s.settleQueue x.part x.queue
    if e = 2 then run s { c with started := true }
    else
      let cvu := if c.started then c.cvu else s.cvuSet c.hdr.arg
      match s.copyPlan x.part c.op cvu with
      | .error code => s.finishHead x.part x.queue c code c.next 0
      | .ok (k, _) =>
        let c := if c.started then c
          else { c with started := true, clip := clipStatus k, cvu := cvu, crc := match c.op with
            | .check _ _ _ _ _ => cvu.elim 0 (fun u => u.init)
            | _ => 0 }
        run s { c with unitHeld := match c.op with
          | .check _ _ _ _ _ => true
          | _ => false }

/-- DISPATCH: the dispatcher starts the next queue's command on a free engine. On a render engine without a usable cluster
a submission completes unexecuted (R260). -/
def execDispatch (t engine : Nat) (s : State) : Host.Outcome State Fault Refusal :=
  at_ t s fun s =>
    if 3 ≤ engine || (s.onEngine engine).isSome || engine == 2 && s.noLock 5 then s
    else
      let (s, x) := s.choose (engineKind engine)
      match x with
      | none => s
      | some x =>
        if s.engineUp engine then s.startOn x engine
        else if engine = 2 then (match x.head with
          | some c => s.finishHead x.part x.queue c codeRenderUnavailable 0 0
          | none => s)
        else s

/-- The command on an engine worked on to tile `upto`; the answer tells whether it has reached its end, or the code it
ends with. -/
def State.workTo (s : State) (x : QueueSt) (c : HeadCmd) (upto : Nat) : State × HeadCmd × Option Nat :=
  match s.copyPlan x.part c.op c.cvu with
  | .error code => (s, c, some code)
  | .ok (k, tiles) =>
    let (s, c) := s.copyTo x.part c k tiles upto
    (s, c, if tiles.length ≤ c.next then some c.clip else none)

/-- The command on a copy engine ends with a code: its results, and where a surface of it was freed the PROGRESS of its stop
(R272). -/
def State.endCopy (s : State) (x : QueueSt) (c : HeadCmd) (code : Nat) : State :=
  let s := s.leaveEngine x
  let s := if code = codeStaleHandle then s.writeProgress x { c with interrupts := min 65535 (c.interrupts + 1) } else s
  let r := copyResult c
  s.finishHead x.part x.queue c code r.1 r.2

/-- COPY_ENGINE_DONE: the command on a copy engine completes its last tile. Where memory has not taken all its tiles it goes
on. -/
def execCopyEngineDone (t engine : Nat) (s : State) : Host.Outcome State Fault Refusal :=
  clocked t 2 s fun s =>
    match s.onEngine engine with
    | none => s
    | some x =>
      match x.head with
      | none => s
      | some c =>
        if 2 ≤ engine || s.opStalled x.part c.op then s
        else
          let (s, c, st) := s.workTo x c (2 ^ 20)
          match st with
          | some code => s.endCopy x c code
          | none => s.putQueue { x with head := some c }

/-- COMMAND_PREEMPT: the command on a copy engine stops at a tile boundary, `tiles` of its tiles done, for a queue that
waits (R275). -/
def execCommandPreempt (t engine tiles : Nat) (s : State) : Host.Outcome State Fault Refusal :=
  at_ t s fun s =>
    match s.onEngine engine with
    | none => s
    | some x =>
      match x.head with
      | none => s
      | some c =>
        let s := s.refillAll 0
        if 2 ≤ engine || !s.mustPreempt x 0 || s.opStalled x.part c.op then s
        else
          let (s, c, st) := s.workTo x c tiles
          match st with
          | some code => s.endCopy x c code
          | none => (s.interruptHead x c).bump (qState x.part x.queue) 8

/-- QUEUE_PROMOTION (R276). -/
def execQueuePromotion (t part queue : Nat) (s : State) : Host.Outcome State Fault Refusal :=
  at_ t s fun s =>
    let x := s.queueSt part queue
    let late := x.ready.elim false (fun r => decide (r + s.get 0x7700 2 * 1000000 < s.now))
    if !late || x.promoted || x.engine.isSome then s
    else
      let s := (s.putQueue { x with promoted := true }).bump (qState part queue) 7
      (s.raiseB part 0x7701 0 queue 2 sevNotice part []).settleQueue part queue

/-! ## Abort (R277) -/

/-- The work a running command has done at its next boundary, `done` of its tiles or steps. -/
def State.workDone (s : State) (x : QueueSt) (c : HeadCmd) (done : Nat) : State × HeadCmd :=
  match c.op with
  | .render job => s.renderTo x.part c job done
  | .wait _ _ _ => (s, c)
  | _ => let a := s.workTo x c done; (a.1, a.2.1)

/-- Step 1 of an abort: the command at the head stops; `record` tells whether it completes with ABORTED. -/
def State.stopQueueHead (s : State) (p q done : Nat) (record : Bool) : State :=
  let x := s.queueSt p q
  match x.head with
  | none => s
  | some c =>
    let running := x.engine.isSome
    let (s, c) := if running then s.workDone x c done else (s, c)
    let s := if running then s.leaveEngine x else s
    let s := s.putQueue { s.queueSt p q with head := none }
    if record then
      let s := if running then s.writeProgress x { c with interrupts := min 65535 (c.interrupts + 1) } else s
      (s.advanceConsumer p q).complete c.hdr codeAborted 0 0
    else s.advanceConsumer p q

/-- Step 2: the commands of the ring up to PRODUCER end in ring order. `ring` holds them as the ring has them; an entry it
does not give reads as zeros. -/
def State.abortRing (s : State) (p q : Nat) : Nat → List QHdr → State
  | 0, _ => s
  | n + 1, ring =>
    if s.producer p q = s.consumer p q then s
    else
      let h : QHdr := { (ring.head?.getD ⟨p, q, 0, 0, 0, 0, 0⟩) with part := p, queue := q }
      ((s.advanceConsumer p q).complete h codeAborted 0 0).abortRing p q n (ring.drop 1)

/-- The whole of an abort. A queue that is not enabled has nothing to abort. -/
def State.abortQueue (s : State) (p q done : Nat) (ring : List QHdr) : State :=
  if s.get (qIdx p q) 1 = 0 then s
  else
    let s := (s.put (qState p q) 1 6).stopQueueHead p q done true
    let s := s.abortRing p q 65536 ring
    ((s.put (qIdx p q) 1 0).setFlag (okey p 0x7701 0) 5).settleQueue p q

/-- QUEUE_ABORT: a write of ABORT; `done` is what the running command has done at its next boundary, `ring` the commands
that stand in the ring behind it. -/
def execQueueAbort (t : Nat) (ini : Ini) (part queue : Nat) (v : Word) (done : Nat) (ring : List QHdr) (s : State) :
    Host.Outcome State Fault Refusal :=
  at_ t s fun s => s.when (part < 16 && queue < 8) fun s => s.writeAt ini (qIdx part queue) 0xA v noOwn (fun s _ => s.abortQueue part queue done ring)

/-- A function's queues stop without records (R277): at a function-level reset or PERST_N. Fence values are kept. -/
def State.stopQueues (s : State) (p : Nat) : State :=
  foldS (fun s q =>
    if s.get (qIdx p q) 1 = 0 then s
    else
      let s := s.stopQueueHead p q 0 false
      let s := s.put (qState p q) 3 (s.producer p q)
      let s := s.putQueue { s.queueSt p q with waiting := [] }
      (s.put (qIdx p q) 1 0).settleQueue p q) s (List.range 8)

end Sys2Proof.Machine
end

