-- ==== Sys2Proof/Machine/Telemetry.lean ====
section
/-!
DEFINITION. Events on their way out, alarm pins, performance counters, trace rings and frame capture (chapter 18), and the
PCIe link (R360, R361).
-/
namespace Sys2Proof.Machine

/-! ## Event rings (R425, R428, R430, R431) -/

def evIdx (p : Nat) : Nat := 0x8C40 + p

def State.evRing (s : State) (p : Nat) : EvRing :=
  (s.trace.evRings.find? (fun (x : EvRing) => x.part == p)).getD ⟨p, 0, 8⟩

/-- ENABLE or RING_BASE of an event ring written: a ring that starts takes its fields as they stand. -/
def State.evRingWritten (s : State) (p old v : Nat) : State :=
  if old = 0 ∧ v = 1 then
    { s with trace := { s.trace with evRings :=
        ⟨p, s.get (evIdx p) 2, s.get (evIdx p) 3⟩ :: s.trace.evRings.filter (fun (x : EvRing) => x.part != p) } }
  else s

/-- The ring of partition `p` takes a record: it is enabled, its function exists and it is not full. -/
def State.evRingReady (s : State) (p : Nat) : Bool :=
  s.hasFunction p && s.get (evIdx p) 1 == 1 && s.get 0x7A00 1 != 0
    && decide ((s.get (evIdx p) 4 + 2 ^ 32 - s.get (evIdx p) 5) % 2 ^ 32 < 2 ^ (s.evRing p).log2)

/-- 32 bytes written at PRODUCER of a ring, with its interrupt. -/
def State.putEvent (s : State) (p : Nat) (d : List Byte) : State :=
  let r := s.evRing p
  let n := s.get (evIdx p) 4
  (((s.emit (.hostWrite p (r.base + n % 2 ^ r.log2 * 32) d)).put (evIdx p) 4 ((n + 1) % 2 ^ 32))).emit (.msi p (s.get (evIdx p) 6))

/-- A path owes a loss summary whose conditions of R430 hold. -/
def State.summaryDue (s : State) (q : EvPath) : Option PathLoss :=
  match s.ev.losses.find? (fun l => l.path.eqb q) with
  | none => none
  | some l =>
    let n := (s.ev.store.filter (fun r => r.sev != 0 && r.paths.any (fun x => x.eqb q))).length
    if 2 * n < s.get 0x8C00 2 ∧ l.last + 100000000 ≤ s.now then some l else none

/-- The bytes of a loss summary of partition `p` (R430); it takes a SEQ. -/
def State.summary (s : State) (p : Nat) (l : PathLoss) : State × List Byte :=
  let (s, seq) := s.takeSeq p
  let s := { s with ev := { s.ev with losses := s.ev.losses.filter (fun x => !x.path.eqb l.path) } }
  let five := ((List.range 5).map (fun k => leBytes 2 (min (nth 0 l.lost k) 65535))).flatten
  (s, leBytes 8 s.now ++ leBytes 2 (sevWarning * 4096) ++ [byteOf (p + 32), 0] ++ leBytes 2 1 ++ leBytes 2 seq ++ five
    ++ leBytes 2 (min l.folds 65535) ++ leBytes 4 (min ((s.now - l.first) / 1000000) (2 ^ 32 - 1)))

/-- The record that a path delivers next: highest severity first, then in order of creation (R430). -/
def State.nextRecord (s : State) (q : EvPath) : Option EvRec :=
  let l := s.ev.store.filter (fun r => r.paths.any (fun x => x.eqb q))
  let top := l.foldl (fun m r => min m r.sev) 5
  l.find? (fun r => r.sev == top)

/-- A record taken off a path: delivered there, and its store entry freed with its last path (R428). -/
def State.takeRecord (s : State) (q : EvPath) (r : EvRec) : State :=
  let same := fun (x : EvRec) => x.seq == r.seq && x.part == r.part && x.source == r.source && x.code == r.code && x.time == r.time
  let l := s.ev.store.map (fun (x : EvRec) =>
    if same x then { x with paths := x.paths.filter (fun y => !y.eqb q), delivered := true } else x)
  let s := s.setStore (l.filter (fun r => !r.paths.isEmpty))
  { s with ev := { s.ev with reserveFull := s.ev.reserveFull && decide (4096 ≤ s.criticals) } }

/-- What a path delivers next: a loss summary that is due, else its next record, as bytes. -/
def State.deliver (s : State) (q : EvPath) (p : Nat) : State × Option (List Byte) :=
  match s.summaryDue q with
  | some l => let (s, d) := s.summary p l; (s, some d)
  | none =>
    match s.nextRecord q with
    | some r => (s.takeRecord q r, some r.bytes)
    | none => (s, none)

/-- EVENT_RECORD_WRITE: a loss summary or a waiting record is written to the ring of a partition. -/
def execEventRecordWrite (t part : Nat) (s : State) : Host.Outcome State Fault Refusal :=
  planned t s fun s =>
    if !s.evRingReady part then s
    else
      let due := (s.summaryDue (.ring part)).isSome
      match s.deliver (.ring part) part with
      | (s, some d) => (if due then s.bump (evIdx part) 9 else s).putEvent part d
      | (s, none) => s

/-- COALESCE_WINDOW_END: the slot of a key closes at the end of its window (R426). -/
def execCoalesceWindowEnd (t source code part : Nat) (s : State) : Host.Outcome State Fault Refusal :=
  planned t s fun s =>
    match s.ev.slots.find? (fun z => z.source == source && z.code == code && z.part == part) with
    | some z => if z.ends ≤ s.now then s.closeSlot z else s
    | none => s

/-! ## ALIVE (R433) -/

/-- ALIVE_TOGGLE: every 1 ms from the release of the planner while a core of it is usable. -/
def execAliveToggle (t : Nat) (s : State) : Host.Outcome State Fault Refusal :=
  at_ t s fun s =>
    if s.plannerUp then
      let lv := !s.ev.alivePin
      ({ s with ev := { s.ev with alivePin := lv } }).emit (.pin .alive (if lv then 1 else 0))
    else s

/-! ## Performance counters (R434 to R436) -/

def pcIdx (k : Nat) : Nat := 0x8E00 + k / 16
def pcConfig (k : Nat) : Nat := 1 + 4 * (k % 16)

/-- A counter counts: it is enabled and its BLOCK names a unit. -/
def State.counts (s : State) (k : Nat) : Bool :=
  let c := s.get (pcIdx k) (pcConfig k)
  bit c 17 && bitsOf c 15 8 != 0

/-- What VALUE of a counter reads: its value while it counts nothing, else a value the model leaves open (DESIGN CHOICE, log entry 38). -/
def State.counterValue (s : State) (k : Nat) : Nat :=
  if s.counts k then s.freeW.toNat % 2 ^ 48 else s.get (pcIdx k) (pcConfig k + 2)

/-- A CONFIG written: a counter that stops counting holds the value it has reached. `old` is CONFIG before. -/
def State.configWritten (s : State) (k old : Nat) : State :=
  if bit old 17 ∧ bitsOf old 15 8 ≠ 0 ∧ !s.counts k then
    let v := s.freeW.toNat % 2 ^ 48
    s.useFree.put (pcIdx k) (pcConfig k + 2) v
  else s

/-- COUNTER_OVERFLOW: counter `k` reaches 2^48 − 1 and wraps (R435). -/
def execCounterOverflow (t k : Nat) (s : State) : Host.Outcome State Fault Refusal :=
  at_ t s fun s =>
    if !(decide (k < 1024) && s.counts k) then s
    else
      let i := pcIdx k
      let c := s.get i (pcConfig k)
      let s := s.put i (pcConfig k + 2) (if bit c 18 then s.get i (pcConfig k + 1) else 0)
      let s := s.bumpW 16 0 i (pcConfig k + 3) 1
      let key := okey 0 0x8D00 2
      let d := (s.getBlk key).data
      let s := s.putBlk key (setNth 0 d (k / 8) (byteOf (setBit (nth 0 d (k / 8)).toNat (k % 8) true)))
      if bit c 19 && s.trace.ovfIrqAt.elim true (fun at0 => decide (at0 + 10000 ≤ s.now)) then
        ({ s with trace := { s.trace with ovfIrqAt := some s.now } }).emit (.msi 0 (s.get 0x8D00 1))
      else s

/-- A write of OVF_PENDING clears the bits written as 1. -/
def State.clearOvf (s : State) (old data : List Byte) : State :=
  s.putBlk (okey 0 0x8D00 2) ((List.range 128).map (fun i => (nth 0 old i) &&& ~~~(nth 0 data i)))

/-- The counters that DUMP_SET names, ascending. -/
def State.dumpSet (s : State) : List Nat :=
  let d := (s.getLive (okey 0 0x8D20 4)).data
  (List.range 1024).filter (fun k => bit (nth 0 d (k / 8)).toNat (k % 8))

/-- The entries of a dump record. -/
def State.dumpEntries (s : State) : List Nat → State × List Byte
  | [] => (s, [])
  | k :: r =>
    let v := s.counterValue k
    let (s', d) := (if s.counts k then s.useFree else s).dumpEntries r
    (s', leBytes 8 (v + k * 2 ^ 48) ++ d)

/-- DUMP_LATCH: the counters of DUMP_SET are latched (R436); `skip` tells that the dump would overlap the next latch. -/
def execDumpLatch (t : Nat) (skip : Bool) (s : State) : Host.Outcome State Fault Refusal :=
  at_ t s fun s =>
    if s.get 0x8D20 1 = 0 ∨ s.now < s.trace.dumpAt then s
    else
      let s := { s with trace := { s.trace with dumpAt := s.now + s.get 0x8D20 2 * 1000 } }
      if skip then s.bump 0x8D00 3
      else
        let l := s.dumpSet
        let (s, d) := s.dumpEntries l
        let head := leBytes 8 s.now ++ leBytes 4 s.trace.dumpSeq ++ leBytes 2 l.length ++ List.replicate 18 0
        let s := { s with trace := { s.trace with dumpSeq := (s.trace.dumpSeq + 1) % 2 ^ 32 } }
        let r := s.get 0x8D20 3
        if s.get (trIdx r) 1 = 1 ∧ s.get (trIdx r) 2 = 1 then s.tracePut r (head ++ d) else s

/-! ## Trace rings (R437 to R439) -/

/-- TRACE_PAGE_FLUSH: a page whose first record is FLUSH_MS old is handed over PARTIAL. The last free page of a
drop-newest ring is not handed over. -/
def execTracePageFlush (t ring : Nat) (s : State) : Host.Outcome State Fault Refusal :=
  at_ t s fun s =>
    let x := s.traceRun ring
    match x.first with
    | some at0 =>
      if s.get (trIdx ring) 1 = 1 ∧ s.get 0x7A00 1 ≠ 0 ∧ at0 + s.get (trIdx ring) 8 * 1000000 ≤ s.now ∧ !(s.traceLast x ∧ x.policy = 0) then
        s.turnPage x 4
      else s
    | none => s

/-- TRACE_CONSUMER_WRITE: a write of CONSUMER. -/
def execTraceConsumerWrite (t : Nat) (ini : Ini) (ring : Nat) (v : Word) (s : State) : Host.Outcome State Fault Refusal :=
  at_ t s fun s => s.when (ring < 8) fun s =>
    let old := s.get (trIdx ring) 7
    s.writeAt ini (trIdx ring) 7 v noOwn (fun s v => s.traceConsumer ring old v)

/-! ## Frame capture (R440) -/

/-- The words of a head's frame store in tile order (R214): every pixel of each tile that lies on the head. -/
def State.storeBytes (s : State) (o : PlanHead) : List Byte :=
  match s.store o.head with
  | none => []
  | some st => ((List.range (o.cols * o.rows)).map (fun t => ((List.range 2048).map (fun i =>
      if t % max 1 o.cols * 64 + i % 64 < o.hActive ∧ t / max 1 o.cols * 32 + i / 64 < o.vActive then
        leBytes 4 ((st.tile t).word (st.tile t).cur i)
      else [])).flatten)).flatten

/-- The frame number of the newest content of a frame store that a head shows. -/
def State.shownFrame (s : State) (o : PlanHead) : Nat :=
  match s.store o.head with
  | none => 0
  | some st => (st.tiles.map (fun (x : FTile) => if x.cur then x.frame1 else x.frame0)).foldl
      (fun m n => if serialLater 32 n m then n else m) (((st.tiles.head?).map (fun x => if x.cur then x.frame1 else x.frame0)).getD 0)

/-- A frame of a head begins: one in EVERY_N is captured if a whole buffer is free. -/
def State.captureStart (s : State) (p : Plan) (h : PlanHead) : State :=
  let i := fcIdx h.head
  if s.get i 1 = 0 then s
  else
    let x := s.capRun h.head
    if x.passed + 1 < s.get i 3 then s.putCap { x with passed := x.passed + 1 }
    else
      let x := { x with passed := 0 }
      if s.get 0x7A00 1 = 0 ∨ s.get i 6 ≤ (s.get i 7 + 2 ^ 32 - s.get i 8) % 2 ^ 32 then
        (s.putCap { x with active := false }).bump i 9 |>.setFlag (okey 0 0x8C01 0) 4
      else
        let point := s.get i 2
        let o := p.ownerHead h
        s.putCap { x with active := true, time := s.now, point := point,
                          bpc := if point = 1 then (s.rasterView h.head).get (headIdx h.head + 8) 4 else 10,
                          frame := if point = 1 then s.get (headIdx h.head + 1) 1 else s.shownFrame o,
                          data := if point = 1 then [] else s.storeBytes o }

/-- A pixel of a head at the wire point goes into its capture. -/
def State.capturePixel (s : State) (h : Nat) (w : Nat × Nat × Nat) : State :=
  let x := s.capRun h
  if x.active ∧ x.point = 1 then s.putCap { x with data := x.data ++ wireTriple x.bpc w } else s

/-- CAPTURE_FRAME_DONE: the writes of a captured frame end; `lag` is how far they fell behind the head, in bytes. -/
def execCaptureFrameDone (t head lag : Nat) (s : State) : Host.Outcome State Fault Refusal :=
  at_ t s fun s =>
    let x := s.capRun head
    match s.plan.active.bind (fun p => (p.headOf head).map (fun h => (p.ownerHead h, h))) with
    | none => s
    | some (o, h) =>
      if !x.active then s
      else if 65536 < lag ∨ s.get 0x7A00 1 = 0 then s.abandonCap head
      else
        let (w, ht) := if x.point = 1 then (h.hActive, h.vActive) else (o.hActive, o.vActive)
        let need := w * ht * (if x.point = 0 then 4 else if x.bpc ≤ 8 then 3 else 6)
        if x.data.length < need then s
        else
          let i := fcIdx head
          let hdr := leBytes 4 x.frame ++ leBytes 8 x.time ++ leBytes 2 w ++ leBytes 2 ht
            ++ [byteOf x.point, byteOf x.bpc] ++ leBytes 4 x.data.length ++ List.replicate 42 0
          let at0 := s.get i 4 + s.get i 7 % max 1 (s.get i 6) * s.get i 5
          ((s.putCap { x with active := false, data := [] }).emit (.hostWrite 0 at0 (hdr ++ x.data))).put i 7
            ((s.get i 7 + 1) % 2 ^ 32)

/-! ## The PCIe link (R360, R361) -/

/-- What a reset of a function stops (R277, R361, R431): its queues without records, its mailbox request, its event
ring. -/
def State.functionReset (s : State) (p : Nat) : State :=
  let s := s.stopQueues p
  ({ s with til := { s.til with mailbox := s.til.mailbox.filter (fun (m : Mail) => m.part != p),
                                reqs := s.til.reqs.filter (fun (r : TilReq) => !(r.head.via == 3 && r.head.port == p)) } }).put (evIdx p) 1 0

/-- Reset of PD14: every function is reset, captures are abandoned, the link is down. -/
def State.pcieReset (s : State) : State :=
  let s := foldS State.functionReset s (List.range 16)
  let s := foldS State.abandonCap s (List.range 16)
  (((s.put 0x7A00 1 0).put 0x7A00 2 0).put 0x7A00 3 0).put 0x7A00 4 0

/-- PCIE_LINK_DOWN: PERST_N or a surprise link-down. -/
def execPcieLinkDown (t : Nat) (s : State) : Host.Outcome State Fault Refusal :=
  at_ t s fun s => if s.get 0x7A00 1 = 0 then s else s.pcieReset.bump 0x7A00 5

/-- PCIE_LINK_UP: the link has trained at a generation and width; the host enables `vfs` functions. VF_BAR2_LOG2 takes
effect (R125). -/
def execPcieLinkUp (t gen width vfs : Nat) (flit : Bool) (s : State) : Host.Outcome State Fault Refusal :=
  at_ t s fun s =>
    if !s.pdOn 14 ∨ s.isLost .pcie 0 ∨ s.get 0x7A00 1 ≠ 0 ∨ gen = 0 ∨ 6 < gen then s
    else
      let s := ((s.put 0x7A00 1 gen).put 0x7A00 2 (min width (if s.cfg.compact then 8 else 16))).put 0x7A00 3
        (if flit then 1 else 0)
      let s := s.put 0x7A00 4 (min vfs (if s.cfg.compact then 8 else 16))
      { s with place := { s.place with vfBar := s.get 0x3490 1 } }

/-- FLR: a function-level reset. -/
def execFlr (t part : Nat) (s : State) : Host.Outcome State Fault Refusal :=
  at_ t s fun s => s.when (part < 16) fun s => s.functionReset part

/-- PEER_TO_PEER_REQUEST: a peer-to-peer request is completed with Unsupported Request. -/
def execPeerToPeerRequest (t part : Nat) (s : State) : Host.Outcome State Fault Refusal :=
  at_ t s fun s => s.emit (.unsupported part)

end Sys2Proof.Machine
end

