-- ==== Sys2Proof/Machine/Units.lean ====
section
/-!
DEFINITION. Units marked unusable and what follows (R27, R14, R15).
-/
namespace Sys2Proof.Machine

/-- Units of a kind that a configuration has (R449). -/
def Cfg.unitCount (c : Cfg) : UnitKind → Nat
  | .planner => 4
  | .composer => c.engines
  | .sentinel | .pcie | .audio | .edgeDie | .markhor => 1
  | .head => if c.compact then 8 else 16
  | .cluster | .ray => c.clusters
  | .channel => if c.dramGen = 4 then c.groups * 2 else c.groups * 4
  | .dramHalf => if c.compact then 1 else 2
  | .bank => c.banks
  | .chamois => c.chamois
  | .afe => c.touchPorts
  | .haptic => c.haptics
  | .axis => c.axes

/-- The render objects follow the units that work (R261). -/
def State.syncClusters (s : State) : State :=
  let l := List.range s.cfg.clusters
  let s := foldS (fun s c => s.put (0x7010 + c) 1 (if s.clusterUp c then 0 else 1)) s l
  let mask := fun (p : Nat → Bool) => l.foldl (fun m c => setBit m c (p c)) 0
  let s := foldS (fun s r => s.put (0x7040 + r) 1 (if s.rayUp r then 0 else 1)) s l
  ((s.put 0x7000 2 (mask s.clusterUp)).put 0x7000 4 (mask s.rayUp)).renderLost

/-- Every display link is idle: heads stopped, ports in their reset state (R27, all planner cores). -/
def State.idleDisplays (s : State) : State :=
  let s := foldS State.haltHead s (List.range (if s.cfg.compact then 8 else 16))
  foldS (fun s q => if s.linkState q = 0 then s else s.setLink q 0) s (List.range 22)

/-- A computation of a new binding is due while a plan runs (R136). -/
def State.needBinding (s : State) (u : UnitKind × Nat) : State :=
  if s.plan.active.isSome then { s with place := { s.place with rebinding := s.place.rebinding ++ [u] } } else s

/-- What the record of a lost unit shows. -/
def State.showLost (s : State) : UnitKind → Nat → State
  | .composer, n => s.put (0x4080 + n) 1 1
  | .channel, n => s.put (0x3040 + n) 1 2
  | .bank, n => s.put (0x30A0 + n) 1 3
  | _, _ => s

/-- A head lost: its timing stops, its ports stay in their reset state, class A regions on it react. -/
def State.headLost (s : State) (n : Nat) : State :=
  let s := match s.headEntry n with
    | some h => if h.port = 0xFFFF ∨ s.linkState (h.port % 256) = 0 then s
                else if (s.portHeads (h.port % 256)).any (fun o => o.head != n && !s.isLost .head o.head) then s
                else s.setLink (h.port % 256) 0
    | none => s
  (s.haltHead n).killRegions

/-- What the loss of one unit does, beside the mark. -/
def State.unitEffect (s : State) : UnitKind → Nat → State
  | .planner, _ => if s.coresUp then s else s.idleDisplays.hold 4 true
  | .composer, n =>
    let s := (s.showLost .composer n).loseEngine n
    (if (List.range s.cfg.engines).all (fun e => s.isLost .composer e) then (s.hold 4 true).killRegions else s).needBinding (.composer, n)
  | .sentinel, _ => s.killRegions
  | .head, n => (s.headLost n).needBinding (.head, n)
  | .cluster, _ => s.syncClusters
  | .ray, _ => s.syncClusters
  | .channel, n => ((s.showLost .channel n).loseGroup (s.cfg.chanGroup n)).needBinding (.channel, n)
  | .bank, n => ((s.showLost .bank n).loseBank n).needBinding (.bank, n)
  | .chamois, n => (if s.get (chIdx n + 1) 1 = 0 then s else s.linkDown n).needBinding (.chamois, n)
  | .pcie, _ => if s.get 0x7A00 1 = 0 then s else s.pcieReset.bump 0x7A00 5
  | .afe, n => s.touchLost n
  | .haptic, n => s.hapticLost n
  | .axis, n => s.axisLost n
  | .audio, _ => s.audioLost
  | .markhor, _ => (s.put 0x2000 1 0).hold 5 true
  | .dramHalf, _ | .edgeDie, _ => s

/-- The units that a unit is made of, itself last: a DRAM half is its channels, the edge die its units (R14, R27). -/
def Cfg.unitParts (c : Cfg) : UnitKind → Nat → List (UnitKind × Nat)
  | .dramHalf, h =>
    let n := if c.dramGen = 4 then 8 else 16
    ((List.range n).map (fun i => (UnitKind.channel, h * n + i))) ++ [(.dramHalf, h)]
  | .edgeDie, n =>
    (List.range c.touchPorts).map (fun i => (UnitKind.afe, i)) ++ (List.range c.haptics).map (fun i => (UnitKind.haptic, i))
      ++ (List.range c.axes).map (fun i => (UnitKind.axis, i)) ++ [(UnitKind.audio, 0), (UnitKind.edgeDie, n)]
  | k, n => [(k, n)]

/-- One unit marked unusable, with its consequence; a unit that is absent or marked already has none. -/
def State.loseOne (s : State) (u : UnitKind × Nat) : State :=
  if s.cfg.unitCount u.1 ≤ u.2 || s.isLost u.1 u.2 then s
  else ({ s with place := { s.place with lost := s.place.lost ++ [u] } } : State).unitEffect u.1 u.2

/-- The edge-die functions that are no units of R27: OpenLDI ports, low-speed interfaces and the entropy
source; SAFE_OK drops. -/
def State.edgeGone (s : State) : State :=
  let s := foldS (fun s q => if s.linkState q = 0 then s else s.setLink q 0) s [16, 17, 18, 19]
  (({ s with time := { s.time with edgeLost := true } } : State).lowReset.put 0x9180 1 0).hold 4 true

/-- A unit marked unusable under R27. -/
def State.loseUnit (s : State) (k : UnitKind) (n : Nat) : State :=
  let was := s.isLost k n
  let s := foldS State.loseOne s (s.cfg.unitParts k n)
  if k = .edgeDie ∧ !was then s.edgeGone else s

/-- UNIT_LOST: a fault reaction or a self-test marks a unit unusable. -/
def execUnitLost (t : Nat) (kind : UnitKind) (inst : Nat) (s : State) : Host.Outcome State Fault Refusal :=
  at_ t s fun s => s.loseUnit kind inst

/-! ## The die-to-die link (R15, R16) -/

/-- D2D_TRANSFER_CRC_FAIL: a transfer fails its CRC and is replayed with some delay in ns. -/
def execD2dTransferCrcFail (t delay : Nat) (s : State) : Host.Outcome State Fault Refusal :=
  at_ t s fun s => ((s.bump 0x9070 1).bump 0x9070 2).put 0x9070 4 (max (s.get 0x9070 4) (min delay (2 ^ 32 - 1)))

/-- D2D_LANE_FAIL: a lane fails persistently. A spare lane takes over at the next epoch; a third failure makes the edge die
unreachable. -/
def execD2dLaneFail (t : Nat) (s : State) : Host.Outcome State Fault Refusal :=
  at_ t s fun s =>
    if s.time.edgeLost then s
    else if s.get 0x9070 3 + s.time.spare < 2 then { s with time := { s.time with spare := s.time.spare + 1 } }
    else s.loseUnit .edgeDie 0

end Sys2Proof.Machine
end

