-- ==== Sys2Proof/Machine/Rules.lean ====
section
/-!
DEFINITION. The cross-field consistency rules that a commit is checked against (R54, R55), chapter by chapter.
-/
namespace Sys2Proof.Machine

/-- What a check reads: the values and block contents that would be active after the commit. -/
structure View where
  get : Nat → Nat → Nat
  blk : Nat → Nat → List Byte

/-- The view of a state with some values and blocks in place of the active ones. -/
def State.viewWith (s : State) (vals : List (Nat × Word)) (blks : List (Nat × Block)) : View where
  get := fun idx sub => ((vals.find? (fun x => x.1 == okey 0 idx sub)).elim (s.getK (okey 0 idx sub)) (fun x => x.2)).toNat
  blk := fun idx sub => ((blks.find? (fun x => x.1 == okey 0 idx sub)).elim (s.getLive (okey 0 idx sub)) (fun x => x.2)).data

/-- A failed rule: its number and the first object that took part. -/
abbrev RuleFail := Nat × Nat

/-- A rule that holds for every instance of a list; `bad` tells whether it fails for one and `obj` the object to name. -/
def ruleAll (rule : Nat) (l : List Nat) (bad : Nat → Bool) (obj : Nat → Nat) : Option RuleFail :=
  (l.find? bad).map (fun n => (rule, objRef (obj n)))

/-- The first failure of a list of checks. -/
def firstFail (l : List (Option RuleFail)) : Option RuleFail := l.findSome? id

/-- A value of the view read as signed 64 bits (R39). -/
def View.getI (v : View) (idx sub : Nat) : Int := sext 64 (v.get idx sub)

/-! ## CG_MEM: placement and memory (0x0501 to 0x0503, 0x0D01 to 0x0D04) -/

def Cfg.partNums (c : Cfg) : List Nat := List.range (if c.compact then 8 else 16)

/-- KiB of the tile store that the active plan itself places: its frame stores and images. -/
def State.planTsKib (s : State) : Nat :=
  sumBy (fun (f : Surf) => f.span) (s.place.surfs.filter (fun f => f.loc == 0 && (decide (16 ≤ f.owner) || f.image.isSome))) / 1024

def State.memRules (s : State) (v : View) : Option RuleFail :=
  let parts := s.cfg.partNums
  let present := 2 ^ s.cfg.groups - 1
  let op := v.get 0x3060 1
  let rate := fun k => v.get (0x3064 + k) 1
  let n := ((List.range 32).filter s.chanUsable).length
  let lim := fun (p : Plan) => dramPeak s.cfg.dramGen n (s.opRate op) * p.slotNs / 2000000
  firstFail [
    ruleAll 0x0501 parts (fun p => Nat.land (v.get (0x3400 + p) 2) (v.get (0x3400 + p) 3) != v.get (0x3400 + p) 2)
      (fun p => okey 0 (0x3400 + p) 2),
    ruleAll 0x0502 parts (fun p => Nat.land (v.get (0x3400 + p) 3) present == 0) (fun p => okey 0 (0x3400 + p) 3),
    ruleAll 0x0503 [0] (fun _ => decide (s.cfg.banks * 1536 - s.planTsKib < sumBy (fun p => v.get (0x3400 + p) 4) parts))
      (fun _ => okey 0 0x3400 4),
    ruleAll 0x0D01 [0] (fun _ => decide (s.sharedEntries < sumBy (fun p => v.get (0x3020 + p) 2) parts)) (fun _ => okey 0 0x3020 2),
    ruleAll 0x0D02 parts (fun p => decide (v.get (0x3020 + p) 1 < v.get (0x3020 + p) 2)) (fun p => okey 0 (0x3020 + p) 2),
    ruleAll 0x0D03 [0] (fun _ => s.plan.active.elim false (fun p =>
        !bit p.kind 0 && !p.slotEdges.all (fun k => decide (p.slotBytes [] k ≤ lim p))))
      (fun _ => okey 0 0x3060 1),
    ruleAll 0x0D04 [0] (fun _ => v.get (0x3064 + op) 2 != 1 || decide (dramTopRate s.cfg.dramGen < rate 0)
        || (List.range 3).any (fun k => decide (rate k ≤ rate (k + 1)))) (fun _ => okey 0 0x3060 1)]

/-! ## CG_HEADn: scan-out and capture (0x0710 to 0x0712, 0x1203) -/

/-- The eight taps of every phase sum to 16,384. -/
def tapsOk (tab : List Byte) : Bool :=
  (List.range 64).all (fun ph => (List.range 8).foldl (fun (n : Int) k => n + coef tab ph k) 0 == 16384)

/-- OUT_BPC of a head is carried by the port it names. -/
def View.bpcOk (v : View) (h : PlanHead) : Bool :=
  h.port == 0xFFFF || bit (carriedBy v.get (h.port % 256)) (v.get (headIdx h.head + 8) 4)

def State.headRules (s : State) (v : View) (n : Nat) : Option RuleFail :=
  let i := headIdx n
  let frame := fun (p : Plan) (h : PlanHead) =>
    let o := p.ownerHead h
    if v.get (0x8F40 + n) 2 = 0 then 4 * o.hActive * o.vActive
    else (if v.get (i + 8) 4 ≤ 8 then 3 else 6) * h.hActive * h.vActive
  firstFail [
    ruleAll 0x0710 [0] (fun _ => decide (v.get (i + 4) 1 ≤ v.get (i + 4) 2)) (fun _ => okey 0 (i + 4) 2),
    ruleAll 0x0711 [0x10, 0x11] (fun k => !tapsOk (v.blk (i + k) 0)) (fun k => okey 0 (i + k) 0),
    ruleAll 0x0712 [0] (fun _ => (s.headEntry n).elim false (fun h => !v.bpcOk h)) (fun _ => okey 0 (i + 8) 4),
    ruleAll 0x1203 [0] (fun _ => v.get (0x8F40 + n) 1 == 1 && s.plan.active.elim false (fun p => (p.headOf n).elim false (fun h =>
        decide (v.get (0x8F40 + n) 5 < 64 + frame p h)))) (fun _ => okey 0 (0x8F40 + n) 5)]

/-! ## CG_IO: links and low-speed interfaces (0x0801 to 0x0805, 0x1401 to 0x1404) -/

/-- The pins of the controllers that have alternate functions, with their configuration index and owner. -/
def View.takenPins (v : View) : List (Nat × Nat × Nat) :=
  (List.range 76).filterMap (fun n => (pinController n).bind (fun i =>
    if v.get i 1 = 1 then some (n, i, if n < 68 then v.get i 2 else 0) else none))

/-- The attribute of a pin names a partition in the normal world. -/
def View.pinFor (v : View) (n p : Nat) : Bool := numAt (v.blk 0x2060 0) n 1 % 32 == p

/-- The speeds an interface carries (R468). -/
def speedOk (iface mbps : Nat) : Bool :=
  match iface with
  | 0 => [10, 100, 1000].contains mbps
  | 1 => mbps == 1000
  | _ => decide (10 ≤ mbps ∧ mbps ≤ 10000)

def State.ioRules (s : State) (v : View) : Option RuleFail :=
  let named := fun q => !(s.portHeads q).isEmpty
  let ports := (List.range 22).filter (fun q => s.cfg.hasPort q && named q)
  let hasA := fun (q : Nat) => s.classAPort q
  let resets := (List.range 16).filter (fun b => v.get (i2cIdx b) 5 != 0xFF)
  let free := fun n => (v.takenPins.find? (fun x => x.1 == n)).isNone
  firstFail [
    ruleAll 0x0801 ports (fun q => (s.portHeads q).any (fun h => !v.bpcOk h)) (fun q => okey 0 (poIdx q) 1),
    ruleAll 0x0802 (ports.filter (fun q => decide (16 ≤ q))) (fun q => !s.portFits v.get q)
      (fun q => okey 0 (poIdx q) (if q < 20 then 9 else 2)),
    ruleAll 0x0803 [16, 18] (fun q => s.cfg.compact && decide (4 ≤ v.get (poIdx q) 9) && named (q + 1)) (fun q => okey 0 (poIdx q) 9),
    ruleAll 0x0804 ports (fun q => v.get (poIdx q) 8 == 1 && hasA q) (fun q => okey 0 (poIdx q) 8),
    ruleAll 0x0805 (List.range 10) (fun i => s.layers.any (fun l => l.kind == 1 && l.sourceRef == i && !inputMatches v.get l))
      (fun i => okey 0 (viIdx i) 4),
    (v.takenPins.find? (fun x => !v.pinFor x.1 x.2.2)).map (fun x => (0x1401, objRef (okey 0 x.2.1 1))),
    ruleAll 0x1402 resets (fun b =>
        let n := v.get (i2cIdx b) 5
        !(free n && (v.get (pinIdx n) 1 == 2 || v.get (pinIdx n) 1 == 3) && v.pinFor n (v.get (i2cIdx b) 2))
          || resets.any (fun c => c != b && v.get (i2cIdx c) 5 == n)) (fun b => okey 0 (i2cIdx b) 5),
    ruleAll 0x1403 [0, 1] (fun m => !speedOk (v.get (ethIdx m) 2) (v.get (ethIdx m) 3)) (fun m => okey 0 (ethIdx m) 3),
    ruleAll 0x1404 [0, 1] (fun m => sumBy (fun k => numAt (v.blk (ethIdx m + 2) 3) (8 * k + 4) 4) (List.range (v.get (ethIdx m + 2) 4))
        != v.get (ethIdx m + 2) 1) (fun m => okey 0 (ethIdx m + 2) 3)]

/-! ## CG_INTEGRITY, CG_PLAN, CG_NET, CG_EPOCH, CG_POWER -/

def State.integrityRules (s : State) (v : View) : Option RuleFail :=
  match s.plan.active with
  | none => none
  | some p =>
    firstFail [
      (p.regions.find? (fun r => decide (p.stateCount r ≤ v.get (rcIdx r.region) 9) && (r.table != 0xFFFF || v.get (rcIdx r.region) 9 != 0))).map
        (fun r => (0x0901, objRef (okey 0 (rcIdx r.region) 9))),
      (p.layers.find? (fun l => bit l.flags 2 && bit (v.get (0x6C00 + l.slot) 5) 1)).map
        (fun l => (0x0902, objRef (okey 0 (0x6C00 + l.slot) 5)))]

def State.planRules (s : State) (v : View) : Option RuleFail :=
  ruleAll 0x0A01 [0] (fun _ => decide (100 < sumBy (fun p => v.get (0x7020 + p) 1) s.cfg.partNums)) (fun _ => okey 0 0x7020 1)

def netRules (v : View) : Option RuleFail :=
  firstFail [
    ruleAll 0x0E01 [0] (fun _ => decide (9 < v.get 0x7840 4 + v.get 0x7840 3)) (fun _ => okey 0 0x7840 4),
    ruleAll 0x0E02 [0] (fun _ => v.get 0x7800 1 == 3 && decide (v.get 0x7800 3 * v.get 0x7800 4 < 16)) (fun _ => okey 0 0x7800 1)]

/-- The dump rules apply while a dump is enabled (DEDUCED, log entry 39). -/
def epochRules (v : View) : Option RuleFail :=
  let d := v.blk 0x8D20 4
  let n := sumBy (fun (b : Byte) => popCount 8 b.toNat) d
  let r := v.get 0x8D20 3
  firstFail [
    ruleAll 0x1201 [0] (fun _ => decide (506 < n)) (fun _ => okey 0 0x8D20 4),
    ruleAll 0x1202 [0] (fun _ => v.get 0x8D20 1 == 1 && !(v.get (trIdx r) 1 == 1 && v.get (trIdx r) 2 == 1)) (fun _ => okey 0 0x8D20 3)]

/-- Domain `d` holds a unit in plan use, or what its row of R442 names beside it. -/
def State.domainBusy (s : State) (d : Nat) : Bool :=
  let some_ := s.plan.active.isSome
  let heads := fun (lo hi : Nat) => s.heads.any (fun h => decide (lo ≤ h.head ∧ h.head < hi))
  let engines := fun (lo hi : Nat) => some_ && (List.range s.cfg.engines).any (fun k =>
    let e := s.get 0x3470 (k + 1)
    decide (lo ≤ e ∧ e < hi))
  let dramSurf := fun (lo hi : Nat) => s.place.surfs.any (fun f => f.loc == 1 && decide (lo ≤ f.group ∧ f.group < hi))
  let full := some_ && !s.plan.early
  let half := if s.cfg.compact then s.cfg.groups else s.cfg.groups / 2
  match d with
  | 4 => full || dramSurf 0 half
  | 5 => full || dramSurf half s.cfg.groups
  | 6 => engines 0 4
  | 7 => engines 4 8
  | 9 => heads 0 8
  | 10 => heads 8 16
  | 11 | 12 => some_ && s.cfg.partNums.any (fun p => s.get (0x7020 + p) 1 != 0)
  | 13 => s.fabric.topology != 0 || s.layers.any (fun l => l.kind == 3)
  | 15 => s.heads.any (fun h => h.port != 0xFFFF) || (List.range 10).any (fun i => s.get (viIdx i) 1 == 1)
  | 16 => (List.range s.cfg.touchPorts).any (fun k => s.get (tpIdx k) 1 == 1)
  | 17 => (List.range s.cfg.axes).any (fun a => s.axState a != 0) || (List.range s.cfg.haptics).any (fun c => s.get (hapIdx c) 1 == 1)
      || s.get 0x89C0 1 != 0
  | 18 => (List.range 64).any (fun k => s.get (0x1200 + k) 4 != 0 && s.get (0x1200 + k) 3 % 8 != 0)
  | 19 => s.place.surfs.any (fun f => f.loc == 0 && !f.homeless)
  | _ => false

/-- A domain holds a unit that the active plan binds (R442). -/
def State.planUse (s : State) (d : Nat) : Bool :=
  match d with
  | 4 | 5 => s.plan.active.isSome && !s.plan.early
  | 13 => s.layers.any (fun l => l.kind == 3)
  | 15 => s.heads.any (fun h => h.port != 0xFFFF)
  | 16 | 17 | 18 => false
  | d => s.domainBusy d

/-- Domain `d` may be switched off: it is switchable, not in use, and no domain that stays on requires it (R442). -/
def State.mayGoOff (s : State) (v : View) (d : Nat) : Bool :=
  s.get (0x9000 + d) 3 == 1 && !s.domainBusy d
    && !(d == 15 && [9, 10].any (fun h => (s.get (0x9000 + h) 1 == 1 || s.get (0x9000 + h) 1 == 2) && v.get (0x9000 + h) 2 == 1))

def State.powerRules (s : State) (v : View) : Option RuleFail :=
  ruleAll 0x1301 (List.range 20) (fun d => v.get (0x9000 + d) 2 == 0 && s.get (0x9000 + d) 1 == 2 && !s.mayGoOff v d)
    (fun d => okey 0 (0x9000 + d) 2)

/-! ## CG_TOUCH, CG_HAPTIC, CG_MOTION, CG_AUDIO -/

def State.touchRules (s : State) (v : View) : Option RuleFail :=
  let ports := List.range s.cfg.touchPorts
  let gang := fun k => v.get (tpIdx k) 2
  let members := fun k => match gang k with
    | 1 | 2 => [k + 1]
    | 3 => [1, 2, 3]
    | _ => []
  let scan := fun k =>
    let tx := (gangDims (gang k)).1
    let us := ((tx + 15) / 16 * 16 + 2) * v.get (tpIdx k) 6
    decide (9000000 < us * v.get (tpIdx k) 5 * 10) || decide ((if gang k = 0 then 240 else 120) < v.get (tpIdx k) 5)
  let lead := fun k => (match gang k with
    | 0 => true
    | 3 => k == 0 && !s.cfg.compact
    | _ => k % 2 == 0) && (members k).all (fun m => decide (m < s.cfg.touchPorts) && v.get (tpIdx m) 1 == 0)
  let keyBad := fun (k : PlanKey) => decide (v.get (0x8040 + k.head * 4) (k.key + 1) ≤ v.get (0x8041 + k.head * 4) (k.key + 1))
  firstFail [
    ruleAll 0x0F01 ports scan (fun k => okey 0 (tpIdx k) 6),
    ruleAll 0x0F02 ports (fun k => !lead k) (fun k => okey 0 (tpIdx k) 2),
    (s.planKeys.find? keyBad).map (fun k => (0x0F03, objRef (okey 0 (0x8041 + k.head * 4) (k.key + 1)))),
    ruleAll 0x0F03 ports (fun k => decide (v.get (tpIdx k) 8 ≤ v.get (tpIdx k) 0xB)) (fun k => okey 0 (tpIdx k) 0xB),
    (s.planKeys.find? (fun k => decide (k.port < s.cfg.touchPorts) && v.get (tpIdx k.port) 1 == 1
      && v.get (tpIdx k.port) 3 != k.head)).map (fun k => (0x0F04, objRef (okey 0 (tpIdx k.port) 3)))]

/-- A user effect record meets R385; an empty one is all zero past its fields. -/
def effectOk (r : List Byte) : Bool :=
  let n := numAt r 1 1
  let seg := fun i =>
    let shape := numAt r (8 + 8 * i) 1
    let f := numAt r (12 + 8 * i) 2
    decide (shape ≤ 3) && decide (numAt r (9 + 8 * i) 1 ≤ 2) && decide (1 ≤ numAt r (14 + 8 * i) 2)
      && (if 2 ≤ shape then decide (50 ≤ f ∧ f ≤ 1000) else f == 0)
  decide (n ≤ 7) && numAt r 3 1 == 0 && numAt r 6 2 == 0 && decide (numAt r 0 1 ≤ 1) && decide (numAt r 2 1 ≤ 8)
    && (n == 0 || decide (256 ≤ numAt r 4 2 ∧ numAt r 4 2 ≤ 512))
    && (List.range n).all seg && ((r.drop (8 + 8 * n)).all (fun b => b == 0))

def State.loadRule (s : State) (v : View) (obj : Nat) : Option RuleFail :=
  ruleAll 0x1003 [0] (fun _ => decide (9000 < plannedLoad s.cfg v.get)) (fun _ => obj)

def State.hapticRules (s : State) (v : View) : Option RuleFail :=
  firstFail [
    ruleAll 0x1001 ((List.range 64).map (fun e => e + 128)) (fun e => !effectOk (v.blk (0x8380 + e) 0)) (fun e => okey 0 (0x8380 + e) 0),
    s.loadRule v (okey 0 (hapIdx 0) 1)]

def State.motionRules (s : State) (v : View) : Option RuleFail :=
  let axes := List.range s.cfg.axes
  let mode := fun a => v.get (axIdx a) 1
  let kind := fun a => v.get (axIdx a) 3
  let enc := fun a => v.get (axIdx a) 4
  firstFail [
    ruleAll 0x1002 axes (fun a => kind a == 1 && mode a == 2 || (mode a == 2 || mode a == 1 && kind a != 1) && enc a == 0xFF
        || enc a != 0xFF && axes.any (fun b => b != a && enc b == enc a)) (fun a => okey 0 (axIdx a) 3),
    s.loadRule v (okey 0 (axIdx 0) 1),
    ruleAll 0x1004 axes (fun a => decide (v.getI (axIdx a + 5) 2 ≤ v.getI (axIdx a + 5) 1)) (fun a => okey 0 (axIdx a + 5) 1),
    ruleAll 0x1005 axes (fun a => bit (v.get (axIdx a) 0xE) 2 && s.get (axIdx a + 3) 5 == 0
        && v.get (axIdx a + 2) 1 != s.get (axIdx a + 2) 1) (fun a => okey 0 (axIdx a + 2) 1)]

def State.audioRules (s : State) (v : View) : Option RuleFail :=
  let outs := List.range 32
  let sink := fun o => (v.get (outIdx o) 1, v.get (outIdx o) 2, v.get (outIdx o) 3)
  firstFail [
    ruleAll 0x1101 [0] (fun _ => decide (32 < converters v.get s.audio.rate)) (fun _ => okey 0 (inIdx 0) 1),
    ruleAll 0x1102 outs (fun o => v.get (outIdx o) 1 != 0 && outs.any (fun x => x != o && sink x == sink o)) (fun o => okey 0 (outIdx o) 1),
    ruleAll 0x1103 (List.range 4) (fun k => decide (24576000 < v.get (0x8810 + k) 4 * v.get (0x8810 + k) 5 * v.get (0x8810 + k) 3))
      (fun k => okey 0 (0x8810 + k) 4),
    ruleAll 0x1104 outs (fun o => decide (v.get 0x8800 1 / 50 < v.get (outIdx o) 7)) (fun o => okey 0 (outIdx o) 7)]

/-- The rules a group is subject to, against a view: the first that fails. -/
def State.ruleFail (s : State) (v : View) (g : Nat) : Option RuleFail :=
  if 1 ≤ g ∧ g ≤ 16 then s.headRules v (g - 1)
  else match g with
    | 17 => epochRules v
    | 18 => s.audioRules v
    | 19 => s.planRules v
    | 52 => s.touchRules v
    | 53 => s.hapticRules v
    | 54 => s.motionRules v
    | 55 => netRules v
    | 56 => s.memRules v
    | 57 => s.integrityRules v
    | 58 => s.powerRules v
    | 59 => s.ioRules v
    | _ => none

end Sys2Proof.Machine
end

