-- ==== Sys2Proof/Machine/Commit.lean ====
section
/-!
DEFINITION. Commits (R48 to R55): the refusal of a commit as a whole, pending sets, the checks, reports, and how pending
sets end. Their application stands in Apply.lean.
-/
namespace Sys2Proof.Machine

/-! ## Reports (R49, R51, R55, R81) -/

/-- A commit report of partition `p`, pushed to the Tilsol client whose Commit it is for. -/
def State.report (s : State) (p groups result rule obj : Nat) (client : Option (Nat × Nat)) : State :=
  let i := 0x1110 + p
  let s := ((((s.wrap32 i 1).put i 2 groups).put i 3 result).put i 4 rule).put i 5 obj
  let s := (s.put i 6 s.now).put i 7 s.epoch
  match client with
  | some (k, tag) =>
    s.push k tag (i * 256) (leBytes 4 result ++ leBytes 8 groups ++ leBytes 2 rule ++ leBytes 4 obj ++ leBytes 4 s.epoch)
  | none => s

/-- The mask of some pending sets. -/
def setsMask (l : List PendingSet) : Nat := l.foldl (fun m x => setBit m x.group true) 0

/-- Pending sets in the units that apply or end together: the sets of an ALIGN commit, or one set. -/
def commitUnits (l : List PendingSet) : List (List PendingSet) :=
  l.filterMap (fun x =>
    if x.align then (if (l.find? (fun y => y.commit == x.commit)).elim false (fun y => y.group == x.group)
                     then some (l.filter (fun y => y.commit == x.commit)) else none)
    else some [x])

/-- The flag of DictionaryStatus that a result sets: COMMIT_CANCELLED, COMMIT_REJECTED, or none. -/
def reportFlag (result : Nat) : Option Nat :=
  if result = codeCancelled then some 3 else if result = 0 ∨ result = codeSuperseded then none else some 2

/-- One unit of pending sets reported on. -/
def State.reportUnit (s : State) (l : List PendingSet) (result rule obj : Nat) : State :=
  match l with
  | [] => s
  | x :: _ =>
    let s := s.report x.part (setsMask l) result rule obj x.client
    match reportFlag result with
    | some f => s.setFlag (okey x.part 0x11B8 1) f
    | none => s

/-- `s` without the pending sets of a unit. -/
def State.takeSets (s : State) (l : List PendingSet) : State :=
  { s with dict := { s.dict with sets := s.dict.sets.filter (fun x => !l.any (fun y => y.commit == x.commit && y.group == x.group)) } }

/-- STATE_SELECT writes that a pending set held wait for the next commit of CG_INTEGRITY. -/
def State.keepSelects (s : State) (l : List PendingSet) : State :=
  { s with integ := { s.integ with selects := s.integ.selects ++ (l.map (fun x => x.selects)).flatten } }

/-- A unit of pending sets ends without being applied. -/
def State.endUnit (s : State) (l : List PendingSet) (result rule obj : Nat) : State :=
  ((s.takeSets l).keepSelects l).reportUnit l result rule obj

/-- The pending sets that pass a test end with a result, and with them the other sets of their ALIGN commits (R49). -/
def State.discard (s : State) (p : PendingSet → Bool) (result : Nat) : State :=
  let hit := s.dict.sets.filter p
  let l := s.dict.sets.filter (fun x => p x || x.align && hit.any (fun y => y.commit == x.commit))
  foldS (fun s u => s.endUnit u result 0 0) s (commitUnits l)

/-- The pending sets of some groups are discarded and reported CANCELLED. -/
def State.cancelGroups (s : State) (p : Nat → Bool) : State := s.discard (fun x => p x.group) codeCancelled

/-! ## Values of a group -/

/-- `s` with the values of a group's objects replaced in one step by those of a pending set. -/
def State.withSet (s : State) (x : PendingSet) : State :=
  { s with objs := mputAll (objDefault s.cfg) x.vals (s.objs.filter (fun e => s.keyGroup e.1 != x.group)),
           liveBlocks := mputAll (blockDefault s.cfg) x.blks (s.liveBlocks.filter (fun e => s.keyGroup e.1 != x.group)) }

/-- `s` with several sets in place. -/
def State.withSets (s : State) (l : List PendingSet) : State := foldS State.withSet s l

/-- What the rules of a group's set say, with the values of some sets in place of the active ones. -/
def State.checkSet (s : State) (l : List PendingSet) (x : PendingSet) : Option RuleFail :=
  s.ruleFail ((s.withSets l).viewWith [] []) x.group

/-! ## The request (R49 stage 1, R51) -/

/-- Groups 1 to 60 of a mask. -/
def maskGroups (v : Nat) : List Nat := (List.range 61).filter (fun g => g != 0 && bit v g)

/-- The refusal of a commit as a whole (R51), in the order of its table. -/
def State.commitRefusal (s : State) (part v mode at0 : Nat) : Option Nat :=
  let wall := bit mode 1
  if v / 2 = 0 then none
  else if bit v 61 || bit v 62 || bit v 63 || s.cfg.compact && (maskGroups v).any (fun g => decide (9 ≤ g ∧ g ≤ 16)) then
    some codeGroupAbsent
  else if (maskGroups v).any (fun g => !bit (s.get (0x1140 + g) 3) part) then some codeNoCommitRight
  else if bit mode 0 && bit v 19 then some codeAlignWithPlan
  else if wall && (s.get 0x9060 3 == 0 || decide (at0 ≤ s.wallNow) || decide (s.wallNow + 60000000000 < at0)) then
    some codeTimeInvalid
  else if bit v 57 && !s.markhorUp then some codeKeyServiceUnavailable
  else none

/-- The pending set that a commit makes of a group: its shadow as it stands. -/
def State.newSet (s : State) (part mode at0 : Nat) (client : Option (Nat × Nat)) (g : Nat) : PendingSet where
  group := g
  part := part
  commit := s.dict.nextCommit
  align := bit mode 0
  armed := bit mode 1 || bit mode 2
  onPin := bit mode 2
  atTime := if bit mode 1 then some at0 else none
  pinDeadline := if bit mode 2 && !bit mode 1 then some (s.now + s.getB part 0x1100 5 * 1000000) else none
  vals := s.shadow.filter (fun e => s.keyGroup e.1 == g)
  blks := s.blocks.filter (fun e => s.keyGroup e.1 == g)
  client := client
  at_ := s.now
  markhor := g == 57
  selects := if g = 57 then s.integ.selects else []

/-- The pre-check of a commit's sets (R54, R55): those that go on, and what has failed. Under ALIGN one failure ends
all of them. -/
def State.preCheck (s : State) (l : List PendingSet) (align : Bool) : List PendingSet × List (List PendingSet × RuleFail) :=
  if align then
    match l.findSome? (s.checkSet l) with
    | some f => ([], [(l, f)])
    | none => (l, [])
  else
    (l.filter (fun x => (s.checkSet [x] x).isNone),
     l.filterMap (fun x => (s.checkSet [x] x).map (fun f => ([x], f))))

/-- Stage 1 of an accepted commit: earlier sets of its groups are superseded, an ALIGN commit with all its sets, since it
applies as a whole or not at all (R49); its own sets are made and checked. -/
def State.makeSets (s : State) (part v mode at0 : Nat) (client : Option (Nat × Nat)) : State :=
  let gs := maskGroups v
  if gs.isEmpty then s
  else
    let s := s.discard (fun x => gs.contains x.group) codeSuperseded
    let new := gs.map (s.newSet part mode at0 client)
    let s := { s with dict := { s.dict with nextCommit := s.dict.nextCommit + 1 } }
    let (keep, bad) := s.preCheck new (bit mode 0)
    let s := { s with dict := { s.dict with sets := s.dict.sets ++ keep } }
    let s := if keep.any (fun x => x.group == 57) then ({ s with integ := { s.integ with selects := [] } } : State).post 2 256 else s
    foldS (fun s (x : List PendingSet × RuleFail) => s.reportUnit x.1 codeRuleFailed x.2.1 x.2.2) s bad

/-- The report of a commit refused as a whole. -/
def State.reportRefused (s : State) (part v code : Nat) (client : Option (Nat × Nat)) : State :=
  (s.report part (v / 2 * 2) code 0 0x00110001 client).setFlag (okey part 0x11B8 1) 2

end Sys2Proof.Machine
end

