-- ==== Sys2Proof/Machine/Security.lean ====
section
/-!
DEFINITION. Markhor's services, fuses, random numbers, keys and authorisations (chapter 12).
-/
namespace Sys2Proof.Machine

/-- The refusal of a request while Markhor is lost (R294). -/
def State.markhorDown (s : State) : Option Nat := if s.markhorUp then none else some codeKeyServiceUnavailable

/-! ## Fuses (R301, R302) -/

/-- The bits [lo + n − 1 : lo] of the fuse array as FuseView shows them. -/
def State.fuse (s : State) (lo n : Nat) : Nat :=
  numAt (s.getBlk (okey 0 0x2080 0)).data (lo / 8) ((lo % 8 + n + 7) / 8) / 2 ^ (lo % 8) % 2 ^ n

/-- The level of a thermometer field of `n` bits: the consecutive ones from its lowest bit. -/
def thermo : Nat → Nat → Nat
  | 0, _ => 0
  | n + 1, v => if v % 2 = 1 then thermo n (v / 2) + 1 else 0

/-- SERIAL. -/
def State.serial (s : State) : Nat := s.fuse 0 64

/-- LIFECYCLE, DEBUG_LOCK and the security levels. -/
def State.lifecycle (s : State) : Nat := thermo 4 (s.fuse 80 4)
def State.debugLock (s : State) : Nat := thermo 2 (s.fuse 88 2)
def State.fwLevel (s : State) : Nat := thermo 64 (s.fuse 128 64)
def State.planLevel (s : State) : Nat := thermo 64 (s.fuse 192 64)

/-- The hash of firmware key slot `k`, and of plan key slot `k`; 0 for an empty slot. -/
def State.fwKeyHash (s : State) (k : Nat) : Nat := s.fuse (256 + 384 * k) 384
def State.planKeyHash (s : State) (k : Nat) : Nat := s.fuse (1792 + 384 * k) 384

/-- A firmware-signing key slot is enrolled and not revoked; a plan-signing key whose hash this is is (R94, R301). -/
def State.fwKeyOk (s : State) (k : Nat) : Bool := decide (k < 4) && s.fwKeyHash k != 0 && s.fuse (90 + k) 1 == 0
def State.planKeyOk (s : State) (hash : Nat) : Bool :=
  hash != 0 && (List.range 8).any (fun k => s.planKeyHash k == hash && s.fuse (94 + k) 1 == 0)

/-- The objects that show fuse fields follow the fuses (R312). -/
def State.showFuses (s : State) : State :=
  ((s.put 0x2000 3 s.lifecycle).put 0x2000 4 s.fwLevel).put 0x2000 5 s.planLevel

/-- Bits of the fuse array programmed: a bit once 1 stays 1. -/
def State.blow (s : State) (lo v : Nat) : State :=
  let data := (s.getBlk (okey 0 0x2080 0)).data
  let m := v * 2 ^ (lo % 8)
  let n := (List.range 64).foldl (fun (n : Nat) i => if 256 ^ i ≤ m then i + 1 else n) 0
  let new := data.zipIdx.map (fun x =>
    if lo / 8 ≤ x.2 ∧ x.2 < lo / 8 + n then x.1 ||| byteOf (m / 256 ^ (x.2 - lo / 8)) else x.1)
  (s.putBlk (okey 0 0x2080 0) new).showFuses

/-- A thermometer field at `lo` raised to a level. -/
def State.raiseLevel (s : State) (lo level : Nat) : State := s.blow lo (2 ^ level - 1)

/-- The first bit and width of a field of R301. -/
def fuseSpan : FuseField → Nat × Nat
  | .lifecycle => (80, 4)
  | .protMode => (84, 2)
  | .recoveryDisable => (86, 1)
  | .foxgloveDisable => (87, 1)
  | .debugLock => (88, 2)
  | .fwKeyRevoke => (90, 4)
  | .planKeyRevoke => (94, 8)
  | .planKeyHash k => (1792 + 384 * (k % 8), 384)
  | .provisioningKeyHash => (5120, 384)

def fuseIsHash : FuseField → Bool
  | .planKeyHash _ => true
  | .provisioningKeyHash => true
  | _ => false

/-- Whether R302 accepts a request in lifecycle FIELD and after it: it tightens, or programs an empty plan key slot with a
signature under an enrolled plan key. -/
def fuseTightens (f : FuseField) (signed : Bool) : Bool :=
  match f with
  | .protMode => false
  | .provisioningKeyHash => false
  | .planKeyHash _ => signed
  | _ => true

/-- The refusal of a fuse request (R294, R302). -/
def State.fuseRefusal (s : State) (f : FuseField) (signed : Bool) : Option Nat :=
  if !s.markhorUp then some codeKeyServiceUnavailable
  else if fuseIsHash f && s.fuse (fuseSpan f).1 (fuseSpan f).2 != 0 then some codeAlreadyWritten
  else if 2 ≤ s.lifecycle && !fuseTightens f signed then some codeLifecycle
  else none

/-- An accepted request goes to the FUSE service. -/
def State.fuseWritten (s : State) (ini : Ini) (f : FuseField) (value : Nat) : State :=
  ({ s with sec := { s.sec with
      fuseReqs := s.sec.fuseReqs ++ [⟨ini, (fuseSpan f).1, (fuseSpan f).2, value % 2 ^ (fuseSpan f).2, s.now⟩] } } : State).post 4 0

/-- FUSE_PROGRAM: a completed write of FuseProgram with a request for a field. `signed` says whether it carries an R94
block under an enrolled, unrevoked plan key. -/
def execFuseProgram (t : Nat) (ini : Ini) (f : FuseField) (value : Nat) (signed : Bool) (s : State) :
    Host.Outcome State Fault Refusal :=
  at_ t s fun s =>
    match (s.writeRefusal ⟨ini, 0, 0x2081, 0, 0⟩ true).orElse (fun _ => s.fuseRefusal f signed) with
    | some c => s.refuse ini 0x2081 0 c
    | none => s.fuseWritten ini f value

/-! ## Challenges (R307, R311) -/

/-- A challenge granted: a fresh nonce, valid for 60 s. -/
def State.placeNonce (s : State) : State :=
  let (s, bytes) := (List.range 4).foldl (fun (a : State × List Byte) _ =>
    (a.1.useFree, a.2 ++ leBytes 8 a.1.freeW.toNat)) (s, [])
  let s := s.putBlk (okey 0 0x2110 2) bytes
  { s with sec := { s.sec with nonceUntil := some (s.now + 60000000000), requests := s.sec.requests + 1 } }

/-- Challenges that have waited 50 ms for READY are refused (R307). -/
def State.settleChallenges (s : State) : State :=
  if s.get 0x9180 1 = 1 then s
  else
    let late := s.sec.challenges.filter (fun (c : Ini × Nat) => decide (c.2 + 50000000 ≤ s.now))
    let s := { s with sec := { s.sec with
      challenges := s.sec.challenges.filter (fun (c : Ini × Nat) => !decide (c.2 + 50000000 ≤ s.now)) } }
    foldS (fun s c => s.refuse c.1 0x2110 1 codeRngUnavailable) s late

/-- The challenges that have reached the slot of their channel are answered while READY is 1, at most `n` of them. -/
def State.serveSome (s : State) : Nat → State
  | 0 => s
  | n + 1 =>
    if s.get 0x9180 1 == 1 && s.inSlot 6 1 then
      let s := s.unpost 6 1
      (({ s with sec := { s.sec with challenges := s.sec.challenges.drop 1 } } : State).placeNonce).serveSome n
    else s

def State.serveChallenges (s : State) : State := s.serveSome s.sec.challenges.length

/-! ## The FUSE service -/

/-- A request enters lifecycle MANUFACTURING and so needs randomness (R302, R307). -/
def State.fuseNeedsRng (s : State) (r : FuseReq) : Bool := r.first == 80 && s.lifecycle == 0 && r.value % 2 == 1

/-- FUSE_PROGRAM_DONE: the oldest fuse request ends; `bad` are the bits whose margin read failed. -/
def execFuseProgramDone (t bad : Nat) (s : State) : Host.Outcome State Fault Refusal :=
  edged t s fun s =>
    match s.sec.fuseReqs with
    | [] => s
    | r :: rest =>
      let gone : State := { s.unpost 4 0 with sec := { (s.unpost 4 0).sec with fuseReqs := rest } }
      if !s.markhorUp || !s.inSlot 4 0 then s
      else if s.fuseNeedsRng r && s.get 0x9180 1 == 0 then
        if s.now < r.at_ + 50000000 then s
        else ((gone.refuse r.ini 0x2081 0 codeRngUnavailable).answerKey (okey 0 0x2081 0) codeRngUnavailable).serveChallenges
      else
        let failed := r.value &&& bad
        let s' := gone.blow r.first (r.value - failed)
        let s' := if s.fuseNeedsRng r && bit (r.value - failed) 0 then
            { s'.useFree with sec := { s'.sec with secretSet := true } } else s'
        (if failed = 0 then s'.answerKey (okey 0 0x2081 0) codeOk
        else (s'.raise 0x2001 0 3 sevError 0 (leBytes 4 codeFuseProgramFailed)).answerKey (okey 0 0x2081 0)
          codeFuseProgramFailed).serveChallenges

/-- FW_LEVEL_RAISE (R300). -/
def execFwLevelRaise (t : Nat) (s : State) : Host.Outcome State Fault Refusal :=
  edged t s fun s =>
    let due := s.sec.fullSince.elim false (fun f => decide (f + 600000000000 ≤ s.now))
    s.when (due && s.markhorUp && decide (s.fwLevel < s.sec.fwVersion)) (fun s => s.raiseLevel 128 (min s.sec.fwVersion 64))

/-! ## Random numbers (R304 to R307, R313) -/

/-- The planner is released once Markhor and both firmware images are verified, the self-test has ended with the network
usable and randomness is ready (R299, R305, R449, R453); DRAM training starts. -/
def State.releasePlanner (s : State) : State :=
  if s.sys.booted && s.sys.plannerFw && s.sys.tested && !s.sys.network && !s.sys.released && s.get 0x9180 1 == 1 then
    let s := { s with sys := { s.sys with released := true } }
    let s := (s.put 0x9002 1 2).put 0x9030 2 ((s.now - s.sys.startAt) / 1000)
    foldS (fun s c => if bit s.cfg.dramFitted c && !s.isLost .channel c then s.put (0x3040 + c) 1 3 else s) s
      (List.range (if s.cfg.dramGen = 4 then s.cfg.groups * 2 else s.cfg.groups * 4))
  else s

/-- RNG_READY: the start-up test has passed and the DRBG is instantiated. -/
def execRngReady (t : Nat) (s : State) : Host.Outcome State Fault Refusal :=
  edged t s fun s =>
    let s := s.settleChallenges
    if s.get 0x9180 1 = 1 ∨ s.get 0x9180 3 = 1 then s
    else
      let after := s.sec.failedReady
      let s := s.put 0x9180 1 1
      let s := { s with sec := { s.sec with seeded := s.now, requests := 0, failedReady := false } }
      let s := if after then s.setFlag (okey 0 0x9182 0) 1 else s
      s.serveChallenges.releasePlanner

/-- RNG_HEALTH_FAIL (R307). -/
def execRngHealthFail (t : Nat) (s : State) : Host.Outcome State Fault Refusal :=
  at_ t s fun s =>
    if s.get 0x9180 3 = 1 then s
    else
      let s := (s.settleChallenges.put 0x9180 1 0).bump 0x9180 2
      let s := s.raise 0x9182 0 0 sevError 0 []
      let fails := s.now :: s.sec.healthFails.filter (fun f => decide (s.now ≤ f + 1000000000))
      let s := { s with sec := { s.sec with healthFails := fails, failedReady := true } }
      if fails.length < 3 then s
      else (s.put 0x9180 3 1).raise 0x9182 0 0 sevCritical 0 []

/-- RNG_RESEED: after 2^20 generate requests or 1 s (R305). -/
def execRngReseed (t : Nat) (s : State) : Host.Outcome State Fault Refusal :=
  edged t s fun s =>
    if s.get 0x9180 1 = 1 ∧ (2 ^ 20 ≤ s.sec.requests ∨ s.sec.seeded + 1000000000 ≤ s.now) then
      { s with sec := { s.sec with seeded := s.now, requests := 0 } }
    else s

/-- The stored seed replaced (R306). -/
def State.newSeed (s : State) (lost : Bool) : State :=
  let s := { s with sec := { s.sec with seedAt := s.now } }
  if lost then s.raise 0x9182 0 2 sevNotice 0 [] else s

/-- SEED_REFRESH: once per hour, or when the stored seed is found lost or corrupt. -/
def execSeedRefresh (t : Nat) (lost : Bool) (s : State) : Host.Outcome State Fault Refusal :=
  edged t s fun s =>
    s.when (s.get 0x9180 1 == 1 && (lost || decide (s.sec.seedAt + 3600000000000 ≤ s.now))) (fun s => s.newSeed lost)

/-- A read of DATA by a partition (R305, R313): 64 fresh bits, or zero while READY is 0. -/
def State.rngRead (s : State) (p : Nat) : State × Word :=
  if s.get 0x9180 1 = 1 then
    let v := s.freeW
    let s := { s.useFree with sec := { s.sec with requests := s.sec.requests + 1 } }
    (s.putB p 0x9181 2 1, v)
  else (s.putB p 0x9181 2 0, 0)

/-- RNG_DATA_READ: a read of RngData DATA; one that AccessNarrow denies returns zero (R34). -/
def execRngDataRead (t : Nat) (ini : Ini) (s : State) : Host.Outcome State Fault Refusal :=
  at_ t s fun s =>
    if !ini.secure && s.narrowed ini.part 0x9181 false then s.emit (.readData ini.part 0)
    else
      let (s, v) := s.rngRead ini.part
      s.emit (.readData ini.part v)

/-! ## Key bundles (R308, R310) -/

/-- The outcome of a bundle or token is recorded (0x2102). -/
def State.keyResult (s : State) (w : SecWrite) (code : Nat) : State :=
  let s := (s.put 0x2102 1 code).bump 0x2102 (if code = 0 then 2 else 3)
  if code = 0 then s
  else (s.setFlag (okey 0 0x2001 0) 5).refuse w.ini 0x2100 0 code

/-- The fields of a bundle are in range for this device. -/
def State.bundleFields (s : State) (d : List Byte) : Bool :=
  let kind := numAt d 12 1
  decide (d.length = 261) && decide (bytesAt d 0 4 = strBytes "SKB1") && decide (kind ≤ 1) && numAt d 21 3 == 0
    && (kind == 1 || decide (numAt d 13 1 < 64) && decide (numAt d 14 1 < 0xFF)
        && decide (numAt d 15 1 < (if s.cfg.compact then 8 else 16)) && decide (numAt d 16 4 < 32))

/-- The result of a bundle (R308): `sigOk` says whether the signature and the GCM tag verify. -/
def State.bundleCode (s : State) (d : List Byte) (sigOk : Bool) : Nat :=
  let k := numAt d 13 1
  let st := s.get (0x1200 + k) 4
  if !sigOk || !s.bundleFields d || numAt d 4 8 != s.serial || s.fuse 5120 384 == 0 then codeKeyBundleInvalid
  else if numAt d 12 1 = 0 ∧ (st = 1 ∨ st = 2) ∧ s.get (0x1200 + k) 1 ≠ numAt d 14 1 then codeBindingsFull
  else 0

/-- An accepted bundle: the binding is written, or the broadcast chain replaced. The key it carries is wrapped under a key
derived from DEVICE_SECRET, which nothing gives: a free value (DESIGN CHOICE, log entry 3). -/
def State.bundleTaken (s : State) (d : List Byte) : State :=
  let gen := numAt d 20 1
  let key := s.freeW.toNat + 2 ^ 64 * s.useFree.freeW.toNat
  let s := s.useFree.useFree
  if numAt d 12 1 = 1 then
    { s with til := { s.til with bcastGen := gen, bcast := 1, bcastStored := 0, bcastNext := false,
                                 bcastStopped := false, bcastKey := key } }
  else
    let k := numAt d 13 1
    let s := ((s.put (0x1200 + k) 1 (numAt d 14 1)).put (0x1200 + k) 2 (numAt d 15 1)).put (0x1200 + k) 3 (numAt d 16 4)
    s.freshSession k gen key

/-- What a completed write of KeyBundle does: it goes to the KEY service. -/
def State.bundleWritten (s : State) (ini : Ini) (d : List Byte) : State :=
  ({ s with sec := { s.sec with bundles := s.sec.bundles ++ [⟨ini, d⟩] } } : State).post 3 64

/-- KEY_BUNDLE: a completed write of KeyBundle. -/
def execKeyBundle (t : Nat) (ini : Ini) (data : List Byte) (s : State) : Host.Outcome State Fault Refusal :=
  at_ t s fun s => (s.writeBlock ini 0x2100 0 data (fun s _ => s.markhorDown) (fun s d => s.bundleWritten ini d)).1

/-- BUNDLE_RESULT: the KEY service answers for the oldest bundle. -/
def execBundleResult (t : Nat) (sigOk : Bool) (s : State) : Host.Outcome State Fault Refusal :=
  clocked t 0 s fun s =>
    match s.sec.bundles with
    | [] => s
    | w :: rest =>
      if !s.inSlot 3 64 then s
      else
        let s := s.unpost 3 64
        let s := { s with sec := { s.sec with bundles := rest } }
        let c := s.bundleCode w.data sigOk
        let s := if c = 0 then s.bundleTaken w.data else s
        ((s.keyResult w c).answerKey (okey 0 0x2100 0) c).serveChallenges

/-! ## Firmware images (R298, R299) -/

/-- A firmware image passes the checks of R299: its fields, its key and its version. -/
def State.firmwareOk (s : State) (d : List Byte) (sigOk : Bool) : Bool :=
  let ty := numAt d 8 1
  let len := numAt d 16 4
  sigOk && decide (bytesAt d 0 8 = strBytes "SAHFW" ++ [0, 0, 0]) && (ty == 1 || ty == 2)
    && decide (len ≤ (if ty = 1 then 512 * 1024 else 4 * 1024 * 1024)) && numAt d 11 1 == 0 && numAt d 20 44 == 0
    && decide (1 ≤ numAt d 10 1) && decide (numAt d 10 1 ≤ 64) && s.fwKeyOk (numAt d 9 1)
    && decide (s.fwLevel ≤ numAt d 10 1) && d.length == 64 + len + 3416

/-- The eMRAM copy that the last boot did not use, for a type of image. -/
def State.spareCopy (s : State) (ty : Nat) : Nat := if (if ty = 1 then s.sec.fwCopy else s.sec.plCopy) = 0 then 1 else 0

/-- A completed write of FirmwareImage: Markhor verifies the image and stores it in the spare copy. -/
def State.firmwareWritten (s : State) (d : List Byte) (sigOk : Bool) : State :=
  let slot := numAt d 8 1 * 2 + s.spareCopy (numAt d 8 1)
  if s.firmwareOk d sigOk then { s with sec := { s.sec with images := mput [] slot d s.sec.images } } else s

/-- FIRMWARE_IMAGE. -/
def execFirmwareImage (t : Nat) (ini : Ini) (data : List Byte) (sigOk : Bool) (s : State) :
    Host.Outcome State Fault Refusal :=
  at_ t s fun s =>
    (s.writeBlock ini 0x2120 0 data (fun s _ => s.markhorDown) (fun s d => s.firmwareWritten d sigOk)).1

/-! ## Authorisations (R311) -/

/-- The authorisation in force ends. -/
def State.endAuth (s : State) : State :=
  if s.get 0x2110 3 = 0 then s
  else
    let s := (((s.put 0x2110 3 0).put 0x2110 4 0).put 0x2110 5 0).foxStop
    s.raise 0x2001 0 4 sevWarning 0 [0]

/-- A write of CHALLENGE: a nonce once its request is in the slot and READY is 1. -/
def State.challenge (s : State) (ini : Ini) : State :=
  let s : State := { s with sec := { s.sec with challenges := s.sec.challenges ++ [(ini, s.now)] } }
  (s.post 6 1).serveChallenges

/-- CHALLENGE. -/
def execChallenge (t : Nat) (ini : Ini) (v : Word) (s : State) : Host.Outcome State Fault Refusal :=
  at_ t s fun s => (s.settleChallenges).writeAt ini 0x2110 1 v (fun s _ => s.markhorDown) (fun s _ => s.challenge ini)

/-- What a completed write of FoxgloveToken does. -/
def State.tokenWritten (s : State) (ini : Ini) (d : List Byte) : State :=
  ({ s with sec := { s.sec with tokens := s.sec.tokens ++ [⟨ini, d⟩] } } : State).post 6 0

/-- The refusal of a write of FoxgloveToken. -/
def State.tokenRefusal (s : State) (d : List Byte) : Option Nat :=
  if !s.markhorUp then some codeKeyServiceUnavailable else if d.length ≠ 3462 then some codeBadLength else none

/-- FOXGLOVE_TOKEN: a completed write of FoxgloveToken. -/
def execFoxgloveToken (t : Nat) (ini : Ini) (data : List Byte) (s : State) : Host.Outcome State Fault Refusal :=
  at_ t s fun s => (s.writeBlock ini 0x2111 0 data (fun s d => s.tokenRefusal d) (fun s d => s.tokenWritten ini d)).1

/-- The result of a token (R311): `sigOk` says whether the signature block verifies. -/
def State.tokenCode (s : State) (d : List Byte) (sigOk : Bool) : Nat :=
  let purpose := numAt d 40 1
  let dur := numAt d 42 4
  let current := s.sec.nonceUntil.elim false (fun u => decide (s.now ≤ u))
    && decide (bytesAt d 0 32 = (s.getBlk (okey 0 0x2110 2)).data)
  if purpose = 1 ∧ s.fuseBit 87 then codeFoxgloveDisabled
  else if !sigOk || numAt d 32 8 != s.serial || !current || !(purpose == 1 || purpose == 2) || dur == 0
      || decide (86400 < dur) then codeTokenInvalid
  else 0

/-- TOKEN_CHECKED: Markhor answers for the oldest token. A checked token voids the nonce. -/
def execTokenChecked (t : Nat) (sigOk : Bool) (s : State) : Host.Outcome State Fault Refusal :=
  clocked t 0 s fun s =>
    match s.sec.tokens with
    | [] => s
    | w :: rest =>
      if !s.inSlot 6 0 then s
      else
        let c := s.tokenCode w.data sigOk
        let s := s.unpost 6 0
        let s := { s with sec := { s.sec with tokens := rest,
                                              nonceUntil := if c = codeFoxgloveDisabled then s.sec.nonceUntil else none } }
        let s := if c ≠ 0 then s.refuse w.ini 0x2111 0 c
          else
            let purpose := numAt w.data 40 1
            let dur := numAt w.data 42 4
            let s := s.endAuth
            let s := ((s.put 0x2110 3 purpose).put 0x2110 4 (if purpose = 1 then numAt w.data 41 1 % 16 else 0)).put 0x2110 5 dur
            let s := { s with sec := { s.sec with authUntil := s.now + dur * 1000000000 } }
            s.raise 0x2001 0 4 sevWarning 0 [1]
        (s.answerKey (okey 0 0x2111 0) c).serveChallenges

/-- AUTHORISATION_EXPIRY: DURATION_S has passed. -/
def execAuthorisationExpiry (t : Nat) (s : State) : Host.Outcome State Fault Refusal :=
  at_ t s fun s => s.when (decide (s.sec.authUntil ≤ s.now)) State.endAuth

/-- REVOKE: a write of REVOKE. -/
def execRevoke (t : Nat) (ini : Ini) (v : Word) (s : State) : Host.Outcome State Fault Refusal :=
  at_ t s fun s => s.writeAt ini 0x2110 6 v noOwn (fun s _ => s.endAuth)

/-! ## Loss of Markhor (R295 to R297) -/

/-- Fuse programming cut off: of the bits of the request in the slot, a free number has been programmed, the lowest first (R297;
DESIGN CHOICE, log entry 3). -/
def State.cutFuse (s : State) : State :=
  match s.sec.fuseReqs with
  | r :: _ =>
    if s.inSlot 4 0 && !(s.fuseNeedsRng r && s.get 0x9180 1 == 0) then
      let n := s.freeW.toNat % (r.width + 1)
      { s.useFree with sec := { s.useFree.sec with partBlown := s.sec.partBlown ++ [(r.first, r.value % 2 ^ n)] } }
    else s
  | [] => s

/-- Fuses are read again: what was programmed before a loss of Markhor shows (R297). -/
def State.rereadFuses (s : State) : State :=
  let s := foldS (fun s (x : Nat × Nat) => s.blow x.1 x.2) s s.sec.partBlown
  ({ s with sec := { s.sec with partBlown := [] } } : State).showFuses

/-- Requests of the KEY, FUSE and FOXGLOVE services outstanding when Markhor is lost are answered. -/
def State.secLost (s : State) : State :=
  let s := s.cutFuse
  let c := codeKeyServiceUnavailable
  let s := foldS (fun s w => s.keyResult w c) s s.sec.bundles
  let s := foldS (fun s (w : SecWrite) => s.refuse w.ini 0x2111 0 c) s s.sec.tokens
  let s := foldS (fun s (r : FuseReq) => s.refuse r.ini 0x2081 0 c) s s.sec.fuseReqs
  let s := foldS (fun s (r : Ini × Nat) => s.refuse r.1 0x2110 1 c) s s.sec.challenges
  let s := { s with sec := { s.sec with bundles := [], tokens := [], fuseReqs := [], challenges := [], nonceUntil := none, mail := [] } }
  foldS (fun s k => s.answerAll k c) s
    [okey 0 0x2100 0, okey 0 0x2111 0, okey 0 0x2081 0, okey 0 0x2120 0]

/-- Time from which R300 counts: the full plan runs and Markhor runs. -/
def State.noteFull (s : State) : State :=
  let on := s.markhorUp && s.plan.active.isSome && !s.plan.early
  { s with sec := { s.sec with fullSince := if on then some (s.sec.fullSince.getD s.now) else none } }

end Sys2Proof.Machine
end

