-- ==== Sys2Proof/Machine/Plans.lean ====
section
/-!
DEFINITION. Plan handling (R112 to R118): staging, validation, the actions of PlanControl, and preparation. The swap
itself stands in Epoch.lean.
-/
namespace Sys2Proof.Machine

/-! ## PlanControl (0x4000) -/

/-- STATE. -/
def State.planState (s : State) : Nat := s.get 0x4000 4

def State.setPlanState (s : State) (st : Nat) : State := s.put 0x4000 4 st

/-- RESULT. -/
def State.setPlanResult (s : State) (code : Nat) : State := s.put 0x4000 5 code

/-- The staged image. -/
def State.stagedImage (s : State) : List Byte := (s.getBlk (okey 0 0x4001 0)).data

/-- A flag of PlanStatus set; R112 to R118 give it no event record. -/
def State.planFlag (s : State) (f : Nat) : State := s.setFlag (okey 0 0x4008 0) f

/-- A swap is preparing, ready or pending. -/
def State.swapBusy (s : State) : Bool := decide (4 ≤ s.planState ∧ s.planState ≤ 6)

/-! ## Preparation (R114, R134, R135) -/

/-- Owner number of a surface that is prepared for a plan not yet swapped in. -/
def preparedOwner : Nat := 253

/-- Owner number of the spaces of the plan in force: frame stores and preloaded images. -/
def planOwner : Nat := 255

/-- A place for a space of a plan: the tile store if it fits there, else for a full plan the group with the lowest
ratio of used space (R123, R110). -/
def State.planPlace (s : State) (early : Bool) (cls size hdr : Nat) : Option (Nat × Nat × Nat) :=
  match s.findTs size hdr with
  | some a => some (0, 0, a)
  | none => if early then none else (s.bestGroup 255 cls (size + hdr)).map (fun x => (1, x.1, x.2))

/-- A space of a plan placed, with its number. -/
def State.placeSpace (s : State) (early : Bool) (w h format cls size hdrSize : Nat) (image : Option Nat) :
    Option (State × Nat) :=
  (s.planPlace early cls size hdrSize).map (fun x =>
    (s.addSurf { id := s.place.nextId, owner := preparedOwner, w := w, h := h, format := format, layout := 2, cls := cls,
                 size := size, hdrSize := hdrSize, loc := x.1, group := x.2.1, addr := x.2.2, hdr := x.2.2 + size,
                 ctx := if x.1 = 1 then s.curCtx x.2.1 else 0, clear := 0, lost := false, homeless := false,
                 image := image, hot := 0 }, s.place.nextId))

/-- Two HEADS entries agree in every field of R96 but DIR_FIRST and SCAN_4K (R116). -/
def PlanHead.sameAs (a b : PlanHead) : Bool := { a with dirFirst := b.dirFirst, scan4k := b.scan4k } == b

/-- A head of a new plan goes on with its raster and its frame store. -/
def State.headKept (s : State) (h : PlanHead) : Bool := (s.headEntry h.head).elim false (fun o => o.sameAs h)

/-- Some tile of a head's programs has TOP_CLASS 0: its frame store is placed as class A content is (R316). -/
def Plan.storeClass (p : Plan) (h : PlanHead) : Nat :=
  if (List.range h.tiles).any (fun t => dirTop (nth 0 p.dir (h.dirFirst + t)) == 0) then 0 else 3

/-- The class of a preloaded image: the highest of the layers that show it. -/
def Plan.imageClass (p : Plan) (n : Nat) : Nat :=
  (p.layers.filter (fun l => l.kind == 0 && l.sourceRef == n)).foldl (fun c l => min c l.cls) 3

/-- The new frame stores and the images of a plan placed one after the other; none where one does not fit or a library
image is missing (R107, R114). -/
def State.placePlan (s : State) (p : Plan) (early : Bool) : Option (State × List (Nat × Nat) × List Nat) :=
  let heads := p.heads.filter (fun h => (p.ownerHead h).head == h.head && !s.headKept h)
  let stores := heads.foldl (fun (a : Option (State × List (Nat × Nat))) h =>
    a.bind (fun a =>
      (a.1.placeSpace early (64 * h.cols) (32 * h.rows) 4 (p.storeClass h)
        (roundUp (h.tiles * 2 * 8192 + h.tiles * 16) 65536 - roundUp (h.tiles * 16) 8) (roundUp (h.tiles * 16) 8) none).map
        (fun x => (x.1, a.2 ++ [(h.head, x.2)])))) (some (s, []))
  stores.bind (fun st =>
    (p.images.foldl (fun (a : Option (State × List Nat)) i =>
      a.bind (fun a =>
        if i.whereIs = 1 && (s.libEntry i.libraryId).isNone then none
        else
          let n := tileCols i.width * tileRows i.height
          (a.1.placeSpace early i.width i.height i.format (p.imageClass i.image)
            (roundUp (n * rawTileBytes i.format) 65536) (roundUp (8 * n) 65536) (some i.image)).map
            (fun x =>
              let s := match x.1.surf x.2 with
                | some f => x.1.loadImage p f i.image
                | none => x.1
              (s, a.2 ++ [x.2])))) (some (st.1, []))).map (fun im => (im.1, st.2, im.2)))

/-- The whole of a preparation: binding and shedding, then placement; none where the usable units cannot carry every class
A and B layer, or a space or library image is missing. -/
def State.prepare (s : State) (p : Plan) (early : Bool) : Option (State × Prepared) :=
  (s.shedUntil p p.shedOrder []).bind (fun b =>
    (s.placePlan p early).map (fun x => (x.1.settleBanks, ⟨b.1, b.2, x.2.1, x.2.2⟩)))

/-- A SHED event for each layer of a prepared plan that preparation has shed (R135). -/
def State.preparedShed (s : State) (p : Plan) (shed : List Nat) : State :=
  foldS (fun s n => s.raise 0x3430 0 5 sevWarning ((p.layerOf n).elim 0 (fun l => l.owner)) (leBytes 2 n)) s shed

/-- What preparation has placed is released. -/
def State.dropPrep (s : State) : State :=
  let s := { s with place := { s.place with surfs := s.place.surfs.filter (fun (f : Surf) => f.owner != preparedOwner) } }
  ({ s with plan := { s.plan with prep := none, swapAt := none } } : State).settleBanks

/-- A preparation, a ready image or a pending swap ends; the staged image stays valid (R117). -/
def State.abandonSwap (s : State) (code : Nat) : State :=
  ((s.dropPrep.setPlanState 3).setPlanResult code).planFlag 3

/-! ## Staging and validation (R112, R113) -/

/-- The refusal of a new staged image (R117, R76). Their order: DESIGN CHOICE, log entry 119. -/
def State.stageRefusal (s : State) : Option Nat :=
  if s.swapBusy then some codeSwapPending
  else if s.planState == 8 || s.plan.action != 0 then some codePlanState
  else s.markhorDown

/-- A complete image is in the staging area: its validation starts, in place of one that runs. -/
def State.beginValidation (s : State) : State :=
  let s := s.put 0x4000 9 (u64 s.stagedImage 0x10)
  (({ s.post 1 0 with plan := { s.plan with valid := none } } : State).setPlanState 2)

/-- An image put into the staging area. -/
def State.stageImage (s : State) (data : List Byte) : State :=
  let s := s.putBlk (okey 0 0x4001 0) data
  (s.putLive (okey 0 0x4001 0) (s.getBlk (okey 0 0x4001 0))).beginValidation

/-- The end of a validation is answered to the request whose last segment waits for it (R112). -/
def State.answerPlan (s : State) (code : Nat) : State := s.answerAll (okey 0 0x4001 0) code

/-- The image is rejected with a code and the offset of the faulty field. -/
def State.rejectPlan (s : State) (code off : Nat) : State :=
  let s := { s with plan := { s.plan with valid := none, boot := false } }
  ((((s.setPlanState 7).setPlanResult code).put 0x4000 6 off).planFlag 0).answerPlan code

/-- What the device is in its fabric, as a plan's header must name it (R350). -/
def State.fabricShape (s : State) : Fabric where
  topology := s.fabric.topology
  cols := s.fabric.cols
  rows := s.fabric.rows
  nodes := match s.fabric.topology with
    | 0 => 1
    | 1 => 2
    | 2 => s.fabric.ringSize
    | _ => s.fabric.cols * s.fabric.rows

/-- A port is configured as DisplayPort or eDP. -/
def State.isDpPort (s : State) (q : Nat) : Bool := decide (s.get (0x5800 + q * 0x10) 1 ≤ 1)

/-- Stage 1 of R113 on an image. -/
def State.planFault (s : State) (m : List Byte) : Option (Nat × Nat) :=
  structural s.cfg s.isDpPort s.fabricShape s.selfNode m

/-- Stage 2 of R113, Markhor's: signatures, key and rollback (R94, R300). -/
def State.planVerify (s : State) (m : List Byte) (sigOk : Bool) : Option Nat :=
  if !sigOk || !s.planKeyOk (numAt m 0x60 48) then some codePlanSignature
  else if min (u32 m 0x1C) 64 < s.planLevel then some codePlanRollback
  else none

/-- PlanFieldReport of the last validation. -/
def State.fieldReport (s : State) (l : List FieldClamp) : State :=
  foldS (fun s k => s.put 0x4009 (2 + k) (((l[k]?).map FieldClamp.word).getD 0)) (s.put 0x4009 1 l.length) (List.range 16)

/-- This device is a member of a ring or torus other than a gateway (R352, R353). -/
def State.wallMember (s : State) : Bool := decide (2 ≤ s.fabric.topology) && s.fabric.gateway == 0

/-- PLAN_VALIDATED (R113): the stages in their order; `sigOk` says whether both signatures verify. The plan that start-up
loads goes on to its preparation (R453); on a member of a Wall only if it is the gateway's active plan, else the node stays out of the plan
with NODE_JOINED set (R353): which plan the gateway runs no command tells, so that is a free value (DESIGN CHOICE, log entry 109). -/
def execPlanValidated (t : Nat) (sigOk : Bool) (s : State) : Host.Outcome State Fault Refusal :=
  planned t s fun s =>
    if s.planState != 2 || s.noLock 0 || s.markhorUp && !s.inSlot 1 0 && (s.planFault s.stagedImage).isNone then s
    else
      let m := s.stagedImage
      let s := s.unpost 1 0
      let s := ({ s with plan := { s.plan with action := 0 } } : State).fieldReport []
      match s.planFault m with
      | some (c, off) => s.rejectPlan c off
      | none =>
        if !s.markhorUp then ((s.setPlanState 1).setPlanResult codeKeyServiceUnavailable).answerPlan codeKeyServiceUnavailable
        else
          match s.planVerify m sigOk with
          | some c => s.rejectPlan c 0
          | none =>
            let (p, l) := (readPlan m s.selfNode).fieldStage
            let s := s.fieldReport l
            let s := s.when (!l.isEmpty) (fun s => s.planFlag 1)
            let s := { s with plan := { s.plan with valid := some p } }
            let s := (((s.setPlanState 3).setPlanResult 0).put 0x4000 6 0).answerPlan codeOk
            if s.plan.boot && s.wallMember && decide (s.freeW.toNat % 2 = 1) then s.useFree.setFlag (okey 0 0x7801 0) 4
            else if s.plan.boot && !bit p.kind 0 then
              ({ (s.when s.wallMember State.useFree) with plan := { s.plan with swapWhenReady := true } } : State).setPlanState 4
            else s

/-- PLAN_DMA_GO (R112): `data` is what host memory holds at HOST_ADDR, of which LENGTH bytes are read. -/
def State.dmaRead (s : State) (data : List Byte) : State := s.stageImage (bytesAt data 0 (s.get 0x4002 2))

/-- A write of PlanDmaLoad GO. A refused one reads nothing. -/
def execPlanDmaGo (t : Nat) (ini : Ini) (v : Word) (data : List Byte) (s : State) : Host.Outcome State Fault Refusal :=
  at_ t s fun s => s.writeAt ini 0x4002 3 v (fun s _ => s.stageRefusal) (fun s _ => s.dmaRead data)

/-! ## Actions (R112 to R118) -/

/-- The time at which ACTION 5 swaps lies 50 ms to 60 s ahead in valid Wall time (R118). -/
def State.swapTimeOk (s : State) : Bool :=
  s.get 0x9060 3 == 1 && decide (s.wallNow + 50000000 ≤ s.get 0x4000 3 ∧ s.get 0x4000 3 ≤ s.wallNow + 60000000000)

/-- TARGET_SLOT, and the image that a slot holds. -/
def State.targetSlot (s : State) : Nat := s.get 0x4000 2

def State.slotImage (s : State) (k : Nat) : List Byte := mget [] k s.plan.slots

/-- A long action or a validation runs, during which no other action is taken. -/
def State.planBusy (s : State) : Bool := s.planState == 2 || s.planState == 8 || s.plan.action != 0

/-- The refusal of an action. -/
def State.actionRefusal (s : State) (v : Nat) : Option Nat :=
  let st := s.planState
  let when_ := fun (ok : Bool) (c : Nat) => if ok then none else some c
  if v = 6 then when_ (st != 8) codePlanState
  else if s.planBusy then some codePlanState
  else
    match v with
    | 1 => when_ (st == 1 || st == 3 || st == 7) codePlanState
    | 2 => when_ (st == 3 && decide (s.stagedImage.length ≤ 4 * mib)) codePlanState
    | 3 => if s.swapBusy then some codeSwapPending else when_ (!(s.slotImage s.targetSlot).isEmpty) codePlanState
    | 5 =>
      if st = 4 ∨ st = 6 then some codeSwapPending
      else if st != 5 then some codePlanState
      else if !s.swapTimeOk then some codeTimeInvalid
      else s.markhorDown
    | 7 => none
    | _ =>
      if s.swapBusy then some codeSwapPending
      else if st != 3 || s.plan.valid.elim true (fun p => bit p.kind 0) then some codePlanState
      else s.markhorDown

/-- What an accepted action starts. -/
def State.actionEffect (s : State) (v : Nat) : State :=
  let s := s.setPlanResult 0
  let act := fun (s : State) (n : Nat) => ({ s with plan := { s.plan with action := n, actionSlot := s.targetSlot } } : State)
  let s := s.when (v != 7) (fun s => { s with plan := { s.plan with boot := false } })
  match v with
  | 1 => (act s 1).beginValidation
  | 2 => (act s 2).setPlanState 8
  | 3 => act s 3
  | 5 => ({ s with plan := { s.plan with swapAt := some (s.get 0x4000 3) } } : State).setPlanState 6
  | 6 =>
    let s := (s.dropPrep.putBlk (okey 0 0x4001 0) []).answerPlan codeAborted
    let s := s.putLive (okey 0 0x4001 0) (s.getBlk (okey 0 0x4001 0))
    let s := { s with plan := { s.plan with valid := none, action := 0 } }
    (s.put 0x4000 9 0).setPlanState 0
  | 7 => act s 7
  | _ => ({ s with plan := { s.plan with swapWhenReady := v == 4 } } : State).setPlanState 4

/-- A write of ACTION: a refused action leaves its code in RESULT too. -/
def State.planAction (s : State) (ini : Ini) (win : Nat) (raw : Word) : State × Nat :=
  let r := s.write ⟨ini, win, 0x4000, 1, raw⟩ State.actionRefusal State.actionEffect
  if r.2 = codePlanState ∨ r.2 = codeSwapPending ∨ r.2 = codeTimeInvalid ∨ r.2 = codeKeyServiceUnavailable then
    (r.1.setPlanResult r.2, r.2)
  else r

/-- PLAN_REVALIDATE: ACTION 1. -/
def execPlanRevalidate (t : Nat) (ini : Ini) (s : State) : Host.Outcome State Fault Refusal :=
  at_ t s fun s => (s.planAction ini 0 1).1

/-- PLAN_STORE_SLOT: ACTION 2. -/
def execPlanStoreSlot (t : Nat) (ini : Ini) (s : State) : Host.Outcome State Fault Refusal :=
  at_ t s fun s => (s.planAction ini 0 2).1

/-- PLAN_LOAD_SLOT: ACTION 3. -/
def execPlanLoadSlot (t : Nat) (ini : Ini) (s : State) : Host.Outcome State Fault Refusal :=
  at_ t s fun s => (s.planAction ini 0 3).1

/-- PLAN_SWAP_WHEN_READY: ACTION 4. -/
def execPlanSwapWhenReady (t : Nat) (ini : Ini) (s : State) : Host.Outcome State Fault Refusal :=
  at_ t s fun s => (s.planAction ini 0 4).1

/-- PLAN_SWAP_AT_TIME: ACTION 5. -/
def execPlanSwapAtTime (t : Nat) (ini : Ini) (s : State) : Host.Outcome State Fault Refusal :=
  at_ t s fun s => (s.planAction ini 0 5).1

/-- PLAN_DISCARD: ACTION 6. -/
def execPlanDiscard (t : Nat) (ini : Ini) (s : State) : Host.Outcome State Fault Refusal :=
  at_ t s fun s => (s.planAction ini 0 6).1

/-- PLAN_ERASE_SLOT: ACTION 7. -/
def execPlanEraseSlot (t : Nat) (ini : Ini) (s : State) : Host.Outcome State Fault Refusal :=
  at_ t s fun s => (s.planAction ini 0 7).1

/-- PLAN_PREPARE: ACTION 8. -/
def execPlanPrepare (t : Nat) (ini : Ini) (s : State) : Host.Outcome State Fault Refusal :=
  at_ t s fun s => (s.planAction ini 0 8).1

/-- PlanSlot records follow a slot's image; an empty slot reads zeros. -/
def State.showSlot (s : State) (k : Nat) : State :=
  let m := s.slotImage k
  (((s.put (0x4004 + k) 1 (u64 m 0x10)).put (0x4004 + k) 2 m.length).put (0x4004 + k) 3 (u32 m 8)).put (0x4004 + k) 4 (u8 m 0x21)

/-- A slot's image replaced in eMRAM. -/
def State.putSlot (s : State) (k : Nat) (m : List Byte) : State :=
  let s := { s with plan := { s.plan with slots := mput [] k m s.plan.slots } }
  s.showSlot k

/-- PLAN_ACTION_DONE (R112, R114): the running store, load or erase ends, on the slot that TARGET_SLOT named at its start;
a re-validation ends with PLAN_VALIDATED. With the edge die lost the slots cannot be reached (DESIGN CHOICE, log entry 88). -/
def execPlanActionDone (t : Nat) (s : State) : Host.Outcome State Fault Refusal :=
  planned t s fun s =>
    let a := s.plan.action
    let k := s.plan.actionSlot
    let done := ({ s with plan := { s.plan with action := 0 } } : State)
    if (a = 2 ∨ a = 3 ∨ a = 7) ∧ !s.edgeUp then done.setPlanResult codeStoreFailed
    else if a = 2 then
      let s := (done.putSlot k done.stagedImage).bump (0x4004 + k) 5
      let s := s.emramWrote ((s.stagedImage.length + 7) / 8) (s.get (0x4004 + k) 5)
      ((s.setPlanState 3).setPlanResult 0).planFlag 5
    else if a = 3 then (done.setPlanResult 0).stageImage (done.slotImage k)
    else if a = 7 then (done.putSlot k []).setPlanResult 0
    else s

/-- PREPARATION_DONE (R114): the plan is ready or its swap pending, or preparation ends with PLAN_CAPACITY. -/
def execPreparationDone (t : Nat) (s : State) : Host.Outcome State Fault Refusal :=
  planned t s fun s =>
    match s.plan.valid with
    | none => s
    | some p =>
      if s.planState != 4 then s
      else
        let rejoin := s.plan.boot && s.wallMember && s.get 0x9060 3 == 1
        let s := { s with plan := { s.plan with boot := false } }
        match s.prepare p false with
        | none => s.abandonSwap codePlanCapacity
        | some (s, q) =>
          let s := (s.preparedShed p q.shed).checkHomes p
          let s := { s with plan := { s.plan with prep := some q, swapAt := if rejoin then some (s.wallNow + 50000000) else none,
                                                  readyUntil := s.now + 10000000000 } }
          (s.setPlanState (if s.plan.swapWhenReady then 6 else 5)).setPlanResult 0

/-- READY_EXPIRED (R114). -/
def execReadyExpired (t : Nat) (s : State) : Host.Outcome State Fault Refusal :=
  planned t s fun s =>
    if s.planState == 5 && decide (s.plan.readyUntil ≤ s.now) then
      (s.dropPrep.setPlanState 3).raise 0x4008 0 4 sevNotice 0 []
    else s

end Sys2Proof.Machine
end

