-- ==== Sys2Proof/Machine/Domains.lean ====
section
/-!
DEFINITION. Power domains (R35, R442, R443, R447): the domain that owns an object or a commit group, the reset of one
domain, and switching.
-/
namespace Sys2Proof.Machine

/-! ## Ownership (R442; DEDUCED, log entry 40) -/

/-- The power domain that owns the objects of an index: that of the block they belong to; PD0 for the objects of no
switchable domain that a planner reset leaves. -/
def Cfg.objDomain (c : Cfg) (idx : Nat) : Nat :=
  let within := fun (a b : Nat) => decide (a ≤ idx ∧ idx < b)
  if within 0x3040 0x3060 then 4 + c.chanHalf (idx - 0x3040)
  else if within 0x3080 0x3088 then (if idx - 0x3080 < 4 then 4 else 5)
  else if within 0x3000 0x30A0 then 4
  else if within 0x30A0 0x30C1 then 19
  else if within 0x3400 0x3490 then 2
  else if within 0x4080 0x4088 then (if idx - 0x4080 < 4 then 6 else 7)
  else if within 0x4000 0x5000 then 2
  else if within 0x5000 0x5200 then 9
  else if within 0x5200 0x5400 then 10
  else if within 0x5800 0x5B00 then 15
  else if within 0x6800 0x7000 then 8
  else if within 0x7010 0x7020 then (if (idx - 0x7010) % 16 < 4 then 11 else 12)
  else if within 0x7040 0x7050 then (if (idx - 0x7040) % 16 < 4 then 11 else 12)
  else if within 0x7000 0x7004 || within 0x7020 0x7040 then 11
  else if within 0x7004 0x7800 then 2
  else if within 0x7800 0x7A00 then 13
  else if within 0x7A00 0x8000 then 14
  else if within 0x8000 0x8300 then 16
  else if within 0x8300 0x8C00 then 17
  else if idx == 0x8C60 then 0
  else if within 0x8C00 0x9000 then 2
  else if within 0x9400 0x9700 then 18
  else 0

/-- The domains that own a commit group. -/
def groupDomains (g : Nat) : List Nat :=
  if 1 ≤ g ∧ g ≤ 8 then [9]
  else if 9 ≤ g ∧ g ≤ 16 then [10]
  else match g with
    | 18 | 53 | 54 => [17]
    | 52 => [16]
    | 55 => [13]
    | 56 => [4]
    | 57 => [8]
    | 58 => [0]
    | 59 => [15, 18]
    | _ => [2]

/-! ## Loading configuration (R35) -/

/-- A configuration object: one that a write or a STORE can hold, and no status object. -/
def Row.isConfig (r : Row) : Bool :=
  (r.acc == .rw || r.acc == .rwo || r.acc == .lck) && r.status.isNone

/-- The object with a key passes a test on its row and is owned by domain `d`. -/
def State.ownedBy (s : State) (d : Nat) (p : Row → Bool) (k : Nat) : Bool :=
  s.cfg.objDomain (keyIdx k) == d && (findObj s.cfg (keyIdx k) (keySub k)).elim false (fun o => p o.row)

/-- The objects that pass a test load their stored value, or their Default where none is stored; active and shadow. -/
def State.loadStored (s : State) (p : Nat → Bool) : State :=
  let vals := s.stored.filter (fun e => p e.1)
  let blks := s.storedBlocks.filter (fun e => p e.1)
  let keep := fun {α : Type} (l : List (Nat × α)) => l.filter (fun e => !p e.1)
  { s with
    objs := mputAll (objDefault s.cfg) vals (keep s.objs),
    shadow := mputAll (objDefault s.cfg) vals (keep s.shadow),
    blocks := mputAll (blockDefault s.cfg) blks (keep s.blocks),
    liveBlocks := mputAll (blockDefault s.cfg) blks (keep s.liveBlocks) }

/-- RO records that show what is not state of their domain: what a plan, a strap, a pin or another domain gives them
(DEDUCED, log entry 40). -/
def givenRo (k : Nat) : Bool :=
  let idx := keyIdx k
  let sub := keySub k
  decide (0x5000 ≤ idx ∧ idx < 0x5400) && (idx % 0x40 == 0 || idx % 0x40 == 0x12 || idx % 0x40 == 0x18 && sub == 1)
    || decide (0x5800 ≤ idx ∧ idx < 0x5A00) && idx % 0x10 == 1 && sub == 7
    || decide (0x7020 ≤ idx ∧ idx < 0x7030) && sub == 4 || idx == 0x7840 && sub == 7
    || decide (0x9500 ≤ idx ∧ idx < 0x9508)

/-- State and counters of a domain at its reset: RO objects at their Defaults, status objects at zero (R35). -/
def State.clearState (s : State) (d : Nat) : State :=
  let gone := fun k => s.ownedBy d (fun r => r.acc == .ro || r.status.isSome) k && !givenRo k
  { s with objs := s.objs.filter (fun e => !gone e.1),
           blocks := s.blocks.filter (fun e => !gone e.1),
           dict := { s.dict with status := s.dict.status.filter (fun m => !gone m.key) } }

/-- What the reset of a domain loads and clears in the dictionary: configuration to its stored values or Defaults, its
state and counters, and the RWO objects whose clear event it is (R33, R35). -/
def State.loadDomain (s : State) (d : Nat) : State :=
  let s := (s.loadStored (s.ownedBy d Row.isConfig)).clearState d
  let once := s.ownedBy d (fun r => r.acc == .rwo && !r.pers)
  { s with dict := { s.dict with written := s.dict.written.filter (fun k => !once k) } }

/-! ## Units of a domain -/

/-- The objects of a record's counters at zero. -/
def State.zero (s : State) (idx : Nat) (subs : List Nat) : State := foldS (fun s m => s.put idx m 0) s subs

/-- A DRAM half in reset: its channels go back to training, its content is lost, with the staged image and a plan that
waits for its swap (R112, R117). -/
def State.dramReset (s : State) (half : Nat) : State :=
  let n := if s.cfg.compact then s.cfg.groups else s.cfg.groups / 2
  let groups := (List.range n).map (fun g => half * n + g)
  let s := foldS (fun s g =>
    let s := foldS (fun s c => if bit s.cfg.dramFitted c then s.put (0x3040 + c) 1 3 else s) s (s.cfg.groupChans g)
    s.clearRange (dramBase + g * groupSpan) groupSpan) s groups
  let s := { s with place := { s.place with
    ctxs := s.place.ctxs.filter (fun x => !groups.contains x.group),
    migs := s.place.migs.filter (fun m => !(m.loc == 1 && groups.contains m.group)) } }
  let s := { s with memc := { s.memc with freqReq := none, freqRun := none } }
  let lost := 4 ≤ s.planState ∧ s.planState ≤ 6
  let s := if lost then s.abandonSwap codeAborted else s
  let s := s.putBlk (okey 0 0x4001 0) []
  let s := (s.putLive (okey 0 0x4001 0) (s.getBlk (okey 0 0x4001 0))).put 0x4000 9 0
  let s := { s with plan := { s.plan with valid := none, boot := false,
                                          action := if s.plan.action = 7 then 7 else 0 } }
  ((s.setPlanState 0).answerPlan codeAborted).dramShape.syncDram

/-- The tile store in reset: its banks lose their content (R331). -/
def State.tileReset (s : State) : State :=
  (s.clearRange tsBase (s.cfg.banks * bankBytes)).settleBanks

/-- The engines of PD6 or PD7 in reset. -/
def State.engineReset (s : State) (lo : Nat) : State :=
  foldS (fun s e => (s.loseEngine e).zero (0x4080 + e)
    [2, 3, 4, 5, 6]) s ((List.range s.cfg.engines).filter (fun e => decide (lo ≤ e ∧ e < lo + 4)))

/-- The heads of PD9 or PD10 in reset. -/
def State.headReset (s : State) (lo : Nat) : State :=
  foldS (fun s n => (s.haltHead n).zero (headIdx n + 3) [1, 2, 3, 4, 5, 6, 7, 8, 9, 10]) s
    ((List.range s.cfg.headCount).filter (fun n => decide (lo ≤ n ∧ n < lo + 8)))

/-- The units of a domain reset; the outputs they drive go to the states of R209, R380, R401 and R419. -/
def State.unitsInReset (s : State) (d : Nat) : State :=
  match d with
  | 4 => s.dramReset 0
  | 5 => s.dramReset 1
  | 6 => s.engineReset 0
  | 7 => s.engineReset 4
  | 8 => s.integrityReset
  | 9 => s.headReset 0
  | 10 => s.headReset 8
  | 11 | 12 => s.syncClusters
  | 13 => s.fabricReset
  | 14 => s.pcieReset
  | 15 => s.linkReset
  | 16 => s.touchReset.touchSwapStart
  | 17 => s.hapticReset.motionReset.audioReset
  | 18 => s.lowReset
  | 19 => s.tileReset
  | _ => s

/-- The units of a domain in their reset state; those marked unusable stay so (R443). -/
def State.resetUnits (s : State) (d : Nat) : State :=
  let s := s.unitsInReset d
  foldS (fun s (u : UnitKind × Nat) => s.showLost u.1 u.2) s s.place.lost

/-- What the units of a domain do when its reset ends, with the active configuration. -/
def State.startUnits (s : State) (d : Nat) : State :=
  match d with
  | 11 | 12 => s.syncClusters
  | 13 => s.netCommit
  | 15 => s.linkStart
  | 16 => s.touchStart
  | 17 => s.motionStart.audioStart
  | 18 => s.lowStart
  | _ => s

/-- Pending sets of a domain's groups are discarded (R49). -/
def State.cancelDomain (s : State) (d : Nat) : State := s.cancelGroups (fun g => (groupDomains g).contains d)

/-- A reset of one domain with its configuration loaded (R35, R447). -/
def State.resetDomain (s : State) (d : Nat) : State :=
  (((s.cancelDomain d).loadDomain d).resetUnits d).startUnits d

/-! ## Switching (R443) -/

/-- A domain switched off: its units stop with their outputs in reset state, and its configuration stays. -/
def State.switchOff (s : State) (d : Nat) : State :=
  let s := ((s.resetUnits d).put (0x9000 + d) 1 0).bump (0x9000 + d) 5
  let s := if d = 11 ∨ d = 12 then s.syncClusters else s
  s.raise 0x9018 d 0 sevNotice 0 []

/-- What a commit of CG_POWER does (R443): each switchable domain follows its REQUEST; the heads' domains are switched on only with
the PHYs that they require (R442). -/
def State.powerCommit (s : State) : State :=
  foldS (fun s d =>
    let on := s.get (0x9000 + d) 2 == 1
    let st := s.get (0x9000 + d) 1
    if !on && st == 2 then s.switchOff d
    else if !on && st == 1 then s.put (0x9000 + d) 1 0
    else if on && st == 0 && s.get (0x9000 + d) 3 == 1 && (s.get (0x9000 + 15) 2 == 1 || !(d == 9 || d == 10)) then s.put (0x9000 + d) 1 1
    else s) s (List.range 20)

/-- DOMAIN_POWER_ON_DONE (R443): the domain is reset, takes its active configuration and is on. The heads' domains wait for the PHYs
that they require. -/
def execDomainPowerOnDone (t domain : Nat) (s : State) : Host.Outcome State Fault Refusal :=
  at_ t s fun s =>
    if domain < 20 && s.get (0x9000 + domain) 1 == 1 && (s.pdOn 15 || !(domain == 9 || domain == 10)) then
      let s := ((s.cancelDomain domain).clearState domain).resetUnits domain
      let s := ((s.put (0x9000 + domain) 1 2).bump (0x9000 + domain) 5).startUnits domain
      s.raise 0x9018 domain 1 sevNotice 0 []
    else s

/-! ## DOMAIN_RESET (R447) -/

/-- A reset of a domain that is not switchable, or in plan use, is refused under rule 0x1301. -/
def State.domainResetRefusal (s : State) (v : Nat) : Option Nat :=
  if s.get (0x9000 + v) 3 == 1 && !s.planUse v then none else some codeRuleFailed

/-- What a write of DOMAIN_RESET does; a domain that is off stays off. -/
def State.domainResetEffect (s : State) (v : Nat) : State := if s.pdOn v then s.resetDomain v else s

/-- DOMAIN_RESET: a write of ResetControl (0x9020:01). -/
def execDomainReset (t : Nat) (ini : Ini) (v : Word) (s : State) : Host.Outcome State Fault Refusal :=
  at_ t s fun s => s.writeAt ini 0x9020 1 v State.domainResetRefusal State.domainResetEffect

end Sys2Proof.Machine
end

