-- ==== Sys2Proof/Machine/Apply.lean ====
section
/-!
DEFINITION. Commits come into force (R49 to R55): the boundaries, the final check, application with its effects, and
the release of armed commits.
-/
namespace Sys2Proof.Machine

/-! ## Boundaries (R48, R50, R52) -/

/-- The boundary of a group: 0x1140 + g:01. -/
def State.boundaryOf (s : State) (g : Nat) : Nat := s.get (0x1140 + g) 1

/-- The head whose vertical blank a group's boundary is. -/
def State.boundaryHead (s : State) (g : Nat) : Nat := s.get (0x1140 + g) 2

/-- A pending set is released: it waits for neither pin, time nor Markhor. -/
def PendingSet.ready (x : PendingSet) : Bool := !x.armed && !x.markhor

/-- A set is due at a boundary of the instant `at0` (R50): it was accepted, or released, before that instant. -/
def PendingSet.dueAt (x : PendingSet) (at0 : Nat) : Bool := x.ready && decide (x.at_ < at0)

/-- Released sets of commits without ALIGN whose boundary passes a test, at a boundary of the instant `at0`. -/
def State.dueAlone (s : State) (at0 : Nat) (p : PendingSet → Bool) : List PendingSet :=
  s.dict.sets.filter (fun x => x.dueAt at0 && !x.align && p x)

/-- The sets of ALIGN commits with every set due at the instant. -/
def State.dueAligned (s : State) (at0 : Nat) : List PendingSet :=
  s.dict.sets.filter (fun x => x.align && (s.dict.sets.filter (fun y => y.commit == x.commit)).all (fun y => y.dueAt at0))

/-! ## The final check (R54, R55) -/

/-- Units of sets are checked against the state that holds with all of them applied; those that fail leave, and the rest
are checked again until all pass. -/
def State.finalCheck (s : State) : Nat → List (List PendingSet) → List (List PendingSet) × List (List PendingSet × RuleFail)
  | 0, us => (us, [])
  | n + 1, us =>
    let all := us.flatten
    let fails := us.filterMap (fun u => (u.findSome? (s.checkSet all)).map (fun f => (u, f)))
    if fails.isEmpty then (us, [])
    else
      let r := s.finalCheck n (us.filter (fun u => (u.findSome? (s.checkSet all)).isNone))
      (r.1, fails ++ r.2)

/-! ## What a commit does beside its values -/

/-- Dumps begin when DUMP_ENABLE rises (R436). -/
def State.dumpCommit (s old : State) : State :=
  if s.get 0x8D20 1 = 1 ∧ old.get 0x8D20 1 = 0 then { s with trace := { s.trace with dumpAt := s.now } } else s

/-- A committed TARGET_OP that differs from the current point requests a change (R325), unless the limit of R324 holds
OP3. -/
def State.memCommit (s : State) : State := if s.memc.limitHold then s else s.requestOp (s.get 0x3060 1)

/-- What an applied commit of group `g` does beside replacing its values; `old` is the state before the boundary. -/
def State.groupEffects (s old : State) (g : Nat) : State :=
  if 20 ≤ g ∧ g ≤ 51 then s.checkMasks
  else if 1 ≤ g ∧ g ≤ 16 then s.liftBars
  else match g with
    | 17 => s.dumpCommit old
    | 18 => s.audioCommit
    | 52 => s.touchCommit old
    | 53 => (s.hapticCommit old).putLoad
    | 54 => s.motionCommit old
    | 55 => s.netCommit.timeCommit old
    | 56 => s.memCommit
    | 57 => s.integrityCommit.audioCommit
    | 58 => s.powerCommit
    | 59 => (s.linkCommit old).ioCommit old
    | _ => s

/-- The values of a group bound to a vertical blank that the raster of its running head still uses after an ALIGN commit
(R52): of CG_HEADn, and of a layer group that the plan binds so. -/
def State.holdRaster (s : State) (g : Nat) : State :=
  let n := s.boundaryHead g
  if s.boundaryOf g != 2 || (s.headRun n).isNone || s.dict.rasters.any (fun r => r.group == g) then s
  else { s with dict := { s.dict with rasters := ⟨g, n, s.objs.filter (fun e => s.keyGroup e.1 == g),
                                                   s.liveBlocks.filter (fun e => s.keyGroup e.1 == g)⟩ :: s.dict.rasters } }

/-- Units of pending sets whose boundary this is: the final check, the values in one step, their effects, and the
reports. -/
def State.applyUnits (s : State) (us : List (List PendingSet)) : State :=
  let (ok, bad) := s.finalCheck us.length us
  let s := foldS (fun s (x : List PendingSet × RuleFail) => s.endUnit x.1 codeRuleFailed x.2.1 x.2.2) s bad
  let l := ok.flatten
  if l.isEmpty then s
  else
    let s := if l.any (fun x => x.group == 57) then s.audioNow else s
    let old := s
    let s := foldS (fun s (x : PendingSet) => if x.align then s.holdRaster x.group else s) s l
    let s := (s.takeSets l).withSets l
    let s := { s with integ := { s.integ with committing := (l.map (fun x => x.selects)).flatten } }
    let groups := (List.range 61).filter (fun g => l.any (fun x => x.group == g))
    let s := foldS (fun s g => (s.groupEffects old g).put (0x1140 + g) 4 s.epoch) s groups
    foldS (fun s u => s.reportUnit u 0 0 0) s ok

/-- Groups whose boundary is the commit request apply (R48). -/
def State.applyRequest (s : State) : State :=
  s.applyUnits (commitUnits (s.dueAlone (s.now + 1) (fun x => s.boundaryOf x.group == 1)))

/-- Sets accepted at or after the instant at which an epoch fell due wait for the next one, whenever its command comes
(R50). -/
def State.lateSets (s : State) : State :=
  { s with dict := { s.dict with sets := s.dict.sets.map (fun x => if s.time.nextEpoch ≤ x.at_ then { x with at_ := s.now } else x) } }

/-- Step 2 of R24: groups bound to the epoch, and ALIGN commits. -/
def State.applyEpoch (s : State) : State :=
  let aligned := s.dueAligned s.now
  s.applyUnits (commitUnits (s.dict.sets.filter (fun x =>
    (x.align && aligned.any (fun y => y.commit == x.commit)) || (x.dueAt s.now && !x.align && s.boundaryOf x.group == 3))))

/-- Groups bound to the vertical blank of a head (R173). -/
def State.applyVblank (s : State) (n : Nat) : State :=
  s.applyUnits (commitUnits (s.dueAlone s.now (fun x => s.boundaryOf x.group == 2 && s.boundaryHead x.group == n)))

/-- Groups bound to an audio block, and to a plan swap. -/
def State.applyBoundary (s : State) (b : Nat) : State :=
  s.applyUnits (commitUnits (s.dueAlone s.now (fun x => s.boundaryOf x.group == b)))

/-! ## The commit request (R51) -/

/-- The codes that refuse a commit as a whole. -/
def isCommitCode (c : Nat) : Bool :=
  [codeGroupAbsent, codeNoCommitRight, codeAlignWithPlan, codeTimeInvalid, codeKeyServiceUnavailable].contains c

/-- A write of GROUP_MASK, with the answer's code. -/
def State.commitWrite (s : State) (ini : Ini) (win : Nat) (raw : Word) : State × Nat :=
  let p := ini.part
  let mode := s.getB p 0x1100 2
  let at0 := s.getB p 0x1100 3
  let r := s.write ⟨ini, win, 0x1100, 1, raw⟩ (fun s v => s.commitRefusal p v mode at0)
    (fun s v => (s.makeSets p v mode at0 none).applyRequest)
  if isCommitCode r.2 then (r.1.reportRefused p raw.toNat r.2 none, r.2) else r

/-- COMMIT_REQUEST. -/
def execCommitRequest (t : Nat) (ini : Ini) (mask : Word) (s : State) : Host.Outcome State Fault Refusal :=
  at_ t s fun s => (s.commitWrite ini 0 mask).1

/-! ## Armed commits (R53) -/

/-- Armed sets that pass a test are released to their boundaries. -/
def State.release (s : State) (p : PendingSet → Bool) : State :=
  ({ s with dict := { s.dict with sets := s.dict.sets.map (fun x => if x.armed && p x then { x with armed := false, at_ := s.now } else x) } } :
    State).applyRequest

/-- COMMIT_IN_EDGE: a rising edge releases every commit armed on the pin, or is only counted. -/
def execCommitInEdge (t : Nat) (rising : Bool) (s : State) : Host.Outcome State Fault Refusal :=
  at_ t s fun s =>
    let s := s.setPin 4 rising
    if !rising then s
    else if s.dict.sets.any (fun x => x.armed && x.onPin) then s.release (fun x => x.onPin)
    else s.bump 0x9700 2

/-- ARMED_COMMIT_TIMEOUT: sets armed on the pin whose PIN_TIMEOUT_MS has passed are cancelled. -/
def execArmedCommitTimeout (t : Nat) (s : State) : Host.Outcome State Fault Refusal :=
  at_ t s fun s =>
    s.discard (fun x => x.armed && x.pinDeadline.elim false (fun d => decide (d ≤ s.now))) codeCancelled

/-- Sets armed on Wall time whose AT_TIME has been reached are released. -/
def State.releaseWall (s : State) : State :=
  if s.get 0x9060 3 = 0 then s
  else s.release (fun x => x.atTime.elim false (fun a => decide (a ≤ s.wallNow)))

/-- WALL_TIME_RELEASE. -/
def execWallTimeRelease (t : Nat) (s : State) : Host.Outcome State Fault Refusal := at_ t s State.releaseWall

/-- Wall time has become invalid: the release at AT_TIME is withdrawn. -/
def State.withdrawWall (s : State) : State :=
  let s := s.discard (fun x => x.armed && x.atTime.isSome && !x.onPin) codeCancelled
  { s with dict := { s.dict with sets := s.dict.sets.map (fun x =>
    if x.armed && x.atTime.isSome then
      { x with atTime := none, pinDeadline := some (s.now + s.getB x.part 0x1100 5 * 1000000) }
    else x) } }

/-! ## Audio blocks (R404) -/

/-- AUDIO_BLOCK: the block before ends, commits bound to the block apply, converters that lock again are noted, and the block
starts. -/
def execAudioBlock (t : Nat) (src : List (Option (List Int))) (locked : List Nat) (s : State) :
    Host.Outcome State Fault Refusal :=
  at_ t s fun s =>
    if !s.pdOn 17 || s.isLost .audio 0 || s.noLock 31 then s.applyBoundary 4
    else if !s.blockDue then s
    else ((s.endBlock.applyBoundary 4).asrcLock locked).startBlock src

end Sys2Proof.Machine
end

