-- ==== Sys2Proof/Machine/Swap.lean ====
section
/-!
DEFINITION. The frame-epoch timer (R22, R23) and a plan swap (R115, R116).
-/
namespace Sys2Proof.Machine

/-! ## When the next epoch falls -/

/-- EPOCH_PERIOD_NS. -/
def State.period (s : State) : Nat := max 1 (s.get 0x9060 4)

/-- The plan's epochs are Wall-time epochs and Wall time is valid. -/
def State.wallEpochs (s : State) : Bool := s.get 0x9060 6 == 1 && s.get 0x9060 3 == 1

/-- The device time of the first multiple of the period in Wall time at or after a device time that is not past. -/
def State.gridAt (s : State) (d : Nat) : Nat :=
  let w := s.wallNow + (d - s.now)
  d + ((w + s.period - 1) / s.period * s.period - w)

/-- A realigning event (R23): the next epoch falls on the grid, at least half a period after the last one. -/
def State.realign (s : State) : State :=
  { s with time := { s.time with nextEpoch := s.gridAt (max s.now (s.time.lastEpoch + (s.period + 1) / 2)), realign := true } }

/-- The epoch that follows one that has just fallen: on the grid, or a period later (R22, R23). -/
def State.armEpoch (s : State) : State :=
  { s with time := { s.time with nextEpoch := if s.wallEpochs && s.get 0x9060 7 == 1 then s.gridAt (s.now + 1)
                                   else s.now + s.period } }

/-- EPOCH_REALIGNED: what a realigned epoch does besides. -/
def State.realigned (s : State) : State :=
  if s.time.realign then
    (({ s with time := { s.time with realign := false } } : State).put 0x9060 7 1).raise 0x7821 0 5 sevNotice 0 []
  else s

/-! ## What a swap gives the dictionary (R48, R95 to R98, R115, R192) -/

/-- EPOCH_PERIOD_NS and EPOCH_SOURCE, and where the first new epoch falls (R115). -/
def State.swapTiming (s : State) (p : Plan) : State :=
  let s := (s.put 0x9060 4 p.epochPeriod).put 0x9060 6 p.epochSource
  let s := { s with time := { s.time with lastEpoch := s.now, realign := false } }
  if s.wallEpochs then s.realign else (s.put 0x9060 7 0).armEpoch

/-- CommitGroup records. -/
def State.swapGroups (s : State) (p : Plan) : State :=
  foldS (fun s g =>
    let e := p.groups.find? (fun e => e.group == g)
    let s := s.put (0x1140 + g) 3 (e.elim 1 (fun e => e.rights))
    if g < 20 ∨ 51 < g then s
    else (s.put (0x1140 + g) 1 (e.elim 3 (fun e => e.boundary))).put (0x1140 + g) 2 (e.elim 0 (fun e => e.head))) s (List.range 61)

/-- A value within an envelope. -/
def within (lo hi v : Int) : Int := max lo (min hi v)

/-- LayerSlot records and initial geometry (R98). -/
def State.swapLayer (s : State) (p : Plan) (n : Nat) : State :=
  let i := 0x4400 + n
  match p.layerOf n with
  | none =>
    let s := foldS (fun s k => s.putBoth (okey 0 i k) 0) s [1, 2, 3, 4, 5, 6]
    foldS (fun s k => s.put i k (if k = 9 then 3 else 0)) s [7, 8, 9, 10, 11, 12, 13]
  | some l =>
    let geo := fun (s : State) (k : Nat) (v : Int) => s.putBoth (okey 0 i k) (wInt v)
    let s := geo s 1 (within l.xMin l.xMax l.initX)
    let s := geo s 2 (within l.yMin l.yMax l.initY)
    let s := geo s 3 (within 0 l.srcXMax l.initSrcX)
    let s := geo s 4 (within 0 l.srcYMax l.initSrcY)
    let s := geo s 5 (within l.alphaMin l.alphaMax l.initAlpha)
    let s := geo s 6 (if bit l.flags 3 then 1 else 0)
    foldS (fun s (x : Nat × Nat) => s.put i x.1 x.2) s
      [(7, 1), (8, l.owner), (9, l.cls), (10, l.head), (11, l.format), (12, l.kind), (13, l.group)]

/-- HeadTiming, HeadState and clone records of a head (R192); `kept` tells that its raster goes on. -/
def State.swapHead (s : State) (p : Plan) (n : Nat) (kept : Bool) : State :=
  let i := headIdx n
  let fill := fun (s : State) (l : List Nat) => foldS (fun s (x : Nat × Nat) => s.put i (x.2 + 1) x.1) s l.zipIdx
  match p.headOf n with
  | none =>
    let s := fill s ([0, 0xFFFF, 0, n, 1] ++ List.replicate 15 0)
    let s := s.putBoth (okey 0 (i + 6) 0) 0
    let s := ((s.put (i + 0x12) 1 0).put (i + 0x12) 2 0).put (i + 0x12) 3 0
    (s.put (i + 0x18) 1 n).put (i + 1) 9 0
  | some h =>
    let o := p.ownerHead h
    let s := fill s [h.flags, h.port, h.clone, o.head, if bit h.flags 2 then h.mult else 1, h.clockKhz, h.hActive, h.hTotal,
      h.hSyncStart, h.hSyncWidth, h.vActive, h.vTotal, h.vSyncStart, h.vSyncWidth, h.phaseNs, h.vrrMin, h.vrrMax, h.cols,
      h.rows, 1]
    let s := if kept then s else s.putBoth (okey 0 (i + 6) 0) (w64 (if bit h.flags 1 then h.vrrMax * 100 else 0))
    let s := ((s.put (i + 0x12) 1 o.hActive).put (i + 0x12) 2 o.vActive).put (i + 0x12) 3 (if p.scales h then 1 else 0)
    let s := s.put (i + 0x18) 1 o.head
    if kept then s else s.put (i + 1) 9 h.vTotal

/-! ## Groups that a swap removes or re-binds (R49, R115) -/

/-- What binds a layer group in a plan: its boundary, its head and its layer slots in their order of number. No plan binds any
other group. -/
def groupBinding (p : Option Plan) (g : Nat) : Nat × Nat × List Nat :=
  if g < 20 ∨ 51 < g then (0, 0, [])
  else
    p.elim (3, 0, []) (fun p =>
      let e := p.groups.find? (fun e => e.group == g)
      (e.elim 3 (fun e => e.boundary), e.elim 0 (fun e => e.head),
       (List.range 512).filter (fun n => p.layers.any (fun l => l.group + 20 == g && l.slot == n))))

/-- The pending set is of a group that a swap removes or re-binds: its head is gone, its layer binding changed, or its
partition no longer has the group's commit right. -/
def PendingSet.rebound (x : PendingSet) (old : Option Plan) (p : Plan) : Bool :=
  let gone := decide (1 ≤ x.group ∧ x.group ≤ 16) && old.elim false (fun o => (o.headOf (x.group - 1)).isSome)
    && (p.headOf (x.group - 1)).isNone
  let right := bit ((p.groups.find? (fun e => e.group == x.group)).elim 1 (fun e => e.rights)) x.part
  gone || groupBinding old x.group != groupBinding (some p) x.group || !right

/-! ## Composition and surfaces -/

/-- A layer slot goes on with the source it has latched: the same partition, kind and format, neither STATIC nor
otherwise fixed by the plan. -/
def PlanLayer.goesOn (l : PlanLayer) (old : Option PlanLayer) : Bool :=
  old.elim false (fun o => o.owner == l.owner && o.kind == l.kind && o.format == l.format && (l.kind == 0 || l.kind == 2)
    && !bit l.flags 0)

/-- What a layer reads from the swap on until a source is latched for it. -/
def PlanLayer.firstSrc (l : PlanLayer) : LSrc :=
  match l.kind with
  | 0 => if l.sourceRef = 0xFFFFFFFF then .none else .image l.sourceRef
  | 3 => .stream (bitsOf l.sourceRef 15 8) (bitsOf l.sourceRef 7 0)
  | 4 => .const
  | _ => .none

/-- The composition state of the new plan's layers. -/
def State.swapSources (s : State) (old : Option Plan) (p : Plan) : State :=
  let slot := fun (l : PlanLayer) =>
    let was := s.layerSt l.slot
    let g := s.liveGeom l.slot
    let keep := l.goesOn (old.bind (fun o => o.layerOf l.slot)) && decide (was.src ≠ .none)
    LayerSt.mk l.slot (if keep then was.src else l.firstSrc) [] true g g 0 (if keep then was.time else 0)
  { s with comp := { s.comp with layers := p.layers.map slot, ran := [],
                                 engines := s.comp.engines.map (fun (x : Engine) => { x with batch := none, next := 0, waits := [], stuck := false, flight := [] }) } }

/-- Frame stores of the new plan's owning heads: kept, or initialised to opaque black (R116). -/
def State.swapStores (s : State) (q : Prepared) (p : Plan) (kept : PlanHead → Bool) : State :=
  let black := { FTile.black with frame0 := (s.epoch + 4294967295) % 4294967296, frame1 := (s.epoch + 4294967295) % 4294967296 }
  let owners := p.heads.filter (fun h => (p.ownerHead h).head == h.head)
  let make := fun (h : PlanHead) =>
    match (if kept h then s.store h.head else none) with
    | some x => { x with tiles := x.tiles.map (fun (f : FTile) => { f with composed := false }), done := 0, late := 0, evented := false }
    | none => FStore.mk h.head (mget 0 h.head q.stores) (List.replicate h.tiles black) 0 0 false
  let stores := owners.map make
  let s := { s with comp := { s.comp with stores := stores } }
  let inUse := stores.map (fun x => x.surf)
  let surfs := (s.place.surfs.filter (fun (f : Surf) => f.owner != planOwner || inUse.contains f.id)).map
    (fun (f : Surf) => if f.owner = preparedOwner then { f with owner := planOwner } else f)
  { s with place := { s.place with surfs := surfs } }

/-! ## The swap -/

/-- A plan swap at this instant. `q` is what its preparation has made. -/
def State.swapPlan (s : State) (p : Plan) (q : Prepared) (early : Bool) : State :=
  let old := s.plan.active
  let kept := fun (h : PlanHead) => s.headKept h && (s.headRun h.head).isSome
  let keptStore := s.headKept
  let keptHeads := (p.heads.filter kept).map (fun h => h.head)
  let removed := fun (n : Nat) => (old.bind (fun o => o.layerOf n)).isSome
    && !(p.layerOf n).elim false (fun l => l.goesOn (old.bind (fun o => o.layerOf n)))
  let nHeads := if s.cfg.compact then 8 else 16
  -- the old plan ends
  let s := s.integritySwapEnd.touchSwapCancel
  let s := old.elim s (fun o => foldS (fun s (h : PlanHead) => if keptHeads.contains h.head then s else s.wireStopped o h.head) s o.heads)
  -- the new plan becomes active
  let s := { s with plan := { s.plan with active := some p, early := early, prep := none, swapAt := none } }
  let s := (s.swapTiming p).swapGroups p
  let s := foldS (fun s n => s.swapLayer p n) s (List.range s.cfg.slots)
  let s := foldS (fun s n => s.swapHead p n (keptHeads.contains n)) s (List.range nHeads)
  let s := ((s.put 0x101A 1 p.planId).put 0x101A 2 (if early then 0xFE else 0xFF)).put 0x101A 3 p.formatVersion
  let s := (s.swapSources old p).swapStores q p keptStore
  let stale := s.carries p q.shed != some q.binding
  let s := { s with place := { s.place with binding := none, rebinding := if stale then s.place.rebinding ++ s.place.lost.getLast?.toList else [] } }
  let s := ((s.putBinding q.binding).putShed q.shed []).hold 3 false
  let s := s.applyBoundary 5
  -- what it ends
  let s := s.discard (fun x => x.rebound old p) codeCancelled
  let s := s.releaseRetired.settleBanks.pruneLibrary
  let s := s.endSlots removed
  let s := foldS (fun s n => if removed n then ((s.put (0x4400 + n) 0xE 0).put (0x4400 + n) 0xF 0).put (0x4400 + n) 0x10 0 else s)
    s (List.range s.cfg.slots)
  let s := s.dropPicks (fun n => (p.layerOf n).isSome)
  -- heads, ports and the units of the new plan
  let s := foldS (fun s n =>
    match p.headOf n with
    | none => if (s.headRun n).isSome then s.stopHead n else s
    | some h => if keptHeads.contains n then s else s.startHead h) s (List.range nHeads)
  let s := ((s.linkSwap.flagInputs p).touchSwapStart.integritySwapStart p).twinSwap.hold 5 false
  -- its record
  let level := min p.securityVersion 64
  let s := { s with plan := { s.plan with raiseLevel := if s.planLevel < level then some level else none } }
  let s := ((s.put 0x400A 1 s.epoch).put 0x400A 2 s.now).bump 0x400A 3
  let s := (s.planFlag 2).noteFull
  let us := (s.now - s.sys.startAt) / 1000
  let s := s.endUnreadable
  s.put 0x9030 (if early then 4 else 6) (if s.get 0x9030 (if early then 4 else 6) = 0 then us else s.get 0x9030 (if early then 4 else 6))

/-- A swap that is due at this epoch: pending for it, or for its Wall time (R118). Without Markhor it is abandoned
(R117), and without a planner core none starts (R27). -/
def State.swapDue (s : State) : State :=
  if s.planState != 6 || !s.coresUp then s
  else
    match s.plan.valid, s.plan.prep with
    | some p, some q =>
      let due := match s.plan.swapAt with
        | none => true
        | some w => s.get 0x9060 3 == 1 && decide (w ≤ s.wallNow)
      if !due then s
      else if !s.markhorUp then s.abandonSwap codeKeyServiceUnavailable
      else
        let s := { s with place := { s.place with surfs := s.place.surfs.filter (fun (f : Surf) => f.owner != 252) },
                            plan := { s.plan with earlyImage := [] } }
        ((s.swapPlan p q false).setPlanState 3).setPlanResult 0
    | _, _ => s

/-- The fuse level of the active plan, raised once Markhor serves (R113, R300). -/
def State.fuseLevel (s : State) : State :=
  match s.plan.raiseLevel with
  | some l => if s.markhorUp then { (s.raiseLevel 192 l).showFuses with plan := { s.plan with raiseLevel := none } } else s
  | none => s

end Sys2Proof.Machine
end

