-- ==== Sys2Proof/Machine/Epoch.lean ====
section
/-!
DEFINITION. The frame epoch (R22 to R25).
-/
namespace Sys2Proof.Machine

/-- What the old composition frame leaves in the records when it ends (R168, R235): LOAD_PCT of the engines, COMPOSED_LAST
of the heads, and the render load. -/
def State.endFrame (s : State) : State :=
  let clocks := max 1 ((s.now - s.time.lastEpoch) * 12 / 10)
  let s := s.renderEpoch
  let s := foldS (fun s e => s.put (0x4080 + e) 6 (min 100 ((s.engine e).busy * 100 / clocks))) s (List.range s.cfg.engines)
  let s := foldS (fun s (x : FStore) => (s.put (0x4100 + x.head) 6 x.done).overrunWarning x) s s.comp.stores
  { s with comp := { s.comp with
    ran := [],
    engines := s.comp.engines.map (fun (x : Engine) => { x with busy := 0 }),
    stores := s.comp.stores.map (fun (x : FStore) => { x with done := 0, late := 0, evented := false }),
    layers := s.comp.layers.map (fun (l : LayerSt) => { l with damage := [], whole := false, old := l.geom }) } }

/-- The failed die-to-die lanes are switched to spare lanes (R15). -/
def State.switchSpares (s : State) : State :=
  if s.time.spare = 0 then s
  else
    let n := s.get 0x9070 3 + s.time.spare
    (({ s with time := { s.time with spare := 0 } } : State).put 0x9070 3 n).raiseCode 9 0 codeOk sevNotice 0 [byteOf n]

/-- The source node of a remote stream cannot be reached (R355). -/
def State.streamLost (s : State) (node : Nat) : Bool :=
  node != s.selfNode && (!s.nodeReach node || s.fabric.topology == 1 && decide (2 ≤ s.partner))

/-- A remote-stream layer whose source is lost reads its fallback image, or no source (R355). -/
def State.streamFallback (s : State) : State :=
  foldS (fun s (l : PlanLayer) =>
    let x := s.layerSt l.slot
    let back := if (s.plan.active.bind (fun p => p.imageOf l.slot)).isSome then LSrc.image l.slot else LSrc.none
    if s.streamLost (bitsOf l.sourceRef 15 8) && decide (x.src ≠ back) then
      s.putLayerSt { x with src := back, whole := true }
    else s) s (s.layers.filter (fun l => l.kind == 3))

/-- The geometry that composition frame N uses; a layer that is shed, or hidden while stale, counts as not visible (R135,
R230). -/
def State.takeGeometry (s : State) : State :=
  { s with comp := { s.comp with layers := s.comp.layers.map (fun (l : LayerSt) => { l with geom :=
    let g := s.liveGeom l.slot
    { g with visible := g.visible && !s.isShed l.slot && !s.isStaleHidden l.slot } }) } }

/-- A frame epoch at this instant, with `swap` for step 1 of R24. What an epoch does beside the steps of R24 stands before
them where it prepares placement and units, and after them where it follows the latched sources. -/
def State.runEpoch (s : State) (swap : State → State) : State :=
  let s := s.lateSets.endFrame
  let s := (s.wrap32 0x9060 5).realigned
  let s := { s with time := { s.time with lastEpoch := s.now } }
  let s := s.armEpoch
  let s := s.switchMigrations
  let s := foldS State.evictOldest s s.place.rekeyDue
  let s := s.serve s.memc.waiting.length
  let s := ((s.applyBinding.switchSpares).fuseLevel).ageQuarantine
  -- R24 step 1
  let s := swap s
  -- R24 step 2
  let s := s.applyEpoch.applyRequests
  -- R24 step 3
  let s := s.latchPresents.adoptRings.adoptStreams.streamFallback.adoptPicks.applyMasks
  let s := s.twinEpoch.dropLostTouches.freshness
  -- R24 step 4
  (s.takeGeometry.startFrames).endFlagPeriods .perEpoch (fun _ => true)

/-- FRAME_EPOCH. -/
def execFrameEpoch (t : Nat) (s : State) : Host.Outcome State Fault Refusal :=
  at_ t s fun s => if s.now < s.time.nextEpoch then s else (s.runEpoch State.swapDue).traceFree 3

end Sys2Proof.Machine
end

