-- ==== Sys2Proof/Machine/DomainPort.lean ====
section
/-!
DEFINITION. Segmented access to block objects (R60) and the DomainPort object (R61).
-/
namespace Sys2Proof.Machine

/-! ## Block contents -/

/-- The UART whose receive buffer a key names: a read of it takes what it returns (R465). -/
def rxUart (k : Nat) : Option Nat :=
  if keySub k = 3 ∧ 0x9461 ≤ keyIdx k ∧ keyIdx k < 0x9469 ∧ keyIdx k % 2 = 1 then some ((keyIdx k - 0x9461) / 2) else none

/-- Bytes of a block object from an offset, at most `n` of them. -/
def State.blockRead (s : State) (k off n : Nat) : State × List Byte :=
  match rxUart k with
  | some u => s.uartTake u n
  | none => (s, ((s.getBlk k).data.drop off).take n)

/-- The generation that a segmented read goes by: that of a DOMAIN object; the other types have none (R41, R60). -/
def State.blockGen (s : State) (o : Obj) (k : Nat) : Nat :=
  match o.row.ty with
  | .domain _ => (s.getBlk k).gen
  | _ => 0

/-- A length that a block object's content can have (R61). -/
def Obj.lengthOk (o : Obj) (n : Nat) : Bool :=
  match o.row.ty with
  | .octet m => n == m
  | ty => decide (n ≤ ty.maxLen)

/-- A segmented write of a DOMAIN object is in progress elsewhere than at a partition's DomainPort or a client's transfer
(R60). -/
def State.segmentBusy (s : State) (o : Obj) (k : Nat) (port binding : Option Nat) : Bool :=
  o.isDomain && (s.dict.ports.any (fun x => x.key == k && !x.staged.isEmpty && some x.part != port)
    || s.til.xfers.any (fun x => x.key == k && some x.binding != binding))

/-! ## DomainPort (0x1130) -/

def State.portSel (s : State) (p : Nat) : Option PortSel := s.dict.ports.find? (fun x => x.part == p)

def State.putPort (s : State) (x : PortSel) : State :=
  { s with dict := { s.dict with ports := x :: s.dict.ports.filter (fun y => y.part != x.part) } }

/-- STATE set during a read; after an overrun staging it keeps BAD_LENGTH until the next SELECT. -/
def State.portCode (s : State) (p c : Nat) : State := if s.getB p 0x1130 5 = codeBadLength then s else s.putB p 0x1130 5 c

/-- SELECT written: the block object that it names is opened at offset 0, or no selection is open. -/
def State.portSelect (s : State) (ini : Ini) (v : Nat) : State :=
  let p := ini.part
  let idx := canonIdx (v / 256)
  let s := { s with dict := { s.dict with ports := s.dict.ports.filter (fun y => y.part != p) } }
  let s := s.putB p 0x1130 2 0
  match findObj s.cfg idx (v % 256) with
  | none => s.putB p 0x1130 5 codeObjectAbsent
  | some o =>
    if o.row.ty.isBlock then
      let k := okey (o.bankFor p) idx (v % 256)
      (s.putPort ⟨p, k, 0, s.blockGen o k, false, []⟩).putB p 0x1130 5 0
    else s.putB p 0x1130 5 codeNotBlockObject

/-- OFFSET written: where the next DATA access is. -/
def State.portOffset (s : State) (p v : Nat) : State :=
  match s.portSel p with
  | some x => s.putPort { x with offset := v }
  | none => s

/-- A read of DATA: the next 8 bytes. A changed generation ends the read until the next SELECT. -/
def State.portRead (s : State) (ini : Ini) : State × Word :=
  let p := ini.part
  match s.portSel p with
  | none => (s, 0)
  | some x =>
    match findObj s.cfg (keyIdx x.key) (keySub x.key) with
    | none => (s, 0)
    | some o =>
      if x.ended then (s, 0)
      else if o.row.acc = .wo || !s.hasRight ini false o (keyIdx x.key) (keySub x.key) then (s.portCode p codeNoReadAccess, 0)
      else if s.blockGen o x.key ≠ x.gen then
        (((s.putPort { x with ended := true }).portCode p codeGenerationAbort).setFlag (okey p 0x11B8 1) 5, 0)
      else
        let a := s.blockRead x.key x.offset 8
        (a.1.putPort { x with offset := min (x.offset + 8) 0xFFFFFFF8, gen := a.1.blockGen o x.key }, w64 (leNat a.2))

/-- The refusal of a write of DATA or COMMIT_LEN that does not depend on lengths: no selection, no right to write the
selected object, or a segmented write of it by another. -/
def State.portRefusal (s : State) (ini : Ini) : Option Nat :=
  match s.portSel ini.part with
  | none => some codeNoTransfer
  | some x =>
    match s.writeRefusal ⟨ini, 0, keyIdx x.key, keySub x.key, 0⟩ true with
    | some c => some c
    | none =>
      if (findObj s.cfg (keyIdx x.key) (keySub x.key)).elim false (fun o => s.segmentBusy o x.key (some ini.part) none) then
        some codeDomainBusy
      else none

/-- The selected object, while a selection is open. -/
def State.portObj (s : State) (p : Nat) : Option (PortSel × Obj) :=
  (s.portSel p).bind (fun x => (findObj s.cfg (keyIdx x.key) (keySub x.key)).map (fun o => (x, o)))

/-- The refusal of a write of DATA. -/
def State.dataRefusal (s : State) (ini : Ini) : Option Nat :=
  match s.portRefusal ini with
  | some c => some c
  | none => if (s.portObj ini.part).elim false (fun x => decide (x.2.row.ty.maxLen < x.1.offset + 8)) then some codeBadLength else none

/-- A write of DATA taken: the bytes are staged at OFFSET. -/
def State.portStage (s : State) (p v : Nat) : State :=
  match s.portSel p with
  | none => s
  | some x =>
    let have_ := x.staged ++ List.replicate (x.offset - x.staged.length) 0
    let staged := have_.take x.offset ++ leBytes 8 v ++ have_.drop (x.offset + 8)
    s.putPort { x with offset := min (x.offset + 8) 0xFFFFFFF8, staged := staged }

/-- A write of DATA, with its code; one past the object's size abandons the staging. -/
def State.dataWrite (s : State) (q : Wr) : State × Nat :=
  let p := q.ini.part
  let a := s.write q (fun s _ => s.dataRefusal q.ini) (fun s v => (s.putB p 0x1130 3 0).portStage p v)
  if a.2 = codeBadLength then
    (match a.1.portSel p with
    | some x => (a.1.putPort { x with staged := [] }).putB p 0x1130 5 codeBadLength
    | none => a.1, a.2)
  else a

/-- The refusal of a COMMIT_LEN of `n` but for what the selected object's chapter states. -/
def State.lenRefusal (s : State) (ini : Ini) (n : Nat) : Option Nat :=
  match s.portRefusal ini with
  | some c => some c
  | none => if (s.portObj ini.part).elim false (fun x => decide (n ≤ x.1.staged.length) && x.2.lengthOk n) then none else some codeBadLength

end Sys2Proof.Machine
end

