-- ==== Sys2Proof/Machine/Markhor.lean ====
section
/-!
DEFINITION. Markhor's watchdog and restart (R294 to R297).
-/
namespace Sys2Proof.Machine

/-- MARKHOR_STATE. -/
def State.setMarkhor (s : State) (st : Nat) : State := s.put 0x2000 1 st

/-- The key under which a re-key waits for its end among the requests of R84. -/
def rekeyKey : Nat := okey 0 0x1200 0

/-- A verification that Markhor does not end: the image stays staged (R294, R297). -/
def State.verifyLost (s : State) : State :=
  let s := { s with plan := { s.plan with action := 0, boot := false } }
  ((s.setPlanState 1).setPlanResult codeKeyServiceUnavailable).answerPlan codeKeyServiceUnavailable

/-- What ends when Markhor stops: the requests outstanding at its services are answered KEY_SERVICE_UNAVAILABLE, the
authorisations end (R294, R295, R297), and a swap that is preparing or pending is abandoned (R117, R297). -/
def State.markhorGone (s : State) : State :=
  let c := codeKeyServiceUnavailable
  let s := (s.secLost.requestsLost).answerAll rekeyKey c
  let s := { s with til := { s.til with rekeying := [] } }
  let s := s.discard (fun (x : PendingSet) => x.markhor) c
  let s := s.when (s.planState == 2) State.verifyLost
  let s := s.when (s.planState == 6 || s.planState == 4 && s.plan.swapWhenReady) (fun s => s.abandonSwap c)
  s.endAuth.noteFull

/-- A watchdog trip of a Markhor that runs; `cause` is 1 for the watchdog, 2 for a lockstep mismatch. The fourth within
600 s leaves it in reset. -/
def State.markhorTrip (s : State) (cause : Nat) : State :=
  if !s.markhorUp then s
  else
    let trips := s.now :: s.sec.trips.filter (fun x => decide (s.now < x + 600000000000))
    let down := decide (4 ≤ trips.length)
    let s := ((s.setMarkhor (if down then 3 else 0)).put 0x9001 1 5).markhorGone
    let s := { s with sec := { s.sec with trips := trips,
                                          releaseAt := if !down && s.get 0x2002 1 == 1 then some (s.now + 10000000) else none } }
    let s := s.raise 0x2001 0 0 sevError 0 [byteOf cause]
    if down then s.raise 0x2001 0 0 sevCritical 0 [byteOf cause] else s

/-- MARKHOR_WATCHDOG_TRIP. -/
def execMarkhorWatchdogTrip (t : Nat) (s : State) : Host.Outcome State Fault Refusal := at_ t s fun s => s.markhorTrip 1

/-- LOCKSTEP_MISMATCH. -/
def execLockstepMismatch (t : Nat) (s : State) : Host.Outcome State Fault Refusal := at_ t s fun s => s.markhorTrip 2

/-- PD1 is released and Markhor restarts. -/
def State.markhorRelease (s : State) : State :=
  let s := { s with sec := { s.sec with releaseAt := none } }
  (s.setMarkhor 2).put 0x9001 1 2

/-- MARKHOR_AUTO_RELEASE. -/
def execMarkhorAutoRelease (t : Nat) (s : State) : Host.Outcome State Fault Refusal :=
  at_ t s fun s => if s.get 0x2000 1 == 0 && s.sec.releaseAt.elim false (fun d => decide (d ≤ s.now)) then s.markhorRelease else s

/-- A restart on request: of a Markhor that runs, it has the consequences of its loss; during start-up there is nothing
to restart yet. -/
def State.markhorRestart (s : State) : State :=
  if !s.sys.booted then s else (if s.markhorUp then (s.setMarkhor 2).markhorGone else s).markhorRelease

/-- The refusal of RESTART. -/
def State.restartRefusal (s : State) (_v : Nat) : Option Nat := if s.get 0x2000 1 = 3 then some codeLocked else none

/-- MARKHOR_RESTART: a write of RESTART. -/
def execMarkhorRestart (t : Nat) (ini : Ini) (v : Word) (s : State) : Host.Outcome State Fault Refusal :=
  at_ t s fun s => s.writeAt ini 0x2002 2 v State.restartRefusal (fun s _ => s.markhorRestart)

/-- MARKHOR_RESTART_DONE. -/
def execMarkhorRestartDone (t : Nat) (s : State) : Host.Outcome State Fault Refusal :=
  at_ t s fun s =>
    if s.get 0x2000 1 != 2 then s
    else
      let s := ((s.setMarkhor 1).bump 0x2000 6).rereadFuses
      let s := s.raise 0x2001 0 1 sevNotice 0 []
      ((s.newSeed false).fuseLevel).noteFull

end Sys2Proof.Machine
end

