-- ==== Sys2Proof/Machine/Persist.lean ====
section
/-!
DEFINITION. Dictionary services on registers of their own: stored values (R35, R36), lock sets (R37) and the status
objects (R46, R47).
-/
namespace Sys2Proof.Machine

/-! ## STORE and RESTORE_DEFAULTS (0x1120) -/

/-- A key names a persistent object of one of the groups of a mask. -/
def State.persistentIn (s : State) (mask k : Nat) : Bool :=
  match findObj s.cfg (keyIdx k) (keySub k) with
  | some o => o.row.pers && bit mask (s.groupOf o)
  | none => false

/-- A second STORE is refused while one runs. -/
def State.storeRefusal (s : State) (_v : Nat) : Option Nat := if s.dict.store.isSome then some codeDomainBusy else none

/-- A STORE starts: the active values of the /P objects of the named groups go into the new record. -/
def State.beginStore (s : State) (part mask : Nat) : State :=
  let keep := fun {α : Type} (l : List (Nat × α)) => l.filter (fun e => s.persistentIn mask e.1)
  ({ s with dict := { s.dict with store := some ⟨mask, part, keep s.objs, keep s.liveBlocks⟩ } } : State).put 0x1120 3 1

/-- A write of STORE, with its code. -/
def State.storeWrite (s : State) (ini : Ini) (win : Nat) (raw : Word) : State × Nat :=
  s.write ⟨ini, win, 0x1120, 1, raw⟩ State.storeRefusal (fun s v => s.beginStore ini.part v)

/-- STORE. -/
def execStore (t : Nat) (ini : Ini) (mask : Word) (s : State) : Host.Outcome State Fault Refusal :=
  at_ t s fun s => (s.storeWrite ini 0 mask).1

/-- STORE_DONE (R36): the new record becomes valid as a whole, or the previous one stays; with the edge die lost there
is no eMRAM to hold it (DESIGN CHOICE, log entry 88). -/
def execStoreDone (t : Nat) (ok : Bool) (s : State) : Host.Outcome State Fault Refusal :=
  at_ t s fun s =>
    match s.dict.store with
    | none => s
    | some x =>
      let s := { s with dict := { s.dict with store := none } }
      if ok && s.edgeUp then
        let rest := fun {α : Type} (l : List (Nat × α)) => l.filter (fun e => !s.persistentIn x.groups e.1)
        let s := { s with stored := mputAll (objDefault s.cfg) x.vals (rest s.stored),
                          storedBlocks := mputAll (blockDefault s.cfg) x.blks (rest s.storedBlocks) }
        (s.put 0x1120 3 0).answerKey (okey 0 0x1120 1) codeOk
      else
        ((s.put 0x1120 3 codeStoreFailed).setFlag (okey x.part 0x11B8 1) 4).answerKey (okey 0 0x1120 1) codeStoreFailed

/-- The stored record of an object may be erased: that of an RWO/P object only in lifecycle MANUFACTURING (R35, R303).
DEDUCED, log entry 123. -/
def State.erasable (s : State) (k : Nat) : Bool :=
  s.lifecycle == 1 || (findObj s.cfg (keyIdx k) (keySub k)).elim true (fun o => o.row.acc != .rwo)

/-- The stored records of some groups erased; with that of an RWO/P object its first write is free again. DEDUCED, log entry 123. -/
def State.eraseStored (s : State) (mask : Nat) : State :=
  let gone := fun k => s.persistentIn mask k && s.erasable k
  { s with stored := s.stored.filter (fun e => !gone e.1),
           storedBlocks := s.storedBlocks.filter (fun e => !gone e.1),
           dict := { s.dict with written := s.dict.written.filter (fun k => !gone k) } }

/-- RESTORE_DEFAULTS (R35). -/
def execRestoreDefaults (t : Nat) (ini : Ini) (mask : Word) (s : State) : Host.Outcome State Fault Refusal :=
  at_ t s fun s => s.writeAt ini 0x1120 2 mask noOwn State.eraseStored

/-! ## Lock sets (0x1128) -/

/-- A write of LockSets: bits that it would clear stay. -/
def State.lockWrite (s : State) (ini : Ini) (win : Nat) (raw : Word) : State × Nat :=
  let old := s.get 0x1128 1
  s.write ⟨ini, win, 0x1128, 1, raw⟩ noOwn (fun s v => s.put 0x1128 1 (old ||| v))

/-- LOCK_SETS_WRITE (R37). -/
def execLockSetsWrite (t : Nat) (ini : Ini) (mask : Word) (s : State) : Host.Outcome State Fault Refusal :=
  at_ t s fun s => (s.lockWrite ini 0 mask).1

/-! ## Status objects -/

/-- The object at an index and sub-index is a status object. -/
def State.isStatus (s : State) (idx sub : Nat) : Bool :=
  (findObj s.cfg (canonIdx idx) sub).elim false (fun o => o.row.status.isSome)

/-- STATUS_CLEAR (R46): a write of a status object through the main window or the CLEAR alias. -/
def execStatusClear (t : Nat) (ini : Ini) (viaAlias : Bool) (idx sub : Nat) (v : Word) (s : State) :
    Host.Outcome State Fault Refusal :=
  at_ t s fun s =>
    if s.isStatus idx sub then (s.write ⟨ini, if viaAlias then 2 else 0, idx, sub, v⟩ noOwn noEff).1 else s

/-- PENDING_SEQ_ADVANCE (R47): the end of the minimum interval of a status object, of the bank of a partition where it is
banked. -/
def execPendingSeqAdvance (t part idx sub : Nat) (s : State) : Host.Outcome State Fault Refusal :=
  at_ t s fun s => if s.isStatus idx sub then s.settleStatus (okey part (canonIdx idx) sub) else s

end Sys2Proof.Machine
end

