-- ==== Sys2Proof/Machine/Reset.lean ====
section
/-!
DEFINITION. Resets of the whole device (R21, R36, R75, R447, R448, R477): what a reset of PD0 clears, what survives it,
and what its release starts.
-/
namespace Sys2Proof.Machine

/-! ## What survives (R21, R332, R447, R456, R493) -/

/-- The device's records that a reset leaves as they are: those that eMRAM or the fuses hold, the repairs and their log,
the reset records, the trip counters, and what monitors and pins show. -/
def survives (idx sub : Nat) : Bool :=
  decide (0x1200 ≤ idx ∧ idx < 0x1240 ∧ (sub < 5 ∨ sub = 9)) || decide (0x4004 ≤ idx ∧ idx < 0x4008)
    || decide (idx = 0x30D0 ∧ (sub < 3 ∨ sub = 5)) || decide (idx = 0x30D8 ∧ sub = 3) || decide (0x9130 ≤ idx ∧ idx < 0x9160)
    || decide (idx = 0x9021 ∧ sub ≠ 3) || decide (idx = 0x9200 ∧ sub ≠ 3 ∧ sub ≠ 4) || decide (0x9210 ≤ idx ∧ idx < 0x9220)
    || decide (idx = 0x9700 ∧ sub = 1)

/-- Of those, what a power-on reset clears: counts since power-on and their log. -/
def sincePower (idx sub : Nat) : Bool :=
  decide (idx = 0x9021) || decide (idx = 0x9200 ∧ 7 ≤ sub) || decide (idx = 0x9130 ∧ 1 < sub) || decide (0x9140 ≤ idx ∧ idx < 0x9160)

/-- The object with a key keeps its value over a reset, which is a power-on reset if `power`. -/
def keepsKey (power : Bool) (k : Nat) : Bool :=
  keyBank k == 0 && survives (keyIdx k) (keySub k) && !(power && sincePower (keyIdx k) (keySub k))

/-- The state that a reset of PD0 leaves: fuses, eMRAM and the records above, with every /P object at its stored value;
device time goes on except over a power-on reset. A STORE that runs is cut off, and the previous records stay. -/
def State.wiped (s : State) (power : Bool) : State :=
  let r := State.reset
  let fuses := s.blocks.filter (fun e => e.1 == okey 0 0x2080 0)
  let blocks := mputAll (blockDefault s.cfg) s.storedBlocks fuses
  { r with
    cfg := s.cfg, now := if power then 0 else s.now, fresh := s.fresh, pending := s.pending, out := s.out,
    objs := mputAll (objDefault s.cfg) s.stored (s.objs.filter (fun e => keepsKey power e.1)),
    shadow := mputAll (objDefault s.cfg) s.stored [],
    stored := s.stored, blocks := blocks, liveBlocks := blocks, storedBlocks := s.storedBlocks,
    mem := s.mem.filter (fun e => decide (emramBase ≤ e.1 ∧ e.1 < emramBase + 32 * mib)),
    til := { r.til with rxStored := s.til.rxStored, pushStored := s.til.pushStored, bcastStored := s.til.bcastStored,
                        bcastGen := s.til.bcastGen, bcastNext := s.til.bcastNext, keys := s.til.keys,
                        bcastKey := s.til.bcastKey },
    plan := { r.plan with slots := s.plan.slots },
    memc := { r.memc with rates := s.memc.rates, wear := s.memc.wear.map (fun (w : Wear) => { w with pend := false }),
                          library := s.memc.library },
    sec := { r.sec with images := s.sec.images, secretSet := s.sec.secretSet, partBlown := s.sec.partBlown, seedAt := s.sec.seedAt },
    sys := { r.sys with straps := s.sys.straps, held := s.sys.held, tripFlags := s.sys.tripFlags } }

/-! ## Tilsol counters after a reset of PD0 (R75, R88) -/

/-- The counters of a binding start at their stored values plus 4,096; one that would pass the limit starts there, with what
R75 then says. -/
def State.restartBinding (s : State) (k : Nat) : State :=
  let i := 0x1200 + k
  if s.get i 4 = 0 then s
  else
    let rx0 := mget 0 k s.til.rxStored
    let rx := restartCounter rx0
    let old := s.til.pushStored
    let tx := restartCounter (mget 0 k old)
    let s := (s.put i 5 rx).put i 6 tx
    let s := { s with til := { s.til with rxStored := mput 0 k rx s.til.rxStored, pushStored := mput 0 k tx s.til.pushStored } }
    let s := if counterMax < rx0 + 4096 then s.put i 4 2 else s
    if counterMax < mget 0 k old + 4096 then s.endPushes k else s

/-- The broadcast counter at its limit: the next generation takes over, or broadcasts stop. -/
def State.bcastLimit (s : State) : State :=
  if s.til.bcastNext then
    let gen := (s.til.bcastGen + 1) % 256
    { s with til := { s.til with bcast := 1, bcastStored := 1, bcastGen := gen, bcastNext := false,
                                 bcastKey := nextKey s.til.bcastKey (strBytes "TILSOL-BCAST") [byteOf s.selfNode, byteOf gen] } }
  else if s.til.bcastStopped then s
  else ({ s with til := { s.til with bcast := counterMax, bcastStopped := true } } : State).raise 0x1041 0 6 sevCritical 0 []

/-- Every Tilsol counter after a reset of PD0. -/
def State.restartSessions (s : State) : State :=
  let s := foldS State.restartBinding s (List.range 64)
  let b := s.til.bcastStored + 4096
  if counterMax < b then s.bcastLimit
  else { s with til := { s.til with bcast := b, bcastStored := b } }

/-! ## The reset itself -/

/-- The outputs go to their reset states (R209, R380, R401, R419, R432, R433). -/
def State.resetPins (s : State) : State :=
  let s := foldS State.resetUnits s [15, 16, 17, 18]
  let s := if s.get 0x8C60 2 = 1 then s.emit (.pin .safeOk 0) else s
  let s := if s.ev.alivePin then s.emit (.pin .alive 0) else s
  if s.twin.aliveOut then s.emit (.pin .twinAliveOut 0) else s

/-- A reset of PD0 with its cause: 0 power-on, 1 RESET_N or a trip, 2 software, 3 clock fault. -/
def State.resetDevice (s : State) (cause : Nat) : State :=
  let s := (s.resetPins.wiped (cause == 0)).restartSessions.rereadFuses
  let s := s.countPending
  let s := if cause = 0 then s else s.bump 0x9021 2
  (s.put 0x9021 1 cause).put 0x9021 4 s.now

/-- Start-up begins: the straps are sampled, configuration that a reset takes into force is in force, domains whose REQUEST
is 0 stay off, and units with no start-up step of their own begin to work (R350, R404, R442, R448, R453). -/
def State.startUp (s : State) : State :=
  let (node, senior, mode) := s.sys.straps
  let s := ((s.put 0x9028 1 (node % 64)).put 0x9028 2 (senior % 2)).put 0x9028 3 (mode % 8)
  let s := (s.put 0x1020 1 (node % 64)).put 0x7840 7 (senior % 2)
  let flags := s.sys.tripFlags
  let s := { s with sys := { s.sys with startAt := s.now, tripFlags := [] },
                    time := { s.time with lastEpoch := s.now, nextEpoch := s.now + s.period },
                    place := { s.place with vfBar := s.get 0x3490 1 },
                    audio := { s.audio with rate := s.get 0x8800 1 } }
  let s := foldS (fun s f => s.setFlag (okey 0 0x9201 0) f) s flags
  let s := foldS (fun s d => if s.get (0x9000 + d) 2 = 0 ∧ s.get (0x9000 + d) 3 = 1 then s.put (0x9000 + d) 1 0 else s) s (List.range 20)
  let s := s.fabricReset
  foldS (fun s d => if s.pdOn d then s.startUnits d else s) s [15, 16, 17, 18]

/-- A reset whose release follows at once. -/
def State.resetAndStart (s : State) (cause : Nat) : State := (s.resetDevice cause).startUp

/-- The device held in reset for a reason; a further reason adds to those that hold it. -/
def State.holdReset (s : State) (reason : Nat) : State :=
  let s := if s.inReset then s else s.resetDevice 1
  { s with sys := { s.sys with held := (reason, s.now) :: s.sys.held.filter (fun x => x.1 != reason) } }

/-- A reason no longer holds the device; with the last one start-up begins. -/
def State.releaseReset (s : State) (reason : Nat) : State :=
  if !s.sys.held.any (fun x => x.1 == reason) then s
  else
    let s := { s with sys := { s.sys with held := s.sys.held.filter (fun x => x.1 != reason) } }
    if s.inReset then s else s.startUp

/-- Since when a reason has held the device. -/
def State.heldSince (s : State) (reason : Nat) : Option Nat := (s.sys.held.find? (fun x => x.1 == reason)).map (fun x => x.2)

/-- RESET_N: the pin has been low for 10 µs, or rises; the straps read `node`, `senior` and `mode`. -/
def execResetN (t : Nat) (low : Bool) (node senior mode : Nat) (s : State) : Host.Outcome State Fault Refusal :=
  always t s fun s =>
    let s := { s with sys := { s.sys with straps := (node, senior, mode) } }
    if low then s.holdReset 0 else s.releaseReset 0

/-- POWER_ON_RESET: VAON enters its range. Device time is cleared, and the board holds RESET_N low (R448, R478). -/
def execPowerOnReset (t : Nat) (s : State) : Host.Outcome State Fault Refusal :=
  let s' := s.advance t
  let s' := { s' with sys := { s'.sys with tripFlags := [] } }
  let s' := s'.resetDevice 0
  .next (s.kept { s' with now := 0, sys := { s'.sys with held := [(0, 0)] } })

/-- DEVICE_RESET: a write of ResetControl (0x9020:02). -/
def execDeviceReset (t : Nat) (ini : Ini) (v : Word) (s : State) : Host.Outcome State Fault Refusal :=
  at_ t s fun s => s.writeAt ini 0x9020 2 v noOwn (fun s _ => s.resetAndStart 2)

/-- CK2_CHECK (R446). -/
def execCk2Check (t : Nat) (ok : Bool) (s : State) : Host.Outcome State Fault Refusal :=
  at_ t s fun s => if ok then s else s.resetAndStart 3

end Sys2Proof.Machine
end

