-- ==== Sys2Proof/Machine/Startup.lean ====
section
/-!
DEFINITION. Start-up (R298, R299, R453, R454) and self-test (R449, R450).
-/
namespace Sys2Proof.Machine

/-- Microseconds since RESET_N was released, as StartupTimes holds them. -/
def State.startupUs (s : State) (at0 : Nat) : Nat := (at0 - s.sys.startAt) / 1000

/-! ## Markhor's boot (R283, R284, R291, R298, R299) -/

/-- The copies that a boot mode tries, in their order; `noRecovery` is the fuse RECOVERY_DISABLE. -/
def bootCopies (mode : Nat) (noRecovery : Bool) : List Nat :=
  match mode with
  | 0 => [2, 3]
  | 1 => [0, 1]
  | 3 => if noRecovery then [0, 1, 2, 3] else [4]
  | _ => [0, 1, 2, 3]

/-- The first copy whose image of a type passes R299. An eMRAM copy holds what is stored in it. -/
def State.bootFrom (s : State) (tries : List FwTry) (ty : Nat) : Option FwTry :=
  (bootCopies (s.get 0x9028 3) (s.fuse 86 1 == 1)).findSome? (fun c =>
    tries.find? (fun (x : FwTry) => x.copy == c && numAt x.image 8 1 == ty && s.firmwareOk x.image x.sigOk
      && (decide (2 ≤ c) || decide (x.image = mget [] (ty * 2 + c) s.sec.images))))

/-- The protection mode (R283); `ownerTable` is what the firmware's boot configuration names. -/
def State.bootProtection (s : State) (ownerTable : Bool) : State :=
  let f := s.fuse 84 2
  let owner := if f = 1 then false else if f = 2 then true else ownerTable
  let mode : Nat := if owner && !s.cfg.compact then 1 else 0
  let s := (s.put 0x2000 2 mode).put 0x2010 1 mode
  if owner && s.cfg.compact then s.raiseCode 2 0 codeOk sevWarning 0 [1] else s

/-- MARKHOR_BOOT_DONE: the boot ROM finds `tries`; Markhor's firmware runs from `verifiedAt` on, sets the protection mode and
the DRAM regions, locks sets 0 and 3, and releases the planner once its firmware is verified and the self-test has ended.
Without a good copy of Markhor's firmware the device stays in ROM. -/
def execMarkhorBootDone (t : Nat) (tries : List FwTry) (verifiedAt : Nat) (ownerTable : Bool) (regions : List (List Nat))
    (s : State) : Host.Outcome State Fault Refusal :=
  at_ t s fun s =>
    if s.sys.booted then s
    else
      match s.bootFrom tries 1 with
      | none => s
      | some m =>
        let pl := s.bootFrom tries 2
        let s := { s with
          sys := { s.sys with booted := true, plannerFw := pl.isSome },
          sec := { s.sec with fwVersion := numAt m.image 10 1, fwCopy := m.copy, plCopy := pl.elim 0 (fun x => x.copy) } }
        let s := (s.setMarkhor 1).put 0x9030 1 (s.startupUs verifiedAt)
        let s := (s.put 0x1019 2 (numAt m.image 12 4)).put 0x1019 4 (numAt m.image 10 1)
        let s := s.put 0x1019 3 (pl.elim 0 (fun x => numAt x.image 12 4))
        let s := s.bootProtection ownerTable
        let s := foldS (fun s r => foldS (fun s k => s.put (0x2011 + r) (k + 1) (min 65536 (nth 0 (nth [] regions r) k))) s [0, 1, 2]) s
          (List.range 8)
        let s := s.put 0x1128 1 (setBit (setBit (s.get 0x1128 1) 0 true) 3 true)
        let s := (s.newSeed false).showFuses
        let s := if 4 ≤ s.get 0x9028 3 then s.raiseCode 2 0 codeOk sevWarning 0 [byteOf (s.get 0x9028 3)] else s
        s.releasePlanner

/-! ## Self-test (R449) -/

/-- The domain in which a unit is tested. -/
def Cfg.bistDomain (c : Cfg) (kind inst : Nat) : Nat :=
  match kind with
  | 0 => 2
  | 1 => if inst < 4 then 6 else 7
  | 2 => 8
  | 3 => if inst < 8 then 9 else 10
  | 4 | 5 => if inst < 4 then 11 else 12
  | 6 => 4 + c.chanHalf inst
  | 7 => 19
  | 8 => 13
  | 9 => 14
  | 10 => 16
  | 11 | 12 | 13 => 17
  | 14 => 3
  | _ => 15

/-- The units of R27 that the kinds of R449 are; the network and the ports have no row there. -/
def bistUnit (kind : Nat) : Option UnitKind :=
  match kind with
  | 0 => some .planner
  | 1 => some .composer
  | 2 => some .sentinel
  | 3 => some .head
  | 4 => some .cluster
  | 5 => some .ray
  | 6 => some .channel
  | 7 => some .bank
  | 8 => some .chamois
  | 9 => some .pcie
  | 10 => some .afe
  | 11 => some .haptic
  | 12 => some .axis
  | 13 => some .audio
  | _ => none

/-- A configuration has a unit of a kind of R449. -/
def Cfg.hasBistUnit (c : Cfg) (kind inst : Nat) : Bool :=
  match bistUnit kind with
  | some u => decide (inst < c.unitCount u)
  | none => if kind = 14 then inst == 0
      else if inst < 22 then c.hasPort inst else decide (inst < 32) && c.hasInst 0x5A00 (inst - 22)

/-- A failing cell logged (0x9140 + j) and repaired where a spare and the repair store allow; the answer tells whether it
was. -/
def State.bistCell (s : State) (kind inst : Nat) (c : BistCell) : State × Bool :=
  let full := decide (512 ≤ s.get 0x9130 1)
  let fixed := decide (c.spare < 2) && !full
  let j := s.get 0x9130 3 % 32
  let s := foldS (fun s (x : Nat × Nat) => s.put (0x9140 + j) x.1 x.2) s
    [(1, kind * 256 + inst), (2, c.memory % 65536), (3, c.addr % 2 ^ 32), (4, min 1023 c.bit), (5, if fixed then c.spare else 2), (6, s.now)]
  let s := (s.put 0x9130 3 ((j + 1) % 32)).bump 0x9130 4
  if fixed then ((s.put 0x9130 1 (s.get 0x9130 1 + 1)).raise 0x9018 inst 4 sevNotice 0 (leBytes 2 (kind * 256 + inst)), true)
  else (if full && decide (c.spare < 2) then s.setFlag (okey 0 0x9018 0) 6 else s, false)

/-- The failing cells of a unit, in order. -/
def State.bistCells (s : State) (kind inst : Nat) (l : List BistCell) : State × Bool :=
  l.foldl (fun (a : State × Bool) c =>
    let r := a.1.bistCell kind inst c
    (r.1, a.2 && r.2)) (s, true)

/-- A unit that failed is marked unusable. -/
def State.bistFailed (s : State) (kind inst : Nat) : State :=
  let s := match bistUnit kind with
    | some u => s.loseUnit u inst
    | none => if kind = 14 then ({ s with sys := { s.sys with network := true } } : State).hold 4 true
        else if inst < 22 ∧ s.linkState inst ≠ 0 then s.setLink inst 0 else s
  s.raise 0x9018 inst 3 (if kind = 0 ∨ kind = 2 ∨ kind = 14 then sevCritical else sevError) 0 (leBytes 2 (kind * 256 + inst))

/-- A unit that passed is usable again (R450). -/
def State.bistPassed (s : State) (kind inst : Nat) : State :=
  match bistUnit kind with
  | none => s
  | some u =>
    if !s.isLost u inst then s
    else
      let s := { s with place := { s.place with lost := s.place.lost.filter (fun x => !(x.1 == u && x.2 == inst)) } }
      match kind with
      | 1 => s.put (0x4080 + inst) 1 0
      | 4 | 5 => s.syncClusters
      | 6 => s.put (0x3040 + inst) 1 3
      | 7 => (s.put (0x30A0 + inst) 1 0).settleBanks
      | _ => s

/-- One unit tested; `found` is what the test finds at the units it has anything to say of. -/
def State.testUnit (s : State) (found : List BistUnit) (kind inst : Nat) : State :=
  let f := (found.find? (fun (x : BistUnit) => x.kind == kind && x.inst == inst)).getD ⟨kind, inst, true, []⟩
  let (s, fixed) := s.bistCells kind inst f.cells
  let r : Nat := if !f.logicOk then 3 else if !fixed then 4 else if f.cells.isEmpty then 1 else 2
  let s := s.put (0x9110 + kind) (inst + 1) r
  if r ≤ 2 then s.bistPassed kind inst else s.bistFailed kind inst

/-- Every unit of some domains tested. -/
def State.testDomains (s : State) (found : List BistUnit) (p : Nat → Bool) : State :=
  foldS (fun s k => foldS (fun s i =>
    if !p (s.cfg.bistDomain k i) then s
    else if s.cfg.hasBistUnit k i then s.testUnit found k i
    else s.put (0x9110 + k) (i + 1) 0) s (List.range 32)) s (List.range 16)

/-! ## Re-runs (R450) -/

/-- The refusal of a RUN mask. A second run while one is going names domains that are out of service. DEDUCED, log entry 113. -/
def State.bistRefusal (s : State) (v : Nat) : Option Nat :=
  let named := (List.range 20).filter (fun d => bit v d)
  if s.sys.bist != 0 || named.any (fun d => [0, 1, 2, 3, 8].contains d || s.planUse d) then some codeBistInUse else none

/-- The named domains leave service and their test begins. -/
def State.bistStart (s : State) (ini : Ini) (v : Nat) : State :=
  let s := foldS (fun s d => if bit v d && s.pdOn d then ((s.cancelDomain d).switchOff d).put (0x9000 + d) 1 5 else s) s (List.range 20)
  ({ s with sys := { s.sys with bist := v, bistIni := some ini } } : State).put 0x9100 2 1

/-- A write of RUN; a refusal stands in RESULT too. -/
def State.bistWrite (s : State) (ini : Ini) (win : Nat) (raw : Word) : State × Nat :=
  let r := s.write ⟨ini, win, 0x9100, 1, raw⟩ State.bistRefusal (fun s v => s.bistStart ini v)
  if r.2 = codeBistInUse then (r.1.put 0x9100 3 r.2, r.2) else r

/-- BIST_RUN. -/
def execBistRun (t : Nat) (ini : Ini) (mask : Word) (s : State) : Host.Outcome State Fault Refusal :=
  at_ t s fun s => (s.bistWrite ini 0 mask).1

/-- The tested domains are switched on again. -/
def State.bistEnd (s : State) (v : Nat) : State :=
  let s := foldS (fun s d =>
    if bit v d && s.get (0x9000 + d) 1 == 5 then
      let s := ((s.resetUnits d).put (0x9000 + d) 1 2).bump (0x9000 + d) 5
      (s.startUnits d).raise 0x9018 d 1 sevNotice 0 []
    else s) s (List.range 20)
  let s := { s with sys := { s.sys with bist := 0, bistIni := none } }
  (((s.put 0x9100 2 0).put 0x9100 3 0).put 0x9100 4 s.now).answerKey (okey 0 0x9100 1) codeOk

/-- BIST_DONE: the start-up self-test or a re-run ends, having found `found`. -/
def execBistDone (t : Nat) (found : List BistUnit) (s : State) : Host.Outcome State Fault Refusal :=
  at_ t s fun s =>
    if !s.sys.tested then
      let s := s.testDomains found (fun _ => true)
      let s := { s with sys := { s.sys with tested := true } }
      ((s.put 0x9030 3 (s.startupUs s.now)).put 0x9100 4 s.now).releasePlanner
    else if s.sys.bist = 0 then s
    else
      let v := s.sys.bist
      (s.testDomains found (fun d => bit v d)).bistEnd v

/-! ## The plans of start-up (R110, R112, R453, R454) -/

/-- Owner number of the early staging area. -/
def earlyOwner : Nat := 252

/-- The early staging area placed in the tile store. -/
def State.stageEarly (s : State) : Option State :=
  (s.findTs (4 * mib) 0).map (fun a =>
    (s.addSurf { id := s.place.nextId, owner := earlyOwner, w := 0, h := 0, format := 4, layout := 0, cls := 0, size := 4 * mib,
                 hdrSize := 0, loc := 0, group := 0, addr := a, hdr := a + 4 * mib, ctx := 0, clear := 0, lost := false,
                 homeless := false, image := none, hot := 0 }).settleBanks)

/-- The early plan of an image that passes validation, with the fields that it clamps. -/
def State.earlyPlan (s : State) (m : List Byte) (sigOk : Bool) : Option (Plan × List FieldClamp) :=
  if (s.planFault m).isSome || !s.markhorUp || (s.planVerify m sigOk).isSome then none
  else
    let p := (readPlan m s.selfNode).fieldStage
    if bit p.1.kind 0 then some p else none

/-- EARLY_PLAN_LOADED: the image of EARLY_SLOT has been read into the early staging area, validated, prepared and swapped
in; `sigOk` says whether both signatures verify. The swap's epoch falls at once. -/
def execEarlyPlanLoaded (t : Nat) (sigOk : Bool) (s : State) : Host.Outcome State Fault Refusal :=
  at_ t s fun s =>
    let m := s.slotImage (s.get 0x4000 8)
    if !s.plannerUp || s.plan.active.isSome || s.get 0x9030 5 != 0 || decide (4 ≤ s.get 0x4000 8) || m.isEmpty then s
    else
      match s.earlyPlan m sigOk with
      | none => (s.fieldReport []).planFlag 0
      | some (p, l) =>
        let s := (s.fieldReport l).when (!l.isEmpty) (fun s => s.planFlag 1)
        match s.stageEarly.bind (fun u => u.prepare p true) with
        | none => s
        | some (u, q) =>
          let u := { (u.preparedShed p q.shed) with plan := { u.plan with earlyImage := m } }
          u.runEpoch (fun u => u.swapPlan p q true)

/-- DRAM_TRAINING_DONE. -/
def execDramTrainingDone (t : Nat) (fails : List Nat) (temps : List Int) (s : State) : Host.Outcome State Fault Refusal :=
  at_ t s fun s =>
    if (List.range 32).any (fun c => s.get (0x3040 + c) 1 == 3) then
      let s := s.dramTrained fails temps
      { s with sys := { s.sys with eccDue := true } }
    else s

/-- ECC_INIT_DONE: the ECC parts hold zero data; DRAM is ready, and the plan of BOOT_SLOT is loaded unless a full plan runs
or another image is at work in the staging area. -/
def execEccInitDone (t : Nat) (s : State) : Host.Outcome State Fault Refusal :=
  at_ t s fun s =>
    let dram := (List.range 32).any s.chanUsable
    if !s.sys.eccDue || !dram then s
    else
      let s := { s with sys := { s.sys with eccDue := false } }
      let s := if s.get 0x9030 5 = 0 then s.put 0x9030 5 (s.startupUs s.now) else s
      let m := s.slotImage (s.get 0x4000 7)
      let full := s.plan.active.isSome && !s.plan.early
      if full || s.planState != 0 || decide (4 ≤ s.get 0x4000 7) || m.isEmpty then s
      else ({ s with plan := { s.plan with boot := true } } : State).stageImage m

end Sys2Proof.Machine
end

