-- ==== Sys2Proof/Machine/Planner.lean ====
section
/-!
DEFINITION. The planner watchdog with the planner restart, and the restart of one partition (R451, R452).
-/
namespace Sys2Proof.Machine

/-! ## Planner watchdog (R451) -/

/-- Objects whose registers stand in PD2 itself: queues and fences, and events, counters and trace; SafeOkState is a
register of PD0. -/
def plannerIdx (idx : Nat) : Bool :=
  decide (0x7400 ≤ idx ∧ idx < 0x7800) || decide (0x8C00 ≤ idx ∧ idx < 0x9000) && idx != 0x8C60

/-- The registers of PD2 at its reset: configuration loads its stored values or Defaults, and everything else of them
reads its Default (R35, R273, R278, R441). -/
def State.plannerRegs (s : State) : State :=
  let s := { s with objs := s.objs.filter (fun e => !plannerIdx (keyIdx e.1)),
                    dict := { s.dict with status := s.dict.status.filter (fun m => !plannerIdx (keyIdx m.key)) } }
  s.loadStored (fun k => plannerIdx (keyIdx k) && (findObj s.cfg (keyIdx k) (keySub k)).elim false (fun o => o.row.isConfig))

/-- Shadows restart from the active values, and the pending sets of every group are gone; they are reported after the
restart. A STORE that ran ends, the previous record stays (R36), and its STATE then reads STORE_FAILED (DESIGN CHOICE, log
entry 85). -/
def State.plannerShadows (s : State) : State :=
  let s := if s.dict.store.isSome then s.put 0x1120 3 codeStoreFailed else s
  let grouped := fun {α : Type} (l : List (Nat × α)) => l.filter (fun e => s.keyGroup e.1 != 0)
  let alone := s.blocks.filter (fun e => s.keyGroup e.1 == 0)
  { s with shadow := grouped s.objs,
           blocks := mputAll (blockDefault s.cfg) (grouped s.liveBlocks) alone,
           dict := { s.dict with sets := [], store := none },
           integ := { s.integ with selects := [] },
           sys := { s.sys with cancelled := s.sys.cancelled ++ s.dict.sets } }

/-- The state of the services that end with PD2: Tilsol requests, transfers, cached responses and subscriptions; the
event store with its slots, buckets and queues (SEQ stays, R431); the rings; migrations and bindings that are being
computed, whose sources are kept. -/
def State.plannerServices (s : State) : State :=
  let s := { s with til := { s.til with subs := [], xfers := [], reqs := [], cached := [], mailbox := [], rekeying := [] } }
  let s := { s with ev := { s.ev with slots := [], buckets := [], store := [], losses := [], reserveFull := false, emcyLast := [] } }
  let s := { s with trace := { s.trace with rings := [], evRings := [], caps := [] } }
  { s with place := { s.place with migs := [], campaigns := [], rebinding := s.place.rebinding ++ (if s.place.binding.isSome then s.place.lost.getLast?.toList else []), binding := none } }

/-- PD2 is reset. -/
def State.plannerReset (s : State) : State :=
  let s := foldS State.stopQueues s (List.range 16)
  let s := { s with queue := { s.queue with queues := [], last := [] } }
  (s.put 0x9002 1 5).plannerServices.plannerRegs.plannerShadows

/-- A trip with every usable core silent; the fourth within 600 s leaves PD2 in reset. -/
def State.plannerTrip (s : State) : State :=
  let trips := s.now :: s.sys.plannerTrips.filter (fun x => decide (s.now < x + 600000000000))
  let dead := decide (4 ≤ trips.length)
  let s := { s with sys := { s.sys with plannerTrips := trips, plannerDead := dead } }
  s.plannerReset.when dead (fun s => s.idleDisplays.hold 4 true)

/-- PLANNER_WATCHDOG_TRIP: `silent` names the cores that have not kicked the watchdog for TIMEOUT_MS. -/
def execPlannerWatchdogTrip (t : Nat) (silent : List Nat) (s : State) : Host.Outcome State Fault Refusal :=
  at_ t s fun s =>
    let usable := (List.range 4).filter (fun n => !s.isLost .planner n)
    let hit := usable.filter (fun n => silent.contains n)
    if !s.plannerUp || hit.isEmpty then s
    else if hit.length < usable.length then foldS (fun s n => s.loseUnit .planner n) s hit
    else s.plannerTrip

/-- PLANNER_RESTART_DONE: Markhor has verified the firmware again, and the planner runs; the commit sets that the reset
discarded are reported. -/
def execPlannerRestartDone (t : Nat) (s : State) : Host.Outcome State Fault Refusal :=
  at_ t s fun s =>
    if s.get 0x9002 1 != 5 || s.sys.plannerDead || !s.markhorUp then s
    else
      let l := s.sys.cancelled
      let s := { s with sys := { s.sys with cancelled := [] } }
      let s := ((s.put 0x9002 1 2).bump 0x9021 3).setFlag (okey 0 0x9018 0) 7
      foldS (fun s u => s.reportUnit u codeCancelled 0 0) s (commitUnits l)

/-! ## Partition restart (R452) -/

/-- Fences of a partition at 0, with their statuses. -/
def State.clearFences (s : State) (p : Nat) : State :=
  { s with objs := s.objs.filter (fun e => keyIdx e.1 != 0x7600 + p && keyIdx e.1 != 0x7610 + p) }

/-- Every surface of a partition is freed, and the grants made to it are released. -/
def State.freeOwned (s : State) (p : Nat) : State :=
  foldS (fun s x =>
    let s := s.freeHandle x
    if x.rights = 0 then s.dropSurface x.surf else s) s (s.place.handles.filter (fun x => x.live && x.part == p))

/-- The layers of a partition other than STATIC ones have no latched source, and its pick registrations and hit masks are
gone. -/
def State.clearLayers (s : State) (p : Nat) : State :=
  let mine := s.layers.filter (fun l => l.owner == p)
  let off := (mine.filter (fun l => !bit l.flags 0)).map (fun l => l.slot)
  let s := foldS (fun s y => s.endPresent y 0) s (s.queue.presents.filter (fun y => y.latched && off.contains y.slot))
  let s := foldS (fun s n => (s.putLayerSt { s.layerSt n with src := .none, whole := true }).put (0x4400 + n) 0xE 0) s off
  let slots := mine.map (fun l => l.slot)
  let s := s.dropPicks (fun n => !slots.contains n)
  let s := { s with touch := { s.touch with masks := s.touch.masks.filter (fun m => !slots.contains m.slot),
                                            newMasks := s.touch.newMasks.filter (fun m => !slots.contains m.slot) } }
  foldS (fun s n => (s.put (0x7200 + n) 4 0).put (0x8100 + n) 4 0) s slots

/-- The event, touch and audio rings of a partition are disabled. -/
def State.stopRings (s : State) (p : Nat) : State :=
  ((s.audioNow.put (evIdx p) 1 0).put (0x8080 + p) 1 0).put (0x8980 + p) 1 0

/-- The haptic channels of a partition stop with brake, and its axes hold where they are. -/
def State.holdActuators (s : State) (p : Nat) : State :=
  let s := foldS (fun s c => if s.get (hapIdx c) 2 = p then s.brakeEffect c else s) s (List.range s.cfg.haptics)
  foldS (fun s a => if s.get (axIdx a) 2 = p then s.holdAxis a else s) s
    (List.range s.cfg.axes)

/-- A restart of partition `p`. `done` and `rings` say for each of its queues what the running command has done at its next
boundary, and the commands that stand in its ring. -/
def State.restartPart (s : State) (p : Nat) (done : List Nat) (rings : List (List QHdr)) : State :=
  let s := foldS (fun s q => s.abortQueue p q (nth 0 done q) (nth [] rings q)) s (List.range 8)
  let s := (((((s.clearFences p).freeOwned p).clearLayers p).stopRings p).holdActuators p).lowPartition p
  let s := foldS State.endSubs s ((List.range 64).filter (fun k => s.bindingPart k == p))
  s.put (0x9050 + p) 2 1

/-- The refusal of RESTART. -/
def State.partRefusal (s : State) (p : Nat) : Option Nat := if s.get (0x9050 + p) 2 = 1 then some codeRestartPending else none

/-- PARTITION_RESTART: a write of RESTART of PartitionRestart. -/
def execPartitionRestart (t : Nat) (ini : Ini) (part : Nat) (v : Word) (done : List Nat) (rings : List (List QHdr)) (s : State) :
    Host.Outcome State Fault Refusal :=
  at_ t s fun s => s.when (0 < part && part < 16) fun s => s.writeAt ini (0x9050 + part) 1 v (fun s _ => s.partRefusal part) (fun s _ => s.restartPart part done rings)

/-- PARTITION_RESTART_DONE. -/
def execPartitionRestartDone (t part : Nat) (s : State) : Host.Outcome State Fault Refusal :=
  at_ t s fun s =>
    if part = 0 || s.get (0x9050 + part) 2 != 1 then s
    else
      let s := ((s.put (0x9050 + part) 2 0).bump (0x9050 + part) 3).put (0x9050 + part) 4 s.now
      s.raise 0x9018 part 5 sevWarning part []

end Sys2Proof.Machine
end

