-- ==== Sys2Proof/Machine/Supply.lean ====
section
/-!
DEFINITION. Clocks (R444, R446), and the supply and temperature monitors (R475 to R478).
-/
namespace Sys2Proof.Machine

/-! ## PLLs (R444, R446) -/

/-- The clock domains of a PLL. PLLs are numbered: 0 to 7 for A to H, 8 and 9 the DRAM PLLs, 10 + n that of head n, 26 + k
that of Chamois port k, 30 PCIe, 31 and 32 audio, 33 Ethernet (PRESUMED, log entry 41). -/
def pllClocks (n : Nat) : List Nat :=
  match n with
  | 0 => [3]
  | 1 => [4]
  | 2 => [5, 9, 39]
  | 3 => [6]
  | 4 => [7]
  | 5 => [8]
  | 6 => [35, 36, 37]
  | 7 => [40]
  | 30 => [32]
  | 31 => [33]
  | 32 => [34]
  | 33 => [38]
  | n => if n < 10 then [10 + (n - 8)] else if n < 26 then [12 + (n - 10)] else if n < 30 then [28 + (n - 26)] else []

/-- The PLL of a clock domain; CK1 and CK2 have none. -/
def clockPll (k : Nat) : Option Nat := (List.range 34).find? (fun n => (pllClocks n).contains k)

/-- PLL_LOCK_LOSS. -/
def execPllLockLoss (t pll : Nat) (s : State) : Host.Outcome State Fault Refusal :=
  at_ t s fun s =>
    if s.noLock pll || (pllClocks pll).isEmpty then s
    else
      let s := { s with sys := { s.sys with unlocked := (pll, s.now) :: s.sys.unlocked } }
      let s := foldS (fun s k => s.bump (0x9080 + k) 4) s (pllClocks pll)
      let s := s.setFlag (okey 0 0x9018 0) 2
      if 10 ≤ pll ∧ pll < 26 ∧ (s.headRun (pll - 10)).isSome then s.haltHead (pll - 10) else s

/-- PLL_RELOCK: the units resume; a head restarts its timing (R175). -/
def execPllRelock (t pll : Nat) (s : State) : Host.Outcome State Fault Refusal :=
  at_ t s fun s =>
    if !s.sys.unlocked.any (fun x => x.1 == pll) then s
    else
      let s := { s with sys := { s.sys with unlocked := s.sys.unlocked.filter (fun x => x.1 != pll) } }
      if 10 ≤ pll ∧ pll < 26 then
        (match s.headEntry (pll - 10) with
         | some h => s.startHead h
         | none => s)
      else if 26 ≤ pll ∧ pll < 30 then s.drainTx (pll - 26) (s.link (pll - 26)).txq.length
      else if pll = 8 ∨ pll = 9 then s.serve s.memc.waiting.length
      else s

/-- The units of a PLL (R446). A network without its clock leaves the planner cores unreachable. -/
def Cfg.pllUnits (c : Cfg) (n : Nat) : List (UnitKind × Nat) :=
  let all := fun (k : UnitKind) => (List.range (c.unitCount k)).map (fun i => (k, i))
  match n with
  | 1 | 2 => all .planner
  | 3 => all .composer
  | 4 => [(.sentinel, 0)]
  | 5 => all .cluster ++ all .ray
  | 6 => all .afe ++ all .haptic ++ all .axis
  | 8 => [(.dramHalf, 0)]
  | 9 => [(.dramHalf, 1)]
  | 30 => [(.pcie, 0)]
  | 31 | 32 => [(.audio, 0)]
  | n => if 10 ≤ n ∧ n < 26 then [(.head, n - 10)] else if 26 ≤ n ∧ n < 30 then [(.chamois, n - 26)] else []

/-- PLL_RELOCK_TIMEOUT: no lock for 1 ms. Markhor's PLL stops Markhor, as its watchdog would. -/
def execPllRelockTimeout (t pll : Nat) (s : State) : Host.Outcome State Fault Refusal :=
  at_ t s fun s =>
    if !s.sys.unlocked.any (fun x => x.1 == pll && decide (x.2 + 1000000 ≤ s.now)) then s
    else
      let s := { s with sys := { s.sys with unlocked := s.sys.unlocked.filter (fun x => x.1 != pll), faulty := pll :: s.sys.faulty } }
      let s := foldS (fun s (u : UnitKind × Nat) => s.loseUnit u.1 u.2) s (s.cfg.pllUnits pll)
      if pll = 0 then s.markhorTrip 1 else s

/-! ## Temperatures (R475, R477, R480) -/

/-- Tj_max of the grade, and the sensors' unit of a quarter degree. -/
def Cfg.tjMax (c : Cfg) : Int := if c.gradeI then 115 * 4 else 125 * 4

/-- The throttle threshold in quarter degrees. -/
def State.throttleAt (s : State) : Int := s.cfg.tjMax - 4 * (s.get 0x9200 4 : Int)

/-- The readings of the 16 sensors, in quarter degrees, within their range. -/
def State.sense (s : State) (temps : List Int) : State :=
  let l := (List.range 16).map (fun i => max (-220) (min 600 (nth 0 temps i)))
  let top := l.foldl max (l.headD 0)
  let s := foldS (fun s i => s.putI (0x9210 + i) 0 (nth 0 l i)) s (List.range 16)
  (s.putI 0x9200 1 top).put 0x9200 2 (((List.range 16).find? (fun i => nth 0 l i == top)).getD 0)

/-- Tj. -/
def State.tj (s : State) : Int := s.getI 0x9200 1

/-- THROTTLE follows what holds CK8 down. -/
def State.syncThrottle (s : State) : State :=
  s.put 0x9200 3 (if s.sys.stopped then 2 else if s.sys.hot || s.sys.overMa then 1 else 0)

/-- CK8 halved for the temperature. -/
def State.throttle (s : State) : State :=
  if s.sys.hot || decide (s.tj < s.throttleAt) then s
  else (({ s with sys := { s.sys with hot := true } } : State).syncThrottle).raise 0x9201 0 0 sevWarning 0 []

/-- The render engine stopped for the temperature (R260). -/
def State.stopRender (s : State) : State :=
  if s.sys.stopped || decide (s.tj < s.cfg.tjMax) then s
  else (({ s with sys := { s.sys with stopped := true } } : State).syncClusters.syncThrottle).raise 0x9201 0 1 sevError 0 []

/-- THERMAL_THROTTLE: the sensors read `temps`, and Tj is at its throttle threshold. -/
def execThermalThrottle (t : Nat) (temps : List Int) (s : State) : Host.Outcome State Fault Refusal :=
  at_ t s fun s => (s.sense temps).throttle

/-- RENDER_STOPPED: Tj is at Tj_max. -/
def execRenderStopped (t : Nat) (temps : List Int) (s : State) : Host.Outcome State Fault Refusal :=
  at_ t s fun s => (s.sense temps).throttle.stopRender

/-- A trip counter of 32 bits. -/
def State.countTrip (s : State) (sub : Nat) : State := s.bump 0x9200 sub

/-- A trip: the device is held, and the flags that it sets are set when it has started again. -/
def State.trip (s : State) (reason : Nat) (flags : List Nat) : State :=
  ({ s with sys := { s.sys with tripFlags := s.sys.tripFlags ++ flags } } : State).holdReset reason

/-- THERMAL_TRIP: Tj has been 10 °C above Tj_max for 1 ms. -/
def execThermalTrip (t : Nat) (temps : List Int) (s : State) : Host.Outcome State Fault Refusal :=
  at_ t s fun s =>
    let s := s.sense temps
    if s.tj < s.cfg.tjMax + 40 then s else (s.countTrip 7).trip 1 [3]

/-- THERMAL_RELEASE: Tj has been below what releases an action for its hold time. -/
def execThermalRelease (t : Nat) (temps : List Int) (s : State) : Host.Outcome State Fault Refusal :=
  always t s fun s =>
    let s := s.sense temps
    if s.inReset then
      (if decide (s.tj < s.cfg.tjMax) && (s.heldSince 1).elim false (fun d => decide (d + 10000000000 ≤ s.now)) then s.releaseReset 1 else s)
    else
      let s := if s.sys.stopped && decide (s.tj < s.cfg.tjMax - 20) then
          ({ s with sys := { s.sys with stopped := false } } : State).syncClusters
        else s
      let s := if s.sys.hot && decide (s.tj < s.throttleAt - 20) then { s with sys := { s.sys with hot := false } } else s
      s.syncThrottle

/-! ## VIN (R477) -/

/-- VIN_OVERCURRENT: 42 A for 100 µs. -/
def execVinOvercurrent (t ma : Nat) (s : State) : Host.Outcome State Fault Refusal :=
  at_ t s fun s =>
    let s := s.put 0x9200 6 (min 50000 ma)
    if ma < 42000 || s.sys.overMa then s
    else (({ s with sys := { s.sys with overMa := true } } : State).syncThrottle).raise 0x9201 0 2 sevError 0 []

/-- OVERCURRENT_TRIP: 46 A for 10 µs. -/
def execOvercurrentTrip (t ma : Nat) (s : State) : Host.Outcome State Fault Refusal :=
  at_ t s fun s =>
    let s := s.put 0x9200 6 (min 50000 ma)
    if ma < 46000 then s
    else
      let v := s.get 0x9200 9
      (s.put 0x9200 9 (min 65535 (v / 65536 + 1) * 65536 + v % 65536)).trip 2 []

/-- VIN_BROWNOUT: VIN below 1.62 V for 10 µs, in reset too. -/
def execVinBrownout (t mv : Nat) (s : State) : Host.Outcome State Fault Refusal :=
  always t s fun s =>
    let s := s.put 0x9200 5 (min 4000 mv)
    if 1620 ≤ mv ∨ (s.heldSince 3).isSome then s else (s.countTrip 8).trip 3 [4]

/-- VIN_HIGH_TRIP: VIN above 3.75 V for 100 µs, in reset too. -/
def execVinHighTrip (t mv : Nat) (s : State) : Host.Outcome State Fault Refusal :=
  always t s fun s =>
    let s := s.put 0x9200 5 (min 4000 mv)
    if mv ≤ 3750 ∨ (s.heldSince 4).isSome then s
    else
      let v := s.get 0x9200 9
      (s.put 0x9200 9 (v / 65536 * 65536 + min 65535 (v % 65536 + 1))).trip 4 []

/-- TRIP_RELEASE: VIN reads `mv` and `ma`, and has been where it releases a trip or the halved CK8 for its hold time. -/
def execTripRelease (t mv ma : Nat) (s : State) : Host.Outcome State Fault Refusal :=
  always t s fun s =>
    let s := (s.put 0x9200 5 (min 4000 mv)).put 0x9200 6 (min 50000 ma)
    let after := fun (reason ns : Nat) => (s.heldSince reason).elim false (fun d => decide (d + ns ≤ s.now))
    if s.inReset then
      let free := (if after 2 100000000 then [2] else []) ++ (if after 3 1000000 && decide (1680 < mv) then [3] else [])
        ++ (if after 4 1000000 && decide (mv < 3650) then [4] else [])
      foldS State.releaseReset s free
    else if s.sys.overMa && decide (ma < 38000) then
      ({ s with sys := { s.sys with overMa := false } } : State).syncThrottle
    else s

end Sys2Proof.Machine
end

