-- ==== Sys2Proof/Machine/TimeSync.lean ====
section
/-!
DEFINITION. Wall time (R347 to R349): time flits, 802.1AS messages, the free-running master, steps and slews.
-/
namespace Sys2Proof.Machine

/-- Wall time as this device tracks it, valid or not. -/
def State.wallRaw (s : State) : Nat := (s.now + s.time.wallOff) % 2 ^ 64

/-- The epochs fall on the Wall-time grid, or are about to move onto it. -/
def State.onGrid (s : State) : Bool := s.wallEpochs && (s.get 0x9060 7 == 1 || s.time.realign)

/-- Wall time moved by `d` ns; the stamps of time flits are in it. -/
def State.shiftWall (s : State) (d : Int) : State :=
  let off := ((s.time.wallOff : Int) + d) % 2 ^ 64
  let fix := fun v : Nat => if v = 0 then 0 else ((v : Int) + 10 * d).toNat
  { s with time := { s.time with wallOff := off.toNat },
           fabric := { s.fabric with ports := s.fabric.ports.map (fun r : PortLinkRun => { r with timeSent := fix r.timeSent, timeGot := fix r.timeGot }) } }

/-- Wall time stepped: epochs on the grid realign, and armed commits are released by the stepped time (R23, R53). -/
def State.stepWall (s : State) (d : Int) : State :=
  let grid := s.onGrid
  (((s.shiftWall d).when grid State.realign)).releaseWall

/-- Wall time slewed by `d` ns: the instants of the grid move in device time. -/
def State.slewWall (s : State) (d : Int) : State :=
  let grid := s.onGrid
  let s := s.shiftWall d
  (if grid then { s with time := { s.time with nextEpoch := max s.now ((s.time.nextEpoch : Int) - d).toNat } } else s).releaseWall

/-- WALL_VALID becomes 1. -/
def State.wallValid (s : State) : State :=
  let s := (s.put 0x9060 3 1).setFlag (okey 0 0x7821 0) 0
  (s.when (s.get 0x9060 6 == 1) State.realign).releaseWall

/-- WALL_VALID becomes 0: epochs go on with the last period and phase. -/
def State.wallLost (s : State) : State :=
  let s := ((s.put 0x9060 3 0).setFlag (okey 0 0x7821 0) 1).withdrawWall
  let s := if s.get 0x9060 7 == 1 || s.time.realign then
      { s with time := { s.time with nextEpoch := max s.now (s.time.lastEpoch + s.period), realign := false } }
    else s
  s.put 0x9060 7 0

/-- An offset to the parent measured, in ps (R348): counted toward WALL_VALID, and corrected by a slew whose amount is
free within SLEW_PPM of the time since the last one, or by a step. -/
def State.takeOffset (s : State) (ps : Int) (locked : Nat) : State :=
  let near := decide (ps.natAbs ≤ 10000)
  let since := s.now - s.time.syncAt
  let s := s.putI 0x7820 8 (ps.tdiv 1000)
  let s := { s with time := { s.time with good := if near then s.time.good + 1 else 0, bad := if near then 0 else s.time.bad + 1,
                                          syncAt := s.now } }
  let s := if s.get 0x9060 3 = 0 ∧ 16 ≤ s.time.good then (s.put 0x7820 6 locked).wallValid
           else if s.get 0x9060 3 = 1 ∧ 16 ≤ s.time.bad then (s.put 0x7820 6 1).wallLost else s
  let ns := ps.natAbs / 1000
  if s.get 0x7820 3 ≤ ns then
    (s.stepWall (-(ps.tdiv 1000))).raise 0x7821 0 2 sevNotice 0 []
  else
    let most := min ns (since * s.get 0x7820 4 / 1000000)
    let d : Int := s.freeW.toNat % (most + 1)
    s.useFree.slewWall (if 0 < ps then -d else d)

/-- TIME_FLIT_RX: a time flit with its `sent` time, the time `got` at which the partner received our last one (0 for
none), both in 0.1 ns; `tenth` is the fraction of our receive time, and `master` the node that the election among the
nodes' TIME_SOURCE and TIME_PRIORITY gives (R347; above 63 for none). -/
def execTimeFlitRx (t port sent got tenth master : Nat) (s : State) : Host.Outcome State Fault Refusal :=
  at_ t s fun s =>
    if !s.linkRuns port then s
    else
      let r := s.link port
      let here := s.wallRaw * 10 + min 9 tenth
      let s := s.putLink { r with timeGot := here }
      let s := s.setMaster (if 64 ≤ master then 0xFF else master)
      if r.timeSent = 0 ∨ got = 0 then s
      else
        let delay := (((got : Int) - sent) - ((r.timeSent : Int) - here)) * 50 + s.getI (chIdx port) 4
        let s := s.put (chIdx port + 1) 6 (min delay.toNat (2 ^ 32 - 1))
        if master < 64 && master != s.selfNode && (s.route master).elim false (fun x => x == port) then
          let s := if s.get 0x7820 6 = 2 then s else s.put 0x7820 6 1
          s.takeOffset (((here : Int) - sent) * 100 - delay) 2
        else s

/-- GPTP_MESSAGE_RX: an 802.1AS time message on MAC `mac`: the origin time and the path delay that the message exchange
gives, in ns. The receive time has 8 ns resolution at the MAC, corrected by RX_DELAY_NS (R468). It acts on the node that
takes its time from that MAC and is the master, or is a single device. -/
def execGptpMessageRx (t mac origin path : Nat) (s : State) : Host.Outcome State Fault Refusal :=
  edgeClocked t 33 s fun s =>
    let me := s.selfNode
    let single := s.fabric.topology == 0
    let up := decide (mac < 2) && s.get (ethIdx mac + 1) 1 == 1 && s.pdOn 18
    let s := s.when up (fun s => s.bump (ethIdx mac + 1) 3)
    if !up || s.get 0x7820 1 != mac + 1 || !(single || s.get 0x7820 7 == me) then s
    else
      let s := s.setMaster me
      let rx : Int := (s.wallRaw / 8 * 8 : Nat) - (s.get (ethIdx mac) 0xA : Nat)
      let s := if s.get 0x9060 3 = 1 then s.put 0x7820 6 4 else s.put 0x7820 6 1
      s.takeOffset ((rx - origin - path) * 1000) 4

/-- TIME_SOURCE_LOST: the master's 802.1AS source is gone; Wall time runs on, valid on every node (R349). -/
def execTimeSourceLost (t : Nat) (s : State) : Host.Outcome State Fault Refusal :=
  at_ t s fun s =>
    let src := s.get 0x7820 1
    if (src = 1 ∨ src = 2) ∧ s.get 0x7820 6 = 4 then (s.put 0x7820 6 3).setFlag (okey 0 0x7821 0) 3 else s

/-- WALL_TIME_SET is accepted with TIME_SOURCE 3 only; the manual gives its refusal no code (DESIGN CHOICE, log entry 3). -/
def State.wallSetRefusal (s : State) (_v : Nat) : Option Nat :=
  if s.get 0x7820 1 = 3 then none else some (1 + s.freeW.toNat % 65535)

/-- The free-running master takes device time plus the offset written. While another node is the master the write changes no Wall time:
this node follows it (DEDUCED, log entry 108). -/
def State.wallSet (s : State) (v : Nat) : State :=
  if s.get 0x7820 7 ≠ 0xFF ∧ s.get 0x7820 7 ≠ s.selfNode then s
  else
  let valid := s.get 0x9060 3 = 1
  let d : Int := (v : Int) - s.time.wallOff
  let s := ((s.put 0x7820 6 4).put 0x7820 0xA 1).setMaster s.selfNode
  if valid then s.stepWall d else (s.shiftWall d).wallValid

/-- WALL_TIME_SET: a write of TimeSync (0x7820:05). -/
def execWallTimeSet (t : Nat) (ini : Ini) (v : Word) (s : State) : Host.Outcome State Fault Refusal :=
  at_ t s fun s =>
    let r := s.writeAt ini 0x7820 5 v State.wallSetRefusal State.wallSet
    if s.get 0x7820 1 = 3 then r else r.useFree

end Sys2Proof.Machine
end

