-- ==== Sys2Proof/Machine/Live.lean ====
section
/-!
DEFINITION. What a read of an object returns (R34, R39, R41, R56, R443): the objects whose value is computed when it is
read, and the read itself.
-/
namespace Sys2Proof.Machine

/-- The power domain whose units run from a clock domain (R442, R444); 0 for the clocks that are always on. -/
def State.clockOn (s : State) (k : Nat) : Bool :=
  let any := fun (l : List Nat) => l.any s.pdOn
  match k with
  | 3 => s.pdOn 1
  | 4 => s.pdOn 2
  | 6 => any [6, 7, 8]
  | 7 => s.pdOn 8
  | 8 => any [11, 12] && !s.sys.stopped
  | 9 => s.pdOn 19
  | 10 => s.pdOn 4
  | 11 => s.pdOn 5
  | 32 => s.pdOn 14
  | 33 | 34 | 36 => s.pdOn 17
  | 35 => s.pdOn 16
  | 37 | 38 => s.pdOn 18
  | 40 => s.pdOn 15
  | _ =>
    if 12 ≤ k ∧ k < 28 then (s.headRun (k - 12)).isSome
    else if 28 ≤ k ∧ k < 32 then s.pdOn 13 && s.get (chIdx (k - 28) + 1) 1 != 0
    else true

/-- Nominal frequency of a clock domain in Hz (R444), as it runs now. -/
def State.clockHz (s : State) (k : Nat) : Nat :=
  match k with
  | 1 => 32768
  | 2 => 38400000
  | 3 => 400000000
  | 4 => 1600000000
  | 5 | 9 | 32 => 1000000000
  | 6 => 1200000000
  | 7 => 800000000
  | 8 => if s.sys.hot || s.sys.overMa then 700000000 else 1400000000
  | 10 | 11 => s.opRate (s.get 0x3000 6) * 125000
  | 33 => 24576000
  | 34 => 22579200
  | 35 => 48000000
  | 36 => 192000000
  | 37 => 80000000
  | 38 => 312500000
  | 39 => 200000000
  | 40 => 600000000
  | _ =>
    if 12 ≤ k ∧ k < 28 then (s.headEntry (k - 12)).elim 0 (fun h => h.clockKhz * 1000)
    else if 28 ≤ k ∧ k < 32 then s.get (chIdx (k - 28) + 1) 3 * 7812500
    else 0

/-- A ClockDomain record (0x9080 + k). -/
def State.clockObj (s : State) (k sub : Nat) : Option Nat :=
  let st := if !s.clockOn k then 0
    else match clockPll k with
      | some n => if s.sys.faulty.contains n then 3 else if s.noLock n then 1 else 2
      | none => 2
  match sub with
  | 1 => some (if k = 1 then 0 else if k = 2 then 1 else 2)
  | 2 => some (if st = 2 then s.clockHz k else 0)
  | 3 => some st
  | _ => none

/-- SurfaceQuery (0x3480) for a partition; sub-indices 05 and 06 are P0's. -/
def State.surfaceQuery (s : State) (p sub : Nat) : Option Nat :=
  match s.handleSurf p (s.getB p 0x3480 1) with
  | none => if 2 ≤ sub then some 0 else none
  | some (x, f) =>
    match sub with
    | 2 => some (if f.lost then 3 else if (s.migOf f.id).isSome then 2 else 1)
    | 3 => some f.size
    | 4 => some x.aper
    | 5 => some (if p = 0 then f.loc else 0)
    | 6 => some (if p = 0 then f.group else 0)
    | 7 => some (0xFFFFF - x.gen)
    | _ => none

/-- LEVELS of SpecialPins: input levels as noted, outputs as driven. -/
def State.pinLevels (s : State) : Nat :=
  let v := setBit (s.get 0x9700 1) 0 (s.get 0x8C60 2 == 1)
  let v := setBit (setBit v 1 s.ev.alivePin) 3 s.twin.aliveOut
  (List.range 8).foldl (fun v n => setBit v (13 + n) (bit (s.get 0x89A0 0xA) n)) v

/-- The value of an object that is computed when it is read, at a canonical index. -/
def State.liveAt (s : State) (ini : Ini) (idx sub : Nat) : Option Int :=
  let nat := fun (o : Option Nat) => o.map (fun v => (v : Int))
  let n := fun (v : Nat) => some (v : Int)
  if idx = 0x9060 then (if sub = 1 then n s.now else if sub = 2 then n s.wallNow else none)
  else if idx = 0x1100 ∧ sub = 4 then n s.pendingMask
  else if idx = 0x1130 ∧ sub = 2 then n ((s.dict.ports.find? (fun x => x.part == ini.part)).elim (s.getB ini.part 0x1130 2) (fun x => x.offset))
  else if 0x1181 ≤ idx ∧ idx < 0x11A1 ∧ ini.part ≠ 0 ∧ s.get idx 2 ≠ ini.part then n 0
  else if idx = 0x2010 ∧ sub = 4 then n (if s.get 0x2010 1 = 1 then s.maskSets else 0)
  else if idx = 0x2110 ∧ sub = 5 then n (if s.get 0x2110 3 = 0 then 0 else (s.sec.authUntil - s.now + 999999999) / 1000000000)
  else if 0x3400 ≤ idx ∧ idx < 0x3410 then
    let p := idx - 0x3400
    (match sub with
    | 8 => n (s.place.handles.filter (fun h => h.live && h.part == p)).length
    | 9 => n (s.usedBytes p 0 / 1024)
    | 10 => n (ceilMib (s.usedBytes p 1))
    | _ => none)
  else if 0x3440 ≤ idx ∧ idx < 0x3460 then
    (if sub = 1 then n (s.cfg.chanGroup (idx - 0x3440)) else if sub = 2 then n (if s.chanUsable (idx - 0x3440) then 1 else 0) else none)
  else if 0x3460 ≤ idx ∧ idx < 0x3470 then
    (if sub = 3 then n (s.groupMib (idx - 0x3460)) else if sub = 4 then n (ceilMib (s.groupUsed (idx - 0x3460))) else none)
  else if idx = 0x3470 ∧ sub = 9 then
    n ((List.range s.cfg.engines).foldl (fun b e => if s.get (0x4080 + e) 1 = 0 then b else b + 2 ^ e) 0)
  else if idx = 0x3480 then nat (s.surfaceQuery ini.part sub)
  else if 0x5000 ≤ idx ∧ idx < 0x5400 ∧ idx % 0x40 = 1 ∧ sub = 2 then
    let h := (idx - 0x5000) / 0x40
    n (match s.headEntry h, s.headRun h with
      | some e, some r => s.lineOf e r
      | _, _ => 0)
  else if 0x6B00 ≤ idx ∧ idx < 0x6C00 ∧ sub = 2 ∧ !s.markhorUp ∧ (s.region (idx - 0x6B00)).isSome then n codeKeyServiceUnavailable
  else if idx = 0x6800 ∧ sub = 2 then n (if s.isLost .sentinel 0 then 1 else 0)
  else if 0x7400 ≤ idx ∧ idx < 0x7500 ∧ 8 ≤ idx % 16 then
    let x := s.queueSt ((idx - 0x7400) / 16) (idx % 8)
    (match sub with
    | 5 => some ((s.deficitNow x).tdiv 1000)
    | 6 => n (x.ready.elim 0 (fun r => min (2 ^ 32 - 1) ((s.now - r) / 1000)))
    | _ => none)
  else if idx = 0x7900 ∧ sub = 4 then
    let me := s.selfNode
    n ((if s.fabric.gateway = 1 then me else 0xFF) + 256 * (if s.fabric.gateway = 2 then me else 0xFF))
  else if 0x8500 ≤ idx ∧ idx < 0x8560 ∧ idx % 16 = 3 ∧ sub = 8 then
    n ((s.axis ((idx - 0x8500) / 16)).handEnd.elim 0 (fun e => (e - s.now + 999999) / 1000000))
  else if 0x8E00 ≤ idx ∧ idx < 0x8E40 ∧ 1 ≤ sub ∧ sub % 4 = 3 then n (s.counterValue (16 * (idx - 0x8E00) + (sub - 1) / 4))
  else if 0x9000 ≤ idx ∧ idx < 0x9014 ∧ sub = 4 then n (if s.planUse (idx - 0x9000) then 1 else 0)
  else if 0x9081 ≤ idx ∧ idx < 0x90A9 then nat (s.clockObj (idx - 0x9080) sub)
  else if 0x9500 ≤ idx ∧ idx < 0x9508 ∧ (sub = 1 ∨ sub = 2) then n (s.get idx sub &&& s.ownedMask ini (idx - 0x9500))
  else if idx = 0x9700 ∧ sub = 1 then n s.pinLevels
  else none

/-- A state or counter object of a domain that is off (R443). -/
def State.readsOff (s : State) (o : Obj) (idx : Nat) : Bool :=
  let d := s.cfg.objDomain idx
  (o.row.acc == .ro || o.row.status.isSome) && d != 0 && (s.get (0x9000 + d) 1 == 0 || s.edgeGoneOf d)

/-- A read of an object's slot by an initiator with read right: the 64 bits, and what the read does: RngData DATA gives fresh
bits, DomainPort DATA moves on, and a free value is used by the read of a counter that counts. -/
def State.slotOf (s : State) (ini : Ini) (o : Obj) (idx sub : Nat) : State × Word :=
  if idx = 0x9181 ∧ sub = 1 then s.rngRead ini.part
  else if idx = 0x1130 ∧ sub = 3 then s.portRead ini
  else if s.readsOff o idx then (s, 0)
  else
    let v := s.slotValue ((s.liveAt ini idx sub).map wInt) ini o idx sub
    let free := decide (0x8E00 ≤ idx ∧ idx < 0x8E40) && decide (1 ≤ sub) && sub % 4 == 3 && s.counts (16 * (idx - 0x8E00) + (sub - 1) / 4)
    (if free then s.useFree else s, v)

/-- A read of a slot on any path: the state after it, the value, and the code of a read that is not answered (R4, R34). -/
def State.readAt (s : State) (ini : Ini) (idx sub : Nat) : State × Word × Nat :=
  let i := canonIdx idx
  match findObj s.cfg i sub with
  | none => (s, 0, codeObjectAbsent)
  | some o => if !s.hasRight ini false o i sub then (s, 0, codeNoReadAccess)
              else
                let a := s.slotOf ini o i sub
                (a.1, a.2, 0)

end Sys2Proof.Machine
end

