-- ==== Sys2Proof/Machine/Raster.lean ====
section
/-!
DEFINITION. A head's raster (R173, R182): the start of vertical blank, and the active pixels.
-/
namespace Sys2Proof.Machine

/-- The values that an ALIGN commit left to a head's running frame are given up (R52). -/
def State.takeRaster (s : State) (n : Nat) : State :=
  { s with dict := { s.dict with rasters := s.dict.rasters.filter (fun r => r.head != n) } }

/-- The start of a vertical blank of a head (R173). -/
def State.startBlank (s : State) (p : Plan) (h : PlanHead) (first : Bool) : State :=
  let n := h.head
  let i := headIdx n
  let s := s.wrap32 (i + 1) 1
  let s := ((s.takeRaster n).applyVblank n).flipTiles n
  let s := (s.latchClone p h).measureLock p h
  let s := (s.startWire p h).captureStart p h
  let s := (s.portVblank h first).startFetch p h
  s.endFlagPeriods .perFrame (fun k => decide (i ≤ keyIdx k ∧ keyIdx k < i + 0x40))

/-- VBLANK_START of a head whose timing runs: its first, or the one at the start of line V_ACTIVE, every active position having
fallen due (R171). -/
def execVblankStart (t head : Nat) (s : State) : Host.Outcome State Fault Refusal :=
  at_ t s fun s =>
    match s.plan.active, s.headRun head with
    | some p, some r =>
      match p.headOf head with
      | none => s
      | some h => if r.first || !r.blank && decide (h.hActive * h.vActive ≤ r.scan) then s.startBlank p h r.first else s
    | _, _ => s

/-- An active pixel of a head: delivered at the wire point, fed to the wire-point units, and handed to the link with the
pixel reactions in force (R182, R215, R226). -/
def State.scanOne (s : State) (p : Plan) (h : PlanHead) : State :=
  match ((s.rasterView h.head).scanPixel p h).2 with
  | none => s
  | some (x, y, w) =>
    let s := (s.scanPixel p h).1
    let s := match s.headRun h.head with
      | some r => s.putRun { r with last := some w }
      | none => s
    let s := (s.feedWire p h.head x y w).capturePixel h.head w
    let v := s.replacePixel p h.head x y w
    s.emit (.pixel h.head x y v.1 v.2.1 v.2.2)

/-- PIXEL_SCAN. -/
def execPixelScan (t head : Nat) (s : State) : Host.Outcome State Fault Refusal :=
  at_ t s fun s =>
    match s.plan.active with
    | some p => (p.headOf head).elim s (fun h => s.scanOne p h)
    | none => s

end Sys2Proof.Machine
end

