-- ==== Sys2Proof/Machine/Window.lean ====
section
/-!
DEFINITION. Writes and reads of the dictionary by any path (R38 to R45, R58, R59, R61): what the owning chapters refuse and
do for each object that acts on a write, the control window, the half latches, snapshots and DomainPort.
-/
namespace Sys2Proof.Machine

/-! ## Block objects -/

/-- A normal-world write of PinAttr, DmaAttr or IrqAttr that would change an entry whose SECURE bit is 1, or set one, is refused
as a whole (R289). -/
def State.attrRefusal (s : State) (ini : Ini) (idx : Nat) (d : List Byte) : Option Nat :=
  let old := (s.getBlk (okey 0 idx 0)).data
  if !ini.secure && (List.range d.length).any (fun i => numAt d i 1 != numAt old i 1 && (bit (numAt old i 1) 4 || bit (numAt d i 1) 4))
  then some codeNoWriteAccess else none

/-- What the chapters refuse of a completed write of a block object. -/
def State.blockOwn (ini : Ini) (env : Env) (idx sub : Nat) (s : State) (d : List Byte) : Option Nat :=
  if 0x2060 ≤ idx ∧ idx < 0x2063 then s.attrRefusal ini idx d
  else if idx = 0x2081 then
    (match env.fuse with
    | some (f, _, signed) => s.fuseRefusal f signed
    | none => s.markhorDown)
  else if idx = 0x2100 ∨ idx = 0x2120 then s.markhorDown
  else if idx = 0x2111 then s.tokenRefusal d
  else if idx = 0x4001 then s.stageRefusal
  else if 0x7200 ≤ idx ∧ idx < 0x7400 ∧ sub = 1 then s.pickRefusal (idx - 0x7200)
  else if 0x8100 ≤ idx ∧ idx < 0x8300 ∧ sub = 3 then s.maskRefusal (idx - 0x8100) d
  else none

/-- What a completed write of a block object does beside being stored; `old` is its content before. -/
def State.blockEff (ini : Ini) (env : Env) (idx sub : Nat) (old : List Byte) (s : State) (d : List Byte) : State :=
  if idx = 0x2081 then
    (match env.fuse with
    | some (f, v, _) => s.fuseWritten ini f v
    | none => s)
  else if idx = 0x2100 then s.bundleWritten ini d
  else if idx = 0x2111 then s.tokenWritten ini d
  else if idx = 0x2120 then s.firmwareWritten d env.sigOk
  else if idx = 0x30D8 ∧ sub = 1 then (s.libraryWrite d env.sigOk).1
  else if idx = 0x4001 then s.beginValidation
  else if 0x7200 ≤ idx ∧ idx < 0x7400 ∧ sub = 1 then s.pickWritten (idx - 0x7200) d
  else if 0x8100 ≤ idx ∧ idx < 0x8300 ∧ sub = 3 then s.maskWritten (idx - 0x8100) d
  else if idx = 0x8D00 ∧ sub = 2 then s.clearOvf old d
  else if isUserBlock (okey 0 idx sub) then s.userWritten (okey 0 idx sub)
  else s

/-- What an answered write of a block object leaves beside its effect: the code of a library entry is what its RESULT
says, and a refused hit mask is flagged. -/
def State.blockAfter (idx sub : Nat) (a : State × Nat) : State × Nat :=
  if idx = 0x30D8 ∧ sub = 1 ∧ a.2 = 0 then (a.1, a.1.get 0x30D8 4)
  else if 0x8100 ≤ idx ∧ idx < 0x8300 ∧ sub = 3 then (a.1.maskAnswered a.2, a.2)
  else a

/-- A completed write of a block object, with its code. -/
def State.writeContent (s : State) (ini : Ini) (env : Env) (idx sub : Nat) (d : List Byte) : State × Nat :=
  let i := canonIdx idx
  let old := (s.getBlk (okey 0 i sub)).data
  State.blockAfter i sub (s.writeBlock ini idx sub d (fun s d => s.blockOwn ini env i sub d) (fun s d => s.blockEff ini env i sub old d))

/-! ## COMMIT_LEN of DomainPort (R61) -/

/-- What the chapter of the selected object refuses of the staged bytes. -/
def State.stagedOwn (s : State) (ini : Ini) (env : Env) (n : Nat) : Option Nat :=
  match s.lenRefusal ini n with
  | some c => some c
  | none => (s.portObj ini.part).bind (fun x => s.blockOwn ini env (keyIdx x.1.key) (keySub x.1.key) (x.1.staged.take n))

/-- The staged bytes become the content. -/
def State.stagedDone (s : State) (ini : Ini) (env : Env) (n : Nat) : State :=
  match s.portObj ini.part with
  | none => s
  | some (x, o) =>
    let d := x.staged.take n
    let old := (s.getBlk x.key).data
    let s := s.putPort { x with staged := [] }
    let s := if o.row.acc = .wo then s else s.storeBlock o x.key d
    s.blockEff ini env (keyIdx x.key) (keySub x.key) old d

/-- A write of COMMIT_LEN, with its code. -/
def State.lenWrite (s : State) (q : Wr) (env : Env) : State × Nat :=
  let obj := (s.portObj q.ini.part).elim (0, 0) (fun x => (keyIdx x.1.key, keySub x.1.key))
  State.blockAfter obj.1 obj.2 (s.write q (fun s n => s.stagedOwn q.ini env n) (fun s n => s.stagedDone q.ini env n))

/-! ## Snapshots (R59) -/

/-- One member read for its set's owner. -/
def State.sample (s : State) (n k : Nat) : State × Word × Nat :=
  let m := s.get (0x11C0 + n) (4 + k)
  if m = 0 then (s, 0, 0) else s.readAt ⟨n, false, .window⟩ (m / 256) (m % 256)

/-- A sample put into its set: its value, and whether the owner may not read the member. -/
def State.sampled (s : State) (n k : Nat) (a : State × Word × Nat) : State :=
  let i := 0x11C0 + n
  (s.putK (okey 0 i (0x24 + k)) (if a.2.2 = 0 then a.2.1 else 0)).put i 0x44 (setBit (s.get i 0x44) k (a.2.2 != 0))

/-- A capture of a set: every member is read at one instant, before a sample is put into the set; what the reads do beside
(R41, R307) they do in the members' order. -/
def State.capture (s : State) (n : Nat) : State :=
  let r := (List.range 32).foldl (fun (a : State × List (State × Word × Nat)) k => let x := a.1.sample n k; (x.1, a.2 ++ [x])) (s, [])
  let s := foldS (fun s k => s.sampled n k (nth (s, 0, 0) r.2 k)) r.1 (List.range 32)
  (s.put (0x11C0 + n) 2 s.now).wrap32 (0x11C0 + n) 3

/-- TRIGGER written: the set is captured, or waits behind a running capture. -/
def State.trigger (s : State) (n : Nat) (busy : Bool) : State :=
  if busy then { s with dict := { s.dict with deferred := s.dict.deferred ++ [n] } } else s.capture n

/-- What a Snapshot response carries after STATUS (R77). -/
def State.snapshotAnswer (s : State) (n : Nat) : List Byte := leBytes 8 (s.get (0x11C0 + n) 2) ++ leBytes 4 (s.get (0x11C0 + n) 3)

/-! ## Scalar objects -/

/-- The binding that a path is of. -/
def iniBinding (ini : Ini) : Option Nat :=
  match ini.path with
  | .tilsol k => some k
  | _ => none

/-- The refusal of a write of TilsolRekey (R76, R309). -/
def State.rekeyRefusal (s : State) (ini : Ini) (v : Nat) : Option Nat :=
  match iniBinding ini with
  | none => some codeNoWriteAccess
  | some k =>
    if v ≠ (s.get (0x1200 + k) 9 + 1) % 256 then some codeKeyGenMismatch else s.markhorDown

/-- A re-key asked of Markhor. -/
def State.rekeyAsked (s : State) (ini : Ini) : State :=
  match iniBinding ini with
  | none => s
  | some k => ({ s with til := { s.til with rekeying := k :: s.til.rekeying.filter (fun x => x != k) } } : State).post 3 k

/-- The refusal of a mailbox DOORBELL (R71): the length as written, and a mailbox that still waits for its answer. -/
def State.mailRefusal (s : State) (q : Wr) : Option Nat :=
  if q.raw.toNat < 24 ∨ 4120 < q.raw.toNat then some codeBadLength
  else if s.til.mailbox.any (fun (m : Mail) => m.part == q.ini.part) then some codeServerBusy
  else none

/-- What the chapters refuse of a write of a scalar object, `v` being the value to be stored. -/
def State.scalarOwn (q : Wr) (idx : Nat) (s : State) (v : Nat) : Option Nat :=
  let sub := q.sub
  if idx = 0x1060 then (if sub = 3 then s.mailRefusal q else none)
  else if idx = 0x2002 then (if sub = 2 then s.restartRefusal v else none)
  else if idx = 0x2101 then s.rekeyRefusal q.ini v
  else if idx = 0x2110 then (if sub = 1 then s.markhorDown else none)
  else if idx = 0x4002 then (if sub = 3 then s.stageRefusal else none)
  else if idx = 0x6800 then s.releaseRefusal v
  else if 0x6B00 ≤ idx ∧ idx < 0x6C00 then (if sub = 1 then s.requestRefusal q.ini (idx - 0x6B00) else none)
  else if idx = 0x7820 then (if sub = 5 then s.wallSetRefusal v else none)
  else if 0x8980 ≤ idx ∧ idx < 0x8990 then (if sub = 5 then s.guestRingRefusal (idx - 0x8980) v else none)
  else if idx = 0x9020 then (if sub = 1 then s.domainResetRefusal v else none)
  else if 0x9051 ≤ idx ∧ idx < 0x9060 then s.partRefusal (idx - 0x9050)
  else
    match instAt idx 0x7813 4 4 with
    | some k => s.foxRefusal k
    | none =>
    match instAt idx 0x8013 8 4 with
    | some k => s.selftestRefusal k
    | none =>
    match instAt idx 0x8502 16 6 with
    | some a => if sub = 2 then s.homeRefusal a else none
    | none =>
    match instAt idx 0x9411 2 16 with
    | some b => if sub = 5 then s.i2cRefusal b else none
    | none =>
    match instAt idx 0x9441 2 4 with
    | some u => if sub = 3 then busyRefusal (s.low.spi.contains u) else none
    | none =>
    match instAt idx 0x9461 2 4 with
    | some u => if sub = 2 then busyRefusal (s.low.uart.contains u) else none
    | none => none

/-- What a write of a scalar object of the dictionary services, of security, memory, plans and integrity does beside being
stored; `old` is its value before. -/
def State.scalarEff1 (ini : Ini) (env : Env) (idx sub : Nat) (s : State) (v : Nat) : State :=
  if idx = 0x1060 then
    (if sub = 3 then { s with til := { s.til with mailbox := s.til.mailbox ++ [(⟨ini.part, bytesAt env.host 0 v, false⟩ : Mail)] } }
    else s)
  else if idx = 0x1120 then s.eraseStored v
  else if idx = 0x1130 then (if sub = 1 then s.portSelect ini v else s.portOffset ini.part v)
  else if 0x11C0 ≤ idx ∧ idx < 0x11D0 then (if sub = 1 then s.trigger (idx - 0x11C0) env.busy else s)
  else if idx = 0x2002 then (if sub = 2 then s.markhorRestart else s)
  else if idx = 0x2101 then s.rekeyAsked ini
  else if idx = 0x2110 then (if sub = 1 then s.challenge ini else if sub = 6 then s.endAuth else s)
  else if idx = 0x30D8 then s.eraseId v
  else if idx = 0x4002 then (if sub = 3 then s.dmaRead env.host else s)
  else if idx = 0x6800 then s.releaseRegion v
  else if 0x6900 ≤ idx ∧ idx < 0x6A00 then
    (if sub = 9 then { s with integ := { s.integ with selects := (idx - 0x6900) :: s.integ.selects.filter (fun n => n != idx - 0x6900) } }
    else s)
  else if 0x6B00 ≤ idx ∧ idx < 0x6C00 then s.requestState (idx - 0x6B00) v
  else s

/-- The same for queues, the fabric, touch, haptics and motion. -/
def State.scalarEff2 (env : Env) (idx sub old : Nat) (s : State) (v : Nat) : State :=
  if 0x7600 ≤ idx ∧ idx < 0x7610 then s.fenceWritten (idx - 0x7600) (sub - 1) old v
  else if idx = 0x7820 then (if sub = 5 then s.wallSet v else s)
  else
    match queueAt idx with
    | some (p, n) =>
      if sub = 1 then s.queueEnabled p n old v
      else if sub = 7 then s.settleQueue p n
      else if sub = 0xA then s.abortQueue p n (nth 0 env.done 0) (nth [] env.rings 0)
      else s
    | none =>
    match instAt idx 0x7813 4 4 with
    | some k => s.foxWritten k
    | none =>
    match instAt idx 0x8013 8 4 with
    | some k => s.selftestWritten k v
    | none =>
    match instAt idx 0x8303 4 8 with
    | some c => s.hapticClear c v
    | none =>
    match instAt idx 0x8502 16 6 with
    | some a => if sub = 2 then s.homeStart a v else if sub = 3 then s.axisClear a v else s
    | none =>
    match instAt idx 0x8580 4 8 with
    | some k => if sub = 3 then s.encClear k v else s
    | none => s

/-- The same for events, telemetry, power, low-speed interfaces and user storage. -/
def State.scalarEff3 (ini : Ini) (env : Env) (idx sub old : Nat) (s : State) (v : Nat) : State :=
  if 0x8C40 ≤ idx ∧ idx < 0x8C50 then (if sub = 1 then s.evRingWritten (idx - 0x8C40) old v else s)
  else if 0x8E00 ≤ idx ∧ idx < 0x8E40 then
    (if sub % 4 = 1 then s.configWritten (16 * (idx - 0x8E00) + (sub - 1) / 4) old else s)
  else if 0x8F00 ≤ idx ∧ idx < 0x8F08 then
    (if sub = 1 then s.traceEnabled (idx - 0x8F00) old v else if sub = 7 then s.traceConsumer (idx - 0x8F00) old v else s)
  else if idx = 0x89A0 then s.raiseAmps
  else if idx = 0x9020 then (if sub = 1 then s.domainResetEffect v else s.resetAndStart 2)
  else if 0x9051 ≤ idx ∧ idx < 0x9060 then s.restartPart (idx - 0x9050) env.done env.rings
  else if 0x9500 ≤ idx ∧ idx < 0x9508 then (if sub = 1 then s.outWritten ini (idx - 0x9500) old v else s)
  else if 0xC000 ≤ idx then s.userWritten (okey 0 idx sub)
  else
    match instAt idx 0x9411 2 16 with
    | some b => if sub = 5 then s.i2cStart b else if sub = 6 then s.recoverBus b else s
    | none =>
    match instAt idx 0x9441 2 4 with
    | some u => if sub = 3 then s.spiStart u else s
    | none =>
    match instAt idx 0x9461 2 4 with
    | some u => if sub = 2 then s.uartSend u v else s
    | none => s

/-- What a write of a scalar object does beside being stored. -/
def State.scalarEff (q : Wr) (env : Env) (idx old : Nat) (s : State) (v : Nat) : State :=
  if idx < 0x7000 then s.scalarEff1 q.ini env idx q.sub v
  else if idx < 0x8800 then s.scalarEff2 env idx q.sub old v
  else s.scalarEff3 q.ini env idx q.sub old v

/-- A write of a scalar object through a window of R38, 64 bits wide, by any path, with its code. -/
def State.writeScalar (s : State) (q : Wr) (env : Env) : State × Nat :=
  let i := canonIdx q.idx
  if i = 0x1100 ∧ q.sub = 1 then s.commitWrite q.ini q.win q.raw
  else if i = 0x1120 ∧ q.sub = 1 then s.storeWrite q.ini q.win q.raw
  else if i = 0x1128 ∧ q.sub = 1 then s.lockWrite q.ini q.win q.raw
  else if i = 0x1130 ∧ q.sub = 3 then s.dataWrite q
  else if i = 0x1130 ∧ q.sub = 4 then s.lenWrite q env
  else if i = 0x4000 ∧ q.sub = 1 then s.planAction q.ini q.win q.raw
  else if i = 0x9100 ∧ q.sub = 1 then s.bistWrite q.ini q.win q.raw
  else
    match queueAt i, instAt i 0x8301 4 8 with
    | some (p, n), _ =>
      if q.sub = 6 then s.doorbell q p n
      else s.write q (fun s v => s.scalarOwn q i v) (fun s' v => s'.scalarEff q env i (s.get i q.sub) v)
    | none, some c =>
      if q.sub = 1 then s.playWrite q c else s.write q noOwn noEff
    | none, none =>
      let free := decide (i = 0x7820 ∧ q.sub = 5) && s.get 0x7820 1 != 3
      let s := if i = 0x2110 ∧ q.sub = 1 then s.settleChallenges else if immediateAudio i q.sub then s.audioNow else s
      let a := s.write q (fun s v => s.scalarOwn q i v) (fun s' v => s'.scalarEff q env i (s.get i q.sub) v)
      (if free then a.1.useFree else a.1, a.2)

/-! ## The control window (R38, R40, R58) -/

/-- A write through the control window: an access width or alignment that R40 does not allow is refused, a low half is held,
and anything else is a write of the 64 bits. -/
def State.winWrite (s : State) (ini : Ini) (win idx sub byte width : Nat) (v : Nat) (env : Env) : State × Nat :=
  let bad := (s.refuse ini idx sub codeAccessWidth, codeAccessWidth)
  let full := fun (s : State) (raw : Word) => s.writeScalar ⟨ini, win, idx, sub, raw⟩ env
  let slot := latchSlot win idx sub
  if width = 8 then (if byte = 0 then full s (w64 v) else bad)
  else if width = 4 ∧ byte = 0 then
    (if s.wideSlot idx sub then
      ({ s with dict := { s.dict with writeLatches := ⟨ini.part, ini.secure, slot, v % 2 ^ 32⟩ :: latchDrop s.dict.writeLatches ini } }, 0)
    else full s (s.extend32 idx sub v))
  else if width = 4 ∧ byte = 4 ∧ s.wideSlot idx sub then
    (match latchOf s.dict.writeLatches ini with
    | some x =>
      if x.slot = slot then
        full { s with dict := { s.dict with writeLatches := latchDrop s.dict.writeLatches ini } } (w64 (x.half + v % 2 ^ 32 * 2 ^ 32))
      else bad
    | none => bad)
  else bad

/-- The 64 bits of a slot, zero where the object is absent or may not be read (R4, R34). -/
def State.slotRead (s : State) (ini : Ini) (idx sub : Nat) : State × Nat :=
  let a := s.readAt ini idx sub
  (a.1, if a.2.2 = 0 then a.2.1.toNat else 0)

/-- A read through the control window (R40, R58); a misaligned one reads zero. -/
def State.winRead (s : State) (ini : Ini) (win idx sub byte width : Nat) : State × Nat :=
  let slot := latchSlot win idx sub
  if !(width = 1 ∨ width = 2 ∨ width = 4 ∨ width = 8) ∨ byte % width ≠ 0 then (s, 0)
  else if width = 4 ∧ s.wideSlot idx sub then
    if byte = 0 then
      let a := s.slotRead ini idx sub
      let l : HalfLatch := ⟨ini.part, ini.secure, slot, a.2 / 2 ^ 32⟩
      ({ a.1 with dict := { a.1.dict with readLatches := l :: latchDrop a.1.dict.readLatches ini } }, a.2 % 2 ^ 32)
    else
      match latchOf s.dict.readLatches ini with
      | some x =>
        if x.slot = slot then ({ s with dict := { s.dict with readLatches := latchDrop s.dict.readLatches ini } }, x.half)
        else let a := s.slotRead ini idx sub; (a.1, a.2 / 2 ^ 32)
      | none => let a := s.slotRead ini idx sub; (a.1, a.2 / 2 ^ 32)
  else
    let a := s.slotRead ini idx sub
    (a.1, a.2 / 2 ^ (8 * byte) % 2 ^ (8 * width))

end Sys2Proof.Machine
end

