-- ==== Sys2Proof/Machine/Tilsol.lean ====
section
/-!
DEFINITION. The Tilsol access protocol (chapter 03): taking a request, its operations, forwarding, mailboxes, pushes, and
the broadcasts.
-/
namespace Sys2Proof.Machine

/-! ## Operations (R77 to R83) -/

/-- How an operation ends: the state after it, STATUS and what follows it; `key` is not 0 where the answer waits for the
service behind an object, whose run has `started` or not. -/
structure TilDone where
  st : State
  status : Nat
  payload : List Byte
  key : Nat
  started : Bool
  deriving DecidableEq, Repr

def State.tilDone (s : State) (status : Nat) (payload : List Byte) : TilDone := ⟨s, status, payload, 0, true⟩

/-- A request that the manual gives no answer for: its STATUS is a free value (DESIGN CHOICE, log entry 3). -/
def State.tilOpen (s : State) : TilDone := s.useFree.tilDone (s.freeW.toNat % 2 ^ 32) []

/-- A write refused by Tilsol is refused under R44. -/
def State.tilRefuse (s : State) (ini : Ini) (idx sub code : Nat) : TilDone := (s.refuse ini idx sub code).tilDone code []

/-- Objects whose accepted write is answered when the service behind them has ended (R85, R112, R302, R308, R309, R311). -/
def State.waitKey (s : State) (env : Env) (idx sub : Nat) : Nat :=
  if idx = 0x1120 ∧ sub = 1 then (if s.dict.store.isSome then okey 0 0x1120 1 else 0)
  else if idx = 0x9100 ∧ sub = 1 then (if s.sys.bist = 0 then 0 else okey 0 0x9100 1)
  else if idx = 0x2101 ∧ sub = 1 then rekeyKey
  else if idx = 0x2081 then (if env.fuse.isSome then okey 0 0x2081 0 else 0)
  else if idx = 0x2100 ∨ idx = 0x2111 then okey 0 idx 0
  else if idx = 0x4001 ∧ sub = 0 then okey 0 0x4001 0
  else 0

/-- True of a code that refuses or aborts (R66, R67). -/
def isRefusal (c : Nat) : Bool := c != 0 && decide (c < 0xC2000000)

/-- Read. -/
def State.tilRead (s : State) (ini : Ini) (f : TilFrame) : TilDone :=
  let i := canonIdx f.head.index
  let sub := f.head.sub
  if !f.payload.isEmpty then s.tilDone codeBadLength []
  else
    match findObj s.cfg i sub with
    | none => s.tilDone codeObjectAbsent []
    | some o =>
      if !s.hasRight ini false o i sub then s.tilDone codeNoReadAccess []
      else if o.row.ty.isBlock then
        let k := okey (o.bankFor ini.part) i sub
        let n := (s.getBlk k).data.length
        if maxLength f.head.via < 4 + n then s.tilDone codeUseSegmented []
        else let a := s.blockRead k 0 n; a.1.tilDone 0 a.2
      else let a := s.slotOf ini o i sub; a.1.tilDone 0 (natBytes o a.2)

/-- Write. -/
def State.tilWrite (s : State) (ini : Ini) (f : TilFrame) (env : Env) : TilDone :=
  let idx := f.head.index
  let i := canonIdx idx
  let sub := f.head.sub
  let win := windowOf f.head
  let n := f.payload.length
  let answer := fun (a : State × Nat) (payload : List Byte) =>
    if isRefusal a.2 then a.1.tilDone a.2 []
    else let k := a.1.waitKey env i sub; (⟨a.1, a.2, if a.2 = 0 then [] else payload, k, true⟩ : TilDone)
  match findObj s.cfg i sub with
  | none => answer (s.writeScalar ⟨ini, win, idx, sub, 0⟩ env) []
  | some o =>
    if o.isDomain then s.tilRefuse ini idx sub codeUseSegmented
    else if o.row.ty.isBlock then
      if !o.lengthOk n then s.tilRefuse ini idx sub codeBadLength
      else if win ≠ 0 then answer (s.writeScalar ⟨ini, win, idx, sub, 0⟩ env) []
      else answer (s.writeContent ini env idx sub f.payload) []
    else if n ≠ natSize o then s.tilRefuse ini idx sub codeBadLength
    else
      let q : Wr := ⟨ini, win, idx, sub, natValue o f.payload⟩
      answer (s.writeScalar q env) (natBytes o (s.newValue q o (okey (o.bankFor ini.part) i sub)).1)

/-- ReadSeg (R79). -/
def State.tilReadSeg (s : State) (ini : Ini) (f : TilFrame) : TilDone :=
  let i := canonIdx f.head.index
  let sub := f.head.sub
  if f.payload.length ≠ 8 then s.tilDone codeBadLength []
  else
    match findObj s.cfg i sub with
    | none => s.tilDone codeObjectAbsent []
    | some o =>
      if !s.hasRight ini false o i sub then s.tilDone codeNoReadAccess []
      else if !o.row.ty.isBlock then s.tilOpen
      else
        let k := okey (o.bankFor ini.part) i sub
        let off := numAt f.payload 0 4
        let gen := s.blockGen o k
        if off ≠ 0 ∧ numAt f.payload 4 4 ≠ gen then (s.setFlag (okey ini.part 0x11B8 1) 5).tilDone codeGenerationAbort []
        else
          let total := (s.getBlk k).data.length
          let a := s.blockRead k off (min (total - off) (maxLength f.head.via - 12))
          a.1.tilDone 0 (leBytes 4 gen ++ leBytes 4 total ++ a.2)

def State.xferOf (s : State) (b k : Nat) : Option TilXfer := s.til.xfers.find? (fun (x : TilXfer) => x.binding == b && x.key == k)

def State.dropXfer (s : State) (b k : Nat) : State :=
  { s with til := { s.til with xfers := s.til.xfers.filter (fun (x : TilXfer) => !(x.binding == b && x.key == k)) } }

def State.putXfer (s : State) (x : TilXfer) : State :=
  let s := s.dropXfer x.binding x.key
  { s with til := { s.til with xfers := s.til.xfers ++ [x] } }

/-- A segment staged; the last one replaces the content. A refused last segment leaves the transfer as it was. -/
def State.tilStage (s : State) (ini : Ini) (f : TilFrame) (env : Env) (x : TilXfer) (data : List Byte) : TilDone :=
  let i := canonIdx f.head.index
  let staged := x.staged ++ data
  let n := leBytes 4 staged.length
  if x.total < staged.length then s.tilDone codeBadLength []
  else if staged.length = x.total then
    let a := s.writeContent ini env f.head.index f.head.sub staged
    if isRefusal a.2 then a.1.tilDone a.2 []
    else
      let s := a.1.dropXfer x.binding x.key
      (⟨s, a.2, n, s.waitKey env i f.head.sub, true⟩ : TilDone)
  else (s.putXfer { x with tag := f.head.tag, staged := staged, lastOff := x.staged.length, lastAt := s.now }).tilDone 0 n

/-- The refusal of a segment that opens a transfer. -/
def State.openRefusal (s : State) (ini : Ini) (f : TilFrame) (o : Obj) (b k total : Nat) : Option Nat :=
  match s.writeRefusal ⟨ini, 0, f.head.index, f.head.sub, 0⟩ true with
  | some c => some c
  | none =>
    if s.segmentBusy o k none (some b) then some codeDomainBusy
    else if !o.lengthOk total then some codeBadLength
    else none

/-- WriteSeg (R80). -/
def State.tilWriteSeg (s : State) (ini : Ini) (b : Nat) (f : TilFrame) (env : Env) : TilDone :=
  let i := canonIdx f.head.index
  let sub := f.head.sub
  if f.payload.length < 8 then s.tilDone codeBadLength []
  else
    match findObj s.cfg i sub with
    | none => s.tilRefuse ini f.head.index sub codeObjectAbsent
    | some o =>
      if !o.row.ty.isBlock then s.tilOpen
      else
        let k := okey (o.bankFor ini.part) i sub
        let off := numAt f.payload 0 4
        let total := numAt f.payload 4 4
        let data := f.payload.drop 8
        match s.xferOf b k with
        | none =>
          if off ≠ 0 then s.tilDone codeNoTransfer []
          else
            match s.openRefusal ini f o b k total with
            | some c => s.tilRefuse ini f.head.index sub c
            | none =>
              if 16 ≤ s.til.xfers.length then s.tilDone codeTransfersFull []
              else s.tilStage ini f env ⟨b, f.head.tag, k, total, [], 0, s.now⟩ data
        | some x =>
          if total ≠ x.total then (s.dropXfer b k).tilDone codeBadLength []
          else if off = x.staged.length then s.tilStage ini f env x data
          else if off = x.lastOff then (s.putXfer { x with tag := f.head.tag, lastAt := s.now }).tilDone 0 (leBytes 4 x.staged.length)
          else s.tilDone codeSegmentSequence []

/-- Commit (R81): a write of GROUP_MASK with MODE and AT_TIME from the payload. STATUS tells acceptance and the pre-check. -/
def State.tilCommit (s : State) (ini : Ini) (b : Nat) (f : TilFrame) : TilDone :=
  if f.payload.length ≠ 20 then s.tilDone codeBadLength []
  else
    let p := ini.part
    let mask := numAt f.payload 0 8
    let mode := numAt f.payload 8 4
    let at0 := numAt f.payload 12 8
    let client := some (b, f.head.tag)
    let r := s.write ⟨ini, 0, 0x1100, 1, w64 mask⟩ (fun s v => s.commitRefusal p v mode at0)
      (fun s v => (s.makeSets p v mode at0 client).applyRequest)
    if isCommitCode r.2 then (r.1.reportRefused p mask r.2 client).tilDone r.2 []
    else if isRefusal r.2 then r.1.tilDone r.2 []
    else
      let failed := (s.preCheck ((maskGroups mask).map (s.newSet p mode at0 client)) (bit mode 0)).2
      if failed.isEmpty then r.1.tilDone 0 (leBytes 4 (r.1.get (0x1110 + p) 1)) else r.1.tilDone codeRuleFailed []

/-- Snapshot (R59, R77): a trigger of the set that INDEX names. -/
def State.tilSnapshot (s : State) (ini : Ini) (f : TilFrame) (env : Env) : TilDone :=
  let i := canonIdx f.head.index
  if !f.payload.isEmpty then s.tilDone codeBadLength []
  else if !(0x11C0 ≤ i && i < 0x11D0) then s.tilOpen
  else
    let a := s.writeScalar ⟨ini, 0, i, 1, 1⟩ env
    if isRefusal a.2 then a.1.tilDone a.2 []
    else if env.busy then (⟨a.1, 0, [], okey 0 i 1, false⟩ : TilDone)
    else a.1.tilDone 0 (a.1.snapshotAnswer (i - 0x11C0))

/-- The number that a subscription has in the device, and its SUB_ID. -/
def subNum (b k : Nat) : Nat := b * 256 + k
def TilSub.subId (u : TilSub) : Nat := u.id % 256

def State.subOf (s : State) (b k : Nat) : Option TilSub := s.til.subs.find? (fun (u : TilSub) => u.id == subNum b k)

/-- MIN_INTERVAL_MS in its range, with the status of a value out of it (R82). -/
def clampInterval (v : Nat) : Nat × Nat := if v < 10 then (10, codeClampedLow) else if 60000 < v then (60000, codeClampedHigh) else (v, 0)

/-- Subscribe (R82). -/
def State.tilSubscribe (s : State) (ini : Ini) (b : Nat) (f : TilFrame) : TilDone :=
  let i := canonIdx f.head.index
  let sub := f.head.sub
  let kind := numAt f.payload 0 1
  let ms := clampInterval (numAt f.payload 1 2)
  let mine := s.til.subs.filter (fun (u : TilSub) => u.binding == b)
  if f.payload.length ≠ 4 then s.tilDone codeBadLength []
  else if 1 < kind then s.tilOpen
  else
    let obj := findObj s.cfg i sub
    let no := if kind = 1 then none
      else match obj with
        | none => some codeObjectAbsent
        | some o =>
          if !s.hasRight ini false o i sub then some codeNoReadAccess
          else if o.row.ty.isBlock then some codeNotSubscribable else none
    match no with
    | some c => s.tilDone c []
    | none =>
      if 16 ≤ mine.length ∨ 256 ≤ s.til.subs.length then s.tilDone codeSubscriptionsFull []
      else
        let n := ((List.range 16).find? (fun n => (s.subOf b n).isNone)).getD 0
        let v := if kind = 1 then 0 else (s.readAt ini i sub).2.1
        let u : TilSub := ⟨subNum b n, b, kind, okey (obj.elim 0 (fun o => o.bankFor ini.part)) i sub, ms.1, numAt f.payload 3 1, v, none,
                         f.head.tag⟩
        ({ s with til := { s.til with subs := s.til.subs ++ [u] } } : State).tilDone (if kind = 1 then 0 else ms.2) [byteOf n]

/-- Unsubscribe (R82). -/
def State.tilUnsubscribe (s : State) (b : Nat) (f : TilFrame) : TilDone :=
  let k := numAt f.payload 0 1
  if f.payload.length ≠ 1 then s.tilDone codeBadLength []
  else if k = 255 then (s.endSubs b).tilDone 0 []
  else
    match s.subOf b k with
    | some u => (s.endSub u).tilDone 0 []
    | none => s.tilOpen

/-- Abort (R83): a request that has not started is answered ABORTED, an open transfer is abandoned.
The answer to the Abort: DESIGN CHOICE, log entry 118. -/
def State.tilAbort (s : State) (b : Nat) (f : TilFrame) : TilDone :=
  let tag := numAt f.payload 0 1
  if f.payload.length ≠ 1 then s.tilDone codeBadLength []
  else
    match s.til.reqs.find? (fun (r : TilReq) => r.binding == b && r.head.tag == tag && !r.started) with
    | some r =>
      let s := { s with dict := { s.dict with deferred := s.dict.deferred.erase (keyIdx r.key - 0x11C0) } }
      (s.tilAnswer r codeAborted []).tilDone 0 []
    | none =>
      match s.til.xfers.find? (fun (x : TilXfer) => x.binding == b && x.tag == tag) with
      | some x => (s.dropXfer b x.key).tilDone codeAborted []
      | none => s.tilDone codeNothingToAbort []

/-- A request of a client executed (R65, R77); Subscribe is not offered over the mailbox (R71). -/
def State.tilExecute (s : State) (b : Nat) (f : TilFrame) (env : Env) : TilDone :=
  let ini := s.clientIni b
  let op := opcodeOf f.head
  let alias_ := windowOf f.head
  if op = 2 ∧ alias_ < 4 then s.tilWrite ini f env
  else if alias_ ≠ 0 then s.tilDone codeBadOpcode []
  else
    match op with
    | 1 => s.tilRead ini f
    | 3 => s.tilReadSeg ini f
    | 4 => s.tilWriteSeg ini b f env
    | 5 => s.tilCommit ini b f
    | 6 => s.tilSnapshot ini f env
    | 7 => if f.head.via = 3 then s.tilDone codeBadOpcode [] else s.tilSubscribe ini b f
    | 8 => s.tilUnsubscribe b f
    | 9 => s.tilAbort b f
    | _ => s.tilDone codeBadOpcode []

/-! ## Taking a request (R68, R72 to R76, R84) -/

/-- A request dropped without a response; a mailbox that it came by is free again. -/
def State.tilDrop (s : State) (f : TilFrame) (flag : Nat) : State :=
  let s := s.setFlag (okey 0 0x1041 0) flag
  if f.head.via = 3 then
    { s with til := { s.til with mailbox := s.til.mailbox.filter (fun (m : Mail) => m.part != f.head.port) } }
  else s

/-- Outstanding requests of a client, and all of them, against the limits of R84. -/
def State.serverFull (s : State) (client : Nat) : Bool :=
  decide (64 ≤ s.til.reqs.length) || decide (8 ≤ (s.til.reqs.filter (fun (r : TilReq) => r.head.client == client)).length)

def State.tagUsed (s : State) (client tag : Nat) : Bool := s.til.reqs.any (fun (r : TilReq) => r.head.client == client && r.head.tag == tag)

/-- The refusal of an accepted request before its operation, in the order in which the model examines them. -/
def State.tilRefusal (s : State) (b : Nat) (f : TilFrame) : Option Nat :=
  let h := f.head
  if !bit (s.get (0x1200 + b) 3) h.via then some codeTransportNotBound
  else if h.via = 3 ∧ h.port ≠ s.bindingPart b then some codePartitionMismatch
  else if maxLength h.via < f.len then some codePayloadTooLong
  else if f.len ≠ f.payload.length then some codeBadLength
  else if s.serverFull h.client then some codeServerBusy
  else if s.tagUsed h.client h.tag then some codeTagInUse
  else none

/-- An accepted request answered, or left outstanding. Where the planner has stopped meanwhile there is no answer. -/
def State.tilFinish (b : Nat) (f : TilFrame) (d : TilDone) : State :=
  let r : TilReq := ⟨b, f.head, none, d.key, d.payload, d.started⟩
  let s := d.st
  if !s.plannerUp then s
  else if d.key ≠ 0 ∧ !isRefusal d.status then { s with til := { s.til with reqs := r :: s.til.reqs } }
  else s.tilAnswer r d.status (if isRefusal d.status then [] else d.payload)

/-- An accepted request carried out. -/
def State.tilRun (s : State) (b : Nat) (f : TilFrame) (env : Env) : State :=
  match s.tilRefusal b f with
  | some c =>
    let s := if c = codeServerBusy then s.setFlag (okey 0 0x1041 0) 3 else s
    State.tilFinish b f (s.tilDone c [])
  | none => State.tilFinish b f (s.tilExecute b f env)

/-- RX_COUNTER takes a counter (R74), which is stored when it is 4,096 above its stored value (R75), and is one of the last
eight accepted; the way the request came is where pushes go. -/
def State.acceptCounter (s : State) (b : Nat) (h : TilHead) : State :=
  let c := h.counter
  let s := s.put (0x1200 + b) 5 c
  let kept := mput 0 b (checkpoint (mget 0 b s.til.rxStored) c) s.til.rxStored
  let s := { s with til := { s.til with rxStored := kept, cached := cacheWith s.til.cached b c,
                                        ways := mput (2, 0) b (h.via, h.port) s.til.ways } }
  if c = counterMax then s.put (0x1200 + b) 4 2 else s

/-- A request that verifies, by its COUNTER (R74). -/
def State.tilCounter (s : State) (b : Nat) (f : TilFrame) (env : Env) : State :=
  let c := f.head.counter
  if counterMax ≤ s.get (0x1200 + b) 5 then
    ((s.put (0x1200 + b) 4 2).setFlag (okey 0 0x1041 0) 2).respond f.head codeSessionExhausted []
  else if s.get (0x1200 + b) 5 < c then (s.acceptCounter b f.head).tilRun b f env
  else
    match s.til.cached.find? (fun (x : TilCached) => x.binding == b && x.counter == c) with
    | some x => x.answer.elim s (fun a => s.respond { a.1 with via := f.head.via, port := f.head.port } a.2.1 a.2.2)
    | none => (s.bump (0x1200 + b) 8).tilDrop f 1

/-- A request for another node (R70): passed on over Chamois by a gateway, or answered NODE_UNREACHABLE. -/
def State.tilForward (s : State) (f : TilFrame) : State :=
  let h := f.head
  if s.fabric.gateway = 0 || !s.nodeReach f.route then s.respond h codeNodeUnreachable []
  else if s.serverFull h.client then (s.setFlag (okey 0 0x1041 0) 3).respond h codeServerBusy []
  else if s.tagUsed h.client h.tag then s.respond h codeTagInUse []
  else
    let s := { s with til := { s.til with reqs := (⟨64, h, some f.route, 0, [], true⟩ : TilReq) :: s.til.reqs } }
    s.sendMsg f.route 1 1 0 0 (s.flowOf h.client 0) (frameBytes f)

/-- A request as it is received, while the dictionary server runs; a frame with OP bit 7 set is no request (R65). -/
def State.tilReceive (s : State) (f : TilFrame) (env : Env) : State :=
  if !s.plannerUp || !s.heard f || bit f.head.op 7 then s
  else
  let s := s.countRx f
  if (f.head.via = 2 ∨ f.head.via = 3) ∧ f.route ≠ 255 ∧ f.route ≠ s.selfNode then s.tilForward f
  else
    match s.bindingFor f.head.client with
    | none => s.tilDrop f 0
    | some b => if s.verifies b f then s.tilCounter b f env else (s.bump (0x1200 + b) 7).tilDrop f 0

/-! ## Mailboxes (R71) -/

/-- The requests that doorbells have made the device read are taken, of partition 0 first. -/
def State.serveMail (s : State) (env : Env) : State :=
  foldS (fun s p =>
    match s.til.mailbox.find? (fun (m : Mail) => m.part == p && !m.taken) with
    | some m =>
      let took := s.til.mailbox.map (fun (x : Mail) => if x.part == p then { x with taken := true } else x)
      ({ s with til := { s.til with mailbox := took } } : State).tilReceive (mailFrame m) env
    | none => s) s (List.range 16)

/-- A request, and what a doorbell that it writes brings with it. -/
def State.tilTake (s : State) (op : Nat) (f : TilFrame) (env : Env) : State :=
  (s.tilReceive { f with head := { f.head with op := f.head.op / 16 * 16 + op } } env).serveMail env

def noEnv : Env := ⟨[], [], [], false, none, false⟩

/-! ## The commands -/

/-- TILSOL_READ: the frame's opcode is Read; so with the other operations. -/
def execTilsolRead (t : Nat) (f : TilFrame) (s : State) : Host.Outcome State Fault Refusal := at_ t s fun s => s.tilTake 1 f noEnv

/-- TILSOL_WRITE. -/
def execTilsolWrite (t : Nat) (f : TilFrame) (env : Env) (s : State) : Host.Outcome State Fault Refusal := at_ t s fun s => s.tilTake 2 f env

/-- TILSOL_READSEG. -/
def execTilsolReadseg (t : Nat) (f : TilFrame) (s : State) : Host.Outcome State Fault Refusal := at_ t s fun s => s.tilTake 3 f noEnv

/-- TILSOL_WRITESEG. -/
def execTilsolWriteseg (t : Nat) (f : TilFrame) (env : Env) (s : State) : Host.Outcome State Fault Refusal := at_ t s fun s => s.tilTake 4 f env

/-- TILSOL_COMMIT. -/
def execTilsolCommit (t : Nat) (f : TilFrame) (s : State) : Host.Outcome State Fault Refusal := at_ t s fun s => s.tilTake 5 f noEnv

/-- TILSOL_SNAPSHOT. -/
def execTilsolSnapshot (t : Nat) (f : TilFrame) (busy : Bool) (s : State) : Host.Outcome State Fault Refusal :=
  at_ t s fun s => s.tilTake 6 f { noEnv with busy := busy }

/-- TILSOL_SUBSCRIBE. -/
def execTilsolSubscribe (t : Nat) (f : TilFrame) (s : State) : Host.Outcome State Fault Refusal := at_ t s fun s => s.tilTake 7 f noEnv

/-- TILSOL_UNSUBSCRIBE. -/
def execTilsolUnsubscribe (t : Nat) (f : TilFrame) (s : State) : Host.Outcome State Fault Refusal := at_ t s fun s => s.tilTake 8 f noEnv

/-- TILSOL_ABORT. -/
def execTilsolAbort (t : Nat) (f : TilFrame) (s : State) : Host.Outcome State Fault Refusal := at_ t s fun s => s.tilTake 9 f noEnv

/-- TILSOL_RESERVED_OPCODE: a request with a reserved opcode, or with an ALIAS where it has no place; one whose OP is neither
is a request of another row. -/
def execTilsolReservedOpcode (t : Nat) (f : TilFrame) (s : State) : Host.Outcome State Fault Refusal :=
  at_ t s fun s =>
    let h := f.head
    if (1 ≤ opcodeOf h ∧ opcodeOf h ≤ 9) ∧ (windowOf h = 0 ∨ opcodeOf h = 2 ∧ windowOf h < 4) then s else s.tilTake (opcodeOf h) f noEnv

/-- TILSOL_REKEY: a Write of TilsolRekey. -/
def execTilsolRekey (t : Nat) (f : TilFrame) (s : State) : Host.Outcome State Fault Refusal :=
  at_ t s fun s => s.tilTake 2 { f with head := { f.head with op := 2, index := 0x2101, sub := 1 } } noEnv

/-- REKEY_DONE (R74, R309): the write is answered under the old key, then the session starts anew under the key derived from
it. -/
def execRekeyDone (t binding : Nat) (s : State) : Host.Outcome State Fault Refusal :=
  clocked t 0 s fun s =>
    if !(s.til.rekeying.contains binding && s.markhorUp && s.inSlot 3 binding) then s
    else
      let s := s.unpost 3 binding
      let s := { s with til := { s.til with rekeying := s.til.rekeying.filter (fun k => k != binding) } }
      let s := foldS (fun s (r : TilReq) => s.tilAnswer r codeOk []) s
        (s.til.reqs.reverse.filter (fun (r : TilReq) => r.node.isNone && r.key == rekeyKey && r.binding == binding))
      let gen := (s.get (0x1200 + binding) 9 + 1) % 256
      let s := s.freshSession binding gen
        (nextKey (s.keyOf binding) (strBytes "TILSOL-REKEY") [byteOf (s.get (0x1200 + binding) 1), byteOf gen])
      s.serveChallenges

/-- MAILBOX_DOORBELL: a write of DOORBELL; `env` holds what host memory holds at REQ_ADDR. -/
def execMailboxDoorbell (t : Nat) (ini : Ini) (v : Word) (env : Env) (s : State) : Host.Outcome State Fault Refusal :=
  at_ t s fun s => (s.writeScalar ⟨ini, 0, 0x1060, 3, v⟩ env).1.serveMail env

/-- FORWARDED_RESPONSE (R70): the response of node `node` to a client's request with a tag goes back to the client as that node
has tagged it; `payload` is what follows STATUS, the 8-byte tag at its end. -/
def execForwardedResponse (t node client tag status : Nat) (payload : List Byte) (s : State) : Host.Outcome State Fault Refusal :=
  at_ t s fun s =>
    match s.til.reqs.find? (fun (r : TilReq) => r.node == some node && r.head.client == client && r.head.tag == tag) with
    | some r =>
      let rest := s.til.reqs.filter (fun (x : TilReq) => !(x.binding == r.binding && x.head == r.head))
      let s := { s with til := { s.til with reqs := rest, mailbox := if r.head.via = 3 then
                                   s.til.mailbox.filter (fun (m : Mail) => m.part != r.head.port) else s.til.mailbox } }
      let n := payload.length - 8
      s.sendFrame (respHead r.head) 2 false (respBody status (payload.take n)) (payload.drop n)
    | none => s

/-- WRITESEG_TIMEOUT (R80): the transfers that have had no segment for WRITESEG_TIMEOUT_MS are abandoned. -/
def execWritesegTimeout (t : Nat) (s : State) : Host.Outcome State Fault Refusal :=
  at_ t s fun s =>
    foldS (fun s (x : TilXfer) => (s.dropXfer x.binding x.key).raise 0x1041 0 4 sevWarning (s.bindingPart x.binding) [byteOf x.binding]) s
      (s.til.xfers.filter (fun (x : TilXfer) => decide (x.lastAt + s.get 0x1040 8 * 1000000 ≤ s.now)))

/-- SUBSCRIPTION_PUSH (R82): subscription `sub` of a binding pushes its changed value once MIN_INTERVAL_MS has passed, or the
next event record of its partition. Its payload: DESIGN CHOICE, log entry 117. -/
def execSubscriptionPush (t binding sub : Nat) (s : State) : Host.Outcome State Fault Refusal :=
  at_ t s fun s =>
    match s.subOf binding sub with
    | none => s
    | some u =>
      if !s.plannerUp then s
      else if u.kind = 1 then
        match s.deliver (.sub u.id) (s.bindingPart binding) with
        | (s, some d) => s.push binding u.tag 0 d
        | (s, none) => s
      else
        let a := s.readAt (s.clientIni binding) (keyIdx u.key) (keySub u.key)
        let due := u.lastPush.elim true (fun x => decide (x + u.intervalMs * 1000000 ≤ s.now))
        match findObj s.cfg (keyIdx u.key) (keySub u.key) with
        | some o =>
          if a.2.2 = 0 ∧ a.2.1 ≠ u.lastValue ∧ due then
            let s := a.1
            let l := s.til.subs.map (fun (x : TilSub) => if x.id == u.id then { x with lastValue := a.2.1, lastPush := some s.now } else x)
            ({ s with til := { s.til with subs := l } } : State).push binding u.tag u.obj (leBytes 4 0 ++ natBytes o a.2.1)
          else s
        | none => s

/-! ## Broadcasts (R86 to R88) -/

/-- The next value of the broadcast counter, or none once broadcasts have stopped. Past 0xF000_0000 Markhor derives the next
generation. Broadcasts that have stopped: DESIGN CHOICE, log entry 121. -/
def State.nextBroadcast (s : State) : State × Option Nat :=
  if s.til.bcastStopped then (s, none)
  else
    let c := s.til.bcast + 1
    let s := if 0xF0000000 < c && s.markhorUp then { s with til := { s.til with bcastNext := true } } else s
    if counterMax ≤ c then
      let s := s.bcastLimit
      (s, if s.til.bcastStopped then none else some s.til.bcast)
    else ({ s with til := { s.til with bcast := c, bcastStored := checkpoint s.til.bcastStored c } }, some c)

/-- A broadcast frame with an opcode on a transport (R86 to R88): CLIENT 0x00, TAG = NODE_ID, INDEX and SUB zero, the broadcast
counter, and a tag under the broadcast key. On CAN it goes out from each controller that is on, with PRIORITY `cls` of R69; by UDP
to HbUdpDest; by Chamois to every node that can be reached (DESIGN CHOICE, log entry 92). -/
def State.broadcast (s : State) (via cls : Nat) (hb : Bool) (op : Nat) (payload : List Byte) : State :=
  match s.nextBroadcast with
  | (s, none) => s
  | (s, some c) =>
    let h := fun (n : Nat) => (⟨via, n, deviceOp op, 0, s.selfNode, 0, 0, c⟩ : TilHead)
    let mac := tagOf s.til.bcastKey s.selfNode (h 0) payload.length payload
    match via with
    | 0 | 1 => foldS (fun s n => if s.get (canIdx n) 1 = 0 then s else s.sendFrame (h n) cls hb payload mac) s (List.range 4)
    | 2 =>
      foldS (fun s m => s.sendEth m (fun e => .udpCast (s.getLive (okey 0 0x1042 0)).data e (s.get 0x1040 4)
        (routeHere ++ headBytes (h 0) payload.length ++ payload ++ mac))) s [0, 1]
    | _ => foldS (fun s n => if s.nodeReach n then s.sendFrame (h n) cls hb payload mac else s) s (List.range 64)

/-- The payload of a heartbeat. -/
def State.heartbeatBytes (s : State) : List Byte :=
  [byteOf s.selfNode, byteOf (s.get 0x1020 2)] ++ leBytes 2 s.health ++ leBytes 4 s.epoch ++ leBytes 4 s.planIdLow ++ leBytes 8 s.now
    ++ [byteOf s.til.bcastGen, 0, 0, 0]

/-- HEARTBEAT: one is due HB_PERIOD_MS after the last. -/
def execHeartbeat (t : Nat) (s : State) : Host.Outcome State Fault Refusal :=
  at_ t s fun s =>
    if !s.plannerUp || s.til.hbLast.elim false (fun x => decide (s.now < x + s.get 0x1040 5 * 1000000)) then s
    else
      let s := { s with til := { s.til with hbLast := some s.now } }
      foldS (fun s v => if bit (s.get 0x1040 6) v then s.broadcast v 1 true 0x0D s.heartbeatBytes else s) s [0, 1, 2, 4]

/-- EMERGENCY: the next waiting Critical record of a transport, 10 ms after its last Emergency frame. -/
def execEmergency (t transport : Nat) (s : State) : Host.Outcome State Fault Refusal :=
  at_ t s fun s =>
    let last := s.ev.emcyLast.find? (fun (x : Nat × Nat) => x.1 == transport)
    if !s.plannerUp || last.elim false (fun x => decide (s.now < x.2 + 10000000)) || s.til.bcastStopped then s
    else
      match s.deliver (.emcy transport) 0 with
      | (s, some d) =>
        let rest := s.ev.emcyLast.filter (fun (x : Nat × Nat) => x.1 != transport)
        ({ s with ev := { s.ev with emcyLast := (transport, s.now) :: rest } } : State).broadcast transport 0 false 0x0E d
      | (s, none) => s

end Sys2Proof.Machine
end

