-- ==== Sys2Proof/Machine/Registers.lean ====
section
/-!
DEFINITION. The control window's commands: writes, half accesses, snapshots, DomainPort, and memory transactions on the chip
(R38 to R45, R58 to R61, R282).
-/
namespace Sys2Proof.Machine

/-- REGISTER_WRITE: a write of `width` bytes at a byte of a slot of the main window. -/
def execRegisterWrite (t : Nat) (ini : Ini) (idx sub byte width : Nat) (v : Word) (env : Env) (s : State) :
    Host.Outcome State Fault Refusal :=
  at_ t s fun s => (s.winWrite ini 0 idx sub byte width v.toNat env).1.serveMail env

/-- SET_ALIAS_WRITE, CLEAR_ALIAS_WRITE and TOGGLE_ALIAS_WRITE: a write of a whole slot through an alias window. -/
def execSetAliasWrite (t : Nat) (ini : Ini) (idx sub : Nat) (v : Word) (env : Env) (s : State) : Host.Outcome State Fault Refusal :=
  at_ t s fun s => (s.winWrite ini 1 idx sub 0 8 v.toNat env).1.serveMail env
@[inherit_doc execSetAliasWrite]
def execClearAliasWrite (t : Nat) (ini : Ini) (idx sub : Nat) (v : Word) (env : Env) (s : State) : Host.Outcome State Fault Refusal :=
  at_ t s fun s => (s.winWrite ini 2 idx sub 0 8 v.toNat env).1.serveMail env
@[inherit_doc execSetAliasWrite]
def execToggleAliasWrite (t : Nat) (ini : Ini) (idx sub : Nat) (v : Word) (env : Env) (s : State) : Host.Outcome State Fault Refusal :=
  at_ t s fun s => (s.winWrite ini 3 idx sub 0 8 v.toNat env).1.serveMail env

/-- LOW_HALF_READ: a 32-bit read of the low half of a slot. -/
def execLowHalfRead (t : Nat) (ini : Ini) (win idx sub : Nat) (s : State) : Host.Outcome State Fault Refusal :=
  at_ t s fun s => let a := s.winRead ini win idx sub 0 4; a.1.emit (.readData ini.part (w64 a.2))

/-- HIGH_HALF_READ. -/
def execHighHalfRead (t : Nat) (ini : Ini) (win idx sub : Nat) (s : State) : Host.Outcome State Fault Refusal :=
  at_ t s fun s => let a := s.winRead ini win idx sub 4 4; a.1.emit (.readData ini.part (w64 a.2))

/-- LOW_HALF_WRITE: a 32-bit write to the low half of a slot. -/
def execLowHalfWrite (t : Nat) (ini : Ini) (win idx sub : Nat) (v : Word) (env : Env) (s : State) : Host.Outcome State Fault Refusal :=
  at_ t s fun s => (s.winWrite ini win idx sub 0 4 v.toNat env).1.serveMail env

/-- HIGH_HALF_WRITE. -/
def execHighHalfWrite (t : Nat) (ini : Ini) (win idx sub : Nat) (v : Word) (env : Env) (s : State) : Host.Outcome State Fault Refusal :=
  at_ t s fun s => (s.winWrite ini win idx sub 4 4 v.toNat env).1.serveMail env

/-! ## Snapshots and DomainPort as commands -/

/-- SNAPSHOT_TRIGGER: a write of TRIGGER of a set; `busy` tells that a capture of it runs. -/
def execSnapshotTrigger (t : Nat) (ini : Ini) (set : Nat) (v : Word) (busy : Bool) (s : State) : Host.Outcome State Fault Refusal :=
  at_ t s fun s => if set < 16 then s.writeAt ini (0x11C0 + set) 1 v noOwn (fun s _ => s.trigger set busy) else s

/-- SNAPSHOT_DEFERRED_CAPTURE: the running capture of a set has ended, and a waiting trigger is taken. -/
def execSnapshotDeferredCapture (t set : Nat) (s : State) : Host.Outcome State Fault Refusal :=
  at_ t s fun s =>
    if s.dict.deferred.contains set then
      let s := ({ s with dict := { s.dict with deferred := s.dict.deferred.erase set } } : State).capture set
      match s.til.reqs.reverse.find? (fun (r : TilReq) => r.node.isNone && r.key == okey 0 (0x11C0 + set) 1) with
      | some r => s.tilAnswer r codeOk (s.snapshotAnswer set)
      | none => s
    else s

/-- DOMAIN_SELECT: a write of SELECT. -/
def execDomainSelect (t : Nat) (ini : Ini) (v : Word) (s : State) : Host.Outcome State Fault Refusal :=
  at_ t s fun s => s.writeAt ini 0x1130 1 v noOwn (fun s v => s.portSelect ini v)

/-- DOMAIN_DATA_READ: a 64-bit read of DATA. -/
def execDomainDataRead (t : Nat) (ini : Ini) (s : State) : Host.Outcome State Fault Refusal :=
  at_ t s fun s => let a := s.portRead ini; a.1.emit (.readData ini.part a.2)

/-- DOMAIN_DATA_WRITE: a 64-bit write of DATA. -/
def execDomainDataWrite (t : Nat) (ini : Ini) (v : Word) (s : State) : Host.Outcome State Fault Refusal :=
  at_ t s fun s => (s.dataWrite ⟨ini, 0, 0x1130, 3, v⟩).1

/-- DOMAIN_COMMIT_LEN: a write of COMMIT_LEN. -/
def execDomainCommitLen (t : Nat) (ini : Ini) (v : Word) (env : Env) (s : State) : Host.Outcome State Fault Refusal :=
  at_ t s fun s => (s.lenWrite ⟨ini, 0, 0x1130, 4, v⟩ env).1

/-! ## Memory transactions (R18, R282) -/

/-- The first address of the control window (R20). -/
def cwBase : Nat := 0x40000000

/-- The debug port is enabled (R303): by an open DEBUG_LOCK, or in the authenticated state while an authorisation for it
runs. -/
def State.debugOn (s : State) : Bool :=
  s.debugLock == 0 || s.debugLock == 1 && s.get 0x2110 3 == 2 && decide (s.now < s.sec.authUntil)

/-- The attribute that a DMA channel stamps: the one it took when it was enabled (R290). -/
def State.dmaAttr (s : State) (ch : Nat) : Option Nat := (s.sec.dmaOn.find? (fun x => x.1 == ch)).map (fun x => x.2)

/-- A DMA channel is enabled with its entry of DmaAttr, which stays frozen while it is. The manual names no object that
enables a channel: its first transaction does, until PD18 is reset (DESIGN CHOICE, log entry 89). -/
def State.dmaEnable (s : State) (ch : Nat) : State :=
  if (s.dmaAttr ch).isSome then s
  else { s with sec := { s.sec with dmaOn := (ch, numAt (s.getLive (okey 0 0x2061 0)).data ch 1) :: s.sec.dmaOn } }

/-- Partition and world as the port of an initiator stamps them, whatever the transaction says (R17, R280, R303); none for
a debug port that is closed. An initiator that acts for a partition names it. -/
def State.stamp (s : State) (init port part : Nat) (secure : Bool) : Option (Nat × Bool) :=
  match init with
  | 0 | 5 | 6 | 8 | 9 => some (part, false)
  | 4 => some (0, true)
  | 11 => (s.dmaAttr (port % 64)).map (fun a => (a % 16, bit a 4))
  | 12 => if s.debugOn then some (0, secure && s.debugLock == 0 && s.lifecycle == 1) else none
  | _ => some (0, false)

/-- The class that an initiator gives its requests (R317): apertures, planner cores, copy engines with commands and the render
engine (R235) issue Normal ones, the planner cores' trace dumps and the copy engines' migrations Background ones. The table
leaves the others their choice among the four. -/
def sourceClass (init cls : Nat) : Nat :=
  match init with
  | 0 | 1 | 2 | 5 | 6 | 8 => 2
  | 3 => if cls = 3 then 3 else 2
  | 7 => 3
  | _ => cls

/-- The path by which an initiator reaches the control window. -/
def initPath (init : Nat) : Path :=
  match init with
  | 0 => .vf
  | 1 => .monitor
  | 2 => .pf
  | _ => .window

/-- A checked transaction with its attributes (R18, R282): a failing one reads zeros or is discarded; one in the control
window is an access of one slot. A write of the monitor function is refused there, and elsewhere fails as a whole (R17,
R360). DEDUCED, log entry 104. -/
def State.transact (s : State) (id port init part : Nat) (secure : Bool) (cls : Nat) (write : Bool) (addr len : Nat)
    (data : List Byte) (ecc : Nat) (env : Env) : State :=
  let n := if write then data.length else len
  let fails := if s.targetOf addr = 2 then none
    else if init = 1 ∧ write then some (addr, s.targetOf addr)
    else s.accessFails part secure write addr n
  match fails with
  | some (a, tgt) =>
    let s := s.violate init part secure tgt a
    if write then s else s.emit (.readBytes part (List.replicate n 0))
  | none =>
    if s.targetOf addr = 2 then
      let w := winAt (addr - cwBase)
      let ini : Ini := ⟨part, secure, initPath init⟩
      if write then (s.winWrite ini w.1 w.2.1 w.2.2.1 w.2.2.2 n (leNat data) env).1.serveMail env
      else
        let a := s.winRead ini w.1 w.2.1 w.2.2.1 w.2.2.2 n
        a.1.emit (.readBytes part (leBytes n a.2))
    else if n = 0 then s
    else
      (s.cacheLookup secure addr).issue
        { id := id, port := port, init := init, part := part, secure := secure, cls := cls, write := write, addr := addr, len := n,
          data := data, ecc := ecc, since := 0, reserved := false, surf := none }

/-- MEMORY_TRANSACTION: a transaction of an on-chip initiator, `init` as R280 numbers it, whose port stamps its partition
and world; a class of R317; and `ecc` what a read finds. -/
def execMemoryTransaction (t id port init part : Nat) (secure : Bool) (cls : Nat) (write : Bool) (addr len : Nat) (data : List Byte)
    (ecc : Nat) (env : Env) (s : State) : Host.Outcome State Fault Refusal :=
  at_ t s fun s =>
    let s := if init = 11 then s.dmaEnable (port % 64) else s
    match s.stamp init port part secure with
    | none => s
    | some (p, w) => s.transact id port init p w (sourceClass init cls) write addr len data ecc env

end Sys2Proof.Machine
end

