-- ==== Sys2Proof/Machine/Dispatch.lean ====
section
/-!
DEFINITION. One arm per command of Sys2Proof.Instr: a direct call of its meaning, or a rejection by name.
-/
namespace Sys2Proof.Machine

def exec (i : Instr) (s : State) : Host.Outcome State Fault Refusal :=
  match i with
  | .frameEpoch t => Sys2Proof.Machine.execFrameEpoch t s
  | .d2dTransferCrcFail t delay => Sys2Proof.Machine.execD2dTransferCrcFail t delay s
  | .d2dLaneFail t => Sys2Proof.Machine.execD2dLaneFail t s
  | .unitLost t kind inst => Sys2Proof.Machine.execUnitLost t kind inst s
  | .bindingComputed t => Sys2Proof.Machine.execBindingComputed t s
  | .registerWrite t ini idx sub byte width v env => Sys2Proof.Machine.execRegisterWrite t ini idx sub byte width v env s
  | .setAliasWrite t ini idx sub v env => Sys2Proof.Machine.execSetAliasWrite t ini idx sub v env s
  | .clearAliasWrite t ini idx sub v env => Sys2Proof.Machine.execClearAliasWrite t ini idx sub v env s
  | .toggleAliasWrite t ini idx sub v env => Sys2Proof.Machine.execToggleAliasWrite t ini idx sub v env s
  | .statusClear t ini viaAlias idx sub v => Sys2Proof.Machine.execStatusClear t ini viaAlias idx sub v s
  | .pendingSeqAdvance t part idx sub => Sys2Proof.Machine.execPendingSeqAdvance t part idx sub s
  | .lowHalfRead t ini win idx sub => Sys2Proof.Machine.execLowHalfRead t ini win idx sub s
  | .highHalfRead t ini win idx sub => Sys2Proof.Machine.execHighHalfRead t ini win idx sub s
  | .lowHalfWrite t ini win idx sub v env => Sys2Proof.Machine.execLowHalfWrite t ini win idx sub v env s
  | .highHalfWrite t ini win idx sub v env => Sys2Proof.Machine.execHighHalfWrite t ini win idx sub v env s
  | .commitRequest t ini mask => Sys2Proof.Machine.execCommitRequest t ini mask s
  | .commitInEdge t rising => Sys2Proof.Machine.execCommitInEdge t rising s
  | .armedCommitTimeout t => Sys2Proof.Machine.execArmedCommitTimeout t s
  | .wallTimeRelease t => Sys2Proof.Machine.execWallTimeRelease t s
  | .store t ini mask => Sys2Proof.Machine.execStore t ini mask s
  | .storeDone t ok => Sys2Proof.Machine.execStoreDone t ok s
  | .restoreDefaults t ini mask => Sys2Proof.Machine.execRestoreDefaults t ini mask s
  | .lockSetsWrite t ini mask => Sys2Proof.Machine.execLockSetsWrite t ini mask s
  | .snapshotTrigger t ini set v busy => Sys2Proof.Machine.execSnapshotTrigger t ini set v busy s
  | .snapshotDeferredCapture t set => Sys2Proof.Machine.execSnapshotDeferredCapture t set s
  | .domainSelect t ini v => Sys2Proof.Machine.execDomainSelect t ini v s
  | .domainDataRead t ini => Sys2Proof.Machine.execDomainDataRead t ini s
  | .domainDataWrite t ini v => Sys2Proof.Machine.execDomainDataWrite t ini v s
  | .domainCommitLen t ini v env => Sys2Proof.Machine.execDomainCommitLen t ini v env s
  | .tilsolRead t f => Sys2Proof.Machine.execTilsolRead t f s
  | .tilsolWrite t f env => Sys2Proof.Machine.execTilsolWrite t f env s
  | .tilsolReadseg t f => Sys2Proof.Machine.execTilsolReadseg t f s
  | .tilsolWriteseg t f env => Sys2Proof.Machine.execTilsolWriteseg t f env s
  | .tilsolCommit t f => Sys2Proof.Machine.execTilsolCommit t f s
  | .tilsolSnapshot t f busy => Sys2Proof.Machine.execTilsolSnapshot t f busy s
  | .tilsolSubscribe t f => Sys2Proof.Machine.execTilsolSubscribe t f s
  | .tilsolUnsubscribe t f => Sys2Proof.Machine.execTilsolUnsubscribe t f s
  | .tilsolAbort t f => Sys2Proof.Machine.execTilsolAbort t f s
  | .tilsolReservedOpcode t f => Sys2Proof.Machine.execTilsolReservedOpcode t f s
  | .mailboxDoorbell t ini v env => Sys2Proof.Machine.execMailboxDoorbell t ini v env s
  | .forwardedResponse t node client tag status payload => Sys2Proof.Machine.execForwardedResponse t node client tag status payload s
  | .writesegTimeout t => Sys2Proof.Machine.execWritesegTimeout t s
  | .subscriptionPush t binding sub => Sys2Proof.Machine.execSubscriptionPush t binding sub s
  | .heartbeat t => Sys2Proof.Machine.execHeartbeat t s
  | .emergency t transport => Sys2Proof.Machine.execEmergency t transport s
  | .tilsolRekey t f => Sys2Proof.Machine.execTilsolRekey t f s
  | .rekeyDone t binding => Sys2Proof.Machine.execRekeyDone t binding s
  | .planDmaGo t ini v data => Sys2Proof.Machine.execPlanDmaGo t ini v data s
  | .planValidated t sigOk => Sys2Proof.Machine.execPlanValidated t sigOk s
  | .planRevalidate t ini => Sys2Proof.Machine.execPlanRevalidate t ini s
  | .planStoreSlot t ini => Sys2Proof.Machine.execPlanStoreSlot t ini s
  | .planLoadSlot t ini => Sys2Proof.Machine.execPlanLoadSlot t ini s
  | .planSwapWhenReady t ini => Sys2Proof.Machine.execPlanSwapWhenReady t ini s
  | .planSwapAtTime t ini => Sys2Proof.Machine.execPlanSwapAtTime t ini s
  | .planDiscard t ini => Sys2Proof.Machine.execPlanDiscard t ini s
  | .planEraseSlot t ini => Sys2Proof.Machine.execPlanEraseSlot t ini s
  | .planPrepare t ini => Sys2Proof.Machine.execPlanPrepare t ini s
  | .planActionDone t => Sys2Proof.Machine.execPlanActionDone t s
  | .preparationDone t => Sys2Proof.Machine.execPreparationDone t s
  | .readyExpired t => Sys2Proof.Machine.execReadyExpired t s
  | .allocate t h w ht format layout cls => Sys2Proof.Machine.execAllocate t h w ht format layout cls s
  | .free t h handle => Sys2Proof.Machine.execFree t h handle s
  | .share t h handle grantee rights => Sys2Proof.Machine.execShare t h handle grantee rights s
  | .memoryTransaction t id port init part secure cls write addr len data ecc env => Sys2Proof.Machine.execMemoryTransaction t id port init part secure cls write addr len data ecc env s
  | .apertureAccess t id port ini off len write data ecc => Sys2Proof.Machine.execApertureAccess t id port ini off len write data ecc s
  | .imbalanceWindow t bytes => Sys2Proof.Machine.execImbalanceWindow t bytes s
  | .migrationCopyDone t surf => Sys2Proof.Machine.execMigrationCopyDone t surf s
  | .migrationPassDone t surf => Sys2Proof.Machine.execMigrationPassDone t surf s
  | .migrationHold t surf => Sys2Proof.Machine.execMigrationHold t surf s
  | .migrationRetry t surf => Sys2Proof.Machine.execMigrationRetry t surf s
  | .batchStart t batch => Sys2Proof.Machine.execBatchStart t batch s
  | .tileStart t engine ecc => Sys2Proof.Machine.execTileStart t engine ecc s
  | .tileWritebackDone t engine => Sys2Proof.Machine.execTileWritebackDone t engine s
  | .batchDeadline t batch => Sys2Proof.Machine.execBatchDeadline t batch s
  | .videoFrameStart t input => Sys2Proof.Machine.execVideoFrameStart t input s
  | .videoFrameEnd t input w h dt err data => Sys2Proof.Machine.execVideoFrameEnd t input w h dt err data s
  | .videoInputTimeout t input => Sys2Proof.Machine.execVideoInputTimeout t input s
  | .vblankStart t head => Sys2Proof.Machine.execVblankStart t head s
  | .fetchDataReturn t head n slot bad => Sys2Proof.Machine.execFetchDataReturn t head n slot bad s
  | .pixelScan t head => Sys2Proof.Machine.execPixelScan t head s
  | .irqHpd t port lost => Sys2Proof.Machine.execIrqHpd t port lost s
  | .hpdUnplug t port => Sys2Proof.Machine.execHpdUnplug t port s
  | .hpdPlug t port => Sys2Proof.Machine.execHpdPlug t port s
  | .sinkIdReadDone t port lanes rate dsc edid modes => Sys2Proof.Machine.execSinkIdReadDone t port lanes rate dsc edid modes s
  | .trainingAttemptDone t port ok => Sys2Proof.Machine.execTrainingAttemptDone t port ok s
  | .retrainTimer t port => Sys2Proof.Machine.execRetrainTimer t port s
  | .linkLost t port => Sys2Proof.Machine.execLinkLost t port s
  | .linkGraceExpired t port => Sys2Proof.Machine.execLinkGraceExpired t port s
  | .hdcpAuthDone t port ok type1 => Sys2Proof.Machine.execHdcpAuthDone t port ok type1 s
  | .sentinelValueReady t region => Sys2Proof.Machine.execSentinelValueReady t region s
  | .sentinelLate t region => Sys2Proof.Machine.execSentinelLate t region s
  | .regionCompare t region => Sys2Proof.Machine.execRegionCompare t region s
  | .releaseRegion t ini v => Sys2Proof.Machine.execReleaseRegion t ini v s
  | .requestedState t ini region v => Sys2Proof.Machine.execRequestedState t ini region v s
  | .integrityRequestDone t region => Sys2Proof.Machine.execIntegrityRequestDone t region s
  | .renderSubmit t h job newDevice => Sys2Proof.Machine.execRenderSubmit t h job newDevice s
  | .renderComplete t r0 r1 => Sys2Proof.Machine.execRenderComplete t r0 r1 s
  | .renderPreempt t n => Sys2Proof.Machine.execRenderPreempt t n s
  | .renderTimeout t n => Sys2Proof.Machine.execRenderTimeout t n s
  | .spirvTranslationDone t part size kib valid supported sc => Sys2Proof.Machine.execSpirvTranslationDone t part size kib valid supported sc s
  | .pickValidationDone t slot => Sys2Proof.Machine.execPickValidationDone t slot s
  | .pickResult t ray => Sys2Proof.Machine.execPickResult t ray s
  | .queueEnable t ini part queue v => Sys2Proof.Machine.execQueueEnable t ini part queue v s
  | .queueDoorbell t ini part queue v => Sys2Proof.Machine.execQueueDoorbell t ini part queue v s
  | .cqHeadWrite t ini part queue v => Sys2Proof.Machine.execCqHeadWrite t ini part queue v s
  | .cqRecordWrite t part queue => Sys2Proof.Machine.execCqRecordWrite t part queue s
  | .dispatch t engine => Sys2Proof.Machine.execDispatch t engine s
  | .present t h handle slot region presentAt expected rects => Sys2Proof.Machine.execPresent t h handle slot region presentAt expected rects s
  | .copy t h src dst srcX srcY dstX dstY w ht => Sys2Proof.Machine.execCopy t h src dst srcX srcY dstX dstY w ht s
  | .fill t h dst dstX dstY w ht value => Sys2Proof.Machine.execFill t h dst dstX dstY w ht value s
  | .convert t h src dst srcX srcY dstX dstY w ht => Sys2Proof.Machine.execConvert t h src dst srcX srcY dstX dstY w ht s
  | .checkValue t h handle x y w ht => Sys2Proof.Machine.execCheckValue t h handle x y w ht s
  | .copyEngineDone t engine => Sys2Proof.Machine.execCopyEngineDone t engine s
  | .commandPreempt t engine tiles => Sys2Proof.Machine.execCommandPreempt t engine tiles s
  | .fenceWait t h value timeoutUs => Sys2Proof.Machine.execFenceWait t h value timeoutUs s
  | .fenceTimeout t part queue => Sys2Proof.Machine.execFenceTimeout t part queue s
  | .fenceSignal t h => Sys2Proof.Machine.execFenceSignal t h s
  | .fenceValuesWrite t ini part fence v => Sys2Proof.Machine.execFenceValuesWrite t ini part fence v s
  | .reservedCommand t h => Sys2Proof.Machine.execReservedCommand t h s
  | .queuePromotion t part queue => Sys2Proof.Machine.execQueuePromotion t part queue s
  | .queueAbort t ini part queue v done ring => Sys2Proof.Machine.execQueueAbort t ini part queue v done ring s
  | .markhorWatchdogTrip t => Sys2Proof.Machine.execMarkhorWatchdogTrip t s
  | .lockstepMismatch t => Sys2Proof.Machine.execLockstepMismatch t s
  | .markhorAutoRelease t => Sys2Proof.Machine.execMarkhorAutoRelease t s
  | .markhorRestart t ini v => Sys2Proof.Machine.execMarkhorRestart t ini v s
  | .markhorRestartDone t => Sys2Proof.Machine.execMarkhorRestartDone t s
  | .markhorBootDone t tries verifiedAt ownerTable regions => Sys2Proof.Machine.execMarkhorBootDone t tries verifiedAt ownerTable regions s
  | .fwLevelRaise t => Sys2Proof.Machine.execFwLevelRaise t s
  | .fuseProgram t ini fld value signed => Sys2Proof.Machine.execFuseProgram t ini fld value signed s
  | .fuseProgramDone t bad => Sys2Proof.Machine.execFuseProgramDone t bad s
  | .keyBundle t ini data => Sys2Proof.Machine.execKeyBundle t ini data s
  | .bundleResult t sigOk => Sys2Proof.Machine.execBundleResult t sigOk s
  | .firmwareImage t ini data sigOk => Sys2Proof.Machine.execFirmwareImage t ini data sigOk s
  | .challenge t ini v => Sys2Proof.Machine.execChallenge t ini v s
  | .foxgloveToken t ini data => Sys2Proof.Machine.execFoxgloveToken t ini data s
  | .tokenChecked t sigOk => Sys2Proof.Machine.execTokenChecked t sigOk s
  | .authorisationExpiry t => Sys2Proof.Machine.execAuthorisationExpiry t s
  | .revoke t ini v => Sys2Proof.Machine.execRevoke t ini v s
  | .rngReady t => Sys2Proof.Machine.execRngReady t s
  | .rngHealthFail t => Sys2Proof.Machine.execRngHealthFail t s
  | .rngReseed t => Sys2Proof.Machine.execRngReseed t s
  | .seedRefresh t lost => Sys2Proof.Machine.execSeedRefresh t lost s
  | .rngDataRead t ini => Sys2Proof.Machine.execRngDataRead t ini s
  | .refreshDue t chan temp trained => Sys2Proof.Machine.execRefreshDue t chan temp trained s
  | .mr4Poll t codes => Sys2Proof.Machine.execMr4Poll t codes s
  | .freqChangeStart t => Sys2Proof.Machine.execFreqChangeStart t s
  | .freqChangeDone t => Sys2Proof.Machine.execFreqChangeDone t s
  | .freqDeferred t => Sys2Proof.Machine.execFreqDeferred t s
  | .trackerEntryFree t id => Sys2Proof.Machine.execTrackerEntryFree t id s
  | .agePromotion t id => Sys2Proof.Machine.execAgePromotion t id s
  | .patrolScrub t group fixed bad => Sys2Proof.Machine.execPatrolScrub t group fixed bad s
  | .bankRetention t bank => Sys2Proof.Machine.execBankRetention t bank s
  | .wearCounterStore t counter => Sys2Proof.Machine.execWearCounterStore t counter s
  | .userStore t index => Sys2Proof.Machine.execUserStore t index s
  | .libraryEntry t ini data sigOk => Sys2Proof.Machine.execLibraryEntry t ini data sigOk s
  | .eraseId t ini id => Sys2Proof.Machine.execEraseId t ini id s
  | .dataFlitRx t port bytes fec => Sys2Proof.Machine.execDataFlitRx t port bytes fec s
  | .nakFlitRx t port bytes fec => Sys2Proof.Machine.execNakFlitRx t port bytes fec s
  | .idleFlitRx t port bytes fec => Sys2Proof.Machine.execIdleFlitRx t port bytes fec s
  | .idleFlitSend t port => Sys2Proof.Machine.execIdleFlitSend t port s
  | .replayTimeout t port => Sys2Proof.Machine.execReplayTimeout t port s
  | .portRetrainDone t port lanes gbps => Sys2Proof.Machine.execPortRetrainDone t port lanes gbps s
  | .linkRetry t port => Sys2Proof.Machine.execLinkRetry t port s
  | .e2eAckRx t src cls seq => Sys2Proof.Machine.execE2eAckRx t src cls seq s
  | .e2eTimeout t dest cls => Sys2Proof.Machine.execE2eTimeout t dest cls s
  | .tileMessageRx t src stream tile epoch header data present need => Sys2Proof.Machine.execTileMessageRx t src stream tile epoch header data present need s
  | .bulkWriteRx t src part secure addr data => Sys2Proof.Machine.execBulkWriteRx t src part secure addr data s
  | .bulkReadRequestRx t src part secure addr len => Sys2Proof.Machine.execBulkReadRequestRx t src part secure addr len s
  | .bulkReadDataRx t src addr data => Sys2Proof.Machine.execBulkReadDataRx t src addr data s
  | .nodeHelloRx t port serial config node nport strap => Sys2Proof.Machine.execNodeHelloRx t port serial config node nport strap s
  | .nodeHeartbeatRx t node => Sys2Proof.Machine.execNodeHeartbeatRx t node s
  | .nodeHeartbeatSend t => Sys2Proof.Machine.execNodeHeartbeatSend t s
  | .nodeLost t node master => Sys2Proof.Machine.execNodeLost t node master s
  | .timeFlitSend t port => Sys2Proof.Machine.execTimeFlitSend t port s
  | .timeFlitRx t port sent got tenth master => Sys2Proof.Machine.execTimeFlitRx t port sent got tenth master s
  | .timeSourceLost t => Sys2Proof.Machine.execTimeSourceLost t s
  | .wallTimeSet t ini v => Sys2Proof.Machine.execWallTimeSet t ini v s
  | .gptpMessageRx t mac origin path => Sys2Proof.Machine.execGptpMessageRx t mac origin path s
  | .twinHeartbeatRx t port health plan => Sys2Proof.Machine.execTwinHeartbeatRx t port health plan s
  | .twinHeartbeatSend t => Sys2Proof.Machine.execTwinHeartbeatSend t s
  | .twinAliveOutToggle t => Sys2Proof.Machine.execTwinAliveOutToggle t s
  | .twinAliveInEdge t => Sys2Proof.Machine.execTwinAliveInEdge t s
  | .witnessHeartbeatRx t transport f => Sys2Proof.Machine.execWitnessHeartbeatRx t transport f s
  | .twinEvaluation t => Sys2Proof.Machine.execTwinEvaluation t s
  | .twinNoticeRx t head lift => Sys2Proof.Machine.execTwinNoticeRx t head lift s
  | .foxgloveConfig t ini port sub v => Sys2Proof.Machine.execFoxgloveConfig t ini port sub v s
  | .pcieLinkDown t => Sys2Proof.Machine.execPcieLinkDown t s
  | .pcieLinkUp t gen width vfs flit => Sys2Proof.Machine.execPcieLinkUp t gen width vfs flit s
  | .flr t part => Sys2Proof.Machine.execFlr t part s
  | .peerToPeerRequest t part => Sys2Proof.Machine.execPeerToPeerRequest t part s
  | .touchSample t port q selfTx selfRx => Sys2Proof.Machine.execTouchSample t port q selfTx selfRx s
  | .gloveExit t port => Sys2Proof.Machine.execGloveExit t port s
  | .touchRecordWrite t part => Sys2Proof.Machine.execTouchRecordWrite t part s
  | .selftestRun t ini port v => Sys2Proof.Machine.execSelftestRun t ini port v s
  | .selftestDone t port m => Sys2Proof.Machine.execSelftestDone t port m s
  | .hitMask t ini slot data => Sys2Proof.Machine.execHitMask t ini slot data s
  | .hapticTick t chan mv ma => Sys2Proof.Machine.execHapticTick t chan mv ma s
  | .channelOvercurrent t chan => Sys2Proof.Machine.execChannelOvercurrent t chan s
  | .brakeTimeout t chan => Sys2Proof.Machine.execBrakeTimeout t chan s
  | .haptTrigEdge t n rising => Sys2Proof.Machine.execHaptTrigEdge t n rising s
  | .play t ini chan v => Sys2Proof.Machine.execPlay t ini chan v s
  | .hapticFaultClear t ini chan v => Sys2Proof.Machine.execHapticFaultClear t ini chan v s
  | .axisUpdate t axis late reply => Sys2Proof.Machine.execAxisUpdate t axis late reply s
  | .encoderTransition t enc a b => Sys2Proof.Machine.execEncoderTransition t enc a b s
  | .encClear t ini enc v => Sys2Proof.Machine.execEncClear t ini enc v s
  | .limitInputEdge t axis input level => Sys2Proof.Machine.execLimitInputEdge t axis input level s
  | .limitLatch t axis input => Sys2Proof.Machine.execLimitLatch t axis input s
  | .homeRequest t ini axis v => Sys2Proof.Machine.execHomeRequest t ini axis v s
  | .homeFound t axis => Sys2Proof.Machine.execHomeFound t axis s
  | .homingTimeout t axis => Sys2Proof.Machine.execHomingTimeout t axis s
  | .axisFaultClear t ini axis v => Sys2Proof.Machine.execAxisFaultClear t ini axis v s
  | .handoverEnd t axis => Sys2Proof.Machine.execHandoverEnd t axis s
  | .audioBlock t src locked => Sys2Proof.Machine.execAudioBlock t src locked s
  | .ampEnFall t n => Sys2Proof.Machine.execAmpEnFall t n s
  | .avbPacketRx t stream time data => Sys2Proof.Machine.execAvbPacketRx t stream time data s
  | .asrcUnlock t input => Sys2Proof.Machine.execAsrcUnlock t input s
  | .coalesceWindowEnd t source code part => Sys2Proof.Machine.execCoalesceWindowEnd t source code part s
  | .eventRecordWrite t part => Sys2Proof.Machine.execEventRecordWrite t part s
  | .aliveToggle t => Sys2Proof.Machine.execAliveToggle t s
  | .counterOverflow t k => Sys2Proof.Machine.execCounterOverflow t k s
  | .dumpLatch t skip => Sys2Proof.Machine.execDumpLatch t skip s
  | .tracePageFlush t ring => Sys2Proof.Machine.execTracePageFlush t ring s
  | .traceConsumerWrite t ini ring v => Sys2Proof.Machine.execTraceConsumerWrite t ini ring v s
  | .captureFrameDone t head lag => Sys2Proof.Machine.execCaptureFrameDone t head lag s
  | .domainPowerOnDone t domain => Sys2Proof.Machine.execDomainPowerOnDone t domain s
  | .domainReset t ini v => Sys2Proof.Machine.execDomainReset t ini v s
  | .deviceReset t ini v => Sys2Proof.Machine.execDeviceReset t ini v s
  | .resetN t low node senior mode => Sys2Proof.Machine.execResetN t low node senior mode s
  | .powerOnReset t => Sys2Proof.Machine.execPowerOnReset t s
  | .pllLockLoss t pll => Sys2Proof.Machine.execPllLockLoss t pll s
  | .pllRelockTimeout t pll => Sys2Proof.Machine.execPllRelockTimeout t pll s
  | .ck2Check t ok => Sys2Proof.Machine.execCk2Check t ok s
  | .bistRun t ini mask => Sys2Proof.Machine.execBistRun t ini mask s
  | .bistDone t found => Sys2Proof.Machine.execBistDone t found s
  | .plannerWatchdogTrip t silent => Sys2Proof.Machine.execPlannerWatchdogTrip t silent s
  | .plannerRestartDone t => Sys2Proof.Machine.execPlannerRestartDone t s
  | .partitionRestart t ini part v done rings => Sys2Proof.Machine.execPartitionRestart t ini part v done rings s
  | .partitionRestartDone t part => Sys2Proof.Machine.execPartitionRestartDone t part s
  | .dramTrainingDone t fails temps => Sys2Proof.Machine.execDramTrainingDone t fails temps s
  | .eccInitDone t => Sys2Proof.Machine.execEccInitDone t s
  | .earlyPlanLoaded t sigOk => Sys2Proof.Machine.execEarlyPlanLoaded t sigOk s
  | .gpioInputEdge t pin level => Sys2Proof.Machine.execGpioInputEdge t pin level s
  | .gpioOutWrite t ini bank win v => Sys2Proof.Machine.execGpioOutWrite t ini bank win v s
  | .bankUndervoltage t bank mv => Sys2Proof.Machine.execBankUndervoltage t bank mv s
  | .bankResume t bank mv => Sys2Proof.Machine.execBankResume t bank mv s
  | .i2cGo t ini bus v => Sys2Proof.Machine.execI2cGo t ini bus v s
  | .i2cTransferDone t bus code data => Sys2Proof.Machine.execI2cTransferDone t bus code data s
  | .busTimeout t bus => Sys2Proof.Machine.execBusTimeout t bus s
  | .recover t ini bus v => Sys2Proof.Machine.execRecover t ini bus v s
  | .i2cRecoveryDone t bus scl pulses => Sys2Proof.Machine.execI2cRecoveryDone t bus scl pulses s
  | .spiGo t ini unit v => Sys2Proof.Machine.execSpiGo t ini unit v s
  | .spiTransferDone t unit data => Sys2Proof.Machine.execSpiTransferDone t unit data s
  | .txLen t ini uart v => Sys2Proof.Machine.execTxLen t ini uart v s
  | .uartByteRx t uart b err => Sys2Proof.Machine.execUartByteRx t uart b err s
  | .uartRxdataRead t ini uart n => Sys2Proof.Machine.execUartRxdataRead t ini uart n s
  | .canBusError t can tec rec_ => Sys2Proof.Machine.execCanBusError t can tec rec_ s
  | .busOffRecovery t can => Sys2Proof.Machine.execBusOffRecovery t can s
  | .ethLinkChange t mac up speed => Sys2Proof.Machine.execEthLinkChange t mac up speed s
  | .gateCycleStart t mac => Sys2Proof.Machine.execGateCycleStart t mac s
  | .thermalThrottle t temps => Sys2Proof.Machine.execThermalThrottle t temps s
  | .renderStopped t temps => Sys2Proof.Machine.execRenderStopped t temps s
  | .thermalTrip t temps => Sys2Proof.Machine.execThermalTrip t temps s
  | .thermalRelease t temps => Sys2Proof.Machine.execThermalRelease t temps s
  | .vinOvercurrent t ma => Sys2Proof.Machine.execVinOvercurrent t ma s
  | .overcurrentTrip t ma => Sys2Proof.Machine.execOvercurrentTrip t ma s
  | .vinBrownout t mv => Sys2Proof.Machine.execVinBrownout t mv s
  | .vinHighTrip t mv => Sys2Proof.Machine.execVinHighTrip t mv s
  | .tripRelease t mv ma => Sys2Proof.Machine.execTripRelease t mv ma s
  | .pllRelock t pll => Sys2Proof.Machine.execPllRelock t pll s
  | .uartTxComplete t uart => Sys2Proof.Machine.execUartTxComplete t uart s
  | .encoderIndexEdge t enc rising => Sys2Proof.Machine.execEncoderIndexEdge t enc rising s

end Sys2Proof.Machine
end

