-- ==== Sys2Proof/Machine/Step.lean ====
section
/-!
DEFINITION. One step of the block: the command at the front of the queue is taken with the queue's rest (DESIGN CHOICE, log entry 1),
and the host's way of putting a command in front.
-/
namespace Sys2Proof.Machine

/-- One step. The command at the front is taken out of the queue and `exec` answers for it; on an empty queue the
block idles and the state stays as it is (DESIGN CHOICE, log entry 1). -/
def step (s : State) : Host.Outcome State Fault Refusal :=
  match s.pending with
  | [] => .next s
  | i :: rest => exec i { s with pending := rest }

/-- `s` with the command that the word spells at the front of its queue. No row of the table has bits, so no word
spells a command and the state stays as it is. -/
def State.withFetchWord (s : State) (nbits w : Nat) : State :=
  match Sys2Proof.decodeTableWord nbits w with
  | some i => { s with pending := i :: s.pending }
  | none => s

end Sys2Proof.Machine
end

