-- ==== Sys2Proof/WellFormed.lean ====
section
/-!
DEFINITION. What the fields of a command can hold: every operand fits the width the manual gives it, and an instance
number names one of the instances of the Full configuration (R3). `exec` gives every command an effect, well formed or
not; a command that is not well formed is one that no initiator, pin or timer of the device can send.
-/
namespace Sys2Proof

/-- `n` fits `w` bits. -/
def fits (w n : Nat) : Bool := decide (n < 2 ^ w)

/-- A partition of R3 and a client binding of R72 (64 stands for a forwarded request), stamped as the port of the path stamps
them: the physical function and the monitor function issue P0, a virtual function its own partition, and all of them and a
Tilsol client the normal world (R17, R280). -/
def Ini.fits (i : Ini) : Bool :=
  decide (i.part < 16) && (match i.path with
    | .tilsol b => decide (b ≤ 64) && !i.secure
    | .window => true
    | .vf => decide (1 ≤ i.part) && !i.secure
    | .pf | .monitor => decide (i.part = 0) && !i.secure)

/-- The common fields of a ring command have the widths of R266. -/
def QHdr.fits (h : QHdr) : Bool :=
  decide (h.part < 16) && decide (h.queue < 8) && Sys2Proof.fits 8 h.flags && Sys2Proof.fits 8 h.fence
    && Sys2Proof.fits 8 h.arg && Sys2Proof.fits 32 h.tag && Sys2Proof.fits 64 h.value

/-- The canonical header and COUNTER of R64, and a transport of R68. -/
def TilHead.fits (h : TilHead) : Bool :=
  decide (h.via < 5) && decide (h.port < 64) && Sys2Proof.fits 8 h.op && Sys2Proof.fits 8 h.client && Sys2Proof.fits 8 h.tag
    && Sys2Proof.fits 16 h.index && Sys2Proof.fits 8 h.sub && Sys2Proof.fits 32 h.counter

/-- A frame of R64 with the route word of R70 and its 8-byte tag. -/
def TilFrame.fits (f : TilFrame) : Bool :=
  f.head.fits && Sys2Proof.fits 8 f.route && Sys2Proof.fits 16 f.len && f.mac.length == 8 && Sys2Proof.fits 16 f.ident

/-- A rectangle of U16 fields (R267). -/
def Rect.fits (r : Rect) : Bool :=
  Sys2Proof.fits 16 r.x && Sys2Proof.fits 16 r.y && Sys2Proof.fits 16 r.w && Sys2Proof.fits 16 r.h

/-- Every operand of a command fits its field. -/
def wellFormed (i : Instr) : Bool :=
  match i with
  | .frameEpoch t => fits 64 t
  | .d2dTransferCrcFail t delay => fits 64 t && fits 64 delay
  | .d2dLaneFail t => fits 64 t
  | .unitLost t _ inst => fits 64 t && fits 8 inst
  | .bindingComputed t => fits 64 t
  | .registerWrite t ini idx sub byte width _ _ => fits 64 t && ini.fits && fits 16 idx && fits 8 sub && decide (byte < 8) && (width == 1 || width == 2 || width == 4 || width == 8) && byte % width == 0
  | .setAliasWrite t ini idx sub _ _ => fits 64 t && ini.fits && fits 16 idx && fits 8 sub
  | .clearAliasWrite t ini idx sub _ _ => fits 64 t && ini.fits && fits 16 idx && fits 8 sub
  | .toggleAliasWrite t ini idx sub _ _ => fits 64 t && ini.fits && fits 16 idx && fits 8 sub
  | .statusClear t ini _ idx sub _ => fits 64 t && ini.fits && fits 16 idx && fits 8 sub
  | .pendingSeqAdvance t part idx sub => fits 64 t && decide (part < 16) && fits 16 idx && fits 8 sub
  | .lowHalfRead t ini win idx sub => fits 64 t && ini.fits && decide (win < 4) && fits 16 idx && fits 8 sub
  | .highHalfRead t ini win idx sub => fits 64 t && ini.fits && decide (win < 4) && fits 16 idx && fits 8 sub
  | .lowHalfWrite t ini win idx sub _ _ => fits 64 t && ini.fits && decide (win < 4) && fits 16 idx && fits 8 sub
  | .highHalfWrite t ini win idx sub _ _ => fits 64 t && ini.fits && decide (win < 4) && fits 16 idx && fits 8 sub
  | .commitRequest t ini _ => fits 64 t && ini.fits
  | .commitInEdge t _ => fits 64 t
  | .armedCommitTimeout t => fits 64 t
  | .wallTimeRelease t => fits 64 t
  | .store t ini _ => fits 64 t && ini.fits
  | .storeDone t _ => fits 64 t
  | .restoreDefaults t ini _ => fits 64 t && ini.fits
  | .lockSetsWrite t ini _ => fits 64 t && ini.fits
  | .snapshotTrigger t ini set _ _ => fits 64 t && ini.fits && decide (set < 16)
  | .snapshotDeferredCapture t set => fits 64 t && decide (set < 16)
  | .domainSelect t ini _ => fits 64 t && ini.fits
  | .domainDataRead t ini => fits 64 t && ini.fits
  | .domainDataWrite t ini _ => fits 64 t && ini.fits
  | .domainCommitLen t ini _ _ => fits 64 t && ini.fits
  | .tilsolRead t f => fits 64 t && f.fits
  | .tilsolWrite t f _ => fits 64 t && f.fits
  | .tilsolReadseg t f => fits 64 t && f.fits
  | .tilsolWriteseg t f _ => fits 64 t && f.fits
  | .tilsolCommit t f => fits 64 t && f.fits
  | .tilsolSnapshot t f _ => fits 64 t && f.fits
  | .tilsolSubscribe t f => fits 64 t && f.fits
  | .tilsolUnsubscribe t f => fits 64 t && f.fits
  | .tilsolAbort t f => fits 64 t && f.fits
  | .tilsolReservedOpcode t f => fits 64 t && f.fits
  | .mailboxDoorbell t ini _ _ => fits 64 t && ini.fits
  | .forwardedResponse t node client tag status payload => fits 64 t && decide (node < 64) && decide (client < 256) && decide (tag < 256) && fits 32 status && decide (8 ≤ payload.length)
  | .writesegTimeout t => fits 64 t
  | .subscriptionPush t binding sub => fits 64 t && decide (binding < 65) && decide (sub < 16)
  | .heartbeat t => fits 64 t
  | .emergency t transport => fits 64 t && decide (transport < 5)
  | .tilsolRekey t f => fits 64 t && f.fits
  | .rekeyDone t binding => fits 64 t && decide (binding < 65)
  | .planDmaGo t ini _ _ => fits 64 t && ini.fits
  | .planValidated t _ => fits 64 t
  | .planRevalidate t ini => fits 64 t && ini.fits
  | .planStoreSlot t ini => fits 64 t && ini.fits
  | .planLoadSlot t ini => fits 64 t && ini.fits
  | .planSwapWhenReady t ini => fits 64 t && ini.fits
  | .planSwapAtTime t ini => fits 64 t && ini.fits
  | .planDiscard t ini => fits 64 t && ini.fits
  | .planEraseSlot t ini => fits 64 t && ini.fits
  | .planPrepare t ini => fits 64 t && ini.fits
  | .planActionDone t => fits 64 t
  | .preparationDone t => fits 64 t
  | .readyExpired t => fits 64 t
  | .allocate t h w ht format layout cls => fits 64 t && h.fits && fits 16 w && fits 16 ht && fits 8 format && fits 8 layout && fits 8 cls
  | .free t h handle => fits 64 t && h.fits && fits 32 handle
  | .share t h handle grantee rights => fits 64 t && h.fits && fits 32 handle && fits 8 grantee && fits 8 rights
  | .memoryTransaction t id port init part _ cls _ addr len _ ecc _ => fits 64 t && fits 64 id && decide (port < 256) && decide (init < 13) && decide (part < 16) && decide (cls < 4) && fits 46 addr && fits 32 len && fits 8 ecc
  | .apertureAccess t id port ini off len _ _ ecc => fits 64 t && fits 64 id && decide (port < 256) && ini.fits && fits 64 off && fits 32 len && fits 8 ecc
  | .imbalanceWindow t _ => fits 64 t
  | .migrationCopyDone t surf => fits 64 t && fits 64 surf
  | .migrationPassDone t surf => fits 64 t && fits 64 surf
  | .migrationHold t surf => fits 64 t && fits 64 surf
  | .migrationRetry t surf => fits 64 t && fits 64 surf
  | .batchStart t batch => fits 64 t && decide (batch < 65536)
  | .tileStart t engine _ => fits 64 t && decide (engine < 8)
  | .tileWritebackDone t engine => fits 64 t && decide (engine < 8)
  | .batchDeadline t batch => fits 64 t && decide (batch < 65536)
  | .videoFrameStart t input => fits 64 t && decide (input < 10)
  | .videoFrameEnd t input w h dt _ _ => fits 64 t && decide (input < 10) && fits 16 w && fits 16 h && fits 10 dt
  | .videoInputTimeout t input => fits 64 t && decide (input < 10)
  | .vblankStart t head => fits 64 t && decide (head < 16)
  | .fetchDataReturn t head n _ _ => fits 64 t && decide (head < 16) && fits 32 n
  | .pixelScan t head => fits 64 t && decide (head < 16)
  | .irqHpd t port _ => fits 64 t && decide (port < 22)
  | .hpdUnplug t port => fits 64 t && decide (port < 22)
  | .hpdPlug t port => fits 64 t && decide (port < 22)
  | .sinkIdReadDone t port lanes rate _ _ modes => fits 64 t && decide (port < 22) && fits 8 lanes && fits 32 rate
    && modes.all (fun m => fits 16 m.hActive && fits 16 m.hTotal && fits 16 m.vActive && fits 16 m.vTotal && fits 32 m.clockKhz)
  | .trainingAttemptDone t port _ => fits 64 t && decide (port < 22)
  | .retrainTimer t port => fits 64 t && decide (port < 22)
  | .linkLost t port => fits 64 t && decide (port < 22)
  | .linkGraceExpired t port => fits 64 t && decide (port < 22)
  | .hdcpAuthDone t port _ _ => fits 64 t && decide (port < 22)
  | .sentinelValueReady t region => fits 64 t && decide (region < 256)
  | .sentinelLate t region => fits 64 t && decide (region < 256)
  | .regionCompare t region => fits 64 t && decide (region < 256)
  | .releaseRegion t ini _ => fits 64 t && ini.fits
  | .requestedState t ini region _ => fits 64 t && ini.fits && decide (region < 256)
  | .integrityRequestDone t _ => fits 64 t
  | .renderSubmit t h _ _ => fits 64 t && h.fits
  | .renderComplete t r0 r1 => fits 64 t && fits 64 r0 && fits 64 r1
  | .renderPreempt t n => fits 64 t && fits 32 n
  | .renderTimeout t n => fits 64 t && fits 32 n
  | .spirvTranslationDone t part size kib _ _ _ => fits 64 t && decide (part < 16) && fits 32 size && fits 32 kib
  | .pickValidationDone t slot => fits 64 t && decide (slot < 512)
  | .pickResult t ray => fits 64 t && fits 64 ray
  | .queueEnable t ini part queue _ => fits 64 t && ini.fits && decide (part < 16) && decide (queue < 8)
  | .queueDoorbell t ini part queue _ => fits 64 t && ini.fits && decide (part < 16) && decide (queue < 8)
  | .cqHeadWrite t ini part queue _ => fits 64 t && ini.fits && decide (part < 16) && decide (queue < 8)
  | .cqRecordWrite t part queue => fits 64 t && decide (part < 16) && decide (queue < 8)
  | .dispatch t engine => fits 64 t && decide (engine < 3)
  | .present t h handle slot region presentAt expected rects => fits 64 t && h.fits && fits 32 handle && fits 16 slot && fits 16 region && fits 64 presentAt && fits 64 expected && rects.all Rect.fits
  | .copy t h src dst srcX srcY dstX dstY w ht => fits 64 t && h.fits && fits 32 src && fits 32 dst && fits 16 srcX && fits 16 srcY && fits 16 dstX && fits 16 dstY && fits 16 w && fits 16 ht
  | .fill t h dst dstX dstY w ht value => fits 64 t && h.fits && fits 32 dst && fits 16 dstX && fits 16 dstY && fits 16 w && fits 16 ht && fits 64 value
  | .convert t h src dst srcX srcY dstX dstY w ht => fits 64 t && h.fits && fits 32 src && fits 32 dst && fits 16 srcX && fits 16 srcY && fits 16 dstX && fits 16 dstY && fits 16 w && fits 16 ht
  | .checkValue t h handle x y w ht => fits 64 t && h.fits && fits 32 handle && fits 16 x && fits 16 y && fits 16 w && fits 16 ht
  | .copyEngineDone t engine => fits 64 t && decide (engine < 2)
  | .commandPreempt t engine tiles => fits 64 t && decide (engine < 2) && fits 32 tiles
  | .fenceWait t h value timeoutUs => fits 64 t && h.fits && fits 64 value && fits 32 timeoutUs
  | .fenceTimeout t part queue => fits 64 t && decide (part < 16) && decide (queue < 8)
  | .fenceSignal t h => fits 64 t && h.fits
  | .fenceValuesWrite t ini part fence _ => fits 64 t && ini.fits && decide (part < 16) && decide (fence < 255)
  | .reservedCommand t h => fits 64 t && h.fits
  | .queuePromotion t part queue => fits 64 t && decide (part < 16) && decide (queue < 8)
  | .queueAbort t ini part queue _ done ring => fits 64 t && ini.fits && decide (part < 16) && decide (queue < 8) && fits 32 done && ring.all QHdr.fits
  | .markhorWatchdogTrip t => fits 64 t
  | .lockstepMismatch t => fits 64 t
  | .markhorAutoRelease t => fits 64 t
  | .markhorRestart t ini _ => fits 64 t && ini.fits
  | .markhorRestartDone t => fits 64 t
  | .markhorBootDone t _ verifiedAt _ _ => fits 64 t && fits 64 verifiedAt
  | .fwLevelRaise t => fits 64 t
  | .fuseProgram t ini _ value _ => fits 64 t && ini.fits && fits 64 value
  | .fuseProgramDone t bad => fits 64 t && fits 64 bad
  | .keyBundle t ini _ => fits 64 t && ini.fits
  | .bundleResult t _ => fits 64 t
  | .firmwareImage t ini _ _ => fits 64 t && ini.fits
  | .challenge t ini _ => fits 64 t && ini.fits
  | .foxgloveToken t ini _ => fits 64 t && ini.fits
  | .tokenChecked t _ => fits 64 t
  | .authorisationExpiry t => fits 64 t
  | .revoke t ini _ => fits 64 t && ini.fits
  | .rngReady t => fits 64 t
  | .rngHealthFail t => fits 64 t
  | .rngReseed t => fits 64 t
  | .seedRefresh t _ => fits 64 t
  | .rngDataRead t ini => fits 64 t && ini.fits
  | .refreshDue t chan _ _ => fits 64 t && decide (chan < 32)
  | .mr4Poll t _ => fits 64 t
  | .freqChangeStart t => fits 64 t
  | .freqChangeDone t => fits 64 t
  | .freqDeferred t => fits 64 t
  | .trackerEntryFree t id => fits 64 t && fits 64 id
  | .agePromotion t id => fits 64 t && fits 64 id
  | .patrolScrub t group _ _ => fits 64 t && decide (group < 8)
  | .bankRetention t bank => fits 64 t && decide (bank < 32)
  | .wearCounterStore t counter => fits 64 t && decide (counter < 256)
  | .userStore t index => fits 64 t && decide (0xC100 ≤ index) && decide (index < 0xFF80)
  | .libraryEntry t ini _ _ => fits 64 t && ini.fits
  | .eraseId t ini _ => fits 64 t && ini.fits
  | .dataFlitRx t port _ fec => fits 64 t && decide (port < 4) && fits 8 fec
  | .nakFlitRx t port _ fec => fits 64 t && decide (port < 4) && fits 8 fec
  | .idleFlitRx t port _ fec => fits 64 t && decide (port < 4) && fits 8 fec
  | .idleFlitSend t port => fits 64 t && decide (port < 4)
  | .replayTimeout t port => fits 64 t && decide (port < 4)
  | .portRetrainDone t port lanes gbps => fits 64 t && decide (port < 4) && fits 8 lanes && fits 32 gbps
  | .linkRetry t port => fits 64 t && decide (port < 4)
  | .e2eAckRx t src cls seq => fits 64 t && decide (src < 64) && decide (cls < 4) && fits 16 seq
  | .e2eTimeout t dest cls => fits 64 t && decide (dest < 64) && decide (cls < 4)
  | .tileMessageRx t src stream tile epoch header _ present _ => fits 64 t && decide (src < 64) && fits 16 stream && fits 16 tile && fits 64 epoch && fits 32 header && fits 64 present
  | .bulkWriteRx t src part _ addr _ => fits 64 t && decide (src < 64) && decide (part < 16) && fits 46 addr
  | .bulkReadRequestRx t src part _ addr len => fits 64 t && decide (src < 64) && decide (part < 16) && fits 46 addr && fits 32 len
  | .bulkReadDataRx t src addr _ => fits 64 t && decide (src < 64) && fits 46 addr
  | .nodeHelloRx t port serial config node nport _ => fits 64 t && decide (port < 4) && fits 64 serial && fits 8 config && decide (node < 64) && decide (nport < 4)
  | .nodeHeartbeatRx t node => fits 64 t && decide (node < 64)
  | .nodeHeartbeatSend t => fits 64 t
  | .nodeLost t node master => fits 64 t && decide (node < 64) && decide (master < 256)
  | .timeFlitSend t port => fits 64 t && decide (port < 4)
  | .timeFlitRx t port sent got tenth master => fits 64 t && decide (port < 4) && fits 64 sent && fits 64 got && fits 8 tenth && decide (master < 256)
  | .timeSourceLost t => fits 64 t
  | .wallTimeSet t ini _ => fits 64 t && ini.fits
  | .gptpMessageRx t mac origin path => fits 64 t && decide (mac < 2) && fits 64 origin && fits 64 path
  | .twinHeartbeatRx t port health plan => fits 64 t && decide (port < 4) && fits 16 health && fits 32 plan
  | .twinHeartbeatSend t => fits 64 t
  | .twinAliveOutToggle t => fits 64 t
  | .twinAliveInEdge t => fits 64 t
  | .witnessHeartbeatRx t transport f => fits 64 t && decide (transport < 5) && f.fits
  | .twinEvaluation t => fits 64 t
  | .twinNoticeRx t head _ => fits 64 t && decide (head < 16)
  | .foxgloveConfig t ini port sub _ => fits 64 t && ini.fits && decide (port < 4) && decide (0 < sub) && fits 8 sub
  | .pcieLinkDown t => fits 64 t
  | .pcieLinkUp t gen width vfs _ => fits 64 t && decide (0 < gen) && decide (gen < 7) && fits 8 width && fits 8 vfs
  | .flr t part => fits 64 t && decide (part < 16)
  | .peerToPeerRequest t part => fits 64 t && decide (part < 16)
  | .touchSample t port _ _ _ => fits 64 t && decide (port < 4)
  | .gloveExit t port => fits 64 t && decide (port < 4)
  | .touchRecordWrite t part => fits 64 t && decide (part < 16)
  | .selftestRun t ini port _ => fits 64 t && ini.fits && decide (port < 4)
  | .selftestDone t port _ => fits 64 t && decide (port < 4)
  | .hitMask t ini slot _ => fits 64 t && ini.fits && decide (slot < 512)
  | .hapticTick t chan _ _ => fits 64 t && decide (chan < 8)
  | .channelOvercurrent t chan => fits 64 t && decide (chan < 8)
  | .brakeTimeout t chan => fits 64 t && decide (chan < 8)
  | .haptTrigEdge t n _ => fits 64 t && decide (n < 8)
  | .play t ini chan _ => fits 64 t && ini.fits && decide (chan < 8)
  | .hapticFaultClear t ini chan _ => fits 64 t && ini.fits && decide (chan < 8)
  | .axisUpdate t axis _ reply => fits 64 t && decide (axis < 6) && fits 64 reply
  | .encoderTransition t enc _ _ => fits 64 t && decide (enc < 8)
  | .encClear t ini enc _ => fits 64 t && ini.fits && decide (enc < 8)
  | .limitInputEdge t axis input _ => fits 64 t && decide (axis < 6) && decide (input < 3)
  | .limitLatch t axis input => fits 64 t && decide (axis < 6) && decide (input < 3)
  | .homeRequest t ini axis _ => fits 64 t && ini.fits && decide (axis < 6)
  | .homeFound t axis => fits 64 t && decide (axis < 6)
  | .homingTimeout t axis => fits 64 t && decide (axis < 6)
  | .axisFaultClear t ini axis _ => fits 64 t && ini.fits && decide (axis < 6)
  | .handoverEnd t axis => fits 64 t && decide (axis < 6)
  | .audioBlock t _ _ => fits 64 t
  | .ampEnFall t n => fits 64 t && decide (n < 8)
  | .avbPacketRx t stream time _ => fits 64 t && decide (stream < 16) && fits 64 time
  | .asrcUnlock t input => fits 64 t && decide (input < 64)
  | .coalesceWindowEnd t source code part => fits 64 t && decide (source < 65536) && fits 16 code && fits 8 part
  | .eventRecordWrite t part => fits 64 t && decide (part < 16)
  | .aliveToggle t => fits 64 t
  | .counterOverflow t k => fits 64 t && decide (k < 1024)
  | .dumpLatch t _ => fits 64 t
  | .tracePageFlush t ring => fits 64 t && decide (ring < 8)
  | .traceConsumerWrite t ini ring _ => fits 64 t && ini.fits && decide (ring < 8)
  | .captureFrameDone t head lag => fits 64 t && decide (head < 16) && fits 64 lag
  | .domainPowerOnDone t domain => fits 64 t && decide (domain < 20)
  | .domainReset t ini _ => fits 64 t && ini.fits
  | .deviceReset t ini _ => fits 64 t && ini.fits
  | .resetN t _ node senior mode => fits 64 t && decide (node < 64) && decide (senior < 2) && decide (mode < 4)
  | .powerOnReset t => fits 64 t
  | .pllLockLoss t pll => fits 64 t && decide (pll < 34)
  | .pllRelockTimeout t pll => fits 64 t && decide (pll < 34)
  | .ck2Check t _ => fits 64 t
  | .bistRun t ini _ => fits 64 t && ini.fits
  | .bistDone t _ => fits 64 t
  | .plannerWatchdogTrip t _ => fits 64 t
  | .plannerRestartDone t => fits 64 t
  | .partitionRestart t ini part _ _ _ => fits 64 t && ini.fits && decide (0 < part) && decide (part < 16)
  | .partitionRestartDone t part => fits 64 t && decide (0 < part) && decide (part < 16)
  | .dramTrainingDone t _ _ => fits 64 t
  | .eccInitDone t => fits 64 t
  | .earlyPlanLoaded t _ => fits 64 t
  | .gpioInputEdge t pin _ => fits 64 t && decide (pin < 128)
  | .gpioOutWrite t ini bank win _ => fits 64 t && ini.fits && decide (bank < 8) && decide (win < 4)
  | .bankUndervoltage t bank mv => fits 64 t && decide (bank < 8) && fits 32 mv
  | .bankResume t bank mv => fits 64 t && decide (bank < 8) && fits 32 mv
  | .i2cGo t ini bus _ => fits 64 t && ini.fits && decide (bus < 16)
  | .i2cTransferDone t bus code _ => fits 64 t && decide (bus < 16) && fits 16 code
  | .busTimeout t bus => fits 64 t && decide (bus < 16)
  | .recover t ini bus _ => fits 64 t && ini.fits && decide (bus < 16)
  | .i2cRecoveryDone t bus _ pulses => fits 64 t && decide (bus < 16) && decide (pulses < 10)
  | .spiGo t ini unit _ => fits 64 t && ini.fits && decide (unit < 4)
  | .spiTransferDone t unit _ => fits 64 t && decide (unit < 4)
  | .txLen t ini uart _ => fits 64 t && ini.fits && decide (uart < 4)
  | .uartByteRx t uart _ _ => fits 64 t && decide (uart < 4)
  | .uartRxdataRead t ini uart n => fits 64 t && ini.fits && decide (uart < 4) && fits 32 n
  | .canBusError t can tec rec_ => fits 64 t && decide (can < 4) && fits 16 tec && fits 16 rec_
  | .busOffRecovery t can => fits 64 t && decide (can < 4)
  | .ethLinkChange t mac _ speed => fits 64 t && decide (mac < 2) && fits 32 speed
  | .gateCycleStart t mac => fits 64 t && decide (mac < 2)
  | .thermalThrottle t _ => fits 64 t
  | .renderStopped t _ => fits 64 t
  | .thermalTrip t _ => fits 64 t
  | .thermalRelease t _ => fits 64 t
  | .vinOvercurrent t ma => fits 64 t && fits 32 ma
  | .overcurrentTrip t ma => fits 64 t && fits 32 ma
  | .vinBrownout t mv => fits 64 t && fits 32 mv
  | .vinHighTrip t mv => fits 64 t && fits 32 mv
  | .tripRelease t mv ma => fits 64 t && fits 32 mv && fits 32 ma
  | .pllRelock t pll => fits 64 t && decide (pll < 34)
  | .uartTxComplete t uart => fits 64 t && decide (uart < 4)
  | .encoderIndexEdge t enc _ => fits 64 t && decide (enc < 8)

end Sys2Proof
end

