-- ==== Sys2Proof/Safety.lean ====
section
/-!
DEFINITION. The terms in which claims about the block are stated: the canonical form of its maps and memory, and what a
command leaves alone.
-/
namespace Sys2Proof.Machine

/-! ## Canonical forms -/

/-- Memory is in its canonical form: addresses rise strictly, and no byte that is listed equals what an unlisted address
reads as (DESIGN CHOICE, log entry 7). -/
def Memory.wf (m : List Host.Cell) : Bool := mwf memDefault m

/-- Memory and the register and block maps are in their canonical forms. -/
def State.wf (s : State) : Bool :=
  Memory.wf s.mem && mwf (objDefault s.cfg) s.objs && mwf (objDefault s.cfg) s.shadow && mwf (objDefault s.cfg) s.stored
    && mwf (blockDefault s.cfg) s.blocks && mwf (blockDefault s.cfg) s.liveBlocks

/-! ## Flags -/

/-- Flag `n` of the status object with a key (R46). -/
def State.flag (s : State) (k n : Nat) : Bool := bit (s.getK k).toNat n

/-! ## Writes that are taken -/

/-- The key of the object that a write by an initiator names. -/
def State.targetKey (s : State) (ini : Ini) (idx sub : Nat) : Nat :=
  okey (match findObj s.cfg (canonIdx idx) sub with
    | some o => o.bankFor ini.part
    | none => 0) (canonIdx idx) sub

/-- The object and the value of a write that is taken as it stands: the object is there and is no status object, steps 2 to 8
of R494 refuse nothing, and the value needs no clamp (R54). The refusal of the owning chapter is not looked at. -/
def State.accepts (s : State) (q : Wr) : Option (Obj × Word) :=
  match s.writeRefusal q false, findObj s.cfg (canonIdx q.idx) q.sub with
  | none, some o =>
    let x := s.newValue q o (s.targetKey q.ini q.idx q.sub)
    if o.row.status.isNone && x.2 == 0 then some (o, x.1) else none
  | _, _ => none

/-- A write is taken as it stands, and stores `w`. -/
abbrev State.takes (s : State) (q : Wr) (w : Word) : Prop := (s.accepts q).map Prod.snd = some w

/-- The object is there and the initiator has the read right (R34). -/
def State.mayRead (s : State) (ini : Ini) (idx sub : Nat) : Bool :=
  (findObj s.cfg (canonIdx idx) sub).elim false (fun o => s.hasRight ini false o (canonIdx idx) sub)

/-- `s` with the value of such a write stored (R48). -/
def State.took (s : State) (q : Wr) (o : Obj) (w : Word) : State := s.storeValue o (s.targetKey q.ini q.idx q.sub) w

/-! ## The invariant of the block -/

/-- What every step keeps: the configuration is one that exists at reset, device time fits its 64 bits (R21), and every
command that waits is well formed. -/
structure State.Inv (s : State) : Prop where
  cfg : s.cfg = State.reset.cfg
  time : s.now < 2 ^ 64
  queue : ∀ c, c ∈ s.pending → wellFormed c = true

/-! ## Tilsol requests that are carried out -/

/-- A request of a client that binding `b` authenticates under a counter that was not used, and that no rule of R84 turns
away: its operation is carried out (R68, R70, R72 to R74). -/
abbrev State.tilOpens (s : State) (b : Nat) (f : TilFrame) : Prop :=
  s.inReset = false ∧ s.plannerUp = true ∧ (f.head.via = 2 ∨ f.head.via = 3 → f.route = 255 ∨ f.route = s.selfNode) ∧
    s.bindingFor f.head.client = some b ∧ s.heard f = true ∧ bit f.head.op 7 = false ∧ s.verifies b f = true ∧ s.get (0x1200 + b) 5 < f.head.counter ∧
    f.head.counter ≤ counterMax ∧ (s.acceptCounter b f.head).tilRefusal b f = none

/-! ## Frames -/

/-- Between the two states, the configuration, every byte of the internal memory, and every object whose key is not in `P`
stay: its active value, its shadow value, its content as it reads and its content in force. -/
structure Keeps (P : Nat → Prop) (s s' : State) : Prop where
  cfg : s'.cfg = s.cfg
  mem : ∀ a, s'.rdByte a = s.rdByte a
  regs : ∀ k, ¬ P k → s'.getK k = s.getK k
  shadow : ∀ k, ¬ P k → s'.getShadow k = s.getShadow k
  blks : ∀ k, ¬ P k → s'.getBlk k = s.getBlk k
  live : ∀ k, ¬ P k → s'.getLive k = s.getLive k

/-- Objects of the event, trace and telemetry range 0x8C00 to 0x8FFF (chapter 18), of every bank: what an event changes
beside the flag that it sets. -/
def evKey (k : Nat) : Prop := 0x8C00 ≤ keyIdx k ∧ keyIdx k < 0x9000

/-- Objects 0x1180 to 0x11BF: the clamp ring (R57), RefusedWrites, LastRefusal and ConfigurationStatus (R44), of every
bank. -/
def logKey (k : Nat) : Prop := 0x1180 ≤ keyIdx k ∧ keyIdx k < 0x11C0

/-- What a write of the object with a key may change by itself: that object, the records of refused and clamped writes, and
the event range. -/
def wrKey (k : Nat) : Nat → Prop := fun j => j = k ∨ logKey j ∨ evKey j

/-- What an event that sets the flag of one status object may change. -/
def flagKey (k : Nat) : Nat → Prop := fun j => j = k ∨ evKey j

end Sys2Proof.Machine
end

