-- ==== Sys2Proof/Certificates/Slice0/Obligations.lean ====
section
/-!
DEFINITION. The statements for the provers. A statement about a command names the conditions on state and operands under which
the command has the effect that the spec gives it, and what state it then leaves. `s.ran t f` is the state that a command
with effect `f` leaves at its instant `t`: the effect's result with the configuration and the queue as they were and device
time at that instant (DESIGN CHOICE, log entries 1 and 2). Every premise `s.inReset = false` says that the device is not held in reset (R447).
`s.takes q w` says that steps 2 to 8 of R494 let the write `q` pass and that it stores `w` unclamped.
-/
open Sys2Proof Sys2Proof.Machine

/-- The frame epoch, the die-to-die link and lost units: The timer of the frame epoch does nothing before the epoch
falls due; then the actions of an epoch run, with a pending plan swap as step 1 of R24, and the trace may record the
epoch. The old composition frame leaves the load of each engine and no engine time. A transfer that fails its CRC counts
as an error and a replay, with the longest delay kept. A failed lane waits for a spare until the next epoch, which
counts it as switched; a third failure loses the edge die, after which lanes that fail change nothing. A unit that is
absent or lost already is not lost again; any other is marked lost with the consequence of R27, a DRAM half or the edge
die with every unit it is made of. A lost engine that is not the last reads 1 in its STATE; a batch that it ran is stuck
until its deadline, and a new binding is due while a plan runs. With Markhor its STATE reads 0, hold 5 is set and
SAFE_OK drops. Where the manual leaves a point open, it holds for the model's choice in DESIGN CHOICE, log entries 2, 66, 88, 126. -/
def Obligations.DeviceRuns : Prop :=
  (∀ t s, s.inReset = false → max s.now t < s.time.nextEpoch → 
    exec (.frameEpoch t) s = .next (s.ran t fun s => s)) ∧
  (∀ t s, s.inReset = false → s.time.nextEpoch ≤ max s.now t → 
    exec (.frameEpoch t) s = .next (s.ran t fun s => (s.runEpoch State.swapDue).traceFree 3)) ∧
  (∀ e (s : State), e < s.cfg.engines → s.time.lastEpoch < s.now → 
    s.endFrame.get (0x4080 + e) 6 = min 100 ((s.engine e).busy * 100 / max 1 ((s.now - s.time.lastEpoch) * 12 / 10)) ∧
      (s.endFrame.engine e).busy = 0 ∧ s.endFrame.comp.ran = []) ∧
  (∀ (s : State), s.time.spare ≠ 0 → s.get 0x9070 3 + s.time.spare ≤ 2 → 
    s.switchSpares.get 0x9070 3 = s.get 0x9070 3 + s.time.spare ∧ s.switchSpares.time.spare = 0 ∧
      Keeps (fun k => k = okey 0 0x9070 3 ∨ evKey k) s s.switchSpares) ∧
  (∀ t delay s, s.inReset = false → 
    ∃ s', exec (.d2dTransferCrcFail t delay) s = .next s' ∧
      s'.get 0x9070 1 = min (s.get 0x9070 1 + 1) (2 ^ 32 - 1) ∧ s'.get 0x9070 2 = min (s.get 0x9070 2 + 1) (2 ^ 32 - 1) ∧
      s'.get 0x9070 4 = max (s.get 0x9070 4) (min delay (2 ^ 32 - 1)) ∧ Keeps (fun k => keyIdx k = 0x9070) s s') ∧
  (∀ t s, s.inReset = false → s.time.edgeLost = true → exec (.d2dLaneFail t) s = .next (s.ran t fun s => s)) ∧
  (∀ t s, s.inReset = false → s.time.edgeLost = false → s.get 0x9070 3 + s.time.spare < 2 → 
    ∃ s', exec (.d2dLaneFail t) s = .next s' ∧ s'.time.spare = s.time.spare + 1 ∧ s'.time.edgeLost = false ∧
      Keeps (fun _ => False) s s') ∧
  (∀ t s, s.inReset = false → s.time.edgeLost = false → 2 ≤ s.get 0x9070 3 + s.time.spare → s.isLost .edgeDie 0 = false → 
    ∃ s', exec (.d2dLaneFail t) s = .next s' ∧ s'.time.edgeLost = true ∧
      exec (.d2dLaneFail t) s = .next (s.ran t fun s => (foldS State.loseOne s (s.cfg.unitParts .edgeDie 0)).edgeGone)) ∧
  (∀ t (k : UnitKind) inst s, s.inReset = false → k ≠ .dramHalf → k ≠ .edgeDie →
    (s.cfg.unitCount k ≤ inst ∨ s.isLost k inst = true) → 
    exec (.unitLost t k inst) s = .next (s.ran t fun s => s)) ∧
  (∀ t (k : UnitKind) inst s, s.inReset = false → k ≠ .dramHalf → k ≠ .edgeDie → inst < s.cfg.unitCount k → s.isLost k inst = false → 
    exec (.unitLost t k inst) s = .next (s.ran t fun s =>
      ({ s with place := { s.place with lost := s.place.lost ++ [(k, inst)] } } : State).unitEffect k inst)) ∧
  (∀ t inst s, s.inReset = false → inst < s.cfg.engines → s.isLost .composer inst = false →
    (List.range s.cfg.engines).any (fun e => e != inst && !s.isLost .composer e) = true → 
    ∃ s', exec (.unitLost t .composer inst) s = .next s' ∧ s'.isLost .composer inst = true ∧ s'.get (0x4080 + inst) 1 = 1 ∧
      ((s.engine inst).batch.isSome = true → (s'.engine inst).stuck = true) ∧ (s'.engine inst).batch = (s.engine inst).batch ∧
      (s.plan.active.isSome = true → (UnitKind.composer, inst) ∈ s'.place.rebinding) ∧
      Keeps (fun k => k = okey 0 (0x4080 + inst) 1) s s') ∧
  (∀ t s, s.inReset = false → s.isLost .markhor 0 = false → 
    ∃ s', exec (.unitLost t .markhor 0) s = .next s' ∧ s'.get 0x2000 1 = 0 ∧ bit (s'.get 0x8C60 1) 5 = true ∧
      s'.get 0x8C60 2 = 0) ∧
  (∀ t half s, s.inReset = false → s.isLost .dramHalf half = false → 
    exec (.unitLost t .dramHalf half) s = .next (s.ran t fun s => foldS State.loseOne s (s.cfg.unitParts .dramHalf half))) ∧
  (∀ t s, s.inReset = false → s.isLost .edgeDie 0 = false → 
    exec (.unitLost t .edgeDie 0) s = .next (s.ran t fun s => (foldS State.loseOne s (s.cfg.unitParts .edgeDie 0)).edgeGone)) ∧
  (∀ t s, s.inReset = false → s.isLost .edgeDie 0 = true → 
    exec (.unitLost t .edgeDie 0) s = .next (s.ran t fun s => foldS State.loseOne s (s.cfg.unitParts .edgeDie 0)))

/-- Writes of registers and through the aliases: An accepted write of an object of chapters 04 to 08 whose write has no
effect of its own is stored: in the shadow of an object of a commit group, whose active value stays, and else in its
active value; nothing else changes. Through the SET, CLEAR and TOGGLE aliases the defined bits written as 1 are set,
cleared and inverted in the value that a write acts on. A 32-bit write of a slot of at most 32 bits is that write of the
extended value. A write that R494 does not let pass is refused with its code (R44). Where the manual leaves a point
open, it holds for the model's choice in DEDUCED, log entries 12, 68, 115. -/
def Obligations.RegisterWritesAreStored : Prop :=
  (∀ t ini idx sub v w env (o : Obj) s, s.inReset = false → s.accepts ⟨ini, 0, idx, sub, v⟩ = some (o, w) →
    0x3000 ≤ idx → idx < 0x6800 → idx ≠ 0x30D8 → idx ≠ 0x4000 → idx ≠ 0x4002 → canonIdx idx = idx →
    s.til.mailbox.all (fun m => m.taken) = true → 
    ∃ s', exec (.registerWrite t ini idx sub 0 8 v env) s = .next s' ∧
      (o.row.acc ≠ .wo → s.groupOf o = 0 → s'.getK (s.targetKey ini idx sub) = w) ∧
      (o.row.acc ≠ .wo → s.groupOf o ≠ 0 → s'.getShadow (s.targetKey ini idx sub) = w ∧
        s'.getK (s.targetKey ini idx sub) = s.getK (s.targetKey ini idx sub)) ∧
      Keeps (fun k => k = s.targetKey ini idx sub) s s') ∧
  (∀ t ini idx sub v w env (o : Obj) s, s.inReset = false → s.accepts ⟨ini, 0, idx, sub, s.extend32 idx sub v.toNat⟩ = some (o, w) →
    s.wideSlot idx sub = false →
    0x3000 ≤ idx → idx < 0x6800 → idx ≠ 0x30D8 → idx ≠ 0x4000 → idx ≠ 0x4002 → canonIdx idx = idx →
    s.til.mailbox.all (fun m => m.taken) = true → 
    ∃ s', exec (.registerWrite t ini idx sub 0 4 v env) s = .next s' ∧
      (o.row.acc ≠ .wo → s.groupOf o = 0 → s'.getK (s.targetKey ini idx sub) = w) ∧
      (o.row.acc ≠ .wo → s.groupOf o ≠ 0 → s'.getShadow (s.targetKey ini idx sub) = w ∧
        s'.getK (s.targetKey ini idx sub) = s.getK (s.targetKey ini idx sub)) ∧
      Keeps (fun k => k = s.targetKey ini idx sub) s s') ∧
  (∀ t ini idx sub v w env (o : Obj) s, s.inReset = false → s.accepts ⟨ini, 1, idx, sub, v⟩ = some (o, w) →
    0x3000 ≤ idx → idx < 0x6800 → idx ≠ 0x30D8 → idx ≠ 0x4000 → idx ≠ 0x4002 → canonIdx idx = idx →
    s.til.mailbox.all (fun m => m.taken) = true → 
    ∃ s', exec (.setAliasWrite t ini idx sub v env) s = .next s' ∧
      (o.row.ty.isBits = true → w = (let k := s.targetKey ini idx sub; w64 (s.writeBase o k ||| (v.toNat &&& o.row.defined)))) ∧
      (o.row.acc ≠ .wo → s.groupOf o = 0 → s'.getK (s.targetKey ini idx sub) = w) ∧
      (o.row.acc ≠ .wo → s.groupOf o ≠ 0 → s'.getShadow (s.targetKey ini idx sub) = w ∧
        s'.getK (s.targetKey ini idx sub) = s.getK (s.targetKey ini idx sub)) ∧
      Keeps (fun k => k = s.targetKey ini idx sub) s s') ∧
  (∀ t ini idx sub v w env (o : Obj) s, s.inReset = false → s.accepts ⟨ini, 2, idx, sub, v⟩ = some (o, w) →
    0x3000 ≤ idx → idx < 0x6800 → idx ≠ 0x30D8 → idx ≠ 0x4000 → idx ≠ 0x4002 → canonIdx idx = idx →
    s.til.mailbox.all (fun m => m.taken) = true → 
    ∃ s', exec (.clearAliasWrite t ini idx sub v env) s = .next s' ∧
      (o.row.ty.isBits = true → w = (let k := s.targetKey ini idx sub; w64 (s.writeBase o k - (s.writeBase o k &&& (v.toNat &&& o.row.defined))))) ∧
      (o.row.acc ≠ .wo → s.groupOf o = 0 → s'.getK (s.targetKey ini idx sub) = w) ∧
      (o.row.acc ≠ .wo → s.groupOf o ≠ 0 → s'.getShadow (s.targetKey ini idx sub) = w ∧
        s'.getK (s.targetKey ini idx sub) = s.getK (s.targetKey ini idx sub)) ∧
      Keeps (fun k => k = s.targetKey ini idx sub) s s') ∧
  (∀ t ini idx sub v w env (o : Obj) s, s.inReset = false → s.accepts ⟨ini, 3, idx, sub, v⟩ = some (o, w) →
    0x3000 ≤ idx → idx < 0x6800 → idx ≠ 0x30D8 → idx ≠ 0x4000 → idx ≠ 0x4002 → canonIdx idx = idx →
    s.til.mailbox.all (fun m => m.taken) = true → 
    ∃ s', exec (.toggleAliasWrite t ini idx sub v env) s = .next s' ∧
      (o.row.ty.isBits = true → w = (let k := s.targetKey ini idx sub; w64 (s.writeBase o k ^^^ (v.toNat &&& o.row.defined)))) ∧
      (o.row.acc ≠ .wo → s.groupOf o = 0 → s'.getK (s.targetKey ini idx sub) = w) ∧
      (o.row.acc ≠ .wo → s.groupOf o ≠ 0 → s'.getShadow (s.targetKey ini idx sub) = w ∧
        s'.getK (s.targetKey ini idx sub) = s.getK (s.targetKey ini idx sub)) ∧
      Keeps (fun k => k = s.targetKey ini idx sub) s s') ∧
  (∀ t ini idx sub v env (code : Nat) s, s.inReset = false → s.writeRefusal ⟨ini, 0, idx, sub, v⟩ false = some code → idx < 2 ^ 16 →
    0x3000 ≤ idx → idx < 0x6800 → idx ≠ 0x4000 → canonIdx idx = idx → s.til.mailbox.all (fun m => m.taken) = true → 
    exec (.registerWrite t ini idx sub 0 8 v env) s = .next (s.ran t fun s => s.refuse ini idx sub code))

/-- Pending advances, STORE, RESTORE_DEFAULTS and lock sets: A pending advance of a status object is made at the end of
the minimum interval. An accepted RESTORE_DEFAULTS erases the stored records of its groups, those of RWO objects only in
lifecycle MANUFACTURING, and leaves every active value. Lock bits can only be set. An accepted STORE takes the active
values of the persistent objects of its groups and reads 1 in STATE; when it ends well, with the edge die at hand, they
replace the stored records of these groups, and else the previous ones stay, with STORE_FAILED and flag 4. A second
STORE is refused DOMAIN_BUSY. Where the manual leaves a point open, it holds for the model's choice in DESIGN CHOICE, log entries 2,
88, 123. -/
def Obligations.StatusAndStoredValuesFollow : Prop :=
  (∀ t part idx sub (m : StatusMeta) (n : Nat) s, s.inReset = false → s.isStatus idx sub = true →
    s.statusMeta (okey part (canonIdx idx) sub) = some m → m.pend = true →
    statusRate s.cfg (okey part (canonIdx idx) sub) = .interval n → m.last + max n 1000 ≤ max s.now t → 
    ∃ s', exec (.pendingSeqAdvance t part idx sub) s = .next s' ∧
      s'.getK (okey part (canonIdx idx) sub) = w64 (statusAdvance (s.getK (okey part (canonIdx idx) sub)).toNat 1) ∧
      s'.statusMeta (okey part (canonIdx idx) sub) = some { m with pend := false, last := m.last + max n 1000 } ∧
      Keeps (fun k => k = okey part (canonIdx idx) sub) s s') ∧
  (∀ t ini mask w s, s.inReset = false → s.takes ⟨ini, 0, 0x1120, 2, mask⟩ w → 
    ∃ s', exec (.restoreDefaults t ini mask) s = .next s' ∧
      s'.stored = s.stored.filter (fun e => !(s.persistentIn w.toNat e.1 && s.erasable e.1)) ∧
      s'.storedBlocks = s.storedBlocks.filter (fun e => !(s.persistentIn w.toNat e.1 && s.erasable e.1)) ∧ Keeps (fun k => k = okey 0 0x1120 2) s s') ∧
  (∀ t ini mask w s, s.inReset = false → s.takes ⟨ini, 0, 0x1128, 1, mask⟩ w → 
    ∃ s', exec (.lockSetsWrite t ini mask) s = .next s' ∧ s'.getK (okey 0 0x1128 1) = s.getK (okey 0 0x1128 1) ||| w ∧
      Keeps (fun k => k = okey 0 0x1128 1) s s') ∧
  (∀ t ini mask w s, s.inReset = false → s.takes ⟨ini, 0, 0x1120, 1, mask⟩ w → s.dict.store = none → 
    ∃ s', exec (.store t ini mask) s = .next s' ∧ s'.get 0x1120 3 = 1 ∧ s'.stored = s.stored ∧
      s'.dict.store = some ⟨w.toNat, ini.part, s.objs.filter (fun e => s.persistentIn w.toNat e.1),
        s.liveBlocks.filter (fun e => s.persistentIn w.toNat e.1)⟩ ∧ s'.storedBlocks = s.storedBlocks) ∧
  (∀ t ini mask w s, s.inReset = false → s.takes ⟨ini, 0, 0x1120, 1, mask⟩ w → s.dict.store.isSome = true → 
    exec (.store t ini mask) s = .next (s.ran t fun s => s.refuse ini 0x1120 1 codeDomainBusy)) ∧
  (∀ t (x : StoreOp) s, s.inReset = false → s.dict.store = some x → s.edgeUp = true → s.til.reqs = [] → 
    ∃ s', exec (.storeDone t true) s = .next s' ∧ s'.dict.store = none ∧ s'.get 0x1120 3 = 0 ∧
      s'.stored = mputAll (objDefault s.cfg) x.vals (s.stored.filter (fun e => !s.persistentIn x.groups e.1)) ∧
      s'.storedBlocks = mputAll (blockDefault s.cfg) x.blks (s.storedBlocks.filter (fun e => !s.persistentIn x.groups e.1)) ∧
      Keeps (fun k => k = okey 0 0x1120 3) s s') ∧
  (∀ t (x : StoreOp) s, s.inReset = false → s.dict.store = some x → s.til.reqs = [] → x.part < 16 → 
    ∃ s', exec (.storeDone t false) s = .next s' ∧ s'.dict.store = none ∧ s'.get 0x1120 3 = codeStoreFailed ∧
      s'.flag (okey x.part 0x11B8 1) 4 = true ∧ s'.stored = s.stored ∧ s'.storedBlocks = s.storedBlocks)

/-- Half accesses, snapshots and DomainPort: A read of the low half of a wide slot reads the slot, answers its low half
and holds the high half for that initiator; the read of the high half of that slot that follows answers what is held. A
write of a low half is held and changes no object; the write of the high half of the same slot writes the 64 bits, and
without one it is refused. A trigger of a snapshot set captures at once, or once the running capture has ended, with its
time and count; each member that is named is read, and its sample and DENIED bit are put into the set. SELECT opens a
block object at offset 0; DATA reads its bytes in turn while its generation stays; written bytes are staged; COMMIT_LEN
makes them the content in one step. Where the manual leaves a point open, it holds for the model's choice in log entry
29. -/
def Obligations.HalvesSnapshotsAndPorts : Prop :=
  (∀ t ini (w0 : Nat) idx sub (x : Nat) s, s.inReset = false → s.wideSlot idx sub = true →
    (s.advance t).slotRead ini idx sub = (s.advance t, x) → 
    ∃ s', exec (.lowHalfRead t ini w0 idx sub) s = .next s' ∧ s'.out = .readData ini.part (w64 (x % 2 ^ 32)) :: s.out ∧
      latchOf s'.dict.readLatches ini = some ⟨ini.part, ini.secure, latchSlot w0 idx sub, x / 2 ^ 32⟩ ∧ Keeps (fun _ => False) s s') ∧
  (∀ t ini (w0 : Nat) idx sub (z : HalfLatch) s, s.inReset = false → s.wideSlot idx sub = true →
    latchOf s.dict.readLatches ini = some z → z.slot = latchSlot w0 idx sub → 
    ∃ s', exec (.highHalfRead t ini w0 idx sub) s = .next s' ∧ s'.out = .readData ini.part (w64 z.half) :: s.out ∧
      latchOf s'.dict.readLatches ini = none ∧ Keeps (fun _ => False) s s') ∧
  (∀ t ini (w0 : Nat) idx sub v env s, s.inReset = false → s.wideSlot idx sub = true →
    s.til.mailbox.all (fun m => m.taken) = true → 
    ∃ s', exec (.lowHalfWrite t ini w0 idx sub v env) s = .next s' ∧
      latchOf s'.dict.writeLatches ini = some ⟨ini.part, ini.secure, latchSlot w0 idx sub, v.toNat % 2 ^ 32⟩ ∧
      s'.out = s.out ∧ Keeps (fun _ => False) s s') ∧
  (∀ t ini (w0 : Nat) idx sub v env (z : HalfLatch) s, s.inReset = false → s.wideSlot idx sub = true →
    latchOf s.dict.writeLatches ini = some z → z.slot = latchSlot w0 idx sub → 
    exec (.highHalfWrite t ini w0 idx sub v env) s = .next (s.ran t fun s =>
      ((({ s with dict := { s.dict with writeLatches := latchDrop s.dict.writeLatches ini } } : State).writeScalar
        ⟨ini, w0, idx, sub, w64 (z.half + v.toNat % 2 ^ 32 * 2 ^ 32)⟩ env).1).serveMail env)) ∧
  (∀ t ini (w0 : Nat) idx sub v env s, s.inReset = false → s.wideSlot idx sub = true →
    latchOf s.dict.writeLatches ini = none → s.til.mailbox.all (fun m => m.taken) = true → 
    exec (.highHalfWrite t ini w0 idx sub v env) s = .next (s.ran t fun s => s.refuse ini idx sub codeAccessWidth)) ∧
  (∀ t ini set v w s, s.inReset = false → set < 16 → s.takes ⟨ini, 0, 0x11C0 + set, 1, v⟩ w → 
    ∃ s', exec (.snapshotTrigger t ini set v false) s = .next s' ∧ s'.getK (okey 0 (0x11C0 + set) 2) = w64 (max s.now t) ∧
      s'.get (0x11C0 + set) 3 = (s.get (0x11C0 + set) 3 + 1) % 2 ^ 32) ∧
  (∀ t ini set v w s, s.inReset = false → set < 16 → s.takes ⟨ini, 0, 0x11C0 + set, 1, v⟩ w → 
    ∃ s', exec (.snapshotTrigger t ini set v true) s = .next s' ∧ s'.dict.deferred = s.dict.deferred ++ [set] ∧
      s'.get (0x11C0 + set) 3 = s.get (0x11C0 + set) 3) ∧
  (∀ t set s, s.inReset = false → set < 16 → set ∈ s.dict.deferred → s.til.reqs = [] → 
    ∃ s', exec (.snapshotDeferredCapture t set) s = .next s' ∧ s'.getK (okey 0 (0x11C0 + set) 2) = w64 (max s.now t) ∧
      s'.get (0x11C0 + set) 3 = (s.get (0x11C0 + set) 3 + 1) % 2 ^ 32 ∧ s'.dict.deferred = s.dict.deferred.erase set) ∧
  (∀ (n k m : Nat) (s : State), s.get (0x11C0 + n) (4 + k) = m → m ≠ 0 → 
    s.sample n k = s.readAt ⟨n, false, .window⟩ (m / 256) (m % 256)) ∧
  (∀ (n k : Nat) (a : State × Word × Nat) (s : State), n < 16 → k < 32 → 
    (s.sampled n k a).getK (okey 0 (0x11C0 + n) (0x24 + k)) = (if a.2.2 = 0 then a.2.1 else 0) ∧
      bit ((s.sampled n k a).get (0x11C0 + n) 0x44) k = (a.2.2 != 0) ∧
      Keeps (fun j => j = okey 0 (0x11C0 + n) (0x24 + k) ∨ j = okey 0 (0x11C0 + n) 0x44) s (s.sampled n k a)) ∧
  (∀ t ini v w (o : Obj) s, s.inReset = false → ini.part < 16 → s.takes ⟨ini, 0, 0x1130, 1, v⟩ w →
    findObj s.cfg (canonIdx (w.toNat / 256)) (w.toNat % 256) = some o → o.row.ty.isBlock = true → 
    ∃ s', exec (.domainSelect t ini v) s = .next s' ∧ s'.getB ini.part 0x1130 5 = 0 ∧
      s'.portSel ini.part = some (let k := okey (o.bankFor ini.part) (canonIdx (w.toNat / 256)) (w.toNat % 256);
        ⟨ini.part, k, 0, s.blockGen o k, false, []⟩)) ∧
  (∀ t ini v w s, s.inReset = false → ini.part < 16 → s.takes ⟨ini, 0, 0x1130, 1, v⟩ w →
    findObj s.cfg (canonIdx (w.toNat / 256)) (w.toNat % 256) = none → 
    ∃ s', exec (.domainSelect t ini v) s = .next s' ∧ s'.getB ini.part 0x1130 5 = codeObjectAbsent ∧ s'.portSel ini.part = none) ∧
  (∀ t ini (x : PortSel) (o : Obj) s, s.inReset = false → s.portSel ini.part = some x →
    findObj s.cfg (keyIdx x.key) (keySub x.key) = some o → x.ended = false → o.row.acc ≠ .wo →
    s.hasRight ini false o (keyIdx x.key) (keySub x.key) = true → s.blockGen o x.key = x.gen → rxUart x.key = none → 
    ∃ s', exec (.domainDataRead t ini) s = .next s' ∧
      s'.out = .readData ini.part (w64 (leNat (((s.getBlk x.key).data.drop x.offset).take 8))) :: s.out ∧
      s'.portSel ini.part = some { x with offset := min (x.offset + 8) 0xFFFFFFF8 } ∧ Keeps (fun _ => False) s s') ∧
  (∀ t ini (x : PortSel) (o : Obj) s, s.inReset = false → s.portSel ini.part = some x →
    findObj s.cfg (keyIdx x.key) (keySub x.key) = some o → x.ended = false → o.row.acc ≠ .wo →
    s.hasRight ini false o (keyIdx x.key) (keySub x.key) = true → s.blockGen o x.key ≠ x.gen → 
    ∃ s', exec (.domainDataRead t ini) s = .next s' ∧ s'.out = .readData ini.part 0 :: s.out ∧
      s'.portSel ini.part = some { x with ended := true } ∧ s'.flag (okey ini.part 0x11B8 1) 5 = true) ∧
  (∀ t ini v w (x : PortSel) s, s.inReset = false → s.takes ⟨ini, 0, 0x1130, 3, v⟩ w → s.portSel ini.part = some x →
    s.dataRefusal ini = none → x.staged.length = x.offset → 
    ∃ s', exec (.domainDataWrite t ini v) s = .next s' ∧
      s'.portSel ini.part = some { x with offset := min (x.offset + 8) 0xFFFFFFF8, staged := x.staged ++ leBytes 8 w.toNat } ∧
      s'.out = s.out) ∧
  (∀ t ini v w env (x : PortSel) (o : Obj) s, s.inReset = false → s.takes ⟨ini, 0, 0x1130, 4, v⟩ w →
    s.portObj ini.part = some (x, o) → s.stagedOwn ini env w.toNat = none → o.row.acc ≠ .wo → 0x4400 ≤ keyIdx x.key →
    keyIdx x.key < 0x7000 → 
    ∃ s', exec (.domainCommitLen t ini v env) s = .next s' ∧ (s'.getBlk x.key).data = x.staged.take w.toNat ∧
      (s'.getBlk x.key).gen = ((s.getBlk x.key).gen + 1) % 2 ^ 32 ∧ s'.portSel ini.part = some { x with staged := [] } ∧
      (s.groupOf o ≠ 0 → s'.getLive x.key = s.getLive x.key))

/-- Commits, armed commits and their release: An accepted commit request makes the sets of its groups from their shadows
and applies those whose boundary is the request. A request refused as a whole is reported with its code and flag 2. A
request of one group whose rules hold leaves that group's set waiting. A set that is applied replaces the values of its
group, and no other, in one step, and is reported with result 0 after the group's effects; its group's epoch is noted. A
rising edge of COMMIT_IN releases every set armed on the pin, and is counted if there is none; a falling edge only
changes the pin's level. Sets armed on the pin past their time are cancelled. Reached Wall time releases the sets armed
on it. Released sets wait for their boundary. Where the manual leaves a point open, it holds for the model's choice in
DEDUCED, log entry 35. -/
def Obligations.CommitsApply : Prop :=
  (∀ t ini mask w (o : Obj) s, s.inReset = false → s.accepts ⟨ini, 0, 0x1100, 1, mask⟩ = some (o, w) →
    (s.advance t).commitRefusal ini.part w.toNat (s.getB ini.part 0x1100 2) (s.getB ini.part 0x1100 3) = none → 
    exec (.commitRequest t ini mask) s = .next (s.ran t fun s =>
      ((s.took ⟨ini, 0, 0x1100, 1, mask⟩ o w).makeSets ini.part w.toNat (s.getB ini.part 0x1100 2) (s.getB ini.part 0x1100 3)
        none).applyRequest)) ∧
  (∀ t ini mask w (code : Nat) s, s.inReset = false → ini.part < 16 → s.takes ⟨ini, 0, 0x1100, 1, mask⟩ w → w = mask →
    (s.advance t).commitRefusal ini.part w.toNat (s.getB ini.part 0x1100 2) (s.getB ini.part 0x1100 3) = some code → 
    ∃ s', exec (.commitRequest t ini mask) s = .next s' ∧ s'.get (0x1110 + ini.part) 3 = code ∧
      s'.get (0x1110 + ini.part) 1 = (s.get (0x1110 + ini.part) 1 + 1) % 2 ^ 32 ∧
      s'.flag (okey ini.part 0x11B8 1) 2 = true ∧ s'.dict.sets = s.dict.sets) ∧
  (∀ (part mode at0 g : Nat) (s : State), g < 61 → g ≠ 0 → g ≠ 57 → s.dict.sets = [] →
    s.checkSet [s.newSet part mode at0 none g] (s.newSet part mode at0 none g) = none →
    ({ s with dict := { s.dict with nextCommit := s.dict.nextCommit + 1 } } : State).checkSet [s.newSet part mode at0 none g]
      (s.newSet part mode at0 none g) = none → 
    (s.makeSets part (2 ^ g) mode at0 none).dict.sets = [s.newSet part mode at0 none g] ∧
      Keeps (fun _ => False) s (s.makeSets part (2 ^ g) mode at0 none)) ∧
  (∀ (x : PendingSet) (k : Nat) (v : Word) (s : State), (x.vals.map (fun e => e.1)).Nodup →
    x.vals.all (fun e => s.keyGroup e.1 == x.group) = true → s.keyGroup k = x.group → 
    ((k, v) ∈ x.vals → (s.withSet x).getK k = v) ∧
    ((∀ e, e ∈ x.vals → e.1 ≠ k) → (s.withSet x).getK k = objDefault s.cfg k) ∧
    (∀ j, s.keyGroup j ≠ x.group → (s.withSet x).getK j = s.getK j) ∧ (s.withSet x).shadow = s.shadow) ∧
  (∀ (x : PendingSet) (s : State), x.align = false → x.group < 61 → x.group ≠ 57 → s.checkSet [x] x = none → 
    s.applyUnits [[x]] = (let a := (s.takeSets [x]).withSet x; let b := { a with integ := { a.integ with committing := x.selects } };
      ((b.groupEffects s x.group).put (0x1140 + x.group) 4 b.epoch).reportUnit [x] 0 0 0)) ∧
  (∀ t s, s.inReset = false → s.dict.sets.any (fun x => x.armed && x.onPin) = true → 
    exec (.commitInEdge t true) s = .next (s.ran t fun s => (s.setPin 4 true).release (fun x => x.onPin))) ∧
  (∀ t s, s.inReset = false → s.dict.sets.any (fun x => x.armed && x.onPin) = false → 
    ∃ s', exec (.commitInEdge t true) s = .next s' ∧ s'.get 0x9700 2 = min (s.get 0x9700 2 + 1) (2 ^ 32 - 1) ∧
      bit (s'.get 0x9700 1) 4 = true ∧ s'.dict.sets = s.dict.sets) ∧
  (∀ t s, s.inReset = false → 
    ∃ s', exec (.commitInEdge t false) s = .next s' ∧ bit (s'.get 0x9700 1) 4 = false ∧ s'.dict.sets = s.dict.sets ∧
      Keeps (fun k => k = okey 0 0x9700 1) s s') ∧
  (∀ (p : PendingSet → Bool) (s : State), (s.dict.sets.map (fun x => if x.armed && p x then { x with armed := false } else x)).all
      (fun x => x.align || !x.ready || s.boundaryOf x.group != 1) = true → 
    (s.release p).dict.sets = s.dict.sets.map (fun x => if x.armed && p x then { x with armed := false, at_ := s.now } else x) ∧
      Keeps (fun _ => False) s (s.release p)) ∧
  (∀ t s, s.inReset = false → 
    ∃ s', exec (.armedCommitTimeout t) s = .next s' ∧
      (∀ x, x ∈ s'.dict.sets → x ∈ s.dict.sets ∧
        (x.align = false → x.armed = true → ∀ a, x.pinDeadline = some a → max s.now t < a)) ∧
      ((∀ x, x ∈ s.dict.sets → x.armed = true → ∀ a, x.pinDeadline = some a → max s.now t < a) →
        s'.dict.sets = s.dict.sets ∧ Keeps (fun _ => False) s s')) ∧
  (∀ t s, s.inReset = false → s.get 0x9060 3 ≠ 0 → 
    exec (.wallTimeRelease t) s = .next (s.ran t fun s => s.release (fun x => x.atTime.elim false (fun a => decide (a ≤ s.wallNow)))))

/-- Requests carried out, answered and turned away: A request that its binding authenticates, under a counter above
RX_COUNTER and within the limits of the server, takes the counter and is carried out as its operation says; one with a
reserved opcode, or with an ALIAS where it has no place, is answered BAD_OPCODE. The answer echoes the request's header
with OP bit 7 set and carries STATUS and, unless the request is refused, its payload, with a tag under the client's key;
it is kept beside the counter and sent at once, into the host memory of a mailbox with its interrupt or on the CAN
controller, or the request stays outstanding until the service behind its object ends. RX_COUNTER takes the counter,
which is the latest of those kept, and the session is exhausted at its maximum. A request of no binding, or whose tag
does not verify, is dropped with flag 0 and counted; so is one whose counter is not above RX_COUNTER, with flag 1, but a
response kept beside such a counter is sent again. A request past the last counter sets STATE 2 and flag 2 and is
answered SESSION_EXHAUSTED. Where the manual leaves a point open, it holds for the model's choice in DEDUCED, log entries 31, 92.
-/
def Obligations.TilsolRequestsAreTaken : Prop :=
  (∀ t (b : Nat) f s, s.tilOpens b f → f.head.op = 1 → 
    exec (.tilsolRead t f) s = .next (s.ran t fun s =>
      let a := (s.countRx f).acceptCounter b f.head;
      (State.tilFinish b f (a.tilRead (a.clientIni b) f)).serveMail noEnv)) ∧
  (∀ t (b : Nat) f s, s.tilOpens b f → f.head.op = 3 → 
    exec (.tilsolReadseg t f) s = .next (s.ran t fun s =>
      let a := (s.countRx f).acceptCounter b f.head;
      (State.tilFinish b f (a.tilReadSeg (a.clientIni b) f)).serveMail noEnv)) ∧
  (∀ t (b : Nat) f s, s.tilOpens b f → f.head.op = 5 → 
    exec (.tilsolCommit t f) s = .next (s.ran t fun s =>
      let a := (s.countRx f).acceptCounter b f.head;
      (State.tilFinish b f (a.tilCommit (a.clientIni b) b f)).serveMail noEnv)) ∧
  (∀ t (b : Nat) f s, s.tilOpens b f → f.head.op = 7 → f.head.via ≠ 3 → 
    exec (.tilsolSubscribe t f) s = .next (s.ran t fun s =>
      let a := (s.countRx f).acceptCounter b f.head;
      (State.tilFinish b f (a.tilSubscribe (a.clientIni b) b f)).serveMail noEnv)) ∧
  (∀ t (b : Nat) f s, s.tilOpens b f → f.head.op = 8 → 
    exec (.tilsolUnsubscribe t f) s = .next (s.ran t fun s =>
      let a := (s.countRx f).acceptCounter b f.head;
      (State.tilFinish b f (a.tilUnsubscribe b f)).serveMail noEnv)) ∧
  (∀ t (b : Nat) f s, s.tilOpens b f → f.head.op = 9 → 
    exec (.tilsolAbort t f) s = .next (s.ran t fun s =>
      let a := (s.countRx f).acceptCounter b f.head;
      (State.tilFinish b f (a.tilAbort b f)).serveMail noEnv)) ∧
  (∀ t (b : Nat) f env s, s.tilOpens b f → f.head.op % 16 = 2 → f.head.op / 16 < 4 → 
    exec (.tilsolWrite t f env) s = .next (s.ran t fun s =>
      let a := (s.countRx f).acceptCounter b f.head;
      (State.tilFinish b f (a.tilWrite (a.clientIni b) f env)).serveMail env)) ∧
  (∀ t (b : Nat) f env s, s.tilOpens b f → f.head.op = 4 → 
    exec (.tilsolWriteseg t f env) s = .next (s.ran t fun s =>
      let a := (s.countRx f).acceptCounter b f.head;
      (State.tilFinish b f (a.tilWriteSeg (a.clientIni b) b f env)).serveMail env)) ∧
  (∀ t (b : Nat) f (busy : Bool) s, s.tilOpens b f → f.head.op = 6 → 
    exec (.tilsolSnapshot t f busy) s = .next (s.ran t fun s =>
      let a := (s.countRx f).acceptCounter b f.head;
      (State.tilFinish b f (a.tilSnapshot (a.clientIni b) f { noEnv with busy := busy })).serveMail { noEnv with busy := busy })) ∧
  (∀ t (b : Nat) f s, s.tilOpens b f → f.head.op < 128 →
    ((1 ≤ opcodeOf f.head ∧ opcodeOf f.head ≤ 9) → windowOf f.head ≠ 0 ∧ (opcodeOf f.head = 2 → 4 ≤ windowOf f.head)) → 
    exec (.tilsolReservedOpcode t f) s = .next (s.ran t fun s =>
      (State.tilFinish b f (((s.countRx f).acceptCounter b f.head).tilDone codeBadOpcode [])).serveMail noEnv)) ∧
  (∀ t (b : Nat) f s, s.tilOpens b f → f.head.op = 2 → f.head.index = 0x2101 → f.head.sub = 1 → 
    exec (.tilsolRekey t f) s = .next (s.ran t fun s =>
      let a := (s.countRx f).acceptCounter b f.head;
      (State.tilFinish b f (a.tilWrite (a.clientIni b) f noEnv)).serveMail noEnv)) ∧
  (∀ (b : Nat) f (d : TilDone), d.st.plannerUp = true → d.key = 0 → f.head.via = 3 → d.st.bindingFor f.head.client = some b → 
    let body := respBody d.status (if isRefusal d.status then [] else d.payload);
    let r := respHead f.head;
    (State.tilFinish b f d).out = .msi f.head.port (d.st.getB f.head.port 0x1060 4) :: .hostWrite f.head.port (d.st.getB f.head.port 0x1060 2)
        (routeHere ++ (headBytes r body.length ++ body ++ tagOf (d.st.keyOf b) d.st.selfNode r body.length body)) :: d.st.out ∧
    (State.tilFinish b f d).til.cached =
      cacheAnswer d.st.til.cached b f.head d.status (if isRefusal d.status then [] else d.payload) ∧
    (State.tilFinish b f d).til.mailbox = d.st.til.mailbox.filter (fun m => m.part != f.head.port) ∧
    (State.tilFinish b f d).dict = d.st.dict ∧ Keeps (fun _ => False) d.st (State.tilFinish b f d)) ∧
  (∀ (b : Nat) f (d : TilDone), d.st.plannerUp = true → d.key = 0 → f.head.via = 0 → d.st.bindingFor f.head.client = some b →
    d.st.pdOn 18 = true → d.st.get (canIdx f.head.port) 1 ≠ 0 → d.st.get (canIdx f.head.port + 1) 1 ≠ 3 → 
    let body := respBody d.status (if isRefusal d.status then [] else d.payload);
    let r := respHead f.head;
    (State.tilFinish b f d).out = .canFd f.head.port (canId 2 (d.st.get 0x1040 1) r)
        (canData r body (tagOf (d.st.keyOf b) d.st.selfNode r body.length body)) :: d.st.out ∧
    Keeps (fun _ => False) d.st (State.tilFinish b f d)) ∧
  (∀ (b : Nat) f (d : TilDone), d.st.plannerUp = true → d.key ≠ 0 → isRefusal d.status = false → 
    (State.tilFinish b f d).out = d.st.out ∧
    (State.tilFinish b f d).til.reqs = ⟨b, f.head, none, d.key, d.payload, d.started⟩ :: d.st.til.reqs ∧
    (State.tilFinish b f d).til.cached = d.st.til.cached) ∧
  (∀ (b : Nat) (h : TilHead) (s : State), b < 64 → h.counter ≤ counterMax → 
    (s.acceptCounter b h).get (0x1200 + b) 5 = h.counter ∧
    (s.acceptCounter b h).get (0x1200 + b) 4 = (if h.counter = counterMax then 2 else s.get (0x1200 + b) 4) ∧
    (s.acceptCounter b h).til.cached.head? = some ⟨b, h.counter, none⟩ ∧
    Keeps (fun k => k = okey 0 (0x1200 + b) 4 ∨ k = okey 0 (0x1200 + b) 5) s (s.acceptCounter b h)) ∧
  (∀ t f s, s.inReset = false → s.plannerUp = true → f.head.op = 1 → f.head.via ≠ 2 → f.head.via ≠ 3 →
    s.heard f = true → s.bindingFor f.head.client = none → s.til.mailbox.all (fun m => m.taken) = true → 
    ∃ s', exec (.tilsolRead t f) s = .next s' ∧ s'.out = s.out ∧ s'.flag (okey 0 0x1041 0) 0 = true ∧ s'.til = s.til ∧
      Keeps (fun k => k = okey 0 0x1041 0) s s') ∧
  (∀ t (b : Nat) f s, s.inReset = false → s.plannerUp = true → f.head.op = 1 → f.head.via ≠ 2 → f.head.via ≠ 3 →
    s.heard f = true → s.bindingFor f.head.client = some b → s.verifies b f = false → s.til.mailbox.all (fun m => m.taken) = true → 
    ∃ s', exec (.tilsolRead t f) s = .next s' ∧ s'.out = s.out ∧ s'.flag (okey 0 0x1041 0) 0 = true ∧ s'.til = s.til ∧
      s'.get (0x1200 + b) 7 = min (s.get (0x1200 + b) 7 + 1) (2 ^ 32 - 1) ∧ s'.get (0x1200 + b) 5 = s.get (0x1200 + b) 5) ∧
  (∀ t (b : Nat) f s, s.inReset = false → s.plannerUp = true → f.head.op = 1 → f.head.via ≠ 2 → f.head.via ≠ 3 →
    s.heard f = true → s.bindingFor f.head.client = some b → s.verifies b f = true → s.get (0x1200 + b) 5 < counterMax →
    f.head.counter ≤ s.get (0x1200 + b) 5 → s.til.cached.all (fun x => x.binding != b || x.counter != f.head.counter) = true →
    s.til.mailbox.all (fun m => m.taken) = true → 
    ∃ s', exec (.tilsolRead t f) s = .next s' ∧ s'.out = s.out ∧ s'.flag (okey 0 0x1041 0) 1 = true ∧ s'.til = s.til ∧
      s'.get (0x1200 + b) 8 = min (s.get (0x1200 + b) 8 + 1) (2 ^ 32 - 1) ∧ s'.get (0x1200 + b) 5 = s.get (0x1200 + b) 5) ∧
  (∀ t (b : Nat) f (h : TilHead) (status : Nat) (payload : List Byte) s, s.inReset = false → s.plannerUp = true → f.head.op = 1 → f.head.via ≠ 2 →
    f.head.via ≠ 3 → s.heard f = true → s.bindingFor f.head.client = some b → s.verifies b f = true → s.get (0x1200 + b) 5 < counterMax →
    f.head.counter ≤ s.get (0x1200 + b) 5 →
    s.til.cached.find? (fun x => x.binding == b && x.counter == f.head.counter) = some ⟨b, f.head.counter, some (h, status, payload)⟩ → 
    exec (.tilsolRead t f) s = .next (s.ran t fun s =>
      (s.respond { h with via := f.head.via, port := f.head.port } status payload).serveMail noEnv)) ∧
  (∀ t (b : Nat) f s, s.inReset = false → s.plannerUp = true → f.head.op = 1 → f.head.via ≠ 2 → f.head.via ≠ 3 →
    s.heard f = true → s.bindingFor f.head.client = some b → s.verifies b f = true → counterMax ≤ s.get (0x1200 + b) 5 → 
    exec (.tilsolRead t f) s = .next (s.ran t fun s =>
      (((s.put (0x1200 + b) 4 2).setFlag (okey 0 0x1041 0) 2).respond f.head codeSessionExhausted []).serveMail noEnv))

/-- What an operation does and answers: A Read answers a scalar object's value in its natural size; an absent object, a
missing right and a payload are answered with their codes. A ReadSeg answers the generation, the total length and the
content from its offset. A WriteSeg at offset 0 opens a transfer; the next segment is appended and answered with the
bytes staged; a repeated one is answered without being staged; another offset breaks the sequence. Subscribe adds a
subscription with its interval in range, and answers its number. Unsubscribe of 255 ends all subscriptions of the
client. Abort answers an open transfer ABORTED and drops it, and has nothing to abort without one. Where the manual
leaves a point open, it holds for the model's choice in DEDUCED, log entries 31, 32, 115, 118, 119, 120. -/
def Obligations.TilsolOperationsAnswer : Prop :=
  (∀ ini f (o : Obj) (s : State), f.payload = [] → findObj s.cfg (canonIdx f.head.index) f.head.sub = some o →
    s.hasRight ini false o (canonIdx f.head.index) f.head.sub = true → o.row.ty.isBlock = false → 
    (s.tilRead ini f).status = 0 ∧ (s.tilRead ini f).key = 0 ∧
      (s.tilRead ini f).payload = leBytes (o.row.ty.width / 8) (s.slotOf ini o (canonIdx f.head.index) f.head.sub).2.toNat) ∧
  (∀ ini f (s : State), 
    (f.payload ≠ [] → s.tilRead ini f = s.tilDone codeBadLength []) ∧
    (f.payload = [] → findObj s.cfg (canonIdx f.head.index) f.head.sub = none → s.tilRead ini f = s.tilDone codeObjectAbsent []) ∧
    (∀ o, f.payload = [] → findObj s.cfg (canonIdx f.head.index) f.head.sub = some o →
      s.hasRight ini false o (canonIdx f.head.index) f.head.sub = false → s.tilRead ini f = s.tilDone codeNoReadAccess [])) ∧
  (∀ ini f (o : Obj) (off gen : Nat) (s : State), f.payload = leBytes 4 off ++ leBytes 4 gen → off < 2 ^ 32 → gen < 2 ^ 32 →
    findObj s.cfg (canonIdx f.head.index) f.head.sub = some o →
    s.hasRight ini false o (canonIdx f.head.index) f.head.sub = true → o.row.ty.isBlock = true →
    rxUart (okey (o.bankFor ini.part) (canonIdx f.head.index) f.head.sub) = none →
    (off = 0 ∨ gen = s.blockGen o (okey (o.bankFor ini.part) (canonIdx f.head.index) f.head.sub)) → 
    let k := okey (o.bankFor ini.part) (canonIdx f.head.index) f.head.sub;
    s.tilReadSeg ini f = s.tilDone 0 (leBytes 4 (s.blockGen o k) ++ leBytes 4 (s.getBlk k).data.length ++
      ((s.getBlk k).data.drop off).take (min ((s.getBlk k).data.length - off) (maxLength f.head.via - 12)))) ∧
  (∀ ini (b : Nat) f env (o : Obj) (data : List Byte) (total : Nat) (s : State), f.payload = leBytes 4 0 ++ leBytes 4 total ++ data →
    total < 2 ^ 32 → data.length < total → findObj s.cfg (canonIdx f.head.index) f.head.sub = some o → o.row.ty.isBlock = true →
    s.xferOf b (okey (o.bankFor ini.part) (canonIdx f.head.index) f.head.sub) = none →
    s.openRefusal ini f o b (okey (o.bankFor ini.part) (canonIdx f.head.index) f.head.sub) total = none →
    s.til.xfers.length < 16 → 
    let k := okey (o.bankFor ini.part) (canonIdx f.head.index) f.head.sub;
    (s.tilWriteSeg ini b f env).status = 0 ∧ (s.tilWriteSeg ini b f env).payload = leBytes 4 data.length ∧
      (s.tilWriteSeg ini b f env).st.til.xfers = s.til.xfers ++ [⟨b, f.head.tag, k, total, data, 0, s.now⟩] ∧
      Keeps (fun _ => False) s (s.tilWriteSeg ini b f env).st) ∧
  (∀ ini (b : Nat) f env (o : Obj) (data : List Byte) (off : Nat) (x : TilXfer) (s : State),
    f.payload = leBytes 4 off ++ leBytes 4 x.total ++ data → off < 2 ^ 32 → x.total < 2 ^ 32 →
    findObj s.cfg (canonIdx f.head.index) f.head.sub = some o → o.row.ty.isBlock = true →
    s.xferOf b (okey (o.bankFor ini.part) (canonIdx f.head.index) f.head.sub) = some x → 
    (off = x.staged.length → x.staged.length + data.length < x.total →
      (s.tilWriteSeg ini b f env).status = 0 ∧
      (s.tilWriteSeg ini b f env).payload = leBytes 4 (x.staged.length + data.length) ∧
      ({ x with tag := f.head.tag, staged := x.staged ++ data, lastOff := off, lastAt := s.now } : TilXfer) ∈
        (s.tilWriteSeg ini b f env).st.til.xfers) ∧
    (off = x.staged.length → x.total < x.staged.length + data.length →
      s.tilWriteSeg ini b f env = s.tilDone codeBadLength []) ∧
    (off ≠ x.staged.length → off = x.lastOff →
      (s.tilWriteSeg ini b f env).status = 0 ∧ (s.tilWriteSeg ini b f env).payload = leBytes 4 x.staged.length ∧
      ({ x with tag := f.head.tag, lastAt := s.now } : TilXfer) ∈ (s.tilWriteSeg ini b f env).st.til.xfers) ∧
    (off ≠ x.staged.length → off ≠ x.lastOff → s.tilWriteSeg ini b f env = s.tilDone codeSegmentSequence [])) ∧
  (∀ ini (b : Nat) f (o : Obj) (ms sev : Nat) (s : State), f.payload = [0] ++ leBytes 2 ms ++ [byteOf sev] → ms < 2 ^ 16 → sev < 256 →
    findObj s.cfg (canonIdx f.head.index) f.head.sub = some o → s.hasRight ini false o (canonIdx f.head.index) f.head.sub = true →
    o.row.ty.isBlock = false → s.til.subs = [] → 
    let k := okey (o.bankFor ini.part) (canonIdx f.head.index) f.head.sub;
    let d := s.tilSubscribe ini b f;
    d.status = (if ms < 10 then codeClampedLow else if 60000 < ms then codeClampedHigh else 0) ∧ d.payload = [byteOf 0] ∧
      d.st.til.subs = [⟨subNum b 0, b, 0, k, max 10 (min 60000 ms), sev,
        (s.readAt ini (canonIdx f.head.index) f.head.sub).2.1, none, f.head.tag⟩]) ∧
  (∀ (b : Nat) f (s : State), f.payload = [255] → 
    (s.tilUnsubscribe b f).status = 0 ∧ (s.tilUnsubscribe b f).st.til.subs.all (fun u => u.binding != b ||
      s.til.subs.all (fun y => y.binding != b || y.id != u.id)) = true) ∧
  (∀ (b tag : Nat) f (x : TilXfer) (s : State), f.payload = [byteOf tag] → tag < 256 →
    s.til.reqs.all (fun r => r.binding != b || r.head.tag != tag || r.started) = true →
    s.til.xfers.find? (fun x => x.binding == b && x.tag == tag) = some x → 
    (s.tilAbort b f).status = codeAborted ∧ (s.tilAbort b f).st.xferOf b x.key = none ∧
      Keeps (fun _ => False) s (s.tilAbort b f).st) ∧
  (∀ (b tag : Nat) f (s : State), f.payload = [byteOf tag] → tag < 256 →
    s.til.reqs.all (fun r => r.binding != b || r.head.tag != tag || r.started) = true →
    s.til.xfers.all (fun x => x.binding != b || x.tag != tag) = true → 
    s.tilAbort b f = s.tilDone codeNothingToAbort [])

/-- Mailboxes, forwarding, time-outs, pushes, broadcasts and new keys: An accepted DOORBELL reads its request, of its
length, from host memory into the mailbox, and the request is received like any other; one of no client leaves the
mailbox free, with flag 0 and without an answer. A response of another node goes back to the client whose request it
answers, with that node's tag, and frees the mailbox that the request came by. A transfer without a segment for
WRITESEG_TIMEOUT_MS is abandoned, and no other. A subscription whose value has changed pushes it once its interval has
passed, under the next PUSH_COUNTER, with the tag of its client and on the way of the client's last request, as it does
to a CAN controller. A heartbeat that is due goes out under the next broadcast counter, as it does on a CAN controller
where CAN FD is the enabled transport. An Emergency frame broadcasts the next waiting record of its transport. Markhor's
new key, derived from the old one, starts the binding's session anew with the next key generation. Where the manual
leaves a point open, it holds for the model's choice in DEDUCED, log entries 33, 34, 91, 92, 117, 121. -/
def Obligations.TilsolServicesRun : Prop :=
  (∀ t ini v w env s, s.inReset = false → s.takes ⟨ini, 0, 0x1060, 3, v⟩ w → s.mailRefusal ⟨ini, 0, 0x1060, 3, v⟩ = none → 
    exec (.mailboxDoorbell t ini v env) s = .next (s.ran t fun s =>
      ({ s with til := { s.til with mailbox := s.til.mailbox ++ [(⟨ini.part, bytesAt env.host 0 w.toNat, false⟩ : Mail)] } } : State).serveMail env)) ∧
  (∀ (m : Mail) env (s : State), m.part < 16 → m.taken = false → s.til.mailbox = [m] → s.plannerUp = true → bit (mailFrame m).head.op 7 = false →
    ((mailFrame m).route = 255 ∨ (mailFrame m).route = s.selfNode) → s.bindingFor (mailFrame m).head.client = none → 
    (s.serveMail env).til.mailbox = [] ∧ (s.serveMail env).flag (okey 0 0x1041 0) 0 = true ∧ (s.serveMail env).out = s.out) ∧
  (∀ t node client tag status data (r : TilReq) s, s.inReset = false → r.head.via = 3 → 8 ≤ data.length →
    s.til.reqs.find? (fun r => r.node == some node && r.head.client == client && r.head.tag == tag) = some r → 
    ∃ s', exec (.forwardedResponse t node client tag status data) s = .next s' ∧
      (let body := respBody status (data.take (data.length - 8));
        s'.out = .msi r.head.port (s.getB r.head.port 0x1060 4) :: .hostWrite r.head.port (s.getB r.head.port 0x1060 2)
          (routeHere ++ (headBytes (respHead r.head) body.length ++ body ++ data.drop (data.length - 8))) :: s.out) ∧
      r ∉ s'.til.reqs ∧ s'.til.cached = s.til.cached ∧ s'.til.mailbox = s.til.mailbox.filter (fun m => m.part != r.head.port)) ∧
  (∀ t s, s.inReset = false → 
    ∃ s', exec (.writesegTimeout t) s = .next s' ∧
      (∀ x, x ∈ s'.til.xfers → x ∈ s.til.xfers ∧ max s.now t < x.lastAt + s.get 0x1040 8 * 1000000) ∧
      ((∀ x, x ∈ s.til.xfers → max s.now t < x.lastAt + s.get 0x1040 8 * 1000000) → s'.til.xfers = s.til.xfers ∧
        Keeps (fun _ => False) s s')) ∧
  (∀ t binding sub can (u : TilSub) (o : Obj) v s, s.inReset = false → s.plannerUp = true → binding < 64 →
    s.subOf binding sub = some u → u.kind = 0 → findObj s.cfg (keyIdx u.key) (keySub u.key) = some o →
    (s.advance t).readAt (s.clientIni binding) (keyIdx u.key) (keySub u.key) = (s.advance t, v, 0) →
    v ≠ u.lastValue → u.lastPush.elim true (fun a => decide (a + u.intervalMs * 1000000 ≤ max s.now t)) = true →
    s.get (0x1200 + binding) 6 + 1 < counterMax → mget (2, 0) binding s.til.ways = (0, can) → s.pdOn 18 = true →
    s.get (canIdx can) 1 ≠ 0 → s.get (canIdx can + 1) 1 ≠ 3 → 
    ∃ s', exec (.subscriptionPush t binding sub) s = .next s' ∧
      s'.get (0x1200 + binding) 6 = s.get (0x1200 + binding) 6 + 1 ∧
      (let body := leBytes 4 0 ++ natBytes o v;
        let h : TilHead := ⟨0, can, 0x8C, s.get (0x1200 + binding) 1, u.tag, u.obj / 256, u.obj % 256, s.get (0x1200 + binding) 6 + 1⟩;
        s'.out = .canFd can (canId 2 (s.get 0x1040 1) h) (canData h body (tagOf (s.keyOf binding) s.selfNode h body.length body)) :: s.out) ∧
      Keeps (fun k => k = okey 0 (0x1200 + binding) 6) s s') ∧
  (∀ t s, s.inReset = false → s.plannerUp = true → s.til.hbLast = none → s.get 0x1040 6 = 1 → s.til.bcastStopped = false →
    s.til.bcast + 1 < 0xF0000000 → s.pdOn 18 = true → s.get (canIdx 0) 1 ≠ 0 → s.get (canIdx 0 + 1) 1 ≠ 3 → s.get (canIdx 1) 1 = 0 →
    s.get (canIdx 2) 1 = 0 → s.get (canIdx 3) 1 = 0 → 
    ∃ s', exec (.heartbeat t) s = .next s' ∧ s'.til.hbLast = some (max s.now t) ∧ s'.til.bcast = s.til.bcast + 1 ∧
      (let body := (s.advance t).heartbeatBytes;
        let h : TilHead := ⟨0, 0, 0x8D, 0, s.selfNode, 0, 0, s.til.bcast + 1⟩;
        s'.out = .canFd 0 (canId 1 (s.get 0x1040 1) h) (canData h body (tagOf s.til.bcastKey s.selfNode h body.length body)) :: s.out)) ∧
  (∀ t (a : Nat) s, s.inReset = false → s.plannerUp = true → s.til.hbLast = some a →
    max s.now t < a + s.get 0x1040 5 * 1000000 → 
    exec (.heartbeat t) s = .next (s.ran t fun s => s)) ∧
  (∀ t transport (u : State) (data : List Byte) s, s.inReset = false → s.plannerUp = true →
    s.ev.emcyLast.all (fun x => x.1 != transport || decide (x.2 + 10000000 ≤ max s.now t)) = true →
    s.til.bcastStopped = false → (s.advance t).deliver (.emcy transport) 0 = (u, some data) → 
    exec (.emergency t transport) s = .next (s.ran t fun _ =>
      ({ u with ev := { u.ev with emcyLast := (transport, u.now) :: u.ev.emcyLast.filter (fun x => x.1 != transport) } } : State).broadcast
        transport 0 false 0x0E data)) ∧
  (∀ t binding s, s.inReset = false → s.noLock 0 = false → binding < 64 → binding ∈ s.til.rekeying → s.markhorUp = true →
    s.inSlot 3 binding = true → s.til.reqs = [] → s.sec.challenges = [] → 
    ∃ s', exec (.rekeyDone t binding) s = .next s' ∧ s'.get (0x1200 + binding) 4 = 1 ∧ s'.get (0x1200 + binding) 5 = 0 ∧
      s'.get (0x1200 + binding) 6 = 0 ∧ s'.get (0x1200 + binding) 9 = (s.get (0x1200 + binding) 9 + 1) % 256 ∧
      s'.keyOf binding = nextKey (s.keyOf binding) (strBytes "TILSOL-REKEY") [byteOf (s.get (0x1200 + binding) 1), byteOf ((s.get (0x1200 + binding) 9 + 1) % 256)] ∧
      s'.til.cached.all (fun x => x.binding != binding) = true ∧ binding ∉ s'.til.rekeying ∧ s'.out = s.out)

/-- The actions of PlanControl: An accepted write of ACTION leaves RESULT 0 and begins its action: 1 validates the
staged image again, 2 stores it (STATE 8), 3 loads and 7 erases the target slot, 4 and 8 prepare the plan, with and
without the swap that follows, 5 sets the time of the swap, and 6 discards the image, its preparation and its validity.
A refused action leaves its code in RESULT and the plan handling as it was. Where the manual leaves a point open, it
holds for the model's choice in DEDUCED, log entries 36, 88. -/
def Obligations.PlanActionsBegin : Prop :=
  (∀ t ini w s, s.inReset = false → s.takes ⟨ini, 0, 0x4000, 1, 1⟩ w → w.toNat = 1 → s.actionRefusal 1 = none → 
    ∃ s', exec (.planRevalidate t ini) s = .next s' ∧ s'.planState = 2 ∧ s'.get 0x4000 5 = 0 ∧ s'.plan.action = 1 ∧
      s'.plan.valid = none) ∧
  (∀ t ini w s, s.inReset = false → s.takes ⟨ini, 0, 0x4000, 1, 2⟩ w → w.toNat = 2 → s.actionRefusal 2 = none → 
    ∃ s', exec (.planStoreSlot t ini) s = .next s' ∧ s'.planState = 8 ∧ s'.get 0x4000 5 = 0 ∧ s'.plan.action = 2 ∧
      s'.plan.actionSlot = s.get 0x4000 2) ∧
  (∀ t ini w s, s.inReset = false → s.takes ⟨ini, 0, 0x4000, 1, 3⟩ w → w.toNat = 3 → s.actionRefusal 3 = none → 
    ∃ s', exec (.planLoadSlot t ini) s = .next s' ∧ s'.planState = s.planState ∧ s'.get 0x4000 5 = 0 ∧ s'.plan.action = 3 ∧
      s'.plan.actionSlot = s.get 0x4000 2) ∧
  (∀ t ini w s, s.inReset = false → s.takes ⟨ini, 0, 0x4000, 1, 4⟩ w → w.toNat = 4 → s.actionRefusal 4 = none → 
    ∃ s', exec (.planSwapWhenReady t ini) s = .next s' ∧ s'.planState = 4 ∧ s'.get 0x4000 5 = 0 ∧
      s'.plan.swapWhenReady = true ∧ s'.plan.valid = s.plan.valid) ∧
  (∀ t ini w s, s.inReset = false → s.takes ⟨ini, 0, 0x4000, 1, 5⟩ w → w.toNat = 5 → (s.advance t).actionRefusal 5 = none → 
    ∃ s', exec (.planSwapAtTime t ini) s = .next s' ∧ s'.planState = 6 ∧ s'.get 0x4000 5 = 0 ∧
      s'.plan.swapAt = some (s.get 0x4000 3)) ∧
  (∀ t ini w s, s.inReset = false → s.takes ⟨ini, 0, 0x4000, 1, 6⟩ w → w.toNat = 6 → s.actionRefusal 6 = none → 
    ∃ s', exec (.planDiscard t ini) s = .next s' ∧ s'.planState = 0 ∧ s'.get 0x4000 5 = 0 ∧ s'.plan.valid = none ∧
      s'.plan.prep = none ∧ s'.plan.swapAt = none ∧ s'.stagedImage = [] ∧ s'.plan.active = s.plan.active) ∧
  (∀ t ini w s, s.inReset = false → s.takes ⟨ini, 0, 0x4000, 1, 7⟩ w → w.toNat = 7 → s.actionRefusal 7 = none → 
    ∃ s', exec (.planEraseSlot t ini) s = .next s' ∧ s'.planState = s.planState ∧ s'.get 0x4000 5 = 0 ∧ s'.plan.action = 7 ∧
      s'.plan.actionSlot = s.get 0x4000 2) ∧
  (∀ t ini w s, s.inReset = false → s.takes ⟨ini, 0, 0x4000, 1, 8⟩ w → w.toNat = 8 → s.actionRefusal 8 = none → 
    ∃ s', exec (.planPrepare t ini) s = .next s' ∧ s'.planState = 4 ∧ s'.get 0x4000 5 = 0 ∧
      s'.plan.swapWhenReady = false ∧ s'.plan.valid = s.plan.valid) ∧
  (∀ t ini w (code : Nat) s, s.inReset = false → s.takes ⟨ini, 0, 0x4000, 1, 5⟩ w → w.toNat = 5 →
    (s.advance t).actionRefusal 5 = some code → 
    ∃ s', exec (.planSwapAtTime t ini) s = .next s' ∧ s'.get 0x4000 5 = code ∧ s'.planState = s.planState ∧ s'.plan = s.plan)

/-- Staging, validation, preparation and the early plan: A GO of the plan load puts LENGTH bytes of host memory into the
staging area and validates them (STATE 2). Validation ends with the first structural fault (its code and offset, STATE
7, flag 0), with Markhor's fault, or with a valid plan (STATE 3, RESULT 0) whose fields are clamped and reported. With
the edge die at hand, the end of a store puts the staged image into its slot, with its write count and flag 5; of a
load, stages the slot's image; of an erasure, empties the slot; without it RESULT is STORE_FAILED. Preparation ends
READY or SWAP_PENDING for at most 10 s, or with PLAN_CAPACITY, STATE 3 and flag 3. A ready plan that expires is valid
only, with flag 4. The early plan of EARLY_SLOT, once it validates and fits, has its fields clamped and reported and is
swapped in by an epoch at once; an image that does not validate sets flag 0. Where the manual leaves a point open, it
holds for the model's choice in DEDUCED, log entries 36, 51, 69, 93, 94, 95, 109, 119. -/
def Obligations.PlansAreValidatedAndPrepared : Prop :=
  (∀ t ini v w data s, s.inReset = false → s.takes ⟨ini, 0, 0x4002, 3, v⟩ w → s.stageRefusal = none → 
    ∃ s', exec (.planDmaGo t ini v data) s = .next s' ∧ s'.planState = 2 ∧ s'.stagedImage = bytesAt data 0 (s.get 0x4002 2) ∧
      s'.plan.valid = none) ∧
  (∀ t ok (code off : Nat) s, s.inReset = false → s.planRuns = true → s.planState = 2 → code < 2 ^ 64 → off < 2 ^ 64 →
    s.noLock 0 = false → s.planFault s.stagedImage = some (code, off) → 
    ∃ s', exec (.planValidated t ok) s = .next s' ∧ s'.planState = 7 ∧ s'.get 0x4000 5 = code ∧ s'.get 0x4000 6 = off ∧
      s'.flag (okey 0 0x4008 0) 0 = true ∧ s'.plan.valid = none) ∧
  (∀ t ok (code : Nat) s, s.inReset = false → s.planRuns = true → s.planState = 2 → code < 2 ^ 64 →
    s.noLock 0 = false → s.planFault s.stagedImage = none → s.markhorUp = true → s.inSlot 1 0 = true →
    s.planVerify s.stagedImage ok = some code → 
    ∃ s', exec (.planValidated t ok) s = .next s' ∧ s'.planState = 7 ∧ s'.get 0x4000 5 = code ∧ s'.get 0x4000 6 = 0 ∧
      s'.flag (okey 0 0x4008 0) 0 = true ∧ s'.plan.valid = none) ∧
  (∀ t ok s, s.inReset = false → s.planRuns = true → s.planState = 2 → s.planFault s.stagedImage = none → s.markhorUp = true →
    s.noLock 0 = false → s.inSlot 1 0 = true → s.planVerify s.stagedImage ok = none → s.plan.boot = false → 
    ∃ s', exec (.planValidated t ok) s = .next s' ∧ s'.planState = 3 ∧ s'.get 0x4000 5 = 0 ∧ s'.get 0x4000 6 = 0 ∧
      s'.plan.valid = some (readPlan s.stagedImage s.selfNode).fieldStage.1 ∧
      s'.getK (okey 0 0x4009 1) = w64 (readPlan s.stagedImage s.selfNode).fieldStage.2.length) ∧
  (∀ t s, s.inReset = false → s.planRuns = true → s.edgeUp = true → s.plan.action = 2 → s.plan.actionSlot < 4 → 
    ∃ s', exec (.planActionDone t) s = .next s' ∧ s'.plan.action = 0 ∧ s'.slotImage s.plan.actionSlot = s.stagedImage ∧
      s'.get (0x4004 + s.plan.actionSlot) 5 = min (s.get (0x4004 + s.plan.actionSlot) 5 + 1) (2 ^ 32 - 1) ∧
      s'.planState = 3 ∧ s'.get 0x4000 5 = 0 ∧ s'.flag (okey 0 0x4008 0) 5 = true) ∧
  (∀ t s, s.inReset = false → s.planRuns = true → s.edgeUp = true → s.plan.action = 3 → 
    ∃ s', exec (.planActionDone t) s = .next s' ∧ s'.plan.action = 0 ∧ s'.stagedImage = s.slotImage s.plan.actionSlot ∧
      s'.planState = 2 ∧ s'.get 0x4000 5 = 0) ∧
  (∀ t s, s.inReset = false → s.planRuns = true → s.edgeUp = true → s.plan.action = 7 → s.plan.actionSlot < 4 → 
    ∃ s', exec (.planActionDone t) s = .next s' ∧ s'.plan.action = 0 ∧ s'.slotImage s.plan.actionSlot = [] ∧
      s'.get (0x4004 + s.plan.actionSlot) 2 = 0 ∧ s'.get 0x4000 5 = 0 ∧ s'.planState = s.planState) ∧
  (∀ t s, s.inReset = false → s.planRuns = true → s.edgeUp = false → (s.plan.action = 2 ∨ s.plan.action = 3 ∨ s.plan.action = 7) → 
    ∃ s', exec (.planActionDone t) s = .next s' ∧ s'.plan.action = 0 ∧ s'.get 0x4000 5 = codeStoreFailed ∧
      s'.plan.slots = s.plan.slots ∧ s'.stagedImage = s.stagedImage ∧ Keeps (fun k => k = okey 0 0x4000 5) s s') ∧
  (∀ t p s, s.inReset = false → s.planRuns = true → s.plan.valid = some p → s.planState = 4 →
    (({ s with plan := { s.plan with boot := false } } : State).advance t).prepare p false = none → 
    ∃ s', exec (.preparationDone t) s = .next s' ∧ s'.planState = 3 ∧ s'.get 0x4000 5 = codePlanCapacity ∧
      s'.flag (okey 0 0x4008 0) 3 = true ∧ s'.plan.prep = none ∧ s'.plan.valid = some p) ∧
  (∀ t p (u : State) (x : Prepared) s, s.inReset = false → s.planRuns = true → s.plan.valid = some p → s.planState = 4 →
    (({ s with plan := { s.plan with boot := false } } : State).advance t).prepare p false = some (u, x) → 
    ∃ s', exec (.preparationDone t) s = .next s' ∧ s'.planState = (if s.plan.swapWhenReady then 6 else 5) ∧
      s'.get 0x4000 5 = 0 ∧ s'.plan.prep = some x ∧ s'.plan.readyUntil = max s.now t + 10000000000) ∧
  (∀ t s, s.inReset = false → s.planRuns = true → s.planState = 5 → s.plan.readyUntil ≤ max s.now t → 
    ∃ s', exec (.readyExpired t) s = .next s' ∧ s'.planState = 3 ∧ s'.flag (okey 0 0x4008 0) 4 = true ∧ s'.plan.prep = none ∧
      s'.plan.valid = s.plan.valid) ∧
  (∀ t ok p (l : List FieldClamp) (u : State) (x : Prepared) s, s.inReset = false → s.plannerUp = true → s.plan.active = none → s.get 0x9030 5 = 0 →
    s.get 0x4000 8 < 4 → s.slotImage (s.get 0x4000 8) ≠ [] → s.earlyPlan (s.slotImage (s.get 0x4000 8)) ok = some (p, l) →
    (((s.advance t).fieldReport l).when (!l.isEmpty) (fun y => y.planFlag 1)).stageEarly.bind (fun y => y.prepare p true) = some (u, x) → 
    exec (.earlyPlanLoaded t ok) s = .next (s.ran t fun _ =>
      let v := u.preparedShed p x.shed;
      ({ v with plan := { u.plan with earlyImage := s.slotImage (s.get 0x4000 8) } }).runEpoch (fun y => y.swapPlan p x true))) ∧
  (∀ t ok s, s.inReset = false → s.plannerUp = true → s.plan.active = none → s.get 0x9030 5 = 0 →
    s.get 0x4000 8 < 4 → s.slotImage (s.get 0x4000 8) ≠ [] → s.earlyPlan (s.slotImage (s.get 0x4000 8)) ok = none → 
    ∃ s', exec (.earlyPlanLoaded t ok) s = .next s' ∧ s'.flag (okey 0 0x4008 0) 0 = true ∧ s'.plan = s.plan ∧
      s'.get 0x4009 1 = 0)

/-- Migration of a surface and the imbalance window: While the planner runs: the end of a bulk copy leaves the surface's
bytes at the new place, or sends them to the node that is to hold it, and either schedules the switch or begins a pass
over the pages that were written meanwhile. A pass that ends schedules the switch when what is dirty fits the hold,
begins another pass, or after the third gives the migration up, counted, to be tried again 60 s later. HOLD_US before
the epoch, and no sooner, the migration holds its surface. A retry that is due, and no other, leaves the list of
retries; it migrates the surface home or to another place where that may be. A window without detectors records each
usable channel's bytes, its load and its hot windows, and clears the surfaces' access counts. Where the manual leaves a
point open, it holds for the model's choice in DEDUCED, log entries 15, 70, 96, 103, 124. -/
def Obligations.MigrationsRun : Prop :=
  (∀ t surf (m : Migration) (f : Surf) s, s.inReset = false → s.planRuns = true → s.migOf surf = some m → s.surf surf = some f →
    m.phase = 0 → m.loc ≠ 2 → s.memc.broken = [] → (m.addr + f.span ≤ f.addr ∨ f.addr + f.span ≤ m.addr) → 
    ∃ s', exec (.migrationCopyDone t surf) s = .next s' ∧ s'.rdBytes m.addr f.span = s.rdBytes f.addr f.span ∧
      s'.migOf surf = some (if m.dirty.length * 65536 ≤ s.get 0x3420 6 * s.migrateRate then { m with phase := 2 }
        else { m with phase := 1, copying := m.dirty, dirty := [] }) ∧
      (∀ k, s'.getK k = s.getK k)) ∧
  (∀ t surf (m : Migration) (f : Surf) s, s.inReset = false → s.planRuns = true → s.migOf surf = some m → s.surf surf = some f →
    m.phase = 1 → m.loc ≠ 2 → 
    ∃ s', exec (.migrationPassDone t surf) s = .next s' ∧
      (m.dirty.length * 65536 ≤ s.get 0x3420 6 * s.migrateRate →
        s'.migOf surf = some { m with phase := 2, copying := [], passes := m.passes + 1 }) ∧
      (s.get 0x3420 6 * s.migrateRate < m.dirty.length * 65536 → m.passes + 1 < 3 →
        s'.migOf surf = some { m with copying := m.dirty, dirty := [], passes := m.passes + 1 }) ∧
      (s.get 0x3420 6 * s.migrateRate < m.dirty.length * 65536 → 3 ≤ m.passes + 1 →
        s'.migOf surf = none ∧ s'.get 0x3431 4 = min (s.get 0x3431 4 + 1) (2 ^ 32 - 1) ∧
        (surf, max s.now t + 60000000000) ∈ s'.place.retry)) ∧
  (∀ t surf (m : Migration) (f : Surf) s, s.inReset = false → s.planRuns = true → s.migOf surf = some m → s.surf surf = some f →
    m.phase = 2 → m.loc ≠ 2 → s.time.nextEpoch ≤ max s.now t + s.get 0x3420 6 * 1000 → 
    ∃ s', exec (.migrationHold t surf) s = .next s' ∧ s'.migOf surf = some { m with phase := 3, dirty := [] } ∧
      s'.isHeld surf = true ∧ (∀ k, s'.getK k = s.getK k)) ∧
  (∀ t surf (m : Migration) (f : Surf) s, s.inReset = false → s.planRuns = true → s.migOf surf = some m → s.surf surf = some f →
    m.phase = 2 → max s.now t + s.get 0x3420 6 * 1000 < s.time.nextEpoch → 
    exec (.migrationHold t surf) s = .next (s.ran t fun s => s)) ∧
  (∀ t surf (m : Migration) (f : Surf) s, s.inReset = false → s.planRuns = true → s.migOf surf = some m → s.surf surf = some f → 
    (m.phase = 0 → exec (.migrationCopyDone t surf) s = .next (s.ran t fun s => let a := s.copyOut f m 0 f.span;
      a.putMig (if m.dirty.length * 65536 ≤ a.holdBytes then { m with phase := 2 }
        else { m with phase := 1, copying := m.dirty, dirty := [] }))) ∧
    (m.phase = 1 → exec (.migrationPassDone t surf) s = .next (s.ran t fun s => let a := s.copyPages f m m.copying;
      if m.dirty.length * 65536 ≤ a.holdBytes then a.putMig { m with phase := 2, copying := [], passes := m.passes + 1 }
      else if 3 ≤ m.passes + 1 then (a.abandonMigration surf).bump 0x3431 4
      else a.putMig { m with copying := m.dirty, dirty := [], passes := m.passes + 1 }))) ∧
  (∀ t surf (a : Nat) (f : Surf) s, s.inReset = false → s.planRuns = true →
    s.place.retry.find? (fun x => x.1 == surf) = some (surf, a) → s.migOf surf = none → s.surf surf = some f → 
    (max s.now t < a → exec (.migrationRetry t surf) s = .next (s.ran t fun s => s)) ∧
    (a ≤ max s.now t → exec (.migrationRetry t surf) s = .next (s.ran t fun s =>
      let b := ({ s with place := { s.place with retry := s.place.retry.filter (fun x => x.1 != surf) } } : State);
      let c := b.plan.active.elim b (fun p => b.checkHome p f);
      if (c.migOf surf).isNone ∧ f.loc = 1 ∧ c.mayMove f then c.startMigration f none else c)) ∧
    (a ≤ max s.now t → ∃ s', exec (.migrationRetry t surf) s = .next s' ∧
      s'.place.retry = s.place.retry.filter (fun x => x.1 != surf))) ∧
  (∀ t (traffic : List Nat) s, s.inReset = false → s.planRuns = true → s.get 0x3420 8 = 0 → s.place.rekeyDue = [] → 
    ∃ s', exec (.imbalanceWindow t traffic) s = .next s' ∧
      (∀ c, c < 32 → s.chanUsable c = true → nth 0 traffic c < 2 ^ 64 → s'.get (0x3440 + c) 3 = nth 0 traffic c ∧
        s'.get (0x3440 + c) 4 = s.loadPct traffic c ∧
        s'.get (0x3440 + c) 5 = if s.hotWindow traffic c then min 65535 (s.get (0x3440 + c) 5 + 1) else 0) ∧
      s'.place.surfs = s.place.surfs.map (fun f => { f with hot := 0 }))

/-- Binding of engines after a unit loss: The binding computed after a unit loss takes the first point of the shedding
order at which the plan is carried; it waits for the frame epoch, with flag 4 of the placement status. Where no shedding
carries the plan, class B layers are dropped, and hold bit 3 keeps SAFE_OK low. Without a computation that is due
nothing changes. At the epoch the objects of the binding show it. Where the manual leaves a point open, it holds for the
model's choice in DEDUCED, log entries 70, 126. -/
def Obligations.EnginesAreRebound : Prop :=
  (∀ t p (m shed : List Nat) s, s.inReset = false → s.planRuns = true → s.place.rebinding ≠ [] → s.plan.active = some p →
    s.shedUntil p (p.shedOrder.filter (fun n => !s.place.shed.contains n)) s.place.shed = some (m, shed) → 
    ∃ s', exec (.bindingComputed t) s = .next s' ∧ s'.place.rebinding = [] ∧
      s'.place.binding = some (m, shed, s.place.dropped) ∧ s'.flag (okey 0 0x3430 0) 4 = true) ∧
  (∀ t p s, s.inReset = false → s.planRuns = true → s.place.rebinding ≠ [] → s.plan.active = some p →
    s.shedUntil p (p.shedOrder.filter (fun n => !s.place.shed.contains n)) s.place.shed = none → 
    ∃ s', exec (.bindingComputed t) s = .next s' ∧
      s'.place.binding = some ((s.dropB p).1, s.place.shed ++ p.shedOrder.filter (fun n => !s.place.shed.contains n), (s.dropB p).2) ∧
      bit (s'.get 0x8C60 1) 3 = true ∧ s'.flag (okey 0 0x3430 0) 4 = true) ∧
  (∀ t s, s.inReset = false → s.place.rebinding = [] → 
    exec (.bindingComputed t) s = .next (s.ran t fun s => s)) ∧
  (∀ (m shed dropped : List Nat) (k : Nat) (s : State), s.place.binding = some (m, shed, dropped) → k < s.cfg.engines →
    s.cfg.engines ≤ 8 → m.all (fun j => decide (j < 256)) = true → 
    s.applyBinding.get 0x3470 (k + 1) = nth 0xFF m k ∧ s.applyBinding.place.binding = none ∧
      s.applyBinding.place.shed = shed ∧ s.applyBinding.place.dropped = dropped)

/-- Batches, tiles, writeback and deadlines: A batch that did not run in this frame begins between its start slot and
its deadline, in its turn, on the free, usable engine it is bound to, when its head composes under its layout. A free
slot of the engine takes the batch's next tile: a clean one is passed over with the 64-bit count of clean tiles;
otherwise, where no head clones the store, it is composed to 2,048 words, its tile becomes pending and the count of
tiles advances. While a clone reads the copy that the tile would be written to, the engine waits, with the tile not
begun. A tile written back is COMPLETE in the copy that is not current, and counted as done. At the deadline a batch
that has settled all its tiles frees its engine and changes no object; a tile that has not been composed is an overrun,
with the frame and tile recorded. Where the manual leaves a point open, it holds for the model's choice in log entries
74, 86, 87, 127. -/
def Obligations.CompositionRuns : Prop :=
  (∀ t batch p (b : PlanBatch) s, s.inReset = false → s.noLock 3 = false → s.plan.active = some p → p.batches[batch]? = some b →
    s.engineOf b < s.cfg.engines → s.get (0x4080 + s.engineOf b) 1 = 0 → (s.engine (s.engineOf b)).batch = none →
    (s.engine (s.engineOf b)).flight = [] → b.layout = s.layoutOf b.head → s.slotStart p b.startSlot ≤ max s.now t →
    max s.now t < s.slotStart p (b.endSlot + 1) → batch ∉ s.comp.ran → (s.advance t).batchTurn p b = true → 
    ∃ s', exec (.batchStart t batch) s = .next s' ∧ (s'.engine (s.engineOf b)).batch = some batch ∧
      (s'.engine (s.engineOf b)).next = 0 ∧ (s'.engine (s.engineOf b)).frame = s.epoch ∧ Keeps (fun _ => False) s s') ∧
  (∀ t engine p (k : Nat) (b : PlanBatch) (h : PlanHead) (x : FStore) s, s.inReset = false → s.noLock 3 = false → engine < 16 →
    s.plan.active = some p → (s.engine engine).batch = some k → p.batches[k]? = some b → p.headOf b.head = some h →
    s.store b.head = some x → s.get (0x4080 + engine) 1 = 0 → (s.engine engine).stuck = false →
    max s.now t < s.slotStart p (b.endSlot + 1) → (s.engine engine).next < b.tiles → (s.engine engine).flight.length < 4 →
    s.isClean p h (s.dirEntry p h (b.firstTile + (s.engine engine).next)) (b.firstTile + (s.engine engine).next)
      (x.tile (b.firstTile + (s.engine engine).next)) = true → 
    ∃ s', exec (.tileStart t engine []) s = .next s' ∧ (s'.engine engine).flight = (s.engine engine).flight ∧
      s'.get (0x4080 + engine) 3 = min (s.get (0x4080 + engine) 3 + 1) (2 ^ 64 - 1) ∧
      (s'.store b.head).map (fun y => (y.tile (b.firstTile + (s.engine engine).next)).pend) =
        some (x.tile (b.firstTile + (s.engine engine).next)).pend ∧
      Keeps (fun j => j = okey 0 (0x4080 + engine) 3) s s') ∧
  (∀ t engine p (k : Nat) (b : PlanBatch) (h : PlanHead) (x : FStore) (ecc : List Nat) s, s.inReset = false → s.noLock 3 = false →
    engine < 16 → b.head < 64 → s.plan.active = some p → (s.engine engine).batch = some k → p.batches[k]? = some b →
    p.headOf b.head = some h → s.store b.head = some x → s.get (0x4080 + engine) 1 = 0 → (s.engine engine).stuck = false →
    max s.now t < s.slotStart p (b.endSlot + 1) → (s.engine engine).next < b.tiles → (s.engine engine).flight.length < 4 →
    s.isClean p h (s.dirEntry p h (b.firstTile + (s.engine engine).next)) (b.firstTile + (s.engine engine).next)
      (x.tile (b.firstTile + (s.engine engine).next)) = false → p.clonesOf h.head = [] → 
    ∃ s', exec (.tileStart t engine ecc) s = .next s' ∧ (s'.engine engine).next = (s.engine engine).next + 1 ∧
      (∃ words : List Nat, words.length = 2048 ∧
        (s'.engine engine).flight = (s.engine engine).flight ++ [⟨h.head, b.firstTile + (s.engine engine).next, words, (s.engine engine).frame, b.sub⟩]) ∧
      (s'.store b.head).map (fun y => (y.tile (b.firstTile + (s.engine engine).next)).pend) = some 1 ∧
      s'.get (0x4080 + engine) 2 = min (s.get (0x4080 + engine) 2 + 1) (2 ^ 64 - 1)) ∧
  (∀ t engine p (k : Nat) (b : PlanBatch) (h : PlanHead) (x : FStore) (ecc : List Nat) s, s.inReset = false → s.noLock 3 = false →
    b.head < 64 → s.plan.active = some p → (s.engine engine).batch = some k → p.batches[k]? = some b →
    p.headOf b.head = some h → s.store b.head = some x → s.get (0x4080 + engine) 1 = 0 → (s.engine engine).stuck = false →
    max s.now t < s.slotStart p (b.endSlot + 1) → (s.engine engine).next < b.tiles → (s.engine engine).flight.length < 4 →
    s.isClean p h (s.dirEntry p h (b.firstTile + (s.engine engine).next)) (b.firstTile + (s.engine engine).next)
      (x.tile (b.firstTile + (s.engine engine).next)) = false →
    (p.clonesOf h.head).filter (fun c => s.cloneReading h c (b.firstTile + (s.engine engine).next)
      (!(x.tile (b.firstTile + (s.engine engine).next)).cur)) ≠ [] → 
    ∃ s', exec (.tileStart t engine ecc) s = .next s' ∧ (s'.engine engine).next = (s.engine engine).next ∧
      (s'.engine engine).flight = (s.engine engine).flight ∧ s'.comp.stores = s.comp.stores ∧
      (∀ c, c ∈ p.clonesOf h.head → s.cloneReading h c (b.firstTile + (s.engine engine).next)
        (!(x.tile (b.firstTile + (s.engine engine).next)).cur) = true → c.head ∈ (s'.engine engine).waits)) ∧
  (∀ t engine (g : Flight) (l : List Flight) (x : FStore) s, s.inReset = false → s.noLock 3 = false → (s.engine engine).stuck = false → (s.engine engine).flight = g :: l →
    s.store g.head = some x → 
    ∃ s', exec (.tileWritebackDone t engine) s = .next s' ∧ (s'.engine engine).flight = l ∧
      (s'.store g.head).map (fun y => (y.done, (y.tile g.tile).pend, (y.tile g.tile).overrun)) = some (x.done + 1, 2, false) ∧
      (s'.store g.head).map (fun y => if (y.tile g.tile).cur then (y.tile g.tile).px0 else (y.tile g.tile).px1) = some g.words ∧
      (s'.store g.head).map (fun y => (y.tile g.tile).composed) = some true ∧
      (s'.store g.head).map (fun y => (y.tile g.tile).cur) = some (x.tile g.tile).cur) ∧
  (∀ t batch p (b : PlanBatch) (h : PlanHead) s, s.inReset = false → s.plan.active = some p → p.batches[batch]? = some b →
    p.headOf b.head = some h → b.layout = s.layoutOf b.head → s.slotStart p (b.endSlot + 1) ≤ max s.now t →
    batch ∉ s.comp.ran → (s.engine (s.engineOf b)).batch = some batch → b.tiles ≤ (s.engine (s.engineOf b)).next →
    (s.engine (s.engineOf b)).flight = [] → 
    ∃ s', exec (.batchDeadline t batch) s = .next s' ∧ batch ∈ s'.comp.ran ∧ (s'.engine (s.engineOf b)).batch = none ∧
      s'.comp.stores = s.comp.stores ∧ Keeps (fun _ => False) s s') ∧
  (∀ t batch p (b : PlanBatch) (h : PlanHead) (x : FStore) s, s.inReset = false → s.plan.active = some p →
    p.batches[batch]? = some b → p.headOf b.head = some h → b.head < 64 → b.layout = s.layoutOf b.head →
    s.slotStart p (b.endSlot + 1) ≤ max s.now t → batch ∉ s.comp.ran → (s.engine (s.engineOf b)).batch ≠ some batch →
    b.tiles = 1 → b.firstTile < 2 ^ 16 → s.store b.head = some x → 
    ∃ s', exec (.batchDeadline t batch) s = .next s' ∧ batch ∈ s'.comp.ran ∧
      (s'.store b.head).map (fun y => (y.late, (y.tile b.firstTile).overrun, (y.tile b.firstTile).pend)) =
        some (x.late + 1, true, 0) ∧
      s'.get (0x4100 + b.head) 1 = min (s.get (0x4100 + b.head) 1 + 1) (2 ^ 32 - 1) ∧
      s'.getK (okey 0 (0x4100 + b.head) 4) = w64 s.epoch ∧ s'.get (0x4100 + b.head) 5 = b.firstTile)

/-- Vertical blank, fetch data and active pixels: When a head's first vertical blank, or the one after its last active
pixel, starts, its frame counter counts on and wraps, group commits and the tile flip take effect, and the views,
wire-point units, captures and the fetch of the next frame begin, in this order; at any other time its start changes
nothing. A flip makes the other copy of each COMPLETE tile current, and of no other, and counts them. Returned data is
decoded into the line buffer as far as it has room, and FILL follows; a tile with a decode error is counted once in a
frame and reads 0 for the rest of it. An active pixel that is due is handed to the link at its raster position and the
scan advances; one whose data has not arrived counts an underrun pixel. Where the manual leaves a point open, it holds
for the model's choice in DEDUCED, log entries 16, 75, 97, 98. -/
def Obligations.ScanoutRuns : Prop :=
  (∀ t head p (h : PlanHead) (r : HeadRun) s, s.inReset = false → s.plan.active = some p → p.headOf head = some h →
    s.headRun head = some r → (r.first = true ∨ r.blank = false ∧ h.hActive * h.vActive ≤ r.scan) → 
    exec (.vblankStart t head) s = .next (s.ran t fun s =>
      let a := (((s.wrap32 (headIdx head + 1) 1).takeRaster head).applyVblank head).flipTiles head;
      let b := (((a.latchClone p h).measureLock p h).startWire p h).captureStart p h;
      ((b.portVblank h r.first).startFetch p h).endFlagPeriods .perFrame
        (fun k => decide (headIdx head ≤ keyIdx k ∧ keyIdx k < headIdx head + 0x40)))) ∧
  (∀ t head p (h : PlanHead) (r : HeadRun) s, s.inReset = false → s.plan.active = some p → p.headOf head = some h →
    s.headRun head = some r → r.first = false → (r.blank = true ∨ r.scan < h.hActive * h.vActive) → 
    exec (.vblankStart t head) s = .next (s.ran t fun s => s)) ∧
  (∀ head (x : FStore) (s : State), s.store head = some x → head < 64 → x.tiles.length < 2 ^ 32 → 
    (s.flipTiles head).store head = some { x with
      tiles := x.tiles.map (fun f => { f with cur := f.cur != (f.pend == 2), pend := if f.pend = 2 then 0 else f.pend }) } ∧
    (s.flipTiles head).get (0x4100 + head) 7 = (x.tiles.filter (fun f => f.pend == 2)).length ∧
    Keeps (fun k => k = okey 0 (0x4100 + head) 7) s (s.flipTiles head)) ∧
  (∀ t head n slot p (h : PlanHead) (r : HeadRun) s, s.inReset = false → head < 64 → s.plan.active = some p →
    p.headOf head = some h → s.headRun head = some r → 
    ∃ s', exec (.fetchDataReturn t head n slot []) s = .next s' ∧
      (s'.headRun head).map (fun x => x.buf) = some (r.buf ++
        (List.range (min (min n (32768 + scanPos p h r.scan - r.buf.length)) (framePx p h - r.buf.length))).map
          (fun j => if r.badTiles.contains (tileAt (p.ownerHead h) (r.buf.length + j)) then 0
            else s.sourceWord (p.ownerHead h) r (r.buf.length + j))) ∧
      s'.get (headIdx head + 1) 6 = min 32768 (((s'.headRun head).elim 0 (fun x => x.buf.length)) - scanPos p h r.scan) ∧
      s'.get (0x4100 + head) 8 = s.get (0x4100 + head) 8) ∧
  (∀ t head n slot tile p (h : PlanHead) (r : HeadRun) s, s.inReset = false → head < 64 → s.plan.active = some p →
    p.headOf head = some h → s.headRun head = some r → tile ∉ r.badTiles →
    (List.range (min (min n (32768 + scanPos p h r.scan - r.buf.length)) (framePx p h - r.buf.length))).any
      (fun j => tileAt (p.ownerHead h) (r.buf.length + j) == tile) = true → 
    ∃ s', exec (.fetchDataReturn t head n slot [tile]) s = .next s' ∧
      (s'.headRun head).map (fun x => (x.buf, x.badTiles)) = some (r.buf ++
        (List.range (min (min n (32768 + scanPos p h r.scan - r.buf.length)) (framePx p h - r.buf.length))).map
          (fun j => if (r.badTiles ++ [tile]).contains (tileAt (p.ownerHead h) (r.buf.length + j)) then 0
            else s.sourceWord (p.ownerHead h) r (r.buf.length + j)), r.badTiles ++ [tile]) ∧
      s'.get (0x4100 + head) 8 = min (s.get (0x4100 + head) 8 + 1) (2 ^ 32 - 1)) ∧
  (∀ t head p (h : PlanHead) (r : HeadRun) s, s.inReset = false → s.plan.active = some p → p.headOf head = some h →
    s.headRun head = some r → r.scan < h.hActive * h.vActive → 
    ∃ s' l a b c, exec (.pixelScan t head) s = .next s' ∧ (s'.headRun head).map (fun x => x.scan) = some (r.scan + 1) ∧
      s'.out = .pixel head (r.scan % h.hActive) (r.scan / h.hActive) a b c :: l) ∧
  (∀ t head p (h : PlanHead) (r : HeadRun) s, s.inReset = false → head < 64 → s.plan.active = some p →
    p.headOf head = some h → s.headRun head = some r → r.scan < h.hActive * h.vActive →
    r.buf.length ≤ neededPos p h r.scan → 
    ∃ s', exec (.pixelScan t head) s = .next s' ∧
      s'.get (headIdx head + 3) 1 = min (s.get (headIdx head + 3) 1 + 1) (2 ^ 32 - 1) ∧
      (s'.headRun head).map (fun x => x.underFrame) = some true)

/-- Hot-plug, training, link loss and authentication: A plug sets the port's sink bit, its count and flag 0; an unplug
clears it, with flag 1, and the port waits for a sink. The first read of a sink stores its EDID, with flag 6 where it
has a wrong checksum and flag 7 where a head's timing is not listed, and brings the port up; a further one adds to what
is stored. A service pulse is counted, and one that tells of a lost link trains the port anew. A failed attempt goes on
to the next configuration, and after the last one the port has failed, with its count and flag 2; a successful one
settles the link by its capacity. A port that failed or is insufficient, and an authentication that failed, try again
after the RETRAIN_MS in force. A lost link is counted, with flag 4. Class A content without a link for longer than the
LINK_GRACE_MS in force starts the reaction. An authentication ends with its state, or fails with flag 5. Where the
manual leaves a point open, it holds for the model's choice in DEDUCED, log entries 55, 125. -/
def Obligations.LinksTrainAndFall : Prop :=
  (∀ t port s, s.inReset = false → s.hpdPort port = true → 
    ∃ s', exec (.hpdPlug t port) s = .next s' ∧ s'.get (poIdx port + 1) 7 = 1 ∧ s'.flag (okey 0 (poIdx port + 2) 0) 0 = true ∧
      s'.get (poIdx port + 3) 4 = min (s.get (poIdx port + 3) 4 + 1) (2 ^ 32 - 1) ∧ s'.linkState port = s.linkState port) ∧
  (∀ t port s, s.inReset = false → s.hpdPort port = true → 
    ∃ s', exec (.hpdUnplug t port) s = .next s' ∧ s'.get (poIdx port + 1) 7 = 0 ∧ s'.flag (okey 0 (poIdx port + 2) 0) 1 = true ∧
      s'.linkState port = 1 ∧ (s'.linkRun port).sink.known = false ∧
      (s.portUp port = true → s'.flag (okey 0 (poIdx port + 2) 0) 4 = true ∧ s'.get (poIdx port + 1) 2 = 0)) ∧
  (∀ t port lanes rate (dsc : Bool) (edid : List Byte) (modes : List SinkMode) s, s.inReset = false → s.hpdPort port = true →
    s.get (poIdx port + 1) 7 ≠ 0 → (s.linkRun port).sink.known = false → s.portHeads port = [] → 
    ∃ s', exec (.sinkIdReadDone t port lanes rate dsc edid modes) s = .next s' ∧
      (s'.linkRun port).sink = ⟨true, lanes, rate, dsc, edidOk edid, modes⟩ ∧
      (s'.getBlk (okey 0 (poIdx port + 4) 0)).data = edid.take 32768 ∧
      (edidOk edid = false → edid ≠ [] → s'.flag (okey 0 (poIdx port + 2) 0) 6 = true)) ∧
  (∀ t port lanes rate (dsc : Bool) (edid : List Byte) (modes : List SinkMode) s, s.inReset = false → s.hpdPort port = true →
    s.get (poIdx port + 1) 7 ≠ 0 → (s.linkRun port).sink.known = false → 
    exec (.sinkIdReadDone t port lanes rate dsc edid modes) s = .next (s.ran t fun s =>
      let a := s.putBlk (okey 0 (poIdx port + 4) 0) (edid.take 32768);
      let b := if edidOk edid = true ∨ edid = [] then a else a.setFlag (okey 0 (poIdx port + 2) 0) 6;
      ((b.putLinkRun { s.linkRun port with sink := ⟨true, lanes, rate, dsc, edidOk edid, modes⟩ }).checkModes port
        (s.portHeads port)).bringUp port)) ∧
  (∀ t port lanes rate (dsc : Bool) (edid : List Byte) (modes : List SinkMode) s, s.inReset = false → s.hpdPort port = true →
    s.get (poIdx port + 1) 7 ≠ 0 → (s.linkRun port).sink.known = true → 
    ∃ s', exec (.sinkIdReadDone t port lanes rate dsc edid modes) s = .next s' ∧
      (s'.linkRun port).sink = { (s.linkRun port).sink with modes := (s.linkRun port).sink.modes ++ modes } ∧
      (s'.getBlk (okey 0 (poIdx port + 4) 0)).data = ((s.getBlk (okey 0 (poIdx port + 4) 0)).data ++ edid).take 32768 ∧
      s'.linkState port = s.linkState port) ∧
  (∀ port (l : List PlanHead) (s : State), (s.linkRun port).sink.known = true → l.any (fun h => !(s.linkRun port).sink.lists h) = true → 
    (s.checkModes port l).flag (okey 0 (poIdx port + 2) 0) 7 = true ∧
      Keeps (fun k => evKey k ∨ k = okey 0 (poIdx port + 2) 0) s (s.checkModes port l)) ∧
  (∀ t port s, s.inReset = false → s.linkState port = 2 → (s.linkRun port).failed = false →
    (s.trainSteps port)[(s.linkRun port).attempts + 1]? = none → 
    ∃ s', exec (.trainingAttemptDone t port false) s = .next s' ∧ s'.linkState port = 2 ∧ (s'.linkRun port).failed = true ∧
      s'.flag (okey 0 (poIdx port + 2) 0) 2 = true ∧
      s'.get (poIdx port + 3) 2 = min (s.get (poIdx port + 3) 2 + 1) (2 ^ 32 - 1)) ∧
  (∀ t port (l rate : Nat) s, s.inReset = false → s.linkState port = 2 → (s.linkRun port).failed = false →
    (s.trainSteps port)[(s.linkRun port).attempts + 1]? = some (l, rate) → 
    ∃ s', exec (.trainingAttemptDone t port false) s = .next s' ∧ s'.linkState port = 2 ∧ (s'.linkRun port).lanes = l ∧
      (s'.linkRun port).rate = rate ∧ (s'.linkRun port).attempts = (s.linkRun port).attempts + 1 ∧
      s'.get (poIdx port + 3) 1 = min (s.get (poIdx port + 3) 1 + 1) (2 ^ 32 - 1)) ∧
  (∀ t port s, s.inReset = false → s.linkState port = 2 → (s.linkRun port).failed = false →
    s.get (poIdx port) 1 ≠ 2 ∨ (s.linkRun port).rate ≠ 0 →
    s.portNeed port false ≤ linkCapacity (s.get (poIdx port) 1) (s.linkRun port).lanes (s.linkRun port).rate → 
    ∃ s', exec (.trainingAttemptDone t port true) s = .next s' ∧ s'.linkState port = 3 ∧
      s'.get (poIdx port + 1) 2 = (s.linkRun port).lanes % 2 ^ 64 ∧ s'.get (poIdx port + 1) 3 = (s.linkRun port).rate % 2 ^ 64 ∧
      s'.get (poIdx port + 1) 8 = s.portNeed port false / 16000 % 2 ^ 64 ∧ (s'.linkRun port).downAt = none) ∧
  (∀ t port s, s.inReset = false → s.linkState port = 4 ∨ s.linkState port = 2 ∧ (s.linkRun port).failed = true →
    (s.linkRun port).triedAt + s.lateField port 0xC * 1000000 ≤ max s.now t → 
    exec (.retrainTimer t port) s = .next (s.ran t fun s => s.bringUp port)) ∧
  (∀ t port s, s.inReset = false → s.linkState port = 3 → s.get (poIdx port + 1) 6 = 4 →
    (s.linkRun port).hdcpAt + s.lateField port 0xC * 1000000 ≤ max s.now t → 
    ∃ s', exec (.retrainTimer t port) s = .next s' ∧ s'.get (poIdx port + 1) 6 = 1 ∧
      Keeps (fun k => k = okey 0 (poIdx port + 1) 6) s s') ∧
  (∀ t port lost s, s.inReset = false → s.hpdPort port = true → s.get (poIdx port + 1) 7 = 1 →
    lost = false ∨ (s.linkRun port).sink.known = false → 
    ∃ s', exec (.irqHpd t port lost) s = .next s' ∧
      s'.get (poIdx port + 3) 5 = min (s.get (poIdx port + 3) 5 + 1) (2 ^ 32 - 1) ∧
      Keeps (fun k => k = okey 0 (poIdx port + 3) 5) s s') ∧
  (∀ t port s, s.inReset = false → s.hpdPort port = true → s.get (poIdx port + 1) 7 = 1 → (s.linkRun port).sink.known = true → 
    exec (.irqHpd t port true) s = .next (s.ran t fun s => let a := s.bump (poIdx port + 3) 5;
      (if a.portUp port then a.loseLink port else a).startAttempt port 0)) ∧
  (∀ t port s, s.inReset = false → s.portUp port = true → 
    exec (.linkLost t port) s = .next (s.ran t fun s => ((s.loseLink port).setLink port 2).bringUp port)) ∧
  (∀ (port : Nat) (s : State), port < 22 → 
    (s.loseLink port).flag (okey 0 (poIdx port + 2) 0) 4 = true ∧
    (s.loseLink port).get (poIdx port + 3) 3 = min (s.get (poIdx port + 3) 3 + 1) (2 ^ 32 - 1) ∧
    (s.portUp port = true → (s.setLink port 2).get (poIdx port + 1) 2 = 0 ∧ (s.setLink port 2).get (poIdx port + 1) 6 = 0 ∧
      ((s.setLink port 2).linkRun port).video = [])) ∧
  (∀ t port (a : Nat) s, s.inReset = false → s.classAPort port = true → s.portUp port = false →
    (s.linkRun port).downAt = some a → a + s.lateField port 0xD * 1000000 < max s.now t → (s.linkRun port).reacting = false → 
    ∃ s', exec (.linkGraceExpired t port) s = .next s' ∧ (s'.linkRun port).reacting = true ∧
      s'.flag (okey 0 (poIdx port + 2) 0) 4 = true) ∧
  (∀ t port ok type1 s, s.inReset = false → s.get (poIdx port + 1) 6 = 1 →
    (s.markhorUp = true → s.inSlot 5 port = true) → 
    ∃ s', exec (.hdcpAuthDone t port ok type1) s = .next s' ∧
      (ok = true → s.markhorUp = true → s'.get (poIdx port + 1) 6 = (if type1 then 3 else 2) ∧
        Keeps (fun k => k = okey 0 (poIdx port + 1) 6) s s') ∧
      (ok = false ∨ s.markhorUp = false → s'.get (poIdx port + 1) 6 = 4 ∧ s'.flag (okey 0 (poIdx port + 2) 0) 5 = true))

/-- Video inputs: A frame start of an input that captures takes the ring entry that is free, or the oldest complete one
that is not held, and notes its time; a complete one that was never shown is counted, with flag 3 of the composition
status. A frame of another virtual channel of a CSI-2 input is ignored. A frame that ends whole, in the committed size
and data type, completes its entry, is counted, and leaves the input receiving; one with an error, another type or
another size is discarded, with its count and its flag. An input without a complete frame for TIMEOUT_MS is in STATE 4,
with its count and flag 0. Where the manual leaves a point open, it holds for the model's choice in DEDUCED, log entry 55. -/
def Obligations.VideoInputsCapture : Prop :=
  (∀ t input (k : Nat) s, s.inReset = false → s.noLock 7 = false → s.inputOn input = true →
    (s.ring input).entries.any (fun e => e.st == 1) = false → (s.ring input).pick = some k → 
    ∃ s', exec (.videoFrameStart t input) s = .next s' ∧
      (nth ⟨0, false, false, 0, 0, 0, 0, [], 0⟩ (s'.ring input).entries k).st = 1 ∧
      (nth ⟨0, false, false, 0, 0, 0, 0, [], 0⟩ (s'.ring input).entries k).time = max s.now t ∧
      s'.get (viIdx input + 1) 2 = max s.now t % 2 ^ 64 ∧
      ((nth ⟨0, false, false, 0, 0, 0, 0, [], 0⟩ (s.ring input).entries k).st = 2 →
        (nth ⟨0, false, false, 0, 0, 0, 0, [], 0⟩ (s.ring input).entries k).seen = false →
        s'.get (viIdx input + 3) 2 = min (s.get (viIdx input + 3) 2 + 1) (2 ^ 32 - 1) ∧ s'.flag (okey 0 0x4041 0) 3 = true)) ∧
  (∀ (r : VideoRing) (k : Nat), r.pick = some k → 
    k < r.entries.length ∧ (nth ⟨0, false, false, 0, 0, 0, 0, [], 0⟩ r.entries k).st ≠ 1 ∧
      (nth ⟨0, false, false, 0, 0, 0, 0, [], 0⟩ r.entries k).held = false ∧
      ((nth ⟨0, false, false, 0, 0, 0, 0, [], 0⟩ r.entries k).st ≠ 0 → ∀ e, e ∈ r.entries → e.st ≠ 1 → e.held = false →
        e.st ≠ 0 ∧ (nth ⟨0, false, false, 0, 0, 0, 0, [], 0⟩ r.entries k).order ≤ e.order)) ∧
  (∀ t input x y ident (data : List Byte) err s, s.inReset = false → input < 8 → ident / 64 ≠ s.get (viIdx input) 2 → 
    exec (.videoFrameEnd t input x y ident err data) s = .next (s.ran t fun s => s)) ∧
  (∀ t input x y ident (data : List Byte) s, s.inReset = false → s.noLock 7 = false → s.inputOn input = true →
    (s.ring input).entries.any (fun e => e.st == 1) = true → (input < 8 → ident / 64 = s.get (viIdx input) 2) → ident % 64 = s.get (viIdx input) 3 → x = s.get (viIdx input) 4 →
    y = s.get (viIdx input) 5 → 
    ∃ s', exec (.videoFrameEnd t input x y ident false data) s = .next s' ∧ s'.get (viIdx input + 1) 1 = 3 ∧
      s'.get (viIdx input + 3) 1 = min (s.get (viIdx input + 3) 1 + 1) (2 ^ 32 - 1) ∧
      (s'.ring input).entries.map (fun e => e.st) = (s.ring input).entries.map (fun e => if e.st = 1 then 2 else e.st) ∧
      (s'.inputRun input).lastAt = max s.now t) ∧
  (∀ t input x y ident (data : List Byte) err s, s.inReset = false → s.noLock 7 = false → s.inputOn input = true →
    (s.ring input).entries.any (fun e => e.st == 1) = true →
    (input < 8 → ident / 64 = s.get (viIdx input) 2) →
    err = true ∨ ident % 64 ≠ s.get (viIdx input) 3 ∨ x ≠ s.get (viIdx input) 4 ∨ y ≠ s.get (viIdx input) 5 → 
    ∃ s', exec (.videoFrameEnd t input x y ident err data) s = .next s' ∧
      s'.get (viIdx input + 3) 3 = min (s.get (viIdx input + 3) 3 + 1) (2 ^ 32 - 1) ∧
      s'.flag (okey 0 (viIdx input + 2) 0) (if err then 2 else if ident % 64 ≠ s.get (viIdx input) 3 then 3 else 1) = true ∧
      (s'.ring input).entries.map (fun e => e.st) = (s.ring input).entries.map (fun e => if e.st = 1 then 0 else e.st)) ∧
  (∀ t input s, s.inReset = false → s.inputOn input = true → s.get (viIdx input + 1) 1 ≠ 0 → s.get (viIdx input + 1) 1 ≠ 4 →
    (s.inputRun input).lastAt + s.get (viIdx input) 6 * 1000000 ≤ max s.now t → 
    ∃ s', exec (.videoInputTimeout t input) s = .next s' ∧ s'.get (viIdx input + 1) 1 = 4 ∧
      s'.flag (okey 0 (viIdx input + 2) 0) 0 = true ∧
      s'.get (viIdx input + 3) 5 = min (s.get (viIdx input + 3) 5 + 1) (2 ^ 32 - 1))

/-- Comparison of a region's delivered value: For an active region that has not failed for good, has no state table and
expects a golden value, the oldest delivered value is compared with the golden value folded with the expected prefix.
The verdict, the value, the expected value and the counter are recorded. A pass advances the 64-bit pass count. A
mismatch advances the mismatch counts and sets flag 0; it brings the reactions in force only at FAIL_FRAMES failures in
succession, with the onset's time and count. A region without an expected value records its value and NOT_COMPARED (4).
Before there is a delivered value nothing changes. Where the manual leaves a point open, it holds for the model's choice
in DEDUCED, log entries 53, 127. -/
def Obligations.RegionsAreCompared : Prop :=
  (∀ t region p (r : PlanRegion) (q : RegionRun) (c : RegionCap) (l : List RegionCap) s, s.inReset = false → region < 256 →
    s.plan.active = some p → s.region region = some r → s.regionRun region = some q → q.got = c :: l → q.dead = false →
    r.expect = 0 → r.table = 0xFFFF → q.pend = [] → q.failing = false → c.value < 2 ^ 64 → c.counter < 2 ^ 64 →
    (p.cvuOf r).fold (regionPrefix r c.sub c.counter) c.len r.golden = c.value → 
    ∃ s', exec (.regionCompare t region) s = .next s' ∧ s'.get (rrIdx region) 1 = 1 ∧ s'.get (rrIdx region) 2 = c.value ∧
      s'.get (rrIdx region) 3 = c.value ∧ s'.get (rrIdx region) 4 = c.counter ∧
      s'.get (rrIdx region) 8 = min (s.get (rrIdx region) 8 + 1) (2 ^ 64 - 1) ∧
      s'.regionRun region = some { q with got := l, prevEp := some r.golden, passes := q.passes + 1, fails := 0, noVerdicts := 0 } ∧
      Keeps (fun k => k / 256 = rrIdx region) s s') ∧
  (∀ t region p (r : PlanRegion) (q : RegionRun) (c : RegionCap) (l : List RegionCap) s, s.inReset = false → region < 256 →
    s.plan.active = some p → s.region region = some r → s.regionRun region = some q → q.got = c :: l → q.dead = false →
    r.expect = 0 → r.table = 0xFFFF → q.pend = [] → q.failing = false → c.older = false → c.value < 2 ^ 64 →
    c.counter < 2 ^ 64 →
    (p.cvuOf r).fold (regionPrefix r c.sub c.counter) c.len r.golden ≠ c.value →
    q.fails + 1 < s.get (rcIdx region) 0xB → 
    ∃ s', exec (.regionCompare t region) s = .next s' ∧ s'.get (rrIdx region) 1 = 2 ∧ s'.get (rrIdx region) 2 = c.value ∧
      s'.getK (okey 0 (rrIdx region) 3) =
        w64 ((p.cvuOf r).fold (regionPrefix r c.sub c.counter) c.len r.golden) ∧
      s'.get (rrIdx region) 4 = c.counter ∧ s'.get (rrIdx region) 7 = min (s.get (rrIdx region) 7 + 1) (2 ^ 32 - 1) ∧
      s'.get 0x6802 1 = min (s.get 0x6802 1 + 1) (2 ^ 32 - 1) ∧ s'.flag (okey 0 0x6801 0) 0 = true ∧
      s'.get (rrIdx region) 6 = s.get (rrIdx region) 6 ∧
      s'.regionRun region = some { q with got := l, prevEp := some r.golden, passes := 0, fails := q.fails + 1, noVerdicts := 0 }) ∧
  (∀ t region p (r : PlanRegion) (q : RegionRun) (c : RegionCap) (l : List RegionCap) s, s.inReset = false → region < 256 →
    s.plan.active = some p → s.region region = some r → s.regionRun region = some q → q.got = c :: l → q.dead = false →
    r.expect = 0 → r.table = 0xFFFF → q.pend = [] → q.failing = false → c.older = false → c.value < 2 ^ 64 →
    c.counter < 2 ^ 64 →
    (p.cvuOf r).fold (regionPrefix r c.sub c.counter) c.len r.golden ≠ c.value →
    s.get (rcIdx region) 0xB ≤ q.fails + 1 → 
    ∃ s', exec (.regionCompare t region) s = .next s' ∧ s'.get (rrIdx region) 1 = 2 ∧
      s'.get (rrIdx region) 6 = r.reactions &&& s.get (rcIdx region) 8 ∧
      s'.getK (okey 0 (rrIdx region) 0xA) = w64 (max s.now t) ∧
      s'.get 0x6802 3 = min (s.get 0x6802 3 + 1) (2 ^ 32 - 1) ∧
      (s'.regionRun region).map (fun x => (x.failing, x.fails, x.got)) = some (true, q.fails + 1, l)) ∧
  (∀ t region p (r : PlanRegion) (q : RegionRun) (c : RegionCap) (l : List RegionCap) s, s.inReset = false → region < 256 →
    s.plan.active = some p → s.region region = some r → s.regionRun region = some q → q.got = c :: l → q.dead = false →
    r.expect = 3 → c.value < 2 ^ 64 → c.counter < 2 ^ 64 → 
    ∃ s', exec (.regionCompare t region) s = .next s' ∧ s'.get (rrIdx region) 1 = 4 ∧ s'.get (rrIdx region) 2 = c.value ∧
      s'.get (rrIdx region) 4 = c.counter ∧ s'.regionRun region = some { q with got := l } ∧
      Keeps (fun k => k / 256 = rrIdx region) s s') ∧
  (∀ t region (q : RegionRun) s, s.inReset = false → s.regionRun region = some q → q.got = [] → 
    exec (.regionCompare t region) s = .next (s.ran t fun s => s))

/-- The Sentinel, releases and requested states: The recomposed region of a Sentinel unit is kept with the number of its
composition frame and its time, once per frame, while the Sentinel is usable. A wire-point Sentinel region's oldest
value that passes its deadline without an expected value has no verdict: RESULT 3, its value and counter, the late and
no-verdict counts and flags 1 and 3. An accepted release of a latched, passing region lifts its reactions. An accepted
requested state is answered KEY_SERVICE_UNAVAILABLE, with flag 5, while Markhor is down; else it waits for the next
epoch at least 1 ms away, or for the one after it, with REQUEST_STATUS 1; Markhor's answer makes it ready for its epoch,
and lets integrity commits that wait for it pass. Where the manual leaves a point open, it holds for the model's choice
in DEDUCED, log entries 53, 54, 99. -/
def Obligations.SentinelServesRegions : Prop :=
  (∀ t region p (r : PlanRegion) (h : PlanHead) (q : RegionRun) s, s.inReset = false → s.noLock 4 = false →
    s.plan.active = some p → s.region region = some r → s.regionRun region = some q → p.headOf r.head = some h →
    r.expect = 1 → s.sentinelUp = true → p.sentinelUnit r = true → 
    ∃ s', exec (.sentinelValueReady t region) s = .next s' ∧
      (∃ words : List Nat, words.length = r.w * r.h ∧
        s'.regionRun region = some { q with sent :=
          ((s.epoch, max s.now t, words) :: q.sent.filter (fun z => z.1 != s.epoch && q.needs r s.epoch z.1)) }) ∧
      Keeps (fun _ => False) s s') ∧
  (∀ t region p (r : PlanRegion) (q : RegionRun) (c : RegionCap) (l : List RegionCap) s, s.inReset = false → region < 256 →
    s.plan.active = some p → s.region region = some r → s.regionRun region = some q → q.got = c :: l → q.dead = false →
    r.expect = 1 → r.point = 1 → r.table = 0xFFFF → q.sentFor r c = none → c.at_ + 200000 ≤ max s.now t → c.value < 2 ^ 64 → c.counter < 2 ^ 64 →
    q.noVerdicts + 1 < s.get (rcIdx region) 0xD → 
    ∃ s', exec (.sentinelLate t region) s = .next s' ∧ s'.get (rrIdx region) 1 = 3 ∧ s'.get (rrIdx region) 2 = c.value ∧
      s'.get (rrIdx region) 4 = c.counter ∧ s'.get (rrIdx region) 9 = min (s.get (rrIdx region) 9 + 1) (2 ^ 32 - 1) ∧
      s'.get 0x6802 2 = min (s.get 0x6802 2 + 1) (2 ^ 32 - 1) ∧ s'.get 0x6802 5 = min (s.get 0x6802 5 + 1) (2 ^ 32 - 1) ∧
      s'.flag (okey 0 0x6801 0) 1 = true ∧ s'.flag (okey 0 0x6801 0) 3 = true ∧
      s'.regionRun region = some { q with got := l, noVerdicts := q.noVerdicts + 1, passes := 0 }) ∧
  (∀ t ini v w (r : PlanRegion) (q : RegionRun) s, s.inReset = false → s.takes ⟨ini, 0, 0x6800, 1, v⟩ w →
    s.region w.toNat = some r → w.toNat < 256 → s.get (rrIdx w.toNat) 1 = 1 → s.regionRun w.toNat = some q → q.failing = true →
    q.dead = false → s.get (rcIdx w.toNat) 0xC = 0 → 
    ∃ s', exec (.releaseRegion t ini v) s = .next s' ∧ s'.get (rrIdx w.toNat) 6 = 0 ∧
      (s'.regionRun w.toNat).map (fun x => x.failing) = some false) ∧
  (∀ t ini region v w s, s.inReset = false → region < 256 → s.takes ⟨ini, 0, rqIdx region, 1, v⟩ w →
    s.requestRefusal ini region = none → s.markhorUp = true → 
    ∃ s', exec (.requestedState t ini region v) s = .next s' ∧ s'.get (rqIdx region) 2 = 1 ∧
      s'.integ.reqs = s.integ.reqs ++ [⟨region, w.toNat,
        (s.epoch + (if max s.now t + 1000000 ≤ s.time.nextEpoch then 1 else 2)) % 2 ^ 32, false⟩]) ∧
  (∀ t ini region v w s, s.inReset = false → region < 256 → s.takes ⟨ini, 0, rqIdx region, 1, v⟩ w →
    s.requestRefusal ini region = none → s.markhorUp = false → 
    ∃ s', exec (.requestedState t ini region v) s = .next s' ∧ s'.get (rqIdx region) 2 = codeKeyServiceUnavailable ∧
      s'.flag (okey 0 0x6801 0) 5 = true ∧ s'.integ = s.integ) ∧
  (∀ t s, s.inReset = false → s.noLock 0 = false → s.markhorUp = true → s.inSlot 2 256 = true → 
    ∃ s', exec (.integrityRequestDone t none) s = .next s' ∧ s'.dict.sets.all (fun x => x.group != 57 || !x.markhor) = true ∧
      Keeps (fun _ => False) s s') ∧
  (∀ t region p (r : PlanRegion) s, s.inReset = false → s.noLock 0 = false → s.markhorUp = true → s.inSlot 2 region = true → s.plan.active = some p →
    s.region region = some r → s.integ.reqs.all (fun x => x.region != region || decide (x.state < p.stateCount r)) = true → 
    ∃ s', exec (.integrityRequestDone t (some region)) s = .next s' ∧
      s'.integ.reqs = s.integ.reqs.map (fun x => if x.region = region then { x with done := true } else x) ∧
      Keeps (fun _ => False) s s')

/-- Rings, doorbells, completion rings, promotion and abort: An accepted ENABLE going from 0 to 1 takes the ring fields
as they stand. An accepted doorbell value in range makes PRODUCER that value; one out of range leaves it, with flag 0 of
the partition's queue events. An accepted CQ_HEAD takes its value. The oldest waiting record is written at CQ_TAIL once
there is room. A queue that has been ready for longer than PROMOTE_MS is promoted, with its count and flag 2. An
accepted ABORT of an enabled queue ends the command at its head and those of its ring with ABORTED, and disables the
queue, with flag 5. Where the manual leaves a point open, it holds for the model's choice in DEDUCED, log entry 59. -/
def Obligations.QueuesRun : Prop :=
  (∀ t ini part queue v w s, s.inReset = false → part < 16 → queue < 8 → s.takes ⟨ini, 0, qIdx part queue, 1, v⟩ w →
    s.get (qIdx part queue) 1 = 0 → w.toNat = 1 → 
    ∃ s', exec (.queueEnable t ini part queue v) s = .next s' ∧ s'.get (qIdx part queue) 1 = 1 ∧
      (s'.queueSt part queue).base = s.get (qIdx part queue) 2 ∧ (s'.queueSt part queue).log2 = s.get (qIdx part queue) 3 ∧
      (s'.queueSt part queue).cqBase = s.get (qIdx part queue) 4) ∧
  (∀ t ini part queue v w s, s.inReset = false → part < 16 → queue < 8 → s.takes ⟨ini, 0, qIdx part queue, 6, v⟩ w →
    s.doorbellRefusal part queue w.toNat = none → 
    ∃ s', exec (.queueDoorbell t ini part queue v) s = .next s' ∧ s'.producer part queue = w.toNat ∧
      s'.consumer part queue = s.consumer part queue) ∧
  (∀ t ini part queue v w s, s.inReset = false → part < 16 → queue < 8 → s.takes ⟨ini, 0, qIdx part queue, 6, v⟩ w →
    s.doorbellRefusal part queue w.toNat = some codeRingOverflow → 
    ∃ s', exec (.queueDoorbell t ini part queue v) s = .next s' ∧ s'.producer part queue = s.producer part queue ∧
      s'.flag (okey part 0x7701 0) 0 = true) ∧
  (∀ t ini part queue v w s, s.inReset = false → part < 16 → queue < 8 → s.takes ⟨ini, 0, qIdx part queue, 7, v⟩ w → 
    ∃ s', exec (.cqHeadWrite t ini part queue v) s = .next s' ∧ s'.cqHead part queue = w.toNat) ∧
  (∀ t part queue (r : CqRec) (l : List CqRec) s, s.inReset = false → (s.queueSt part queue).waiting = r :: l →
    s.cqFull part queue = false → 
    ∃ s', exec (.cqRecordWrite t part queue) s = .next s' ∧ (s'.queueSt part queue).waiting = l ∧
      s'.cqTail part queue = (s.cqTail part queue + 1) % 2 ^ 32 ∧
      s'.out = (if r.irq then [.msi part (s.get (qIdx part queue) 5)] else []) ++ .hostWrite part ((s.queueSt part queue).cqBase +
        s.cqTail part queue % 2 ^ (s.queueSt part queue).log2 * 32) r.bytes :: s.out) ∧
  (∀ t part queue (a : Nat) s, s.inReset = false → (s.queueSt part queue).ready = some a →
    a + s.get 0x7700 2 * 1000000 < max s.now t → (s.queueSt part queue).promoted = false →
    (s.queueSt part queue).engine = none → s.queueReady part queue = true → 
    ∃ s', exec (.queuePromotion t part queue) s = .next s' ∧ (s'.queueSt part queue).promoted = true ∧
      s'.flag (okey part 0x7701 0) 2 = true ∧ s'.get (qState part queue) 1 = 5 ∧
      s'.get (qState part queue) 7 = min (s.get (qState part queue) 7 + 1) (2 ^ 32 - 1)) ∧
  (∀ t ini part queue v w (n : Nat) ring s, s.inReset = false → part < 16 → queue < 8 →
    s.takes ⟨ini, 0, qIdx part queue, 0xA, v⟩ w → s.get (qIdx part queue) 1 = 1 → 
    ∃ s', exec (.queueAbort t ini part queue v n ring) s = .next s' ∧ s'.get (qIdx part queue) 1 = 0 ∧
      s'.get (qState part queue) 1 = 0 ∧ s'.flag (okey part 0x7701 0) 5 = true) ∧
  (∀ t ini part queue v w (n : Nat) (x : QHdr) s, s.inReset = false → part < 16 → queue < 8 →
    s.takes ⟨ini, 0, qIdx part queue, 0xA, v⟩ w → s.get (qIdx part queue) 1 = 1 → (s.queueSt part queue).head = none →
    (s.queueSt part queue).waiting = [] → s.cqFull part queue = false →
    s.producer part queue = (s.consumer part queue + 1) % 2 ^ 32 → s.endedWait part = none → bit x.flags 0 = false → 
    ∃ s', exec (.queueAbort t ini part queue v n [x]) s = .next s' ∧ s'.consumer part queue = s.producer part queue ∧
      .hostWrite part ((s.queueSt part queue).cqBase + s.cqTail part queue % 2 ^ (s.queueSt part queue).log2 * 32)
        (CqRec.bytes ⟨x.tag, codeAborted, 0, 0, max s.now t, bit x.flags 1⟩) ∈ s'.out)

/-- Commands that the planner executes complete: A FENCE_SIGNAL, ALLOCATE, FREE, SHARE or reserved command taken at the
head of its queue has its effect, CONSUMER passes it, its fence is signalled if SIGNAL is set, and its record goes to
CQ_TAIL with its interrupt; a signal raises the fence to its value, or counts a regression. A command that breaks a rule
of its common fields, and a reserved one, completes with BAD_COMMAND and flag 1. Where the manual leaves a point open,
it holds for the model's choice in DEDUCED, log entry 59. -/
def Obligations.PlannerCommandsComplete : Prop :=
  (∀ t h s, s.inReset = false → s.canTake h.part h.queue = true → badHdr h 3 false = false →
    (List.range 8).all (fun q => (s.queueSt h.part q).head.isNone) = true → 
    ∃ s', exec (.fenceSignal t h) s = .next s' ∧ s'.consumer h.part h.queue = (s.consumer h.part h.queue + 1) % 2 ^ 32 ∧
      s'.cqTail h.part h.queue = (s.cqTail h.part h.queue + 1) % 2 ^ 32 ∧
      s'.out = (if bit h.flags 1 then [.msi h.part (s.get (qIdx h.part h.queue) 5)] else []) ++
        .hostWrite h.part ((s.queueSt h.part h.queue).cqBase + s.cqTail h.part h.queue %
          2 ^ (s.queueSt h.part h.queue).log2 * 32) (CqRec.bytes ⟨h.tag, 0, 0, 0, max s.now t, bit h.flags 1⟩) :: s.out ∧
      (bit h.flags 0 = true → s'.fenceVal h.part h.fence = max (s.fenceVal h.part h.fence) (h.value % 2 ^ 64) ∧
        s'.get (0x7610 + h.part) (h.fence + 1) = 0)) ∧
  (∀ (p k v status : Nat) (s : State), p < 16 → k < 255 → v < 2 ^ 64 → status < 2 ^ 64 → 
    (s.fenceVal p k < v → (s.signal p k v status).fenceVal p k = v ∧
      Keeps (fun j => j = okey 0 (0x7600 + p) (k + 1) ∨ j = okey 0 (0x7610 + p) (k + 1)) s (s.signal p k v status)) ∧
    (v ≤ s.fenceVal p k → (s.signal p k v status).fenceVal p k = s.fenceVal p k ∧
      (s.signal p k v status).getB p 0x7702 3 = min (s.getB p 0x7702 3 + 1) (2 ^ 32 - 1)) ∧
    (s.signal p k v status).get (0x7610 + p) (k + 1) = status) ∧
  (∀ t h (w0 h0 format layout cls : Nat) s, s.inReset = false → s.canTake h.part h.queue = true → badHdr h 3 false = false → 
    exec (.allocate t h w0 h0 format layout cls) s = .next (s.ran t fun s =>
      let a := s.allocate s.nodeReach h.part w0 h0 format layout cls;
      (a.1.advanceConsumer h.part h.queue).complete h a.2.status a.2.r0 a.2.r1)) ∧
  (∀ t h (handle : Nat) s, s.inReset = false → s.canTake h.part h.queue = true → badHdr h 3 false = false →
    s.handle h.part handle = none → 
    exec (.free t h handle) s = .next (s.ran t fun s =>
      (s.advanceConsumer h.part h.queue).complete h codeStaleHandle 0 0)) ∧
  (∀ t h (handle : Nat) (x : Handle) s, s.inReset = false → s.canTake h.part h.queue = true → badHdr h 3 false = false →
    s.handle h.part handle = some x → 
    exec (.free t h handle) s = .next (s.ran t fun s =>
      let a := s.freeHandle x;
      ((if x.rights = 0 then a.dropSurface x.surf else a).advanceConsumer h.part h.queue).complete h 0 0 0)) ∧
  (∀ t h (handle grantee rights : Nat) s, s.inReset = false → s.canTake h.part h.queue = true → badHdr h 3 false = false →
    (s.share h.part handle grantee rights).2.status ≠ 0 → 
    exec (.share t h handle grantee rights) s = .next (s.ran t fun s =>
      let a := s.share h.part handle grantee rights;
      (a.1.advanceConsumer h.part h.queue).complete h a.2.status a.2.r0 a.2.r1)) ∧
  (∀ t h (handle grantee rights : Nat) s, s.inReset = false → s.canTake h.part h.queue = true → badHdr h 3 false = false →
    (s.share h.part handle grantee rights).2.status = 0 → 
    exec (.share t h handle grantee rights) s = .next (s.ran t fun s =>
      let a := s.share h.part handle grantee rights;
      ((a.1.shareGranted h.part grantee a.2.r0).advanceConsumer h.part h.queue).complete h 0 a.2.r0 a.2.r1)) ∧
  (∀ t h s, s.inReset = false → s.canTake h.part h.queue = true →
    (List.range 8).all (fun q => (s.queueSt h.part q).head.isNone) = true → 
    ∃ s', exec (.reservedCommand t h) s = .next s' ∧ s'.flag (okey h.part 0x7701 0) 1 = true ∧
      s'.consumer h.part h.queue = (s.consumer h.part h.queue + 1) % 2 ^ 32 ∧
      .hostWrite h.part ((s.queueSt h.part h.queue).cqBase + s.cqTail h.part h.queue %
          2 ^ (s.queueSt h.part h.queue).log2 * 32) (CqRec.bytes ⟨h.tag, codeBadCommand, 0, 0, max s.now t, bit h.flags 1⟩) ∈ s'.out)

/-- Fence waits and presents: A FENCE_WAIT whose fence has its value completes at once; any other stays at the head of
its queue, in STATE 4, until a signal or its time-out, which completes it with FENCE_TIMEOUT and flag 4. An accepted
write of FenceValues signals the fence. A PRESENT waits at the head of its queue while render work on its surface is not
complete; then one that passes its checks is held for its layer, and CONSUMER passes it; one that fails completes with
its code, which for FORMAT_MISMATCH sets flag 4 of the composition status. Where the manual leaves a point open, it
holds for the model's choice in DEDUCED, log entries 59, 60. -/
def Obligations.WaitsAndPresents : Prop :=
  (∀ t h (value timeout : Nat) s, s.inReset = false → s.canTake h.part h.queue = true → badHdr h 3 true = false → h.arg < 255 →
    s.fenceVal h.part h.arg < value → s.endedWait h.part = none → 
    ∃ s', exec (.fenceWait t h value timeout) s = .next s' ∧ s'.get (qState h.part h.queue) 1 = 4 ∧
      (s'.queueSt h.part h.queue).head = some ⟨h, .wait h.arg value (if timeout = 0 then 0 else max s.now t + timeout * 1000),
        0, false, 0, 0, 0, 0, false, none⟩ ∧ s'.consumer h.part h.queue = s.consumer h.part h.queue ∧ s'.out = s.out) ∧
  (∀ t h (value timeout : Nat) s, s.inReset = false → s.canTake h.part h.queue = true → badHdr h 3 true = false → h.arg < 255 →
    value ≤ s.fenceVal h.part h.arg → bit h.flags 0 = false →
    (List.range 8).all (fun q => (s.queueSt h.part q).head.isNone) = true → 
    ∃ s', exec (.fenceWait t h value timeout) s = .next s' ∧ (s'.queueSt h.part h.queue).head = none ∧
      s'.consumer h.part h.queue = (s.consumer h.part h.queue + 1) % 2 ^ 32 ∧
      .hostWrite h.part ((s.queueSt h.part h.queue).cqBase + s.cqTail h.part h.queue %
          2 ^ (s.queueSt h.part h.queue).log2 * 32)
        (CqRec.bytes ⟨h.tag, 0, s.fenceVal h.part h.arg, 0, max s.now t, bit h.flags 1⟩) ∈ s'.out) ∧
  (∀ t part queue (c : HeadCmd) (k v d : Nat) s, s.inReset = false → (s.queueSt part queue).head = some c →
    c.op = .wait k v d → d ≠ 0 → d ≤ max s.now t → c.hdr.part = part → c.hdr.queue = queue → bit c.hdr.flags 0 = false →
    s.cqFull part queue = false → (s.queueSt part queue).waiting = [] → s.endedWait part = none → 
    ∃ s', exec (.fenceTimeout t part queue) s = .next s' ∧ (s'.queueSt part queue).head = none ∧
      s'.flag (okey part 0x7701 0) 4 = true ∧ s'.fenceVal part k = s.fenceVal part k ∧
      .hostWrite part ((s.queueSt part queue).cqBase + s.cqTail part queue % 2 ^ (s.queueSt part queue).log2 * 32)
        (CqRec.bytes ⟨c.hdr.tag, codeFenceTimeout, s.fenceVal part k, 0, max s.now t, bit c.hdr.flags 1⟩) ∈ s'.out) ∧
  (∀ t ini part fence v w s, s.inReset = false → part < 16 → fence < 255 → s.takes ⟨ini, 0, 0x7600 + part, fence + 1, v⟩ w →
    (List.range 8).all (fun q => (s.queueSt part q).head.isNone) = true → 
    ∃ s', exec (.fenceValuesWrite t ini part fence v) s = .next s' ∧
      s'.fenceVal part fence = max (s.fenceVal part fence) w.toNat ∧
      s'.get (0x7610 + part) (fence + 1) = s.get (0x7610 + part) (fence + 1)) ∧
  (∀ t h (handle slot region at0 expected : Nat) rects s, s.inReset = false → s.canTake h.part h.queue = true →
    s.renderPending h.part handle = false → badHdr h 15 true = false → h.arg ≤ 2 → rects.length = h.arg →
    rects.all (fun r => decide (1 ≤ r.w ∧ r.w ≤ 16384 ∧ 1 ≤ r.h ∧ r.h ≤ 16384)) = true →
    (s.advance t).presentCode h handle slot region at0 = 0 → 
    ∃ s', exec (.present t h handle slot region at0 expected rects) s = .next s' ∧
      s'.consumer h.part h.queue = (s.consumer h.part h.queue + 1) % 2 ^ 32 ∧ s'.out = s.out ∧
      s'.queue.presents.map (fun x => x.hdr) = s.queue.presents.map (fun x => x.hdr) ++ [h] ∧
      s'.queue.presents.map (fun x => (x.slot, x.handle)) = s.queue.presents.map (fun x => (x.slot, x.handle)) ++ [(slot, handle)] ∧
      s'.queue.presents.map (fun x => (x.rects, x.accepted)) =
        s.queue.presents.map (fun x => (x.rects, x.accepted)) ++ [(rects, max s.now t)]) ∧
  (∀ t h (handle slot region at0 expected : Nat) rects s, s.inReset = false → s.renderPending h.part handle = true → 
    exec (.present t h handle slot region at0 expected rects) s = .next (s.ran t fun s => s)) ∧
  (∀ t h (handle slot region at0 expected : Nat) rects s, s.inReset = false → s.canTake h.part h.queue = true →
    s.renderPending h.part handle = false → badHdr h 15 true = false → h.arg ≤ 2 → rects.length = h.arg →
    rects.all (fun r => decide (1 ≤ r.w ∧ r.w ≤ 16384 ∧ 1 ≤ r.h ∧ r.h ≤ 16384)) = true →
    (s.advance t).presentCode h handle slot region at0 ≠ 0 → 
    exec (.present t h handle slot region at0 expected rects) s = .next (s.ran t fun s =>
      let a := s.advanceConsumer h.part h.queue;
      (if s.presentCode h handle slot region at0 = codeFormatMismatch then a.setFlag (okey 0 0x4041 0) 4 else a).complete h
        (s.presentCode h handle slot region at0) 0 0))

/-- Copy and render commands are taken, dispatched, worked on and completed: A COPY, FILL, CONVERT or CHECK_VALUE, or a
render submission, whose fields are in range is taken to the head of its queue. The dispatcher starts the command of the
queue that it chooses on the free engine. On a render engine without a usable cluster a submission completes with
RENDER_UNAVAILABLE. A copy-engine command at its end, or at a code that ends it, completes with its results, and a
render job at its end with the driver's; where memory has not taken all their work they go on. A preempted one stays at
the head with its progress. A CHECK_VALUE without a free command unit is counted and waits. A render job that has run
longer than its limit completes with RENDER_TIMEOUT, loses its partition's device, and sets flag 0. A translation that
fails sets flag 2 of RenderEvents and answers its code; one that succeeds is counted and its pipeline cached. Where the
manual leaves a point open, it holds for the model's choice in DEDUCED, log entries 61, 62, 100, 101, 102. -/
def Obligations.EngineCommandsRun : Prop :=
  (∀ t h (src dst srcX srcY dstX dstY w0 h0 : Nat) s, s.inReset = false → s.canTake h.part h.queue = true →
    badHdr h 3 false = false → sidesOk w0 h0 = true → 
    ∃ s' s'', exec (.copy t h src dst srcX srcY dstX dstY w0 h0) s = .next s' ∧
      exec (.convert t h src dst srcX srcY dstX dstY w0 h0) s = .next s'' ∧
      (s'.queueSt h.part h.queue).head =
        some ⟨h, .copy src dst srcX srcY dstX dstY w0 h0, 0, false, 0, 0, 0, 0, false, none⟩ ∧
      (s''.queueSt h.part h.queue).head =
        some ⟨h, .convert src dst srcX srcY dstX dstY w0 h0, 0, false, 0, 0, 0, 0, false, none⟩ ∧
      Keeps (fun k => k = okey 0 (qState h.part h.queue) 1) s s' ∧ Keeps (fun k => k = okey 0 (qState h.part h.queue) 1) s s'') ∧
  (∀ t h (dst dstX dstY w0 h0 value : Nat) s, s.inReset = false → s.canTake h.part h.queue = true →
    badHdr h 3 false = false → sidesOk w0 h0 = true → 
    ∃ s', exec (.fill t h dst dstX dstY w0 h0 value) s = .next s' ∧
      (s'.queueSt h.part h.queue).head = some ⟨h, .fill dst dstX dstY w0 h0 value, 0, false, 0, 0, 0, 0, false, none⟩ ∧
      Keeps (fun k => k = okey 0 (qState h.part h.queue) 1) s s') ∧
  (∀ t h (handle x y w0 h0 : Nat) s, s.inReset = false → s.canTake h.part h.queue = true →
    badHdr h 3 true = false → sidesOk w0 h0 = true → h.arg < 64 → s.unitsHeld < 16 → 
    ∃ s', exec (.checkValue t h handle x y w0 h0) s = .next s' ∧
      (s'.queueSt h.part h.queue).head = some ⟨h, .check handle x y w0 h0, 0, false, 0, 0, 0, 0, false, none⟩ ∧
      Keeps (fun k => k = okey 0 (qState h.part h.queue) 1) s s') ∧
  (∀ t h (handle x y w0 h0 : Nat) s, s.inReset = false → s.canTake h.part h.queue = true → h.part < 16 →
    badHdr h 3 true = false → sidesOk w0 h0 = true → h.arg < 64 → 16 ≤ s.unitsHeld → 
    ∃ s', exec (.checkValue t h handle x y w0 h0) s = .next s' ∧
      (s'.queueSt h.part h.queue).head = some ⟨h, .check handle x y w0 h0, 0, false, 0, 0, 0, 0, false, none⟩ ∧
      s'.getB h.part 0x7702 2 = min (s.getB h.part 0x7702 2 + 1) (2 ^ 32 - 1)) ∧
  (∀ t h job s, s.inReset = false → s.canTake h.part h.queue = true → badHdr h 3 false = false → 
    ∃ s', exec (.renderSubmit t h job true) s = .next s' ∧ s'.get (0x7020 + h.part) 5 = 0 ∧
      (s'.queueSt h.part h.queue).head = some ⟨h, .render job, 0, false, 0, 0, 0, 0, false, none⟩ ∧
      Keeps (fun k => k = okey 0 (qState h.part h.queue) 1 ∨ k = okey 0 (0x7020 + h.part) 5) s s') ∧
  (∀ t engine (x : QueueSt) s, s.inReset = false → engine < 3 → s.onEngine engine = none →
    (engine = 2 → s.noLock 5 = false) → ((s.advance t).choose (engineKind engine)).2 = some x →
    ((s.advance t).choose (engineKind engine)).1.engineUp engine = true → 
    exec (.dispatch t engine) s = .next (s.ran t fun s => (s.choose (engineKind engine)).1.startOn x engine)) ∧
  (∀ t (x : QueueSt) (c : HeadCmd) s, s.inReset = false → s.onEngine 2 = none → s.noLock 5 = false →
    ((s.advance t).choose (engineKind 2)).2 = some x → ((s.advance t).choose (engineKind 2)).1.engineUp 2 = false →
    x.head = some c → 
    exec (.dispatch t 2) s = .next (s.ran t fun s =>
      (s.choose (engineKind 2)).1.finishHead x.part x.queue c codeRenderUnavailable 0 0)) ∧
  (∀ t engine (x : QueueSt) (c : HeadCmd) s, s.inReset = false → s.noLock 2 = false → engine < 2 → s.onEngine engine = some x →
    x.head = some c → s.opStalled x.part c.op = false → 
    (∀ code, ((s.advance t).workTo x c (2 ^ 20)).2.2 = some code → exec (.copyEngineDone t engine) s = .next (s.ran t fun s =>
      (s.workTo x c (2 ^ 20)).1.endCopy x (s.workTo x c (2 ^ 20)).2.1 code)) ∧
    (((s.advance t).workTo x c (2 ^ 20)).2.2 = none → exec (.copyEngineDone t engine) s = .next (s.ran t fun s =>
      (s.workTo x c (2 ^ 20)).1.putQueue { x with head := some (s.workTo x c (2 ^ 20)).2.1 }))) ∧
  (∀ engine (x : QueueSt) (c : HeadCmd) (code : Nat) (s : State), x.engine = some engine → engine < 2 → code ≠ codeStaleHandle → 
    s.endCopy x c code = (s.leaveEngine x).finishHead x.part x.queue c code (copyResult c).1 (copyResult c).2) ∧
  (∀ t engine tiles (x : QueueSt) (c : HeadCmd) s, s.inReset = false → engine < 2 → s.onEngine engine = some x →
    x.head = some c → ((s.advance t).refillAll 0).opStalled x.part c.op = false →
    ((s.advance t).refillAll 0).mustPreempt x 0 = true → 
    ((((s.advance t).refillAll 0).workTo x c tiles).2.2 = none → exec (.commandPreempt t engine tiles) s = .next (s.ran t fun s =>
      let a := (s.refillAll 0).workTo x c tiles;
      (a.1.interruptHead x a.2.1).bump (qState x.part x.queue) 8)) ∧
    (∀ code, (((s.advance t).refillAll 0).workTo x c tiles).2.2 = some code →
      exec (.commandPreempt t engine tiles) s = .next (s.ran t fun s =>
        let a := (s.refillAll 0).workTo x c tiles;
        a.1.endCopy x a.2.1 code))) ∧
  (∀ t (r0 r1 : Nat) (x : QueueSt) (c : HeadCmd) job s, s.inReset = false → s.noLock 5 = false → s.rendering = some (x, c, job) → 
    exec (.renderComplete t r0 r1) s = .next (s.ran t fun s =>
      let a := s.renderTo x.part c job job.length;
      if job.length ≤ a.2.next then a.1.endRender x a.2 0 r0 r1 else a.1.putQueue { x with head := some a.2 })) ∧
  (∀ t n (x : QueueSt) (c : HeadCmd) job s, s.inReset = false → s.rendering = some (x, c, job) →
    ((s.advance t).refillAll 1).mustPreempt x 1 = true → 
    exec (.renderPreempt t n) s = .next (s.ran t fun s =>
      let a := (s.refillAll 1).renderTo x.part c job n;
      (a.1.interruptHead x a.2).bump (qState x.part x.queue) 8)) ∧
  (∀ t n (x : QueueSt) (c : HeadCmd) job s, s.inReset = false → s.rendering = some (x, c, job) → (s.advance t).overLimit x = true → 
    exec (.renderTimeout t n) s = .next (s.ran t fun s =>
      let a := s.renderTo x.part c job n;
      let u := ((a.1.put (0x7020 + x.part) 5 1).bump 0x7002 1).raise 0x7001 0 0 sevError x.part [byteOf x.part];
      u.endRender x a.2 codeRenderTimeout 0 0)) ∧
  (∀ t part size kib valid supported (sc : Bool) (code : Nat) s, s.inReset = false → code ≠ 0 →
    s.translation (part % s.cfg.parts) size kib valid supported sc = code → 
    ∃ s', exec (.spirvTranslationDone t part size kib valid supported sc) s = .next s' ∧ s'.flag (okey 0 0x7001 0) 2 = true ∧
      s'.out = .code (part % s.cfg.parts) code :: s.out ∧ s'.render = s.render) ∧
  (∀ t part size kib valid supported (sc : Bool) s, s.inReset = false →
    s.translation (part % s.cfg.parts) size kib valid supported sc = 0 → 
    exec (.spirvTranslationDone t part size kib valid supported sc) s = .next (s.ran t fun s =>
      let a := (s.bump 0x7002 6).cachePipeline (part % s.cfg.parts) s.render.nextPipe kib;
      ({ a with render := { a.render with nextPipe := s.render.nextPipe + 1 } } : State).emit (.code (part % s.cfg.parts) 0)))

/-- Markhor boots, trips, restarts and is restarted: The first verified firmware starts Markhor and notes its versions.
A watchdog trip or a lockstep mismatch of a running Markhor puts PD1 into reset with flag 0 and releases it after 10 ms
where AUTO_RELEASE is 1; the fourth trip within 600 s leaves it failed. An accepted RESTART of a Markhor that has booted
restarts it; the restart's end makes it run, with its count and flag 1. The firmware level rises ten minutes after the
full plan runs. Where the manual leaves a point open, it holds for the model's choice in DEDUCED, log entry 44. -/
def Obligations.MarkhorTripsAndRestarts : Prop :=
  (∀ t (tries : List FwTry) (at0 : Nat) (owner : Bool) (regions : List (List Nat)) (m : FwTry) s, s.inReset = false →
    s.sys.booted = false → (s.advance t).bootFrom tries 1 = some m → 
    ∃ s', exec (.markhorBootDone t tries at0 owner regions) s = .next s' ∧ s'.sys.booted = true ∧ s'.get 0x2000 1 = 1 ∧
      s'.get 0x1019 2 = numAt m.image 12 4 ∧ s'.get 0x1019 4 = numAt m.image 10 1 ∧
      s'.sys.plannerFw = ((s.advance t).bootFrom tries 2).isSome ∧ s'.sec.fwVersion = numAt m.image 10 1) ∧
  (∀ t s, s.inReset = false → s.markhorUp = true →
    (s.sec.trips.filter (fun x => decide (max s.now t < x + 600000000000))).length < 3 → 
    ∃ s' s'', exec (.markhorWatchdogTrip t) s = .next s' ∧ exec (.lockstepMismatch t) s = .next s'' ∧
      s'.get 0x2000 1 = 0 ∧ s'.get 0x9001 1 = 5 ∧ s'.flag (okey 0 0x2001 0) 0 = true ∧
      s'.sec.releaseAt = (if s.get 0x2002 1 = 1 then some (max s.now t + 10000000) else none) ∧ s''.get 0x2000 1 = 0 ∧
      s''.flag (okey 0 0x2001 0) 0 = true) ∧
  (∀ t s, s.inReset = false → s.markhorUp = true →
    3 ≤ (s.sec.trips.filter (fun x => decide (max s.now t < x + 600000000000))).length → 
    ∃ s', exec (.markhorWatchdogTrip t) s = .next s' ∧ s'.get 0x2000 1 = 3 ∧ s'.sec.releaseAt = none ∧
      s'.flag (okey 0 0x2001 0) 0 = true) ∧
  (∀ t (d : Nat) s, s.inReset = false → s.get 0x2000 1 = 0 → s.sec.releaseAt = some d → d ≤ max s.now t → 
    ∃ s', exec (.markhorAutoRelease t) s = .next s' ∧ s'.get 0x2000 1 = 2 ∧ s'.get 0x9001 1 = 2 ∧ s'.sec.releaseAt = none ∧
      Keeps (fun k => k = okey 0 0x2000 1 ∨ k = okey 0 0x9001 1) s s') ∧
  (∀ t ini v w s, s.inReset = false → s.takes ⟨ini, 0, 0x2002, 2, v⟩ w → s.get 0x2000 1 ≠ 3 → s.sys.booted = true → 
    ∃ s', exec (.markhorRestart t ini v) s = .next s' ∧ s'.get 0x2000 1 = 2 ∧ s'.get 0x9001 1 = 2) ∧
  (∀ t s, s.inReset = false → s.get 0x2000 1 = 2 → 
    ∃ s', exec (.markhorRestartDone t) s = .next s' ∧ s'.get 0x2000 1 = 1 ∧ s'.flag (okey 0 0x2001 0) 1 = true ∧
      s'.get 0x2000 6 = min (s.get 0x2000 6 + 1) (2 ^ 32 - 1)) ∧
  (∀ t (d : Nat) s, s.inReset = false → s.edgeUp = true → s.markhorUp = true → s.sec.fullSince = some d → d + 600000000000 ≤ max s.now t →
    s.fwLevel < s.sec.fwVersion → 
    exec (.fwLevelRaise t) s = .next (s.ran t fun s => s.blow 128 (2 ^ min s.sec.fwVersion 64 - 1)))

/-- Fuses, key bundles, firmware images and Foxglove tokens: An accepted fuse request waits for the FUSE service; its
end programs its bits, which then stay 1. A key bundle waits for the KEY service; an invalid one is recorded with its
code, its count and flag 5. A firmware image that verifies is stored in the spare copy. CHALLENGE with READY and a free
service slot gives a nonce for 60 s, and without READY it waits. A token waits for the FOXGLOVE service and is checked;
an accepted one gives its purpose for its duration, with flag 4 of SecurityEvents. The authorisation ends at its time,
or by an accepted REVOKE. Where the manual leaves a point open, it holds for the model's choice in DESIGN CHOICE, log entries 30, 58,
82, 88, 91. -/
def Obligations.KeysAndFusesServe : Prop :=
  (∀ t ini (f : FuseField) (value : Nat) (signed : Bool) s, s.inReset = false →
    s.writeRefusal ⟨ini, 0, 0x2081, 0, 0⟩ true = none → s.fuseRefusal f signed = none → 
    ∃ s', exec (.fuseProgram t ini f value signed) s = .next s' ∧
      s'.sec.fuseReqs = s.sec.fuseReqs ++ [⟨ini, (fuseSpan f).1, (fuseSpan f).2, value % 2 ^ (fuseSpan f).2, max s.now t⟩] ∧
      Keeps (fun _ => False) s s') ∧
  (∀ t ini (f : FuseField) (value code : Nat) (signed : Bool) s, s.inReset = false →
    s.writeRefusal ⟨ini, 0, 0x2081, 0, 0⟩ true = none → s.fuseRefusal f signed = some code → 
    ∃ s', exec (.fuseProgram t ini f value signed) s = .next s' ∧ s'.sec.fuseReqs = s.sec.fuseReqs ∧
      s' = s.ran t (fun s => s.refuse ini 0x2081 0 code)) ∧
  (∀ t bad (r : FuseReq) (l : List FuseReq) s, s.inReset = false → s.edgeUp = true → s.markhorUp = true → s.sec.fuseReqs = r :: l →
    s.inSlot 4 0 = true → s.sec.challenges = [] →
    s.fuseNeedsRng r = false → r.value &&& bad = 0 → s.til.reqs = [] → 
    ∃ s', exec (.fuseProgramDone t bad) s = .next s' ∧ s' = s.ran t (fun s =>
      (let a := s.unpost 4 0; ({ a with sec := { a.sec with fuseReqs := l } } : State)).blow r.first r.value)) ∧
  (∀ t ini data s, s.inReset = false → s.writeRefusal ⟨ini, 0, 0x2100, 0, 0⟩ true = none → data.length ≤ 261 →
    s.markhorUp = true → 
    ∃ s', exec (.keyBundle t ini data) s = .next s' ∧ s'.sec.bundles = s.sec.bundles ++ [⟨ini, data⟩]) ∧
  (∀ t (ok : Bool) (x : SecWrite) (l : List SecWrite) s, s.inReset = false → s.noLock 0 = false → s.sec.bundles = x :: l →
    s.inSlot 3 64 = true → s.bundleCode x.data ok = codeKeyBundleInvalid → 
    ∃ s', exec (.bundleResult t ok) s = .next s' ∧ s'.sec.bundles = l ∧ s'.get 0x2102 1 = codeKeyBundleInvalid ∧
      s'.get 0x2102 3 = min (s.get 0x2102 3 + 1) (2 ^ 32 - 1) ∧ s'.flag (okey 0 0x2001 0) 5 = true) ∧
  (∀ t (ok : Bool) (x : SecWrite) (l : List SecWrite) s, s.inReset = false → s.noLock 0 = false → s.sec.bundles = x :: l →
    s.inSlot 3 64 = true → s.bundleCode x.data ok = 0 → 
    exec (.bundleResult t ok) s = .next (s.ran t fun s =>
      ((((let a := s.unpost 3 64; ({ a with sec := { a.sec with bundles := l } } : State)).bundleTaken x.data).keyResult x 0).answerKey
        (okey 0 0x2100 0) 0).serveChallenges)) ∧
  (∀ t ini data (ok : Bool) s, s.inReset = false → s.writeRefusal ⟨ini, 0, 0x2120, 0, 0⟩ true = none →
    data.length ≤ 64 + 4194304 + 3416 → s.markhorUp = true → 
    ∃ s', exec (.firmwareImage t ini data ok) s = .next s' ∧
      (s.firmwareOk data ok = true → s'.sec.images = mput [] (numAt data 8 1 * 2 + s.spareCopy (numAt data 8 1)) data s.sec.images) ∧
      (s.firmwareOk data ok = false → s'.sec = s.sec)) ∧
  (∀ t ini v w s, s.inReset = false → s.takes ⟨ini, 0, 0x2110, 1, v⟩ w → s.markhorUp = true → s.sec.challenges = [] →
    s.slotMail 6 = none → 
    ∃ s', exec (.challenge t ini v) s = .next s' ∧
      (s.get 0x9180 1 = 1 → s'.sec.nonceUntil = some (max s.now t + 60000000000) ∧ s'.sec.requests = s.sec.requests + 1) ∧
      (s.get 0x9180 1 ≠ 1 → s'.sec.challenges = [(ini, max s.now t)])) ∧
  (∀ t ini data s, s.inReset = false → s.writeRefusal ⟨ini, 0, 0x2111, 0, 0⟩ true = none → s.markhorUp = true →
    data.length = 3462 → 
    ∃ s', exec (.foxgloveToken t ini data) s = .next s' ∧ s'.sec.tokens = s.sec.tokens ++ [⟨ini, data⟩]) ∧
  (∀ t (ok : Bool) (x : SecWrite) (l : List SecWrite) s, s.inReset = false → s.noLock 0 = false → s.sec.tokens = x :: l →
    s.inSlot 6 0 = true → (s.advance t).tokenCode x.data ok = 0 → s.til.reqs = [] → s.sec.challenges = [] → 
    ∃ s', exec (.tokenChecked t ok) s = .next s' ∧ s'.sec.tokens = l ∧ s'.sec.nonceUntil = none ∧
      s'.get 0x2110 3 = numAt x.data 40 1 ∧ s'.get 0x2110 5 = numAt x.data 42 4 ∧
      s'.sec.authUntil = max s.now t + numAt x.data 42 4 * 1000000000 ∧ s'.flag (okey 0 0x2001 0) 4 = true) ∧
  (∀ t s, s.inReset = false → s.sec.authUntil ≤ max s.now t → s.get 0x2110 3 ≠ 0 → 
    ∃ s', exec (.authorisationExpiry t) s = .next s' ∧ s'.get 0x2110 3 = 0 ∧ s'.get 0x2110 4 = 0 ∧ s'.get 0x2110 5 = 0 ∧
      s'.flag (okey 0 0x2001 0) 4 = true) ∧
  (∀ t ini v w s, s.inReset = false → s.takes ⟨ini, 0, 0x2110, 6, v⟩ w → s.get 0x2110 3 ≠ 0 → 
    ∃ s', exec (.revoke t ini v) s = .next s' ∧ s'.get 0x2110 3 = 0 ∧ s'.get 0x2110 4 = 0 ∧ s'.get 0x2110 5 = 0 ∧
      s'.flag (okey 0 0x2001 0) 4 = true)

/-- Random numbers: When randomness is ready READY reads 1. A health failure clears READY with its count and flag 0; the
third within a second makes it permanent. A reseed that is due notes its time and clears the requests; a seed that is an
hour old or lost is replaced while READY is 1, with flag 2 where it was lost. A permitted read of DATA answers with a
free 64-bit value and VALID 1 while READY is 1, and with 0 and VALID 0 otherwise. Where the manual leaves a point open,
it holds for the model's choice in DESIGN CHOICE, log entries 3, 58, 88. -/
def Obligations.RandomNumbersServe : Prop :=
  (∀ t s, s.inReset = false → s.edgeUp = true → s.get 0x9180 1 ≠ 1 → s.get 0x9180 3 ≠ 1 → s.sec.challenges = [] → 
    ∃ s', exec (.rngReady t) s = .next s' ∧ s'.get 0x9180 1 = 1 ∧ s'.sec.seeded = max s.now t ∧ s'.sec.requests = 0 ∧
      (s.sec.failedReady = true → s'.flag (okey 0 0x9182 0) 1 = true)) ∧
  (∀ t s, s.inReset = false → s.get 0x9180 3 ≠ 1 → 
    ∃ s', exec (.rngHealthFail t) s = .next s' ∧ s'.get 0x9180 1 = 0 ∧ s'.flag (okey 0 0x9182 0) 0 = true ∧
      s'.get 0x9180 2 = min (s.get 0x9180 2 + 1) (2 ^ 32 - 1) ∧
      s'.get 0x9180 3 = (if 2 ≤ (s.sec.healthFails.filter (fun f => decide (max s.now t ≤ f + 1000000000))).length then 1
        else s.get 0x9180 3)) ∧
  (∀ t s, s.inReset = false → s.edgeUp = true → s.get 0x9180 1 = 1 → 2 ^ 20 ≤ s.sec.requests ∨ s.sec.seeded + 1000000000 ≤ max s.now t → 
    ∃ s', exec (.rngReseed t) s = .next s' ∧ s'.sec = { s.sec with seeded := max s.now t, requests := 0 } ∧
      Keeps (fun _ => False) s s') ∧
  (∀ t (lost : Bool) s, s.inReset = false → s.edgeUp = true → s.get 0x9180 1 = 1 → lost = true ∨ s.sec.seedAt + 3600000000000 ≤ max s.now t → 
    ∃ s', exec (.seedRefresh t lost) s = .next s' ∧ s'.sec.seedAt = max s.now t ∧
      (lost = true → s'.flag (okey 0 0x9182 0) 2 = true) ∧ (lost = false → Keeps (fun _ => False) s s')) ∧
  (∀ t ini s, s.inReset = false → ini.secure = true ∨ s.narrowed ini.part 0x9181 false = false → 
    ∃ s', exec (.rngDataRead t ini) s = .next s' ∧
      (s.get 0x9180 1 = 1 → s'.out = .readData ini.part s.freeW :: s.out ∧ s'.fresh = s.fresh + 1 ∧
        s'.getB ini.part 0x9181 2 = 1) ∧
      (s.get 0x9180 1 ≠ 1 → s'.out = .readData ini.part 0 :: s.out ∧ s'.getB ini.part 0x9181 2 = 0))

/-- Memory transactions and aperture accesses: A transaction carries the attributes that its port stamps, and one whose
port stamps none has no effect; the first of a DMA channel enables the channel with the attributes that its object
gives. One that fails the memory check, and any write of the monitor, has no effect beside its record: the log's fields,
its counts, the target's among them, and flag 2 of SecurityEvents; a read answers zeros, and no byte changes. A checked
write of the tile store writes its bytes and no other; a checked read answers the bytes that stand there. A checked
transaction to DRAM that the tracker admits takes an entry of the kind that the tracker gives it. A released entry is
gone. A Normal or Background request older than AGE_LIMIT_US becomes Urgent, with its count. An aperture access outside
every live handle is a violation with target 4. Where the manual leaves a point open, it holds for the model's choice in
DEDUCED, log entries 13, 14, 27, 89, 102, 104. -/
def Obligations.TransactionsAreChecked : Prop :=
  (∀ t id port init part (q : Nat) sec (z : Bool) cls write addr len data ecc env (a x tgt : Nat) s, s.inReset = false → s.targetOf addr ≠ 2 →
    init ≠ 11 → ¬(init = 1 ∧ write = true) → (s.advance t).stamp init port part sec = some (q, z) →
    s.accessFails q z write addr (if write then data.length else len) = some (x, tgt) → 
    ∃ s', exec (.memoryTransaction t id port init part sec cls write addr len data ecc env) s = .next s' ∧
      s'.rdByte a = s.rdByte a ∧ s'.get 0x2030 1 = min (s.get 0x2030 1 + 1) (2 ^ 32 - 1) ∧ s'.get 0x2030 2 = init % 2 ^ 64 ∧
      s'.get 0x2030 3 = (q + (if z then 16 else 0)) % 2 ^ 64 ∧
      s'.get 0x2030 4 = tgt % 2 ^ 64 ∧ s'.get 0x2030 5 = x % 2 ^ 64 ∧ s'.get 0x2030 6 = max s.now t % 2 ^ 64 ∧
      mget 0 tgt s'.sec.violations = min (mget 0 tgt s.sec.violations + 1) (2 ^ 32 - 1) ∧
      s'.flag (okey 0 0x2001 0) 2 = true ∧ s'.memc = s.memc ∧
      (write = false → .readBytes q (List.replicate len 0) ∈ s'.out)) ∧
  (∀ t id port part sec cls addr len data ecc env (a : Nat) s, s.inReset = false → s.targetOf addr ≠ 2 → 
    ∃ s', exec (.memoryTransaction t id port 1 part sec cls true addr len data ecc env) s = .next s' ∧
      s'.rdByte a = s.rdByte a ∧ s'.get 0x2030 2 = 1 ∧ s'.get 0x2030 4 = s.targetOf addr ∧
      s'.get 0x2030 5 = addr % 2 ^ 64 ∧ s'.flag (okey 0 0x2001 0) 2 = true ∧ s'.memc = s.memc) ∧
  (∀ t id port init part sec cls write addr len data ecc env s, s.inReset = false → init ≠ 11 →
    (s.advance t).stamp init port part sec = none → 
    ∃ s', exec (.memoryTransaction t id port init part sec cls write addr len data ecc env) s = .next s' ∧
      Keeps (fun _ => False) s s' ∧ s'.mem = s.mem ∧ s'.memc = s.memc ∧ s'.out = s.out) ∧
  (∀ t id port init part (q : Nat) sec (z : Bool) cls addr len data ecc env (a : Nat) s, s.inReset = false → s.targetOf addr = 1 → init ≠ 11 → init ≠ 1 →
    (s.advance t).stamp init port part sec = some (q, z) →
    s.accessFails q z true addr data.length = none → 0 < data.length → s.surfAt addr = none →
    s.memc.waiting.any (fun y => y.port == port) = false →
    (List.range 8).any (fun r => s.get (trIdx r) 1 == 1 && s.get (trIdx r) 2 == 5) = false → 
    ∃ s', exec (.memoryTransaction t id port init part sec cls true addr len data ecc env) s = .next s' ∧
      s'.rdByte a = (if addr ≤ a ∧ a < addr + data.length then nth 0 data (a - addr) else s.rdByte a) ∧
      s'.memc.inflight = s.memc.inflight ∧ s'.out = s.out) ∧
  (∀ t id port init part (q : Nat) sec (z : Bool) cls addr len data env s, s.inReset = false → s.targetOf addr = 1 → init ≠ 11 →
    (s.advance t).stamp init port part sec = some (q, z) →
    s.accessFails q z false addr len = none → 0 < len → s.surfAt addr = none → s.firstBroken addr len = none →
    s.memc.waiting.any (fun y => y.port == port) = false →
    (List.range 8).any (fun r => s.get (trIdx r) 1 == 1 && s.get (trIdx r) 2 == 5) = false → 
    ∃ s', exec (.memoryTransaction t id port init part sec cls false addr len data 0 env) s = .next s' ∧
      s'.out = .readBytes q (s.rdBytes addr len) :: s.out) ∧
  (∀ t id port init part (q : Nat) sec (z : Bool) cls addr len data env (e : Bool) s, s.inReset = false → s.targetOf addr = 0 → init ≠ 11 → init ≠ 1 →
    (s.advance t).stamp init port part sec = some (q, z) →
    s.accessFails q z true addr data.length = none → 0 < data.length → s.surfAt addr = none → s.dramHeld addr = false →
    s.memc.waiting.any (fun y => y.port == port) = false →
    (List.range 8).any (fun r => s.get (trIdx r) 1 == 1 && s.get (trIdx r) 2 == 5) = false →
    s.entryFor ⟨id, port, init, q, z, sourceClass init cls, true, addr, data.length, data, 0, max s.now t, false, none⟩ = some e → 
    ∃ s', exec (.memoryTransaction t id port init part sec cls true addr len data 0 env) s = .next s' ∧
      s'.memc.inflight = s.memc.inflight ++
        [⟨id, port, init, q, z, sourceClass init cls, true, addr, data.length, data, 0, max s.now t, e, none⟩]) ∧
  (∀ t id port part sec cls write addr len data ecc env s, s.inReset = false →
    (s.sec.dmaOn.any (fun x => x.1 == port % 64)) = false → 
    ∃ s', exec (.memoryTransaction t id port 11 part sec cls write addr len data ecc env) s = .next s' ∧
      s'.sec.dmaOn = (port % 64, numAt (s.getLive (okey 0 0x2061 0)).data (port % 64) 1) :: s.sec.dmaOn) ∧
  (∀ t id s, s.inReset = false → s.memc.waiting = [] → 
    ∃ s', exec (.trackerEntryFree t id) s = .next s' ∧
      s'.memc = { s.memc with inflight := s.memc.inflight.filter (fun r => r.id != id) } ∧
      s'.get 0x3010 4 = ((s.memc.inflight.filter (fun r => r.id != id)).filter (fun r => r.reserved)).length % 2 ^ 64) ∧
  (∀ t id (r : MemReq) s, s.inReset = false → s.memc.inflight = [r] → r.id = id → 2 ≤ r.cls →
    r.since + s.get 0x3010 3 * 1000 ≤ max s.now t → 
    ∃ s', exec (.agePromotion t id) s = .next s' ∧ s'.memc.inflight = [{ r with cls := 1 }] ∧
      s'.get (0x3020 + r.part) 6 = min (s.get (0x3020 + r.part) 6 + 1) (2 ^ 32 - 1)) ∧
  (∀ t id port ini off len data ecc (a : Nat) s, s.inReset = false → ini.path = .pf ∨ ini.path = .vf → 0 < len → len ≤ 256 →
    s.aperAt ini.part off = none → 
    ∃ s', exec (.apertureAccess t id port ini off len false data ecc) s = .next s' ∧ s'.rdByte a = s.rdByte a ∧
      s'.get 0x2030 1 = min (s.get 0x2030 1 + 1) (2 ^ 32 - 1) ∧ s'.get 0x2030 4 = 4 ∧
      s'.get 0x2030 5 = (2 ^ 63 + off) % 2 ^ 64 ∧ .readBytes ini.part (List.replicate len 0) ∈ s'.out) ∧
  (∀ t id port ini off len data ecc s, s.inReset = false → ini.path = .pf ∨ ini.path = .vf → 0 < len → len ≤ 256 →
    (List.range len).findSome? (fun i => s.aperFails ini.part false (off + i)) = none →
    (s.aperAt ini.part off).elim false (fun x => decide (off + len ≤ x.1.aper + x.2.size)) = true → 
    exec (.apertureAccess t id port ini off len false data ecc) s = .next (s.ran t fun s =>
      s.aperPiece id port ini false off len (data.take len) ecc))

/-- Refresh, temperature, training and frequency changes of DRAM: A refresh due under panic is owed, and forced at the
fourth, with its counts and flag 0; one due on an idle usable channel is issued and another pulled in. What mode
register 4 reports sets MR4_RATE. A frequency change whose instant is safe begins; its end makes the point current, and
notes the blackout, with its count and flag 3; one without a safe instant within WAIT_MS is dropped, with its count and
flag 4. Training of DRAM ends with its channels usable or failed. A patrol pass over a group notes its time. A
correction counts once in each counter. Where the manual leaves a point open, it holds for the model's choice in log
entries 2, 82. -/
def Obligations.DramIsKept : Prop :=
  (∀ t chan (temp : Int) trained s, s.inReset = false → s.chanUsable chan = true → s.memc.freqRun = none →
    s.isUnderPanic chan = true → 
    ∃ s', exec (.refreshDue t chan temp trained) s = .next s' ∧
      (s.owed chan + 1 < 4 → s'.owed chan = wrapI32 (s.owed chan + 1)) ∧
      (4 ≤ s.owed chan + 1 → s'.owed chan = 0 ∧ s'.flag (okey 0 0x3001 0) 0 = true ∧
        s'.get 0x3002 1 = min (s.get 0x3002 1 + 1) (2 ^ 32 - 1) ∧
        s'.get (0x3040 + chan) 4 = min (s.get (0x3040 + chan) 4 + 1) (2 ^ 32 - 1))) ∧
  (∀ t chan (temp : Int) s, s.inReset = false → s.chanUsable chan = true → s.memc.freqRun = none →
    s.isUnderPanic chan = false → s.memc.inflight = [] → -4 ≤ s.owed chan → s.owed chan ≤ 4 → 
    ∃ s', exec (.refreshDue t chan temp false) s = .next s' ∧ s'.owed chan = max (-4) (s.owed chan - 1) ∧
      Keeps (fun k => k = okey 0 (0x3040 + chan) 3) s s') ∧
  (∀ t (codes : List Nat) (c : Nat) s, s.inReset = false → c < 32 → s.chanUsable c = true → 
    ∃ s', exec (.mr4Poll t codes) s = .next s' ∧ s'.get (0x3040 + c) 2 = mr4Rate (nth 0 codes c)) ∧
  (∀ t (op at0 : Nat) s, s.inReset = false → s.memc.freqReq = some (op, at0) → s.memc.freqRun = none → s.scan.heads = [] →
    s.memc.panicSince = [] → (List.range 32).all (fun c => decide (s.owed c < 4)) = true → s.get (0x3064 + op) 2 = 1 → 
    ∃ s', exec (.freqChangeStart t) s = .next s' ∧ s'.memc.freqReq = none ∧ s'.memc.freqRun = some (op, max s.now t) ∧
      Keeps (fun _ => False) s s') ∧
  (∀ t (op at0 : Nat) s, s.inReset = false → s.memc.freqRun = some (op, at0) → op < 4 → 
    ∃ s', exec (.freqChangeDone t) s = .next s' ∧ s'.memc.freqRun = none ∧ s'.get 0x3000 6 = op ∧
      s'.get 0x3060 4 = min 6000 (max s.now t - at0) ∧ s'.flag (okey 0 0x3001 0) 3 = true ∧
      s'.get 0x3002 3 = min (s.get 0x3002 3 + 1) (2 ^ 32 - 1)) ∧
  (∀ t (op at0 : Nat) s, s.inReset = false → s.memc.freqReq = some (op, at0) → at0 + s.get 0x3060 2 * 1000000 ≤ max s.now t → 
    ∃ s', exec (.freqDeferred t) s = .next s' ∧ s'.memc.freqReq = none ∧ s'.flag (okey 0 0x3001 0) 4 = true ∧
      s'.get 0x3002 4 = min (s.get 0x3002 4 + 1) (2 ^ 32 - 1)) ∧
  (∀ t (fails : List Nat) temps s, s.inReset = false → (List.range 32).any (fun c => s.get (0x3040 + c) 1 == 3) = true → 
    exec (.dramTrainingDone t fails temps) s = .next (s.ran t fun s =>
      let s := s.dramTrained fails temps;
      { s with sys := { s.sys with eccDue := true } })) ∧
  (∀ (c : Nat) (fails : List Nat) temps (s : State), c < (if s.cfg.dramGen = 4 then s.cfg.groups * 2 else s.cfg.groups * 4) →
    s.get (0x3040 + c) 1 = 3 → 
    (s.dramTrained fails temps).get (0x3040 + c) 1 =
      (if s.isLost .channel c ∨ bit (nth 0 fails c) 0 = true then 2 else 1)) ∧
  (∀ t s, s.inReset = false → s.sys.eccDue = true → (List.range 32).any s.chanUsable = true → 4 ≤ s.get 0x4000 7 → 
    ∃ s', exec (.eccInitDone t) s = .next s' ∧ s'.sys.eccDue = false ∧
      (s.get 0x9030 5 = 0 → s'.get 0x9030 5 = (s.advance t).startupUs (max s.now t) % 2 ^ 64) ∧
      Keeps (fun k => k = okey 0 0x9030 5) s s') ∧
  (∀ t group s, s.inReset = false → group < s.cfg.groups → 
    ∃ s', exec (.patrolScrub t group [] []) s = .next s' ∧ s'.get (0x3080 + group) 4 = max s.now t % 2 ^ 64 ∧
      Keeps (fun k => k = okey 0 (0x3080 + group) 4) s s') ∧
  (∀ t group (x : Nat) s, s.inReset = false → group < s.cfg.groups → s.targetOf x = 0 → s.eccCovers x = true →
    (x - dramBase) / groupSpan = group → 
    ∃ s', exec (.patrolScrub t group [x] []) s = .next s' ∧ s'.flag (okey 0 0x3001 0) 5 = true ∧
      s'.get (0x3080 + group) 5 = min (s.get (0x3080 + group) 5 + 1) (2 ^ 32 - 1) ∧
      s'.get 0x3002 5 = min (s.get 0x3002 5 + 1) (2 ^ 32 - 1))

/-- Tile-store banks, user storage and the fallback library: A bank that holds a surface and has been idle for
BANK_IDLE_US enters retention. A wear counter, user word or user block whose value waits and whose interval has passed
is stored. An accepted ENTRY that verifies and fits joins the library with RESULT 0; any other leaves the library with
its code. An accepted ERASE_ID marks its entry. Where the manual leaves a point open, it holds for the model's choice in
DEDUCED, log entries 78, 103. -/
def Obligations.StoresAreKept : Prop :=
  (∀ t bank (x : Nat) s, s.inReset = false → bank < s.cfg.banks → s.get (0x30A0 + bank) 1 = 1 → s.bankHolds bank = true →
    (s.memc.bankAt.find? (fun y => y.1 == bank)) = some (bank, x) → x + s.get 0x30C0 1 * 1000 ≤ max s.now t → 
    ∃ s', exec (.bankRetention t bank) s = .next s' ∧ s'.get (0x30A0 + bank) 1 = 2 ∧
      Keeps (fun k => k = okey 0 (0x30A0 + bank) 1) s s') ∧
  (∀ t counter (x : Wear) s, s.inReset = false → counter < 256 →
    s.memc.wear.find? (fun y => y.key == okey 0 (0xC000 + counter) 0) = some x → x.pend = true →
    x.last + 100000000 ≤ max s.now t → 
    ∃ s', exec (.wearCounterStore t counter) s = .next s' ∧
      mget (objDefault s.cfg (okey 0 (0xC000 + counter) 0)) (okey 0 (0xC000 + counter) 0) s'.stored =
        s.getK (okey 0 (0xC000 + counter) 0) ∧
      (s'.memc.wear.find? (fun y => y.key == okey 0 (0xC000 + counter) 0)).map (fun y => y.pend) = some false) ∧
  (∀ t index (x : Wear) s, s.inReset = false → 0xC100 ≤ index → index < 0xFF80 →
    s.memc.wear.find? (fun y => y.key == okey 0 index 0) = some x → x.pend = true →
    x.last + 10000000000 ≤ max s.now t → 
    ∃ s', exec (.userStore t index) s = .next s' ∧
      (index < 0xFF00 → mget (objDefault s.cfg (okey 0 index 0)) (okey 0 index 0) s'.stored = s.getK (okey 0 index 0)) ∧
      (0xFF00 ≤ index → mget (blockDefault s.cfg (okey 0 index 0)) (okey 0 index 0) s'.storedBlocks = s.getBlk (okey 0 index 0)) ∧
      (s'.memc.wear.find? (fun y => y.key == okey 0 index 0)).map (fun y => y.pend) = some false) ∧
  (∀ t ini data (ok : Bool) s, s.inReset = false → s.writeRefusal ⟨ini, 0, 0x30D8, 1, 0⟩ true = none → 
    ∃ s', exec (.libraryEntry t ini data ok) s = .next s' ∧ s'.get 0x30D8 4 = ((s.advance t).libraryWrite data ok).2 ∧
      (((s.advance t).libraryWrite data ok).2 ≠ 0 → s'.memc = s.memc) ∧
      (((s.advance t).libraryWrite data ok).2 = 0 →
        s'.memc.library.map (fun e => e.id) = (s.memc.library.filter (fun e => e.id != numAt data 0 4)).map (fun e => e.id) ++
          [numAt data 0 4])) ∧
  (∀ t ini v w s, s.inReset = false → s.takes ⟨ini, 0, 0x30D8, 2, v⟩ w → 
    ∃ s', exec (.eraseId t ini v) s = .next s' ∧
      s'.memc.library = s.memc.library.map (fun e => if e.id = w.toNat then { e with erase := true } else e))

/-- Flits that arrive at a port, idle flits and the replay timer: On a port whose link is up and clocked, where Foxglove
injects nothing: a data flit that FEC and CRC pass is given to the trace and processed as a flit past FEC and CRC; a
failing CRC is counted and NAKed once; an uncorrectable codeword is counted and dropped. A NAK acknowledges what came
before its SEQ and replays from it. With nothing waiting to be sent, an idle flit releases the acknowledged flits. After
1 µs without data an idle flit is sent. With no ACK for 10 µs a replay starts and is counted. Where the manual leaves a
point open, it holds for the model's choice in DEDUCED, log entries 22, 73, 105, 108. -/
def Obligations.FlitsAreTaken : Prop :=
  (∀ t port bytes s, s.inReset = false → s.linkRuns port = true → s.get (chIdx port + 3) 1 = 0 → (s.link port).foxHeld = none →
    flitCrcOk bytes = true → (Flit.ofBytes bytes).ty = 1 → 
    exec (.dataFlitRx t port bytes 0) s = .next (s.ran t fun s => (s.traceSource 4 bytes).rxData port (Flit.ofBytes bytes))) ∧
  (∀ t port bytes s, s.inReset = false → s.linkRuns port = true → s.get (chIdx port + 3) 1 = 0 → flitCrcOk bytes = false → 
    ∃ s', exec (.dataFlitRx t port bytes 0) s = .next s' ∧ (s'.link port).nakSent = true ∧
      s'.get (chIdx port + 2) 3 = min (s.get (chIdx port + 2) 3 + 1) (2 ^ 32 - 1) ∧
      ((s.link port).nakSent = true → s'.out = s.out) ∧ ((s.link port).nakSent = false → s'.out.length = s.out.length + 1) ∧
      Keeps (fun k => k = okey 0 (chIdx port + 2) 3) s s') ∧
  (∀ t port bytes s, s.inReset = false → s.linkRuns port = true → s.get (chIdx port + 3) 1 = 0 → 
    ∃ s', exec (.dataFlitRx t port bytes 2) s = .next s' ∧ s'.fabric = s.fabric ∧ s'.out = s.out ∧
      s'.get (chIdx port + 2) 2 = min (s.get (chIdx port + 2) 2 + 1) (2 ^ 32 - 1) ∧
      Keeps (fun k => k = okey 0 (chIdx port + 2) 2) s s') ∧
  (∀ t port bytes s, s.inReset = false → s.linkRuns port = true → s.get (chIdx port + 3) 1 = 0 → flitCrcOk bytes = true →
    (Flit.ofBytes bytes).ty = 2 → 
    exec (.nakFlitRx t port bytes 0) s = .next (s.ran t fun s =>
      (s.takeAck port (((Flit.ofBytes bytes).seq + 4095) % 4096)).replayFrom port (Flit.ofBytes bytes).seq)) ∧
  (∀ t port bytes s, s.inReset = false → s.linkRuns port = true → s.get (chIdx port + 3) 1 = 0 → flitCrcOk bytes = true →
    (Flit.ofBytes bytes).ty = 0 → (s.link port).txq = [] → 
    ∃ s', exec (.idleFlitRx t port bytes 0) s = .next s' ∧
      (s'.link port).unacked = (s.link port).unacked.filter (fun f => later12 f.seq (Flit.ofBytes bytes).ack) ∧
      Keeps (fun _ => False) s s') ∧
  (∀ t port s, s.inReset = false → s.linkRuns port = true → (s.link port).sentAt + 1000 ≤ max s.now t → 
    ∃ s', exec (.idleFlitSend t port) s = .next s' ∧ (s'.link port).sentAt = max s.now t ∧
      s'.out.length = s.out.length + 1 ∧ Keeps (fun _ => False) s s') ∧
  (∀ t port (f : TxFlit) s, s.inReset = false → s.linkRuns port = true → (s.link port).unacked.head? = some f →
    (s.link port).ackAt + 10000 ≤ max s.now t → 
    ∃ s', exec (.replayTimeout t port) s = .next s' ∧ (s'.link port).ackAt = max s.now t ∧
      s'.get (chIdx port + 2) 4 = min (s.get (chIdx port + 2) 4 + 1) (2 ^ 32 - 1))

/-- Training of a port and end-to-end messages: Training that ends on one lane or more brings the port up, reduced where
fewer than its lanes work, with its lanes and rate noted; on none the link is down. A port that has been down for one
second and is enabled trains again. An end-to-end acknowledgement removes what it covers; a time-out retransmits three
times and then abandons the first message with its flag. Where the manual leaves a point open, it holds for the model's
choice in DEDUCED, log entries 22, 105. -/
def Obligations.PortsTrainAndRetry : Prop :=
  (∀ t port lanes gbps n s, s.inReset = false → port < s.cfg.chamois → s.get (chIdx port + 1) 1 = 1 → s.pdOn 13 = true →
    n = (if 4 ≤ min lanes (s.get (chIdx port) 3) then 4 else if 2 ≤ min lanes (s.get (chIdx port) 3) then 2
      else min lanes (s.get (chIdx port) 3)) → n ≠ 0 → 
    ∃ s', exec (.portRetrainDone t port lanes gbps) s = .next s' ∧
      s'.get (chIdx port + 1) 1 = (if n < s.get (chIdx port) 3 then 3 else 2) ∧ s'.get (chIdx port + 1) 2 = n ∧
      s'.get (chIdx port + 1) 3 = s.laneGbps port gbps ∧ (s'.link port).replays = 0 ∧ (s'.link port).nakSent = false) ∧
  (∀ t port lanes gbps s, s.inReset = false → port < s.cfg.chamois → s.get (chIdx port + 1) 1 = 1 → s.pdOn 13 = true →
    min lanes (s.get (chIdx port) 3) = 0 → 
    ∃ s', exec (.portRetrainDone t port lanes gbps) s = .next s' ∧ s'.get (chIdx port + 1) 1 = 4 ∧
      s'.flag (okey 0 0x7801 0) 0 = true ∧ (s'.link port).unacked = [] ∧
      s'.get (chIdx port + 2) 6 = min (s.get (chIdx port + 2) 6 + 1) (2 ^ 32 - 1)) ∧
  (∀ t port s, s.inReset = false → port < s.cfg.chamois → s.pdOn 13 = true → s.get (chIdx port) 1 = 1 →
    s.get (chIdx port + 1) 1 = 4 → s.isLost .chamois port = false →
    (s.link port).downAt + 1000000000 ≤ max s.now t → 
    ∃ s', exec (.linkRetry t port) s = .next s' ∧ s'.get (chIdx port + 1) 1 = 1 ∧
      s'.get (chIdx port + 2) 5 = min (s.get (chIdx port + 2) 5 + 1) (2 ^ 32 - 1) ∧
      Keeps (fun k => k = okey 0 (chIdx port + 1) 1 ∨ k = okey 0 (chIdx port + 2) 5) s s') ∧
  (∀ t src cls seq s, s.inReset = false → (s.e2eTx src cls).held = [] →
    ((s.e2eTx src cls).msgs.filter (fun m => serialLater 16 m.1 seq)).length < (s.e2eTx src cls).msgs.length → 
    ∃ s', exec (.e2eAckRx t src cls seq) s = .next s' ∧ (s'.e2eTx src cls).tries = 0 ∧
      (s'.e2eTx src cls).msgs = (s.e2eTx src cls).msgs.filter (fun m => serialLater 16 m.1 seq) ∧
      (s'.e2eTx src cls).at_ = max s.now t ∧ Keeps (fun _ => False) s s') ∧
  (∀ t dest cls s, s.inReset = false → (s.e2eTx dest cls).msgs ≠ [] → (s.e2eTx dest cls).tries < 3 →
    (s.e2eTx dest cls).at_ + s.get 0x7800 7 * 1000 ≤ max s.now t → 
    ∃ s', exec (.e2eTimeout t dest cls) s = .next s' ∧ (s'.e2eTx dest cls).tries = (s.e2eTx dest cls).tries + 1 ∧
      (s'.e2eTx dest cls).msgs = (s.e2eTx dest cls).msgs ∧ (s'.e2eTx dest cls).at_ = max s.now t) ∧
  (∀ t dest cls (m : Nat × Nat × List Byte) (l : List (Nat × Nat × List Byte)) s, s.inReset = false → (s.e2eTx dest cls).msgs = m :: l → 3 ≤ (s.e2eTx dest cls).tries →
    (s.e2eTx dest cls).at_ + s.get 0x7800 7 * 1000 ≤ max s.now t → (s.e2eTx dest cls).held = [] → numAt m.2.2 2 1 ≠ 1 → 
    ∃ s', exec (.e2eTimeout t dest cls) s = .next s' ∧ (s'.e2eTx dest cls).msgs = l ∧ (s'.e2eTx dest cls).tries = 0 ∧
      s'.flag (okey 0 0x7801 0) 7 = true)

/-- Tile and Bulk messages from a member of the Twin or Wall: A tile of a remote stream is held under its composition
frame. A Bulk Write that the memory check passes, outside every surface, writes its bytes and no others; a Bulk Read
Request that it passes is answered with the sectors read, where a word cannot be corrected after its record; Bulk Read
Data returns to the initiator whose read it answers. A write or read of a node that is no member changes nothing. Where
the manual leaves a point open, it holds for the model's choice in DEDUCED, log entries 22, 27, 96. -/
def Obligations.MessagesAreTaken : Prop :=
  (∀ t src stream tile epoch header data present need s, s.inReset = false → s.get (0x7940 + src) 1 = 1 → 
    ∃ s', exec (.tileMessageRx t src stream tile epoch header data present need) s = .next s' ∧
      s'.place.streams.any (fun x => x.node == src && x.stream == stream && x.want == epoch &&
        x.next.any (fun y => y.tile == tile && y.data == data)) = true ∧ Keeps (fun _ => False) s s') ∧
  (∀ t src part addr data s, s.inReset = false → s.get (0x7940 + src) 1 = 1 →
    (s.advance t).bulkCheck part false true addr data.length = none → (s.advance t).surfAt addr = none → 
    ∃ s', exec (.bulkWriteRx t src part false addr data) s = .next s' ∧ s'.rdBytes addr data.length = data ∧
      (∀ a, a < addr ∨ addr + data.length ≤ a → s'.rdByte a = s.rdByte a) ∧ s'.objs = s.objs ∧ s'.blocks = s.blocks) ∧
  (∀ t src part addr len s, s.inReset = false → s.get (0x7940 + src) 1 = 1 → 0 < len → len ≤ 65536 →
    (s.advance t).bulkCheck part false false addr len = none → 
    exec (.bulkReadRequestRx t src part false addr len) s = .next (s.ran t fun s =>
      (s.reportBroken addr len).sendMsg src 3 0x22 (part % 16) addr
        ((s.reportBroken addr len).flowOf part (addr / 65536)) ((s.reportBroken addr len).rdSectors addr len))) ∧
  (∀ t src addr data (r : RemoteRead) s, s.inReset = false →
    s.fabric.reads.find? (fun r => r.node == src && r.addr == addr) = some r → 
    ∃ s', exec (.bulkReadDataRx t src addr data) s = .next s' ∧ s'.out = .readBytes r.part (bytesAt data 0 r.len) :: s.out ∧
      s'.fabric.reads = s.fabric.reads.erase r ∧ Keeps (fun _ => False) s s') ∧
  (∀ t src part sec addr data s, s.inReset = false → s.get (0x7940 + src) 1 ≠ 1 → 
    ∃ s', exec (.bulkWriteRx t src part sec addr data) s = .next s' ∧ s'.out = s.out ∧ Keeps (fun _ => False) s s')

/-- Hellos, heartbeats and the loss of a node: The hello of a neighbour that fits, is no duplicate and is not excluded
makes it a member with its serial and configuration; a duplicate is noted with reason 3. One whose configuration the
topology bars is excluded with reason 1; on a single device the neighbour is only noted. A heartbeat of a node below 64
that is not excluded is noted with its time and makes a node that is no neighbour a member; on a ring or torus the one
port that carries sends the node heartbeat to its member. A silent member is marked lost with flag 3, and a lost time
master gives way to the next. Where the manual leaves a point open, it holds for the model's choice in DEDUCED, log entries 23,
90, 107. -/
def Obligations.MembersComeAndGo : Prop :=
  (∀ t port serial config node nport strap s, s.inReset = false → s.linkUp port = true → node < 64 → node ≠ s.selfNode →
    (s.neighbourOf port).elim (nport == port) (fun x => x.1 == node && x.2 == nport) = true → s.get (0x7940 + node) 1 ≠ 1 →
    s.fabric.topology ≠ 0 → s.configBars config = false → serial < 2 ^ 64 → config < 2 ^ 64 → nport < 2 ^ 64 → 
    ∃ s', exec (.nodeHelloRx t port serial config node nport strap) s = .next s' ∧ s'.get (0x7940 + node) 1 = 1 ∧
      s'.get (0x7940 + node) 2 = serial ∧ s'.get (0x7940 + node) 3 = config ∧ s'.get (0x7940 + node) 4 = 0 ∧
      s'.get (chIdx port + 1) 4 = node ∧ s'.get (chIdx port + 1) 5 = nport ∧ (s'.link port).barred = false ∧ s'.flag (okey 0 0x7801 0) 4 = true) ∧
  (∀ t port serial config node nport strap s, s.inReset = false → s.linkUp port = true → node < 64 →
    s.get (0x7940 + node) 1 = 1 → s.get (0x7940 + node) 2 ≠ serial → s.fabric.topology ≠ 0 → s.configBars config = false → 
    ∃ s', exec (.nodeHelloRx t port serial config node nport strap) s = .next s' ∧ s'.get (0x7940 + node) 4 = 3 ∧
      s'.get (0x7940 + node) 1 = 1 ∧ s'.get (0x7940 + node) 2 = s.get (0x7940 + node) 2 ∧
      (s'.link port).barred = true) ∧
  (∀ t port serial config node nport strap s, s.inReset = false → s.linkUp port = true → node < 64 → s.fabric.topology ≠ 0 →
    s.get (0x7940 + node) 1 ≠ 2 → s.configBars config = true → 
    ∃ s', exec (.nodeHelloRx t port serial config node nport strap) s = .next s' ∧ s'.get (0x7940 + node) 1 = 2 ∧
      s'.get (0x7940 + node) 4 = 1 ∧ (s'.link port).barred = true) ∧
  (∀ t port serial config node nport strap s, s.inReset = false → s.linkUp port = true → node < 64 → s.fabric.topology = 0 → 
    ∃ s', exec (.nodeHelloRx t port serial config node nport strap) s = .next s' ∧ s'.get (chIdx port + 1) 4 = node ∧
      s'.get (chIdx port + 1) 5 = nport % 2 ^ 64 ∧
      Keeps (fun k => k = okey 0 (chIdx port + 1) 4 ∨ k = okey 0 (chIdx port + 1) 5) s s') ∧
  (∀ t node s, s.inReset = false → node < 64 → s.get (0x7940 + node) 1 = 1 ∨ s.get (0x7940 + node) 1 ≠ 2 ∧ s.farNode node = false → 
    ∃ s', exec (.nodeHeartbeatRx t node) s = .next s' ∧ (node, max s.now t) ∈ s'.fabric.heard ∧ Keeps (fun _ => False) s s') ∧
  (∀ t node s, s.inReset = false → node < 64 → s.get (0x7940 + node) 1 ≠ 1 → s.get (0x7940 + node) 1 ≠ 2 → s.farNode node = true → 
    ∃ s', exec (.nodeHeartbeatRx t node) s = .next s' ∧ s'.get (0x7940 + node) 1 = 1 ∧ s'.flag (okey 0 0x7801 0) 4 = true) ∧
  (∀ t k n s, s.inReset = false → 2 ≤ s.fabric.topology → s.carryPorts = [k] → n = s.get (chIdx k + 1) 4 → n < 64 →
    s.get (0x7940 + n) 1 = 1 → 
    exec (.nodeHeartbeatSend t) s = .next (s.ran t fun s => s.sendMsgOn k n 6 0 0 (s.flowOf s.selfNode 0)
      ([byteOf s.selfNode, byteOf (s.get 0x1020 2)] ++ leBytes 2 s.health ++ leBytes 4 s.epoch ++ leBytes 4 s.planIdLow))) ∧
  (∀ t node master s, s.inReset = false → node < 64 → s.get (0x7940 + node) 1 = 1 → s.nodeReach node = false →
    s.place.surfs.any (fun f => f.loc == 2 && f.group == node && !f.homeless) = false → 
    ∃ s', exec (.nodeLost t node master) s = .next s' ∧ s'.get (0x7940 + node) 1 = 3 ∧ s'.flag (okey 0 0x7801 0) 3 = true ∧
      (s.get 0x7820 7 = node → s'.get 0x7820 7 = (if 64 ≤ master then 0xFF else master)))

/-- Time flits, 802.1AS messages and the setting of Wall time: A time flit sent carries Wall time in tenths of a
nanosecond and notes it. One that arrives is noted with its receive time and sets MASTER_NODE, and where both directions
are known the link delay; a master's 802.1AS source that is lost is noted. A message on a MAC that is up is counted; on
the MAC that the device takes time from it measures an offset. An accepted write of Wall time under a free-running
source that is not refused sets it. Where the manual leaves a point open, it holds for the model's choice in log entries
26, 106, 108. -/
def Obligations.TimeIsDistributed : Prop :=
  (∀ t port s, s.inReset = false → s.linkRuns port = true → 
    ∃ s', exec (.timeFlitSend t port) s = .next s' ∧
      (s'.link port).timeSent = (max s.now t + s.time.wallOff) % 2 ^ 64 * 10 ∧
      s'.out = .timeFlit port ((max s.now t + s.time.wallOff) % 2 ^ 64 * 10) (s.link port).timeGot :: s.out ∧
      Keeps (fun _ => False) s s') ∧
  (∀ t port sent got tenth master s, s.inReset = false → s.linkRuns port = true → (s.link port).timeSent = 0 ∨ got = 0 → 
    ∃ s', exec (.timeFlitRx t port sent got tenth master) s = .next s' ∧
      (s'.link port).timeGot = (max s.now t + s.time.wallOff) % 2 ^ 64 * 10 + min 9 tenth ∧
      s'.get 0x7820 7 = (if 64 ≤ master then 0xFF else master)) ∧
  (∀ t port sent got tenth master s, s.inReset = false → s.linkRuns port = true → (s.link port).timeSent ≠ 0 → got ≠ 0 →
    64 ≤ master → 
    ∃ s', exec (.timeFlitRx t port sent got tenth master) s = .next s' ∧ s'.get 0x7820 7 = 0xFF ∧
      s'.get (chIdx port + 1) 6 = min ((((got : Int) - sent) - (((s.link port).timeSent : Int) -
        ((max s.now t + s.time.wallOff) % 2 ^ 64 * 10 + min 9 tenth : Nat))) * 50 + s.getI (chIdx port) 4).toNat (2 ^ 32 - 1)) ∧
  (∀ t s, s.inReset = false → s.get 0x7820 1 = 1 ∨ s.get 0x7820 1 = 2 → s.get 0x7820 6 = 4 → 
    ∃ s', exec (.timeSourceLost t) s = .next s' ∧ s'.get 0x7820 6 = 3 ∧ s'.flag (okey 0 0x7821 0) 3 = true ∧
      Keeps (fun k => k = okey 0 0x7820 6 ∨ k = okey 0 0x7821 0) s s') ∧
  (∀ t ini v w s, s.inReset = false → s.get 0x7820 1 = 3 → s.takes ⟨ini, 0, 0x7820, 5, v⟩ w →
    (s.advance t).wallSetRefusal w.toNat = none → 
    ∃ o, s.accepts ⟨ini, 0, 0x7820, 5, v⟩ = some (o, w) ∧
      exec (.wallTimeSet t ini v) s = .next (s.ran t fun s => (s.took ⟨ini, 0, 0x7820, 5, v⟩ o w).wallSet w.toNat)) ∧
  (∀ t mac origin path s, s.inReset = false → mac < 2 → s.get (ethIdx mac + 1) 1 = 1 → s.pdOn 18 = true → s.edgeUp = true → s.noLock 33 = false →
    s.get 0x7820 1 ≠ mac + 1 → 
    ∃ s', exec (.gptpMessageRx t mac origin path) s = .next s' ∧
      s'.get (ethIdx mac + 1) 3 = min (s.get (ethIdx mac + 1) 3 + 1) (2 ^ 32 - 1) ∧
      Keeps (fun k => k = okey 0 (ethIdx mac + 1) 3) s s') ∧
  (∀ t mac origin path s, s.inReset = false → mac < 2 → s.get (ethIdx mac + 1) 1 = 1 → s.pdOn 18 = true → s.edgeUp = true → s.noLock 33 = false →
    s.get 0x7820 1 = mac + 1 → s.fabric.topology = 0 → 
    exec (.gptpMessageRx t mac origin path) s = .next (s.ran t fun s =>
      let s := (s.bump (ethIdx mac + 1) 3).setMaster s.selfNode;
      let rx : Int := (s.wallRaw / 8 * 8 : Nat) - (s.get (ethIdx mac) 0xA : Nat);
      (s.put 0x7820 6 (if s.get 0x9060 3 = 1 then 4 else 1)).takeOffset ((rx - origin - path) * 1000) 4))

/-- The channels of a Twin, notices, and Foxglove's configuration: A partner's heartbeat notes its time, plan and
health, and ends the state in which its link was lost. The heartbeat is sent on the up port, the alive pin toggles while
a plan runs, an edge of the partner's pin and an authentic witness heartbeat are noted. An evaluation notes the channels
lost, and declares the partner dead where they say so. A notice is counted with its flag, and its head noted or lifted.
A Foxglove write that is taken and authorised restarts the port's injection. Where the manual leaves a point open, it
holds for the model's choice in DEDUCED, log entries 23, 57, 73. -/
def Obligations.TwinIsSupervised : Prop :=
  (∀ t port health plan s, s.inReset = false → s.fabric.topology = 1 → s.linkUp port = true → 
    ∃ s', exec (.twinHeartbeatRx t port health plan) s = .next s' ∧ s'.fabric.twin.hbAt = max s.now t ∧
      s'.get 0x7841 5 = plan % 2 ^ 32 ∧ s'.get 0x7841 6 = health % 65536 ∧
      s'.get 0x7841 1 = (if s.get 0x7841 1 = 2 then 1 else s.get 0x7841 1)) ∧
  (∀ t k n s, s.inReset = false → s.planRuns = true → s.fabric.topology = 1 → s.carryPorts = [k] → n = s.get (chIdx k + 1) 4 → n < 64 → 
    exec (.twinHeartbeatSend t) s = .next (s.ran t fun s => s.sendMsgOn k n 3 0 0 (s.flowOf s.selfNode 0)
      ([byteOf s.selfNode, 0] ++ leBytes 2 s.health ++ leBytes 4 s.epoch ++ leBytes 4 s.planIdLow))) ∧
  (∀ t s, s.inReset = false → s.plan.active.isSome = true → s.plannerUp = true → 
    ∃ s', exec (.twinAliveOutToggle t) s = .next s' ∧ s'.fabric.twin.aliveOut = !s.fabric.twin.aliveOut ∧
      s'.out = .pin .twinAliveOut (if s.fabric.twin.aliveOut then 0 else 1) :: s.out ∧ Keeps (fun _ => False) s s') ∧
  (∀ t s, s.inReset = false → 
    ∃ s', exec (.twinAliveInEdge t) s = .next s' ∧ s'.fabric.twin.pinAt = max s.now t ∧
      bit (s'.get 0x9700 1) 2 = !bit (s.get 0x9700 1) 2 ∧ Keeps (fun k => k = okey 0 0x9700 1) s s') ∧
  (∀ t transport (f : TilFrame) (h : TilHead) s, s.inReset = false → s.get 0x7840 1 ≠ 0 → transport + 1 = s.get 0x7840 1 →
    h = { f.head with via := transport } → s.heard { f with head := h } = true → h.op = 0x8D → h.client = 0 →
    f.mac = tagOf (followKey h.tag ((numAt f.payload 20 1 + 256 - s.fabric.twin.gen) % 256) s.fabric.twin.gen s.fabric.twin.key) h.tag h
      f.len f.payload → 
    ∃ s', exec (.witnessHeartbeatRx t transport f) s = .next s' ∧ s'.fabric.twin.witAt = max s.now t ∧
      s'.fabric.twin.gen = numAt f.payload 20 1 ∧
      s'.fabric.twin.key = followKey h.tag ((numAt f.payload 20 1 + 256 - s.fabric.twin.gen) % 256) s.fabric.twin.gen s.fabric.twin.key ∧
      Keeps (fun k => k = okey 0 (ethIdx (senderMac h.port) + 1) 3) s s') ∧
  (∀ t (lost : Bool × Bool × Bool) s, s.inReset = false → s.fabric.topology = 1 → s.fabric.twin.formed = true →
    (s.advance t).channelsLost = lost → 
    ∃ s', exec (.twinEvaluation t) s = .next s' ∧
      s'.get 0x7841 2 = (if lost.1 then 1 else 0) + (if lost.2.1 then 2 else 0) + (if lost.2.2 then 4 else 0) ∧
      (partnerState (decide (s.get 0x7840 1 ≠ 0)) (s.get 0x7840 8 == 1) lost.1 lost.2.1 lost.2.2 = 3 → s.partner ≠ 3 →
        s'.get 0x7841 1 = 3 ∧ s'.get 0x7841 7 = max s.now t % 2 ^ 64)) ∧
  (∀ t head lift s, s.inReset = false → s.fabric.topology = 1 → s.get 0x7840 6 = 1 → 
    ∃ s', exec (.twinNoticeRx t head lift) s = .next s' ∧ s'.get 0x7843 6 = min (s.get 0x7843 6 + 1) (2 ^ 32 - 1) ∧
      s'.flag (okey 0 0x7842 0) 5 = true ∧ s'.fabric.twin.notices.contains head = !lift) ∧
  (∀ t ini port sub v w s, s.inReset = false → port < 4 → sub ≠ 0 → s.takes ⟨ini, 0, chIdx port + 3, sub, v⟩ w →
    s.foxRefusal port = none → 
    ∃ s', exec (.foxgloveConfig t ini port sub v) s = .next s' ∧ (s'.link port).foxCount = 0 ∧
      (s'.get (chIdx port + 3) 1 ≠ 0 → s'.flag (okey 0 0x7801 0) 8 = true))

/-- Touch frames, glove mode and the touch rings: A sample of a port that takes its baseline counts the frame and sums
its raw counts; the eighth frame makes the baseline and the port runs. A sample of a running port counts the frame,
stores the deltas of its nodes, with 0 at faulty electrodes, as the delta frame, and processes them, or takes the
baseline again after eight strongly negative frames of a node. Glove mode ends after GLOVE_EXIT_MS without a glove
candidate. The next record of a partition goes to its ring while there is room, with PRODUCER advanced modulo 2^32 and
its interrupt; in a full ring a record of a movement is dropped, with its count and flag, and a record of an end waits.
Where the manual leaves a point open, it holds for the model's choice in DEDUCED, log entry 20. -/
def Obligations.TouchFramesRun : Prop :=
  (∀ t port (q selfTx selfRx : List Int) s, s.inReset = false → s.noLock 6 = false → port < s.cfg.touchPorts →
    s.get (tpIdx port) 1 ≠ 0 → s.pdOn 16 = true → s.gangLost port = false → s.portState port = 2 →
    (s.touchPort port).nextMode = s.get (tpIdx port + 1) 2 → 
    ∃ s', exec (.touchSample t port q selfTx selfRx) s = .next s' ∧
      s'.get (tpIdx port + 1) 4 = (s.get (tpIdx port + 1) 4 + 1) % 2 ^ 32 ∧
      ((s.touchPort port).taken < 7 → s'.portState port = 2 ∧ (s'.touchPort port).taken = (s.touchPort port).taken + 1) ∧
      (7 ≤ (s.touchPort port).taken → s'.portState port = 3 ∧ (s'.touchPort port).taken = 0) ∧
      Keeps (fun k => k = okey 0 (tpIdx port + 1) 1 ∨ k = okey 0 (tpIdx port + 1) 4) s s') ∧
  (∀ t port (q selfTx selfRx : List Int) s, s.inReset = false → s.noLock 6 = false → port < s.cfg.touchPorts →
    s.get (tpIdx port) 1 ≠ 0 → s.pdOn 16 = true → s.gangLost port = false → s.portState port = 3 → 
    exec (.touchSample t port q selfTx selfRx) s = .next (s.ran t fun s =>
      let r := s.touchPort port;
      let s := s.wrap32 (tpIdx port + 1) 4;
      let mode := s.get (tpIdx port + 1) 2;
      let tx := (gangDims (s.get (tpIdx port) 2)).1;
      let rx := (gangDims (s.get (tpIdx port) 2)).2;
      let raw := (rawCounts tx rx q).map (modeScale mode);
      let d := (List.zipWith (fun b x => b - x) r.baseline raw).zipIdx.map (fun (y : Int × Nat) =>
        if r.badTx.contains (y.2 / rx) || r.badRx.contains (y.2 % rx) then 0 else y.1);
      let neg := d.zipIdx.map (fun (y : Int × Nat) =>
        if y.1 < -(s.get (tpIdx port) 0xD : Int) then nth 0 r.neg y.2 + 1 else 0);
      let s := (s.putTouchPort { r with neg := neg }).putBlk (okey 0 (tpIdx port + 4) 0)
        ((d.map (fun x => leBytes 2 (x % 65536).toNat)).flatten);
      let s := if neg.any (fun n => decide (8 ≤ n)) then s.retakeBaseline port
        else s.sampleFrame port mode ⟨tx, rx, d⟩ raw selfTx selfRx;
      let next := (s.touchPort port).nextMode;
      if next = mode then s
      else ((s.put (tpIdx port + 1) 2 next).put (tpIdx port + 1) 3 (s.effectiveHz port next)).setLines port (if next = 1 then 1 else 2))) ∧
  (∀ t port s, s.inReset = false → s.edgeUp = true → s.get (tpIdx port) 4 = 0 → (s.touchPort port).nextMode = 2 →
    (s.touchPort port).gloveAt + s.get (tpIdx port) 0x14 * 1000000 ≤ max s.now t → 
    ∃ s', exec (.gloveExit t port) s = .next s' ∧ (s'.touchPort port).nextMode = 1 ∧ (s'.touchPort port).gloves = 0 ∧
      Keeps (fun _ => False) s s') ∧
  (∀ t part (r : TouchRec) (l : List TouchRec) s, s.inReset = false → s.get (0x8080 + part) 1 ≠ 0 → s.touch.held = [] →
    s.touch.recs = r :: l → r.part = part → s.touchRoom part = true → 
    ∃ s', exec (.touchRecordWrite t part) s = .next s' ∧ s'.touch.recs = l ∧
      s'.get (0x8080 + part) 4 = (s.get (0x8080 + part) 4 + 1) % 2 ^ 32 ∧
      s'.out = .msi part (s.get (0x8080 + part) 6) :: .hostWrite part
        (s.get (0x8080 + part) 2 + s.get (0x8080 + part) 4 % 2 ^ s.get (0x8080 + part) 3 * 64)
        (r.bytes (nth 0 s.touch.seqs part)) :: s.out ∧
      Keeps (fun k => k = okey 0 (0x8080 + part) 4) s s') ∧
  (∀ t part (r : TouchRec) (l : List TouchRec) s, s.inReset = false → s.get (0x8080 + part) 1 ≠ 0 → s.touch.held = [] →
    s.touch.recs = r :: l → r.part = part → s.touchRoom part = false → 
    ∃ s', exec (.touchRecordWrite t part) s = .next s' ∧ s'.touch.recs = l ∧ s'.out = s.out ∧
      (r.kind = 3 ∨ r.kind = 4 ∨ r.kind = 7 ∨ r.kind = 8 → s'.touch.held = [r] ∧ Keeps (fun _ => False) s s') ∧
      (r.kind ≠ 3 → r.kind ≠ 4 → r.kind ≠ 7 → r.kind ≠ 8 → s'.touch.held = [] ∧ s'.flag (okey 0 0x8001 0) 4 = true ∧
        s'.get (0x8080 + part) 7 = min (s.get (0x8080 + part) 7 + 1) (2 ^ 32 - 1)))

/-- Touch self-test, hit masks and picks: An accepted write of 1 to SELFTEST_RUN puts the port in self-test; its end
with no fault or one fault among the measures notes that number, the fault's record and its electrodes, and leaves the
port running its baseline or off. A completed write of a hit mask of the right length waits for the next epoch. A
geometry under validation becomes valid, or fails with its code. A pick served by a ray unit that is present removes its
job, counts it, and gives the record its result. Where the manual leaves a point open, it holds for the model's choice
in DEDUCED, log entries 20, 63, 110. -/
def Obligations.TouchTestsAndMasks : Prop :=
  (∀ t ini port v w s, s.inReset = false → port < 4 → s.takes ⟨ini, 0, tpIdx port + 3, 1, v⟩ w → w.toNat = 1 →
    s.pdOn 16 = true → s.portState port ≠ 1 → 
    ∃ s', exec (.selftestRun t ini port v) s = .next s' ∧ s'.portState port = 1 ∧ (s'.touchPort port).touches = [] ∧
      s'.get (tpIdx port + 1) 5 = 0) ∧
  (∀ t port (m : SelfMeas) s, s.inReset = false → s.edgeUp = true → s.portState port = 1 → s.gangLost port = false → s.planKeys = [] →
    s.selfFaults port m = [] → 
    ∃ s', exec (.selftestDone t port m) s = .next s' ∧ s'.get (tpIdx port + 3) 2 = 0 ∧ s'.get (tpIdx port + 1) 6 = 0 ∧
      s'.portState port = (if s.get (tpIdx port) 1 = 1 then 2 else 0)) ∧
  (∀ t port (m : SelfMeas) k a e y g s, s.inReset = false → s.edgeUp = true → s.portState port = 1 → s.gangLost port = false → s.planKeys = [] →
    s.selfFaults port m = [(k, a, e, y, g)] → 
    ∃ s', exec (.selftestDone t port m) s = .next s' ∧ s'.get (tpIdx port + 3) 2 = 1 ∧
      s'.get (tpIdx port + 3) 3 = k % 256 + a % 2 * 256 + e % 65536 * 2 ^ 16 + y % 65536 * 2 ^ 32 + min g 65535 * 2 ^ 48 ∧
      s'.get (tpIdx port + 3) 4 = 0 ∧ s'.get (tpIdx port + 1) 6 = 1 ∧ s'.flag (okey 0 0x8001 0) 2 = true ∧
      s'.get (tpIdx port + 2) 4 = min (s.get (tpIdx port + 2) 4 + 1) (2 ^ 32 - 1) ∧
      s'.portState port = (if s.get (tpIdx port) 1 = 1 then 2 else 0)) ∧
  (∀ t ini slot data (m : Nat) s, s.inReset = false → slot < 512 →
    s.writeRefusal ⟨ini, 0, 0x8100 + slot, 3, 0⟩ true = none → s.maskRefusal slot data = none → data.length ≤ m →
    (findObj s.cfg (0x8100 + slot) 3).map (fun o => o.row.ty) = some (.domain m) → 
    ∃ s', exec (.hitMask t ini slot data) s = .next s' ∧
      s'.touch.newMasks = ⟨slot, s.get (0x8100 + slot) 2, data⟩ :: s.touch.newMasks.filter (fun x => x.slot != slot) ∧
      s'.get (0x8100 + slot) 4 = s.get (0x8100 + slot) 4) ∧
  (∀ t slot s, s.inReset = false → s.get (0x7200 + slot) 4 = 1 → bvhValid (s.getBlk (okey 0 (0x7200 + slot) 1)).data = false → 
    ∃ s', exec (.pickValidationDone t slot) s = .next s' ∧ s'.get (0x7200 + slot) 4 = 3 ∧
      s'.get (0x7200 + slot) 5 = codeBvhInvalid) ∧
  (∀ t slot s, s.inReset = false → s.get (0x7200 + slot) 4 = 1 → bvhValid (s.getBlk (okey 0 (0x7200 + slot) 1)).data = true →
    s.pickStore slot + (s.getBlk (okey 0 (0x7200 + slot) 1)).data.length ≤ (if s.cfg.compact then 8 else 16) * 2 ^ 20 → 
    ∃ s', exec (.pickValidationDone t slot) s = .next s' ∧ s'.get (0x7200 + slot) 4 = 2 ∧ s'.get (0x7200 + slot) 5 = 0 ∧
      s'.touch.newRegs.head? = some (slot, (s.getBlk (okey 0 (0x7200 + slot) 1)).data)) ∧
  (∀ t ray (j : PickJob) (l : List PickJob) s, s.inReset = false → s.touch.picks = j :: l →
    s.hasFunction j.record.part = true → s.rayUp ray = true → 
    ∃ s', exec (.pickResult t ray) s = .next s' ∧ s'.touch.picks = l ∧
      s'.get 0x7002 4 = min (s.get 0x7002 4 + 1) (2 ^ 32 - 1) ∧
      (let x := pickTraverse j.bvh (pickRay j.inv j.u j.v j.w j.h (bit j.flags 1)) (s.get 0x7004 4);
       s'.touch.recs = s.touch.recs ++ [{ j.record with pick := pickBytes x }] ∧
       (x.cut = true → s'.flag (okey 0 0x7001 0) 4 = true)))

/-- Haptic effects start, drive, brake and fault: An accepted write of PLAY to a channel that is on, and not in the
carrier period of another start, plays that effect and counts the start; a configured edge of a trigger pin starts its
effect in the same way. A control tick drives the gates of an idle channel with duty 0; it drives those of a playing
square segment with plus or minus its duty; a brake whose back-EMF has been small for two ticks leaves the channel idle.
More than 1,920 periods ended for current within 10 ms fault the channel, with its count and flag; a brake past
BRAKE_MAX_MS ends with its count and flag. FAULT_CLEAR of 1 lets a faulted channel that is on idle again. Where the
manual leaves a point open, it holds for the model's choice in DESIGN CHOICE, log entries 18, 114. -/
def Obligations.HapticsRun : Prop :=
  (∀ t ini chan v w s, s.inReset = false → chan < 8 → s.takes ⟨ini, 0, hapIdx chan + 1, 1, v⟩ w →
    s.hapticRefuses chan = false → s.effectEmpty w.toNat = false → w.toNat ≠ 0 →
    (s.haptic chan).startPeriod ≠ some (max s.now t * 384 / 1000000) → 
    ∃ s', exec (.play t ini chan v) s = .next s' ∧ s'.get (hapIdx chan + 2) 1 = 2 ∧
      s'.get (hapIdx chan + 2) 2 = w.toNat ∧ (s'.haptic chan).effect = some (s.effectRecord w.toNat) ∧
      s'.get (hapIdx chan + 2) 4 = min (s.get (hapIdx chan + 2) 4 + 1) (2 ^ 32 - 1)) ∧
  (∀ t n rising s, s.inReset = false → s.edgeUp = true → n < 8 → s.get (0x8330 + n) 1 ≠ 0xFF →
    s.get (0x8330 + n) 3 = 2 ∨ s.get (0x8330 + n) 3 = (if rising then 0 else 1) →
    s.hapticRefuses (s.get (0x8330 + n) 1) = false → s.effectEmpty (s.get (0x8330 + n) 2) = false →
    s.get (0x8330 + n) 2 ≠ 0 →
    (s.haptic (s.get (0x8330 + n) 1)).startPeriod ≠ some (max s.now t * 384 / 1000000) → 
    ∃ s', exec (.haptTrigEdge t n rising) s = .next s' ∧ bit (s'.get 0x9700 1) (5 + n) = rising ∧
      s'.get (hapIdx (s.get (0x8330 + n) 1) + 2) 1 = 2 ∧
      s'.get (hapIdx (s.get (0x8330 + n) 1) + 2) 2 = s.get (0x8330 + n) 2) ∧
  (∀ t chan (mv ma : Int) s, s.inReset = false → s.noLock 6 = false → s.hapticRefuses chan = false →
    (s.haptic chan).effect = none → (s.haptic chan).braking = false → 
    ∃ s', exec (.hapticTick t chan mv ma) s = .next s' ∧ s'.out = s.gates chan 0 :: s.out ∧
      (s'.haptic chan).current = ma ∧ Keeps (fun _ => False) s s') ∧
  (∀ t chan (mv ma : Int) (r : List Byte) s, s.inReset = false → s.noLock 6 = false → s.hapticRefuses chan = false →
    (s.haptic chan).effect = some r → (s.haptic chan).braking = false → (s.haptic chan).seg < segCount r →
    max s.now t < (s.haptic chan).segAt + segNs r (s.haptic chan).seg → segShape r (s.haptic chan).seg = 3 → 
    ∃ s', exec (.hapticTick t chan mv ma) s = .next s' ∧
      s'.out = s.gates chan (let d := (s.advance t).segDuty chan r (s.haptic chan);
        if (s.haptic chan).phase < 24000 then (d : Int) else -(d : Int)) :: s.out ∧
      (s'.haptic chan).phase = ((s.haptic chan).phase + segFreq r (s.haptic chan).seg) % 48000 ∧
      Keeps (fun _ => False) s s') ∧
  (∀ t chan (mv ma : Int) s, s.inReset = false → s.noLock 6 = false → s.hapticRefuses chan = false →
    (s.haptic chan).effect = none → (s.haptic chan).braking = true → 1 ≤ (s.haptic chan).small →
    (s.backEmfOf chan (s.haptic chan) mv ma).natAbs < s.get (hapIdx chan) 0xB * 1000000 → 
    ∃ s', exec (.hapticTick t chan mv ma) s = .next s' ∧ s'.get (hapIdx chan + 2) 1 = 1 ∧
      s'.get (hapIdx chan + 2) 2 = 0 ∧ (s'.haptic chan).braking = false ∧ s'.out = s.gates chan 0 :: s.out) ∧
  (∀ t chan s, s.inReset = false → s.edgeUp = true → s.hapticRefuses chan = false →
    1920 ≤ ((s.haptic chan).ended.filter (fun x => max s.now t < x + 10000000)).length → 
    ∃ s', exec (.channelOvercurrent t chan) s = .next s' ∧ s'.get (hapIdx chan + 2) 1 = 4 ∧
      s'.get (hapIdx chan + 2) 7 = min (s.get (hapIdx chan + 2) 7 + 1) (2 ^ 32 - 1) ∧
      s'.flag (okey 0 0x8320 0) 0 = true ∧ s.gates chan 0 ∈ s'.out) ∧
  (∀ t chan s, s.inReset = false → s.edgeUp = true → s.hapticRefuses chan = false →
    ((s.haptic chan).ended.filter (fun x => max s.now t < x + 10000000)).length < 1920 → 
    ∃ s', exec (.channelOvercurrent t chan) s = .next s' ∧ Keeps (fun _ => False) s s') ∧
  (∀ t chan s, s.inReset = false → (s.haptic chan).braking = true →
    (s.haptic chan).brakeAt + s.get (hapIdx chan) 0xC * 1000000 ≤ max s.now t → 
    ∃ s', exec (.brakeTimeout t chan) s = .next s' ∧ s'.get (hapIdx chan + 2) 1 = 1 ∧
      s'.get (hapIdx chan + 2) 8 = min (s.get (hapIdx chan + 2) 8 + 1) (2 ^ 32 - 1) ∧
      s'.flag (okey 0 0x8320 0) 1 = true) ∧
  (∀ t ini chan v w s, s.inReset = false → chan < 8 → s.takes ⟨ini, 0, hapIdx chan + 3, 0, v⟩ w → w.toNat = 1 →
    s.hapticState chan = 4 → s.isLost .haptic chan = false → s.get (hapIdx chan) 1 = 1 → 
    ∃ s', exec (.hapticFaultClear t ini chan v) s = .next s' ∧ s'.get (hapIdx chan + 2) 1 = 1)

/-- Axis updates, limits, homing, hand-over and safe torque off: A late update is an overrun with its count and flag;
the third in a row puts the axis into STO with FAULT 1 and the STO pin low. A hold of a knob axis drives output 0 in an
update. An edge of a limit input is noted with its level after inversion and its instant; one that stays asserted for
the debounce time latches, with its count and flag, and a second latched limit puts the axis into STO with FAULT 3. An
accepted HOME_REQUEST of 1 makes an axis whose encoder is not FAULTY homing; HOME asserted for the debounce time ends it
homed with the position shifted to HOME_OFFSET, and the time-out ends it with its count and flag, both through a
hand-over. A hand-over that is over leaves the axis in its next state. FAULT_CLEAR restarts an axis whose cause is gone
in its mode. Where the manual leaves a point open, it holds for the model's choice in DESIGN CHOICE, log entries 19, 79, 111, 114. -/
def Obligations.AxesUpdateAndStop : Prop :=
  (∀ t axis reply s, s.inReset = false → s.noLock 6 = false → s.axisOn axis = true → s.axState axis ≠ 0 →
    8 ≤ s.get (axIdx axis) 4 → s.axKind axis ≠ 2 → 
    ∃ s', exec (.axisUpdate t axis true reply) s = .next s' ∧ s'.flag (okey 0 0x85A1 0) 6 = true ∧
      s'.get (axIdx axis + 4) 1 = min (s.get (axIdx axis + 4) 1 + 1) (2 ^ 32 - 1) ∧
      ((s.axis axis).overruns < 2 → s'.axState axis = s.axState axis ∧ (s'.axis axis).overruns = (s.axis axis).overruns + 1) ∧
      (2 ≤ (s.axis axis).overruns → s'.axState axis = 0 ∧ s'.axFault axis = 1 ∧ .pin (.sto axis) 0 ∈ s'.out)) ∧
  (∀ t axis reply s, s.inReset = false → s.noLock 6 = false → s.axisOn axis = true → s.axState axis = 4 →
    s.axMode axis = 2 → 8 ≤ s.get (axIdx axis) 4 → s.axKind axis = 0 → 
    ∃ s', exec (.axisUpdate t axis false reply) s = .next s' ∧ s'.axState axis = 4 ∧ s'.axOutput axis = 0 ∧
      (s'.axis axis).overruns = 0 ∧ s'.out.head? = some (.motor axis 0 (s.elecAngle axis))) ∧
  (∀ t axis input level s, s.inReset = false → s.edgeUp = true → s.axisOn axis = true → input < 3 → 
    ∃ s', exec (.limitInputEdge t axis input level) s = .next s' ∧
      ((s'.axis axis).input input).on = (level != bit (s.get (axIdx axis) 0xE) (3 + input)) ∧
      ((s'.axis axis).input input).since = max s.now t ∧ s'.axState axis = s.axState axis ∧
      s'.axOutput axis = s.axOutput axis) ∧
  (∀ t axis input s, s.inReset = false → s.axisOn axis = true → input < 2 → ((s.axis axis).input input).on = true →
    ((s.axis axis).input input).ignored = false → ((s.axis axis).input input).wait = false →
    ((s.axis axis).input input).since + s.get (axIdx axis) 0x12 * 1000 ≤ max s.now t → s.axState axis ≠ 3 →
    s.axState axis ≠ 0 → s.limitBit axis (1 - input) = true → 
    ∃ s', exec (.limitLatch t axis input) s = .next s' ∧ s'.limitBit axis input = true ∧
      s'.flag (okey 0 0x85A1 0) 0 = true ∧ s'.get (axIdx axis + 4) 2 = min (s.get (axIdx axis + 4) 2 + 1) (2 ^ 32 - 1) ∧
      s'.axState axis = 0 ∧ s'.axFault axis = 3) ∧
  (∀ t axis input s, s.inReset = false → s.axisOn axis = true → input < 2 → ((s.axis axis).input input).on = true →
    ((s.axis axis).input input).ignored = false → ((s.axis axis).input input).wait = false →
    ((s.axis axis).input input).since + s.get (axIdx axis) 0x12 * 1000 ≤ max s.now t → s.axState axis ≠ 3 →
    s.limitBit axis (1 - input) = false → 
    ∃ s', exec (.limitLatch t axis input) s = .next s' ∧ s'.limitBit axis input = true ∧
      s'.flag (okey 0 0x85A1 0) 0 = true ∧ s'.axState axis = s.axState axis ∧
      ((s'.axis axis).input input).latchPos = s.axPos axis) ∧
  (∀ t ini axis v w s, s.inReset = false → axis < 6 → s.takes ⟨ini, 0, axIdx axis + 2, 2, v⟩ w → w.toNat = 1 →
    s.homeRefusal axis = none → s.encFaulty axis = false → 
    ∃ s', exec (.homeRequest t ini axis v) s = .next s' ∧ s'.axState axis = 3 ∧ (s'.axis axis).homingAt = max s.now t) ∧
  (∀ t axis s, s.inReset = false → s.axState axis = 3 → (s.axis axis).home.on = true →
    (s.axis axis).home.since + s.get (axIdx axis) 0x12 * 1000 ≤ max s.now t → 
    ∃ s', exec (.homeFound t axis) s = .next s' ∧ s'.axState axis = 5 ∧ s'.get (axIdx axis + 3) 5 = 1 ∧
      s'.axPos axis = wrapI32 (s.axPos axis + (s.getI (axIdx axis) 0x10 - (s.axis axis).home.edgePos)) ∧
      s'.flag (okey 0 0x85A1 0) 4 = true ∧ (s'.axis axis).after = 1) ∧
  (∀ t axis s, s.inReset = false → s.axState axis = 3 →
    (s.axis axis).homingAt + s.get (axIdx axis) 0x13 * 1000000 ≤ max s.now t → 
    ∃ s', exec (.homingTimeout t axis) s = .next s' ∧ s'.axState axis = 5 ∧ (s'.axis axis).after = 4 ∧
      s'.get (axIdx axis + 4) 5 = min (s.get (axIdx axis + 4) 5 + 1) (2 ^ 32 - 1) ∧ s'.flag (okey 0 0x85A1 0) 5 = true) ∧
  (∀ t axis e s, s.inReset = false → (s.axis axis).handEnd = some e → e ≤ max s.now t → s.axState axis = 5 → 
    ∃ s', exec (.handoverEnd t axis) s = .next s' ∧ s'.axState axis = (s.axis axis).after ∧ s'.get (axIdx axis + 3) 8 = 0 ∧
      (s'.axis axis).handEnd = none ∧ Keeps (fun k => k = okey 0 (axIdx axis + 3) 1 ∨ k = okey 0 (axIdx axis + 3) 8) s s') ∧
  (∀ t ini axis v w s, s.inReset = false → axis < 6 → s.takes ⟨ini, 0, axIdx axis + 2, 3, v⟩ w → w.toNat = 1 →
    s.axState axis = 0 → s.axFault axis ≠ 0 → s.axMode axis ≠ 0 → s.stoCause axis = 0 → 
    ∃ s', exec (.axisFaultClear t ini axis v) s = .next s' ∧ s'.axFault axis = 0 ∧ s'.axState axis = 5 ∧
      (s'.axis axis).after = s.axMode axis ∧ .pin (.sto axis) 1 ∈ s'.out)

/-- Encoders count transitions of A and B: A transition of one line moves COUNT by plus or minus 1 modulo 2^32 and each
POSITION that follows it; one of both lines is illegal, with its count and flag, and leaves COUNT. An unchanged pair
does nothing. The index edge with A and B high latches COUNT in INDEX. A clear of a FAULTY encoder without an illegal
transition in the last 100 ms ends FAULTY. Where the manual leaves a point open, it holds for the model's choice in log
entry 19. -/
def Obligations.EncodersCount : Prop :=
  (∀ t enc (a b : Bool) s, s.inReset = false → s.edgeUp = true → enc < 8 → s.pdOn 17 = true → (s.encoder enc).clearing = false →
    bit (s.get (0x8580 + enc * 4) 2) 0 = false → ((s.encoder enc).a != a) ≠ ((s.encoder enc).b != b) →
    s.axesOf enc = [] → 
    ∃ s', exec (.encoderTransition t enc a b) s = .next s' ∧
      (s'.getI (0x8581 + enc * 4) 1 = wrapI32 (s.getI (0x8581 + enc * 4) 1 + 1) ∨
        s'.getI (0x8581 + enc * 4) 1 = wrapI32 (s.getI (0x8581 + enc * 4) 1 - 1)) ∧
      (s'.encoder enc).a = a ∧ (s'.encoder enc).b = b ∧ Keeps (fun k => k = okey 0 (0x8581 + enc * 4) 1) s s') ∧
  (∀ t enc s, s.inReset = false → s.edgeUp = true → enc < 8 → s.pdOn 17 = true → (s.encoder enc).clearing = false →
    bit (s.get (0x8580 + enc * 4) 2) 0 = false → s.get (0x8581 + enc * 4) 3 = 1 → 
    ∃ s', exec (.encoderTransition t enc (!(s.encoder enc).a) (!(s.encoder enc).b)) s = .next s' ∧
      s'.get (0x8581 + enc * 4) 4 = min (s.get (0x8581 + enc * 4) 4 + 1) (2 ^ 32 - 1) ∧
      s'.flag (okey 0 0x85A1 0) 2 = true ∧ s'.getI (0x8581 + enc * 4) 1 = s.getI (0x8581 + enc * 4) 1) ∧
  (∀ t enc s, s.inReset = false → s.edgeUp = true → enc < 8 → s.pdOn 17 = true → (s.encoder enc).clearing = false →
    bit (s.get (0x8580 + enc * 4) 2) 0 = false → 
    ∃ s', exec (.encoderTransition t enc (s.encoder enc).a (s.encoder enc).b) s = .next s' ∧ Keeps (fun _ => False) s s') ∧
  (∀ t enc rising s, s.inReset = false → s.edgeUp = true → enc < 8 → s.pdOn 17 = true → (s.encoder enc).a = true → (s.encoder enc).b = true →
    rising ≠ bit (s.get (0x8580 + enc * 4) 2) 1 → 
    ∃ s', exec (.encoderIndexEdge t enc rising) s = .next s' ∧ s'.get (0x8581 + enc * 4) 2 = s.get (0x8581 + enc * 4) 1 ∧
      Keeps (fun k => k = okey 0 (0x8581 + enc * 4) 2) s s') ∧
  (∀ t ini enc v w s, s.inReset = false → enc < 8 → s.takes ⟨ini, 0, 0x8580 + enc * 4, 3, v⟩ w → w.toNat = 1 →
    s.get (0x8581 + enc * 4) 3 = 1 →
    (s.encoder enc).lastIllegal.elim true (fun x => decide (x + 100000000 ≤ max s.now t)) = true → 
    ∃ s', exec (.encClear t ini enc v) s = .next s' ∧ s'.get (0x8581 + enc * 4) 3 = 0)

/-- Audio blocks, mixing, amplifiers, AVB packets and converters: Where audio runs, a block that is due ends the block
before it, applies what is to be applied at its boundary, takes the converters that lock, and starts; one that is not
due changes nothing. Without audio only the boundary is applied. A gain is applied as the sum of the product and 2^23
divided by 2^24 rounded down and saturated to 32 bits, and a saturation counts in MIX_CLIPS with its flag. An amplifier
enable without a reason left falls. A packet of an enabled listener stream is kept until its presentation time, or, if
late, counted with its flag. An input whose converter does not lock is noted with its flag. Where the manual leaves a
point open, it holds for the model's choice in DESIGN CHOICE, log entry 21. -/
def Obligations.AudioRuns : Prop :=
  (∀ t srcs locked s, s.inReset = false →
    s.pdOn 17 = true → s.isLost .audio 0 = false → s.noLock 31 = false → (s.advance t).blockDue = true → 
    exec (.audioBlock t srcs locked) s = .next (s.ran t fun s =>
      ((s.endBlock.applyBoundary 4).asrcLock locked).startBlock srcs)) ∧
  (∀ t srcs locked s, s.inReset = false → s.pdOn 17 = false ∨ s.isLost .audio 0 = true ∨ s.noLock 31 = true → 
    exec (.audioBlock t srcs locked) s = .next (s.ran t fun s => s.applyBoundary 4)) ∧
  (∀ t srcs locked s, s.inReset = false →
    s.pdOn 17 = true → s.isLost .audio 0 = false → s.noLock 31 = false → (s.advance t).blockDue = false → 
    exec (.audioBlock t srcs locked) s = .next (s.ran t fun s => s)) ∧
  (∀ (x gain : Int) (s : State), 
    (s.applyGain x gain).2 = max (-2 ^ 31) (min (2 ^ 31 - 1) (Int.ediv (x * gain + 2 ^ 23) (2 ^ 24))) ∧
    ((s.applyGain x gain).2 ≠ Int.ediv (x * gain + 2 ^ 23) (2 ^ 24) →
      (s.applyGain x gain).1.get 0x8802 1 = min (s.get 0x8802 1 + 1) (2 ^ 32 - 1) ∧
      (s.applyGain x gain).1.flag (okey 0 0x8801 0) 0 = true)) ∧
  (∀ t n s, s.inReset = false → n < 8 → s.ampHigh n = true → s.ampWanted n = false → 
    ∃ s', exec (.ampEnFall t n) s = .next s' ∧ s'.ampHigh n = false ∧ s'.out = .pin (.ampEn n) 0 :: s.out ∧
      Keeps (fun k => k = okey 0 0x89A0 0xA) s s') ∧
  (∀ t stream time (data : List (List Int)) s, s.inReset = false → 8 ≤ stream → stream < 16 → s.get (0x8820 + stream) 1 ≠ 0 →
    s.edgeUp = true → s.noLock 33 = false → s.pdOn 17 = true → 
    ∃ s', exec (.avbPacketRx t stream time data) s = .next s' ∧
      (max s.now t ≤ time → s'.audio.avb = s.audio.avb ++ [⟨stream, time, data⟩] ∧ s'.get 0x8802 4 = s.get 0x8802 4) ∧
      (time < max s.now t → s'.audio.avb = s.audio.avb ∧ s'.get 0x8802 4 = min (s.get 0x8802 4 + 1) (2 ^ 32 - 1) ∧
        s'.flag (okey 0 0x8801 0) 4 = true)) ∧
  (∀ t input s, s.inReset = false → s.edgeUp = true → input < 64 → s.converted (s.get (inIdx input) 1) (s.get (inIdx input) 2) = true → 
    ∃ s', exec (.asrcUnlock t input) s = .next s' ∧ (s'.inRun input).unlocked = true ∧ s'.flag (okey 0 0x8801 0) 6 = true)

/-- Event records leave the store, slots close, ALIVE toggles: With no loss summary due, the next record of a ready
event ring is written at PRODUCER, which advances by one modulo 2^32, and the ring's interrupt is sent. A coalescing
slot whose window has ended is gone, and one without a count leaves no record. ALIVE takes the other level while the
planner is up. Where the manual leaves a point open, it holds for the model's choice in DEDUCED, log entry 65. -/
def Obligations.EventRecordsMove : Prop :=
  (∀ t part r s, s.inReset = false → s.planRuns = true → s.evRingReady part = true →
    (s.advance t).summaryDue (.ring part) = none → s.nextRecord (.ring part) = some r → 
    ∃ s', exec (.eventRecordWrite t part) s = .next s' ∧
      s'.get (evIdx part) 4 = (s.get (evIdx part) 4 + 1) % 2 ^ 32 ∧
      s'.out = .msi part (s.get (evIdx part) 6) ::
        .hostWrite part ((s.evRing part).base + s.get (evIdx part) 4 % 2 ^ (s.evRing part).log2 * 32) r.bytes :: s.out) ∧
  (∀ t source code part z s, s.inReset = false → s.planRuns = true →
    s.ev.slots.find? (fun z => z.source == source && z.code == code && z.part == part) = some z → z.ends ≤ max s.now t →
    z.count = 0 → 
    ∃ s', exec (.coalesceWindowEnd t source code part) s = .next s' ∧
      s'.ev = { s.ev with slots := s.ev.slots.filter (fun x => !(x.source == source && x.code == code && x.part == part)) } ∧
      Keeps (fun _ => False) s s') ∧
  (∀ t source code part z s, s.inReset = false → s.planRuns = true →
    s.ev.slots.find? (fun z => z.source == source && z.code == code && z.part == part) = some z → z.ends ≤ max s.now t → 
    ∃ s', exec (.coalesceWindowEnd t source code part) s = .next s' ∧ s' = s.ran t (fun s => s.closeSlot z) ∧ Keeps evKey s s') ∧
  (∀ t s, s.inReset = false → s.plannerUp = true → 
    ∃ s', exec (.aliveToggle t) s = .next s' ∧ s'.ev.alivePin = !s.ev.alivePin ∧
      s'.out = .pin .alive (if s.ev.alivePin then 0 else 1) :: s.out ∧ Keeps (fun _ => False) s s')

/-- Counter overflow, dumps, trace pages and frame capture: A counter that overflows starts again from RELOAD or 0,
counts the overflow in 16 bits and sets its bit of OVF_PENDING. A dump latch that is due sets the next one; one that is
skipped is counted. A page whose first record is old enough is handed over while the link is up, and PRODUCER advances.
A CONSUMER value behind the device's is ignored under overwrite-oldest, and any other write takes effect. A capture that
fell behind is abandoned and counted; one that is whole goes to its buffer, and PRODUCED advances. Where the manual
leaves a point open, it holds for the model's choice in DESIGN CHOICE, log entries 38, 39, 64, 112. -/
def Obligations.CountersAndTraceRun : Prop :=
  (∀ t k s, s.inReset = false → k < 1024 → s.counts k = true → 
    ∃ s', exec (.counterOverflow t k) s = .next s' ∧
      s'.get (pcIdx k) (pcConfig k + 2) =
        (if bit (s.get (pcIdx k) (pcConfig k)) 18 then s.get (pcIdx k) (pcConfig k + 1) else 0) ∧
      s'.get (pcIdx k) (pcConfig k + 3) = min (s.get (pcIdx k) (pcConfig k + 3) + 1) (2 ^ 16 - 1) ∧
      bit (nth 0 (s'.getBlk (okey 0 0x8D00 2)).data (k / 8)).toNat (k % 8) = true) ∧
  (∀ t skip s, s.inReset = false → s.get 0x8D20 1 ≠ 0 → s.trace.dumpAt ≤ max s.now t → 
    ∃ s', exec (.dumpLatch t skip) s = .next s' ∧ s'.trace.dumpAt = max s.now t + s.get 0x8D20 2 * 1000 ∧
      (skip = true → s'.get 0x8D00 3 = min (s.get 0x8D00 3 + 1) (2 ^ 32 - 1) ∧ s'.trace.dumpSeq = s.trace.dumpSeq) ∧
      (skip = false → s'.trace.dumpSeq = (s.trace.dumpSeq + 1) % 2 ^ 32)) ∧
  (∀ t (ring : Nat) a s, s.inReset = false → ring < 8 → (s.traceRun ring).first = some a → s.get (trIdx ring) 1 = 1 → s.get 0x7A00 1 ≠ 0 →
    a + s.get (trIdx ring) 8 * 1000000 ≤ max s.now t → s.traceLast (s.traceRun ring) = false ∨ (s.traceRun ring).policy ≠ 0 → 
    ∃ s', exec (.tracePageFlush t ring) s = .next s' ∧ s'.get (trIdx ring) 6 = (s.get (trIdx ring) 6 + 1) % 2 ^ 32 ∧
      (s.traceLast (s.traceRun ring) = true → s'.get (trIdx ring) 7 = (s.get (trIdx ring) 7 + 1) % 2 ^ 32)) ∧
  (∀ t ini (ring : Nat) v w s, s.inReset = false → ring < 8 → s.takes ⟨ini, 0, trIdx ring, 7, v⟩ w → 
    (∃ o, s.accepts ⟨ini, 0, trIdx ring, 7, v⟩ = some (o, w) ∧
      exec (.traceConsumerWrite t ini ring v) s = .next (s.ran t fun s =>
        (s.took ⟨ini, 0, trIdx ring, 7, v⟩ o w).traceConsumer ring (s.get (trIdx ring) 7) w.toNat)) ∧
    ∃ s', exec (.traceConsumerWrite t ini ring v) s = .next s' ∧
      ((s.traceRun ring).policy = 1 → serialLater 32 (s.get (trIdx ring) 7) w.toNat = true →
        s'.get (trIdx ring) 7 = s.get (trIdx ring) 7)) ∧
  (∀ t head lag p (h : PlanHead) s, s.inReset = false → s.plan.active = some p → p.headOf head = some h → (s.capRun head).active = true →
    65536 < lag ∨ s.get 0x7A00 1 = 0 → 
    ∃ s', exec (.captureFrameDone t head lag) s = .next s' ∧ (s'.capRun head).active = false ∧
      s'.get (fcIdx head) 0xA = min (s.get (fcIdx head) 0xA + 1) (2 ^ 32 - 1)) ∧
  (∀ t head lag p (h : PlanHead) s, s.inReset = false → s.plan.active = some p → p.headOf head = some h → (s.capRun head).active = true →
    (s.capRun head).point = 0 → lag ≤ 65536 → s.get 0x7A00 1 ≠ 0 →
    (p.ownerHead h).hActive * (p.ownerHead h).vActive * 4 ≤ (s.capRun head).data.length → 
    ∃ s', exec (.captureFrameDone t head lag) s = .next s' ∧ (s'.capRun head).active = false ∧ (s'.capRun head).data = [] ∧
      s'.get (fcIdx head) 7 = (s.get (fcIdx head) 7 + 1) % 2 ^ 32 ∧ s'.out.length = s.out.length + 1)

/-- The PCIe link and its functions: A link that trains while none is up is noted with its generation, width and mode,
and the base-address window takes effect; a link that goes down is noted as down. A function reset disables the
partition's event ring and withdraws its mailbox request. A peer-to-peer request is answered Unsupported Request and
changes nothing else. Where the manual leaves a point open, it holds for the model's choice in DEDUCED, log entries 42, 65. -/
def Obligations.PcieFunctionsFollow : Prop :=
  (∀ t gen width vfs flit s, s.inReset = false → s.pdOn 14 = true → s.isLost .pcie 0 = false → s.get 0x7A00 1 = 0 → 0 < gen →
    gen ≤ 6 → 
    ∃ s', exec (.pcieLinkUp t gen width vfs flit) s = .next s' ∧ s'.get 0x7A00 1 = gen ∧
      s'.get 0x7A00 2 = min width (if s.cfg.compact then 8 else 16) ∧ s'.get 0x7A00 3 = (if flit then 1 else 0) ∧
      s'.get 0x7A00 4 = min vfs (if s.cfg.compact then 8 else 16) ∧ s'.place.vfBar = s.get 0x3490 1 ∧
      Keeps (fun k => ∃ u, 1 ≤ u ∧ u ≤ 4 ∧ k = okey 0 0x7A00 u) s s') ∧
  (∀ t s, s.inReset = false → s.get 0x7A00 1 ≠ 0 → 
    ∃ s', exec (.pcieLinkDown t) s = .next s' ∧ s'.get 0x7A00 1 = 0 ∧ s'.get 0x7A00 2 = 0 ∧ s'.get 0x7A00 3 = 0 ∧
      s'.get 0x7A00 4 = 0) ∧
  (∀ t part s, s.inReset = false → part < 16 → 
    ∃ s', exec (.flr t part) s = .next s' ∧ s'.get (evIdx part) 1 = 0 ∧ s'.til.mailbox.any (fun m => m.part == part) = false) ∧
  (∀ t part s, s.inReset = false → 
    ∃ s', exec (.peerToPeerRequest t part) s = .next s' ∧ s'.out = .unsupported part :: s.out ∧ Keeps (fun _ => False) s s')

/-- Power-on reset, RESET_N, software reset and domain reset: A power-on reset clears device time, holds the device in
reset, notes cause 0, and every byte of the internal memory outside eMRAM then reads 0 (DESIGN CHOICE, log entry 10). RESET_N low holds
the device; its rise releases it, and start-up begins where nothing else holds it. An accepted write of DEVICE_RESET
resets the device with cause 2 and starts it; an accepted write of DOMAIN_RESET of a switchable domain that is on and
that the plan does not use resets that domain. While the device is held, a command of any other kind only lets time
pass. Where the manual leaves a point open, it holds for the model's choice in DESIGN CHOICE, log entries 10, 47. -/
def Obligations.ResetsHoldAndStart : Prop :=
  (∀ t s, ∃ s', exec (.powerOnReset t) s = .next s' ∧ s'.now = 0 ∧ s'.sys.held = [(0, 0)] ∧ s'.inReset = true ∧
      s'.get 0x9021 1 = 0) ∧
  (∀ t s a, a < emramBase ∨ emramBase + 32 * mib ≤ a → 
    ∃ s', exec (.powerOnReset t) s = .next s' ∧ s'.rdByte a = 0) ∧
  (∀ t node senior mode s, ∃ s', exec (.resetN t true node senior mode) s = .next s' ∧ s'.inReset = true ∧
      s'.sys.held.any (fun x => x.1 == 0) = true) ∧
  (∀ t node senior mode d s, s.sys.held = [(0, d)] → 
    exec (.resetN t false node senior mode) s = .next (s.ran t fun s =>
      ({ s with sys := { s.sys with straps := (node, senior, mode), held := [] } } : State).startUp)) ∧
  (∀ t ini v w s, s.inReset = false → s.takes ⟨ini, 0, 0x9020, 2, v⟩ w → 
    ∃ o, s.accepts ⟨ini, 0, 0x9020, 2, v⟩ = some (o, w) ∧
      exec (.deviceReset t ini v) s = .next (s.ran t fun s => (s.took ⟨ini, 0, 0x9020, 2, v⟩ o w).resetAndStart 2)) ∧
  (∀ t ini v w s, s.inReset = false → s.takes ⟨ini, 0, 0x9020, 1, v⟩ w → s.get (0x9000 + w.toNat) 3 = 1 →
    s.planUse w.toNat = false → s.pdOn w.toNat = true → 
    ∃ o, s.accepts ⟨ini, 0, 0x9020, 1, v⟩ = some (o, w) ∧
      exec (.domainReset t ini v) s = .next (s.ran t fun s => (s.took ⟨ini, 0, 0x9020, 1, v⟩ o w).resetDomain w.toNat)) ∧
  (∀ t node port s, s.inReset = true → 
    exec (.nodeHeartbeatRx t node) s = .next (s.advance t) ∧ exec (.hpdPlug t port) s = .next (s.advance t))

/-- Power-on of a domain and the self-test: A domain that is being switched on is reset, takes its configuration, and is
on, with flag 1 of PowerEvents. An accepted RUN mask takes its domains out of service and notes that a test runs; its
end, which tests every unit of the domains, notes RESULT 0 and its time. The start-up self-test ends with its time
noted, and the planner is released. Where the manual leaves a point open, it holds for the model's choice in log entries
45, 50, 113, 122. -/
def Obligations.DomainsAndTestsComplete : Prop :=
  (∀ t domain s, s.inReset = false → domain < 20 → s.get (0x9000 + domain) 1 = 1 →
    s.pdOn 15 = true ∨ (domain ≠ 9 ∧ domain ≠ 10) → 
    (∃ s', exec (.domainPowerOnDone t domain) s = .next s' ∧ s'.flag (okey 0 0x9018 0) 1 = true) ∧
    exec (.domainPowerOnDone t domain) s = .next (s.ran t fun s =>
      let s := ((s.cancelDomain domain).clearState domain).resetUnits domain;
      (((s.put (0x9000 + domain) 1 2).bump (0x9000 + domain) 5).startUnits domain).raise 0x9018 domain 1 sevNotice 0 [])) ∧
  (∀ t ini mask w s, s.inReset = false → s.takes ⟨ini, 0, 0x9100, 1, mask⟩ w → s.bistRefusal w.toNat = none → 
    ∃ s', exec (.bistRun t ini mask) s = .next s' ∧ s'.sys.bist = w.toNat ∧ s'.sys.bistIni = some ini ∧ s'.get 0x9100 2 = 1) ∧
  (∀ t found s, s.inReset = false → s.sys.tested = true → s.sys.bist ≠ 0 → 
    exec (.bistDone t found) s = .next (s.ran t fun s => (s.testDomains found (fun d => bit s.sys.bist d)).bistEnd s.sys.bist)) ∧
  (∀ t found s, s.inReset = false → s.sys.tested = false → 
    exec (.bistDone t found) s = .next (s.ran t fun s =>
      let s := s.testDomains found (fun _ => true);
      let s : State := { s with sys := { s.sys with tested := true } };
      ((s.put 0x9030 3 (s.startupUs s.now)).put 0x9100 4 s.now).releasePlanner))

/-- Planner restart and partition restart: With some usable planner cores silent and others not, the silent ones are
marked unusable; with all of them silent the planner trips. A planner in reset that is verified again runs, with its
count and flag 7 of PowerEvents. An accepted RESTART of a partition with none pending marks its restart pending; the
restart's end clears the mark, counts it, notes its time and sets flag 5. Where the manual leaves a point open, it holds
for the model's choice in DEDUCED, log entries 24, 25, 67, 85, 114. -/
def Obligations.PlannerRestarts : Prop :=
  (∀ t (silent : List Nat) s, s.inReset = false → s.plannerUp = true →
    ((List.range 4).filter (fun n => !s.isLost .planner n)).any (fun n => silent.contains n) = true →
    ((List.range 4).filter (fun n => !s.isLost .planner n)).all (fun n => silent.contains n) = false → 
    exec (.plannerWatchdogTrip t silent) s = .next (s.ran t fun s => foldS (fun s n => s.loseUnit .planner n) s
      (((List.range 4).filter (fun n => !s.isLost .planner n)).filter (fun n => silent.contains n)))) ∧
  (∀ t (silent : List Nat) s, s.inReset = false → s.plannerUp = true →
    ((List.range 4).filter (fun n => !s.isLost .planner n)).any (fun n => silent.contains n) = true →
    ((List.range 4).filter (fun n => !s.isLost .planner n)).all (fun n => silent.contains n) = true → 
    exec (.plannerWatchdogTrip t silent) s = .next (s.ran t State.plannerTrip)) ∧
  (∀ t s, s.inReset = false → s.get 0x9002 1 = 5 → s.sys.plannerDead = false → s.markhorUp = true → s.sys.cancelled = [] → 
    ∃ s', exec (.plannerRestartDone t) s = .next s' ∧ s'.get 0x9002 1 = 2 ∧ s'.flag (okey 0 0x9018 0) 7 = true ∧
      s'.get 0x9021 3 = min (s.get 0x9021 3 + 1) (2 ^ 32 - 1)) ∧
  (∀ t ini part v done rings w s, s.inReset = false → 0 < part → part < 16 → s.takes ⟨ini, 0, 0x9050 + part, 1, v⟩ w →
    s.get (0x9050 + part) 2 ≠ 1 → 
    ∃ s', exec (.partitionRestart t ini part v done rings) s = .next s' ∧ s'.get (0x9050 + part) 2 = 1) ∧
  (∀ t part s, s.inReset = false → 0 < part → part < 16 → s.get (0x9050 + part) 2 = 1 → 
    ∃ s', exec (.partitionRestartDone t part) s = .next s' ∧ s'.get (0x9050 + part) 2 = 0 ∧
      s'.get (0x9050 + part) 3 = min (s.get (0x9050 + part) 3 + 1) (2 ^ 32 - 1) ∧
      s'.get (0x9050 + part) 4 = max s.now t % 2 ^ 64 ∧ s'.flag (okey 0 0x9018 0) 5 = true ∧
      Keeps (fun k => k / 256 = 0x9050 + part ∨ flagKey (okey 0 0x9018 0) k) s s')

/-- I²C, SPI and UART transfers start and end: An accepted GO of an idle I²C controller makes it busy with a transfer;
its end returns it to idle with the code of its outcome. An accepted GO of an enabled SPI controller, or TX_LEN of an
enabled UART, sends the bytes of its transmit buffer; SPI bytes read go to RXDATA with result 0; the last UART byte
leaves none unsent. A received byte is appended to RXDATA below 4,096 bytes, and otherwise counted as an overrun with
its flag; a read of RXDATA by an initiator with the read right returns and removes the first bytes. Where the manual
leaves a point open, it holds for the model's choice in DEDUCED, log entries 56, 88. -/
def Obligations.LowSpeedTransfersRun : Prop :=
  (∀ t ini bus v w s, s.inReset = false → bus < 16 → s.get (i2cIdx bus + 1) 8 = 1 →
    s.takes ⟨ini, 0, i2cIdx bus + 1, 5, v⟩ w → 
    ∃ s', exec (.i2cGo t ini bus v) s = .next s' ∧ s'.get (i2cIdx bus + 1) 8 = 2 ∧ (s'.i2cRun bus).phase = 1) ∧
  (∀ t bus code data s, s.inReset = false → s.edgeUp = true → bus < 16 → (s.i2cRun bus).phase = 1 → 
    ∃ s', exec (.i2cTransferDone t bus code data) s = .next s' ∧ s'.get (i2cIdx bus + 1) 8 = 1 ∧
      s'.get (i2cIdx bus + 1) 9 = (if code = 0 then 0 else if code = 1 then codeAddressNack else codeArbLost) ∧
      (s'.i2cRun bus).phase = 0 ∧
      (code = 0 → s.get (i2cIdx bus + 1) 3 ≠ 0 → (s'.getBlk (okey 0 (i2cIdx bus + 1) 7)).data =
        bytesAt (data.take (s.get (i2cIdx bus + 1) 3)) 0 32)) ∧
  (∀ t ini unit v w s, s.inReset = false → unit < 4 → s.lowRuns = true → s.get (spiIdx unit) 1 = 1 → unit ∉ s.low.spi →
    s.takes ⟨ini, 0, spiIdx unit + 1, 3, v⟩ w → 
    ∃ s', exec (.spiGo t ini unit v) s = .next s' ∧ unit ∈ s'.low.spi ∧
      s'.out = .bus 1 unit [s.get (spiIdx unit + 1) 1, s.get (spiIdx unit) 3, spiDivider (s.get (spiIdx unit) 4)]
        (bytesAt (s.getBlk (okey 0 (spiIdx unit + 1) 4)).data 0 (s.get (spiIdx unit + 1) 2)) :: s.out) ∧
  (∀ t unit data s, s.inReset = false → s.edgeUp = true → unit < 4 → unit ∈ s.low.spi → 
    ∃ s', exec (.spiTransferDone t unit data) s = .next s' ∧ unit ∉ s'.low.spi ∧ s'.get (spiIdx unit + 1) 6 = 0 ∧
      (s'.getBlk (okey 0 (spiIdx unit + 1) 5)).data = bytesAt (data.take (s.get (spiIdx unit + 1) 2)) 0 64) ∧
  (∀ t ini uart v w s, s.inReset = false → uart < 4 → s.lowRuns = true → s.get (uartIdx uart) 1 = 1 → uart ∉ s.low.uart →
    s.takes ⟨ini, 0, uartIdx uart + 1, 2, v⟩ w → 
    ∃ s', exec (.txLen t ini uart v) s = .next s' ∧ uart ∈ s'.low.uart ∧
      s'.out = .bus 2 uart ([3, 4, 5, 6, 7].map (s.get (uartIdx uart)))
        (bytesAt (s.getBlk (okey 0 (uartIdx uart + 1) 1)).data 0 w.toNat) :: s.out) ∧
  (∀ t uart s, s.inReset = false → s.edgeUp = true → 
    ∃ s', exec (.uartTxComplete t uart) s = .next s' ∧ uart ∉ s'.low.uart ∧ Keeps (fun _ => False) s s') ∧
  (∀ t uart b err s, s.inReset = false → s.edgeUp = true → uart < 4 → s.get (uartIdx uart) 1 ≠ 0 → s.pdOn 18 = true → 
    ∃ s', exec (.uartByteRx t uart b err) s = .next s' ∧
      ((s.getBlk (rxKey uart)).data.length < 4096 → (s'.getBlk (rxKey uart)).data = (s.getBlk (rxKey uart)).data ++ [b]) ∧
      (4096 ≤ (s.getBlk (rxKey uart)).data.length → (s'.getBlk (rxKey uart)).data = (s.getBlk (rxKey uart)).data ∧
        s'.flag (okey 0 0x9401 0) 5 = true ∧
        s'.get (uartIdx uart + 1) 4 = min (s.get (uartIdx uart + 1) 4 + 1) (2 ^ 32 - 1)) ∧
      s'.get (uartIdx uart + 1) 5 = (if err then min (s.get (uartIdx uart + 1) 5 + 1) (2 ^ 32 - 1) else s.get (uartIdx uart + 1) 5)) ∧
  (∀ t ini uart n s, s.inReset = false → s.edgeUp = true → uart < 4 → s.mayRead ini (uartIdx uart + 1) 3 = true → 
    ∃ s', exec (.uartRxdataRead t ini uart n) s = .next s' ∧
      s'.out = .readBytes ini.part ((s.getBlk (rxKey uart)).data.take n) :: s.out ∧
      (s'.getBlk (rxKey uart)).data = (s.getBlk (rxKey uart)).data.drop n ∧ Keeps (fun k => k = rxKey uart) s s')

/-- I²C time-outs and recovery: A running transfer whose line is held low for too long ends and recovery begins. An
accepted RECOVER on an idle or stuck bus, whose bank has its supply, begins recovery. A recovery that samples SDA high
makes the bus idle, counting a recovery with its flag where pulses were needed; one that fails starts the reset pulse
where a reset pin is configured and has not been tried, and otherwise leaves the bus stuck with its flag and its count.
Where the manual leaves a point open, it holds for the model's choice in DEDUCED, log entry 56. -/
def Obligations.BusRecoveryRuns : Prop :=
  (∀ t bus s, s.inReset = false → bus < 16 → (s.i2cRun bus).phase = 1 → s.bankOk (2 * bus) = true → 
    ∃ s', exec (.busTimeout t bus) s = .next s' ∧ s'.get (i2cIdx bus + 1) 9 = codeBusTimeout ∧
      s'.get (i2cIdx bus + 1) 8 = 2 ∧ (s'.i2cRun bus).phase = 2) ∧
  (∀ t ini bus v w s, s.inReset = false → bus < 16 → s.get (i2cIdx bus + 1) 8 = 1 ∨ s.get (i2cIdx bus + 1) 8 = 3 →
    (s.i2cRun bus).phase = 0 → (s.i2cRun bus).waits = false → s.bankOk (2 * bus) = true →
    s.takes ⟨ini, 0, i2cIdx bus + 1, 6, v⟩ w → 
    ∃ s', exec (.recover t ini bus v) s = .next s' ∧ s'.get (i2cIdx bus + 1) 8 = 2 ∧ (s'.i2cRun bus).phase = 2) ∧
  (∀ t bus pulses s, s.inReset = false → s.edgeUp = true → bus < 16 → (s.i2cRun bus).phase = 2 → pulses ≤ 9 → 
    ∃ s', exec (.i2cRecoveryDone t bus true pulses) s = .next s' ∧ s'.get (i2cIdx bus + 1) 8 = 1 ∧
      (s'.i2cRun bus).phase = 0 ∧
      (pulses ≠ 0 → s'.flag (okey 0 0x9401 0) 1 = true ∧
        s'.get (i2cIdx bus + 1) 0xA = min (s.get (i2cIdx bus + 1) 0xA + 1) (2 ^ 32 - 1))) ∧
  (∀ t bus scl pulses s, s.inReset = false → s.edgeUp = true → bus < 16 → (s.i2cRun bus).phase = 2 → scl = false ∨ 9 < pulses →
    s.get (i2cIdx bus) 5 ≠ 0xFF → (s.i2cRun bus).tried = false → 
    ∃ s', exec (.i2cRecoveryDone t bus scl pulses) s = .next s' ∧
      (s'.i2cRun bus).phase = 2 ∧ (s'.i2cRun bus).tried = true ∧ (s'.i2cRun bus).pulse = true) ∧
  (∀ t bus scl pulses s, s.inReset = false → s.edgeUp = true → bus < 16 → (s.i2cRun bus).phase = 2 → scl = false ∨ 9 < pulses →
    s.get (i2cIdx bus) 5 = 0xFF ∨ (s.i2cRun bus).tried = true → 
    ∃ s', exec (.i2cRecoveryDone t bus scl pulses) s = .next s' ∧ s'.get (i2cIdx bus + 1) 8 = 3 ∧
      s'.flag (okey 0 0x9401 0) 0 = true ∧
      s'.get (i2cIdx bus + 1) 0xB = min (s.get (i2cIdx bus + 1) 0xB + 1) (2 ^ 32 - 1))

/-- GPIO banks and pins, CAN bus-off and Ethernet links: A pin that takes another level is in the set of high pins or
not, as the level says, and only IN of its bank follows. A write of OUT that is taken leaves the bits of pins that the
writer does not own. A voltage below 1.62 V sets UNDERVOLT of the bank, one above 1.65 V clears it, and both are noted.
A transmit error count of 256 or more takes a running CAN controller bus-off, with its count and flag; recovery makes it
active with zero error counters. A link that goes up is noted with its speed; one that goes down is noted with its flag.
At a gate cycle start an enabled MAC has a gate list. Where the manual leaves a point open, it holds for the model's
choice in DEDUCED, log entries 47, 56. -/
def Obligations.PinsAndLinksFollow : Prop :=
  (∀ t pin level s, s.inReset = false → s.edgeUp = true → pin < 128 → s.low.high.contains pin ≠ level → 
    ∃ s', exec (.gpioInputEdge t pin level) s = .next s' ∧ s'.low.high.contains pin = level ∧
      Keeps (fun k => k = okey 0 (0x9500 + pin / 16) 2) s s') ∧
  (∀ t ini bank gw v w s, s.inReset = false → bank < 8 → s.takes ⟨ini, gw, 0x9500 + bank, 1, v⟩ w → 
    ∃ s', exec (.gpioOutWrite t ini bank gw v) s = .next s' ∧
      s'.get (0x9500 + bank) 1 = ((w.toNat &&& s.ownedMask ini bank) |||
        (s.get (0x9500 + bank) 1 - (s.get (0x9500 + bank) 1 &&& s.ownedMask ini bank))) % 2 ^ 64) ∧
  (∀ t bank mv s, s.inReset = false → s.edgeUp = true → bank < 8 → s.get (0x9500 + bank) 4 ≠ 1 → mv < 1620 → 
    ∃ s', exec (.bankUndervoltage t bank mv) s = .next s' ∧ s'.get (0x9500 + bank) 4 = 1 ∧ s'.get (0x9500 + bank) 3 = mv ∧
      s'.flag (okey 0 0x9401 0) 6 = true) ∧
  (∀ t bank mv s, s.inReset = false → s.edgeUp = true → bank < 8 → s.get (0x9500 + bank) 4 ≠ 0 → 1650 < mv → 
    ∃ s', exec (.bankResume t bank mv) s = .next s' ∧ s'.get (0x9500 + bank) 4 = 0 ∧ s'.get (0x9500 + bank) 3 = min 3700 mv) ∧
  (∀ t bank mv s, s.inReset = false → s.edgeUp = true → bank < 8 → s.get (0x9500 + bank) 4 ≠ 1 → 1620 ≤ mv → 
    ∃ s', exec (.bankUndervoltage t bank mv) s = .next s' ∧ s'.get (0x9500 + bank) 3 = min 3700 mv ∧
      Keeps (fun k => k = okey 0 (0x9500 + bank) 3) s s') ∧
  (∀ t can tec rec s, s.inReset = false → s.edgeUp = true → s.noLock 6 = false → can < 4 → s.get (canIdx can + 1) 1 = 1 ∨ s.get (canIdx can + 1) 1 = 2 → 256 ≤ tec → 
    ∃ s', exec (.canBusError t can tec rec) s = .next s' ∧ s'.get (canIdx can + 1) 1 = 3 ∧
      s'.get (canIdx can + 1) 2 = 255 ∧ s'.get (canIdx can + 1) 3 = min 255 rec ∧
      s'.get (canIdx can + 1) 4 = min (s.get (canIdx can + 1) 4 + 1) (2 ^ 32 - 1) ∧ s'.flag (okey 0 0x9401 0) 2 = true) ∧
  (∀ t can tec rec s, s.inReset = false → s.edgeUp = true → s.noLock 6 = false → can < 4 → s.get (canIdx can + 1) 1 = 1 ∨ s.get (canIdx can + 1) 1 = 2 →
    tec < 128 → rec < 128 → 
    ∃ s', exec (.canBusError t can tec rec) s = .next s' ∧ s'.get (canIdx can + 1) 1 = 1 ∧
      s'.get (canIdx can + 1) 2 = tec ∧ s'.get (canIdx can + 1) 3 = rec) ∧
  (∀ t can s, s.inReset = false → s.edgeUp = true → s.noLock 6 = false → can < 4 → s.get (canIdx can + 1) 1 = 3 → 
    ∃ s', exec (.busOffRecovery t can) s = .next s' ∧ s'.get (canIdx can + 1) 1 = 1 ∧ s'.get (canIdx can + 1) 2 = 0 ∧
      s'.get (canIdx can + 1) 3 = 0 ∧ s'.low.can = s.low.can.filter (fun f => f.can != can)) ∧
  (∀ t mac speed s, s.inReset = false → s.edgeUp = true → mac < 2 → s.get (ethIdx mac) 1 ≠ 0 → s.pdOn 18 = true → speed < 2 ^ 32 → 
    (∃ s', exec (.ethLinkChange t mac true speed) s = .next s' ∧ s'.get (ethIdx mac + 1) 1 = 1 ∧ s'.get (ethIdx mac + 1) 2 = speed) ∧
    (∃ s', exec (.ethLinkChange t mac false speed) s = .next s' ∧ s'.get (ethIdx mac + 1) 1 = 0 ∧ s'.get (ethIdx mac + 1) 2 = 0 ∧
      (s.get (ethIdx mac + 1) 1 = 1 → s'.flag (okey 0 0x9401 0) 4 = true))) ∧
  (∀ t mac s, s.inReset = false → s.edgeUp = true → s.noLock 33 = false → s.pdOn 18 = true → mac < 2 → s.get (ethIdx mac) 1 ≠ 0 → 
    ∃ s', exec (.gateCycleStart t mac) s = .next s' ∧ s'.low.gates.any (fun g => decide (g.mac = mac ∧
      g.cycle = s.get (ethIdx mac + 2) 1 ∧ g.base = s.get (ethIdx mac + 2) 2 ∧
      (s.get 0x9060 3 ≠ 0 → g.count = s.get (ethIdx mac + 2) 4 ∧
        g.list = bytesAt (s.getLive (okey 0 (ethIdx mac + 2) 3)).data 0 (8 * s.get (ethIdx mac + 2) 4)))) = true)

/-- The render clock and the device follow the temperature: A Tj at the throttle threshold sets the hot state with
THROTTLE 1 (2 while the engine is stopped) and flag 0 of SupplyEvents; a Tj at Tj_max stops the render engine with
THROTTLE 2 and flag 1; a trip holds the device in reset for reason 1; below Tj_max by 5 degrees a stopped engine is
released, and a device held for temperature alone for 10 s below Tj_max starts up. Where the manual leaves a point open,
it holds for the model's choice in DEDUCED, log entry 52. -/
def Obligations.ThermalLimitsAct : Prop :=
  (∀ t temps s, s.inReset = false → s.sys.hot = false → (s.sense temps).throttleAt ≤ (s.sense temps).tj → 
    ∃ s', exec (.thermalThrottle t temps) s = .next s' ∧ s'.sys.hot = true ∧ s'.flag (okey 0 0x9201 0) 0 = true ∧
      s'.get 0x9200 3 = (if s.sys.stopped then 2 else 1) ∧ s'.tj = (s.sense temps).tj) ∧
  (∀ t temps s, s.inReset = false → s.sys.stopped = false → s.cfg.tjMax ≤ (s.sense temps).tj → 
    ∃ s', exec (.renderStopped t temps) s = .next s' ∧ s'.sys.stopped = true ∧ s'.flag (okey 0 0x9201 0) 1 = true ∧
      s'.get 0x9200 3 = 2) ∧
  (∀ t temps s, s.inReset = false → s.cfg.tjMax + 40 ≤ (s.sense temps).tj → 
    ∃ s', exec (.thermalTrip t temps) s = .next s' ∧ s'.inReset = true ∧ s'.sys.held.any (fun x => x.1 == 1) = true) ∧
  (∀ t temps s, s.inReset = false → s.sys.stopped = true → (s.sense temps).tj < s.cfg.tjMax - 20 →
    (s.sense temps).tj < s.throttleAt - 20 → s.sys.overMa = false → 
    ∃ s', exec (.thermalRelease t temps) s = .next s' ∧ s'.sys.stopped = false ∧ s'.sys.hot = false ∧ s'.get 0x9200 3 = 0) ∧
  (∀ t d temps s, s.sys.held = [(1, d)] → (s.sense temps).tj < s.cfg.tjMax → d + 10000000000 ≤ max s.now t → 
    exec (.thermalRelease t temps) s =
      .next (s.ran t fun s => (let s := s.sense temps; ({ s with sys := { s.sys with held := [] } } : State)).startUp))

/-- The supply monitors throttle, trip and release: A VIN current of 42 A is shown, holds CK8 down and sets flag 2 of
SupplyEvents; 46 A trips the device for reason 2; a VIN under 1.62 V or over 3.75 V is shown and trips it for reasons 3
and 4, in reset too. Below 38 A the throttle ends. A reason whose time has passed no longer holds the device while
another does, and with the last one start-up begins. Where the manual leaves a point open, it holds for the model's
choice in DESIGN CHOICE, log entry 2. -/
def Obligations.SupplyMonitorsAct : Prop :=
  (∀ t ma s, s.inReset = false → s.sys.overMa = false → 42000 ≤ ma → 
    ∃ s', exec (.vinOvercurrent t ma) s = .next s' ∧ s'.sys.overMa = true ∧ s'.flag (okey 0 0x9201 0) 2 = true ∧
      s'.get 0x9200 6 = min 50000 ma ∧ s'.get 0x9200 3 = (if s.sys.stopped then 2 else 1) ∧
      Keeps (fun k => k = okey 0 0x9200 6 ∨ k = okey 0 0x9200 3 ∨ flagKey (okey 0 0x9201 0) k) s s') ∧
  (∀ t ma s, s.inReset = false → 46000 ≤ ma → 
    ∃ s', exec (.overcurrentTrip t ma) s = .next s' ∧ s'.inReset = true ∧ s'.sys.held.any (fun x => x.1 == 2) = true) ∧
  (∀ t mv s, mv < 1620 → (s.heldSince 3).isSome = false → 
    ∃ s', exec (.vinBrownout t mv) s = .next s' ∧ s'.inReset = true ∧ s'.sys.held.any (fun x => x.1 == 3) = true) ∧
  (∀ t mv s, 3750 < mv → (s.heldSince 4).isSome = false → 
    ∃ s', exec (.vinHighTrip t mv) s = .next s' ∧ s'.inReset = true ∧ s'.sys.held.any (fun x => x.1 == 4) = true) ∧
  (∀ t mv ma s, s.inReset = false → s.sys.overMa = true → ma < 38000 → 
    ∃ s', exec (.tripRelease t mv ma) s = .next s' ∧ s'.sys.overMa = false ∧ s'.get 0x9200 5 = min 4000 mv ∧
      s'.get 0x9200 6 = ma ∧ s'.get 0x9200 3 = (if s.sys.stopped then 2 else if s.sys.hot then 1 else 0)) ∧
  (∀ t mv ma d e s, s.sys.held = [(2, d), (1, e)] → d + 100000000 ≤ max s.now t → 
    ∃ s', exec (.tripRelease t mv ma) s = .next s' ∧ s'.sys.held = [(1, e)] ∧ s'.inReset = true) ∧
  (∀ t mv ma d s, s.sys.held = [(3, d)] → d + 1000000 ≤ max s.now t → 1680 < mv → 
    exec (.tripRelease t mv ma) s = .next (s.ran t fun s =>
      (let s := (s.put 0x9200 5 (min 4000 mv)).put 0x9200 6 (min 50000 ma);
       ({ s with sys := { s.sys with held := [] } } : State)).startUp))

/-- Lock loss, relock and its time-out, and the check of CK2: A PLL that is no head's and loses its lock has no lock,
each of its clock domains counts the loss and flag 2 of PowerEvents is set; after relock it has its lock, and what
waited at the memory or the port it clocks is served. A PLL that does not relock within 1 ms is faulty and its units are
marked unusable, and Markhor's PLL trips Markhor. A CK2 that is right changes nothing but device time; a wrong one
resets the device with cause 3. Where the manual leaves a point open, it holds for the model's choice in PRESUMED, log entries 41,
49. -/
def Obligations.ClocksAreFollowed : Prop :=
  (∀ t pll s, s.inReset = false → s.noLock pll = false → pll < 10 ∨ 26 ≤ pll ∧ pll < 34 → 
    ∃ s', exec (.pllLockLoss t pll) s = .next s' ∧ s'.noLock pll = true ∧ s'.flag (okey 0 0x9018 0) 2 = true ∧
      ∀ k ∈ pllClocks pll, s'.get (0x9080 + k) 4 = min (s.get (0x9080 + k) 4 + 1) (2 ^ 32 - 1)) ∧
  (∀ t pll s, s.inReset = false → s.sys.unlocked.any (fun x => x.1 == pll) = true → pll < 8 ∨ 30 ≤ pll →
    s.sys.faulty.contains pll = false → 
    ∃ s', exec (.pllRelock t pll) s = .next s' ∧ s'.noLock pll = false ∧ Keeps (fun _ => False) s s') ∧
  (∀ t pll s, s.inReset = false → s.sys.unlocked.any (fun x => x.1 == pll) = true → 8 ≤ pll → pll < 10 ∨ 26 ≤ pll → pll < 30 → 
    exec (.pllRelock t pll) s = .next (s.ran t fun s =>
      let s : State := { s with sys := { s.sys with unlocked := s.sys.unlocked.filter (fun x => x.1 != pll) } };
      if pll < 10 then s.serve s.memc.waiting.length else s.drainTx (pll - 26) (s.link (pll - 26)).txq.length)) ∧
  (∀ t pll s, s.inReset = false → pll ≠ 0 →
    s.sys.unlocked.any (fun x => x.1 == pll && decide (x.2 + 1000000 ≤ max s.now t)) = true → 
    exec (.pllRelockTimeout t pll) s = .next (s.ran t fun s =>
      foldS (fun s u => s.loseUnit u.1 u.2)
        { s with sys := { s.sys with unlocked := s.sys.unlocked.filter (fun x => x.1 != pll), faulty := pll :: s.sys.faulty } }
        (s.cfg.pllUnits pll))) ∧
  (∀ t s, s.inReset = false → s.sys.unlocked.any (fun x => x.1 == 0 && decide (x.2 + 1000000 ≤ max s.now t)) = true → 
    exec (.pllRelockTimeout t 0) s = .next (s.ran t fun s =>
      ({ s with sys := { s.sys with unlocked := s.sys.unlocked.filter (fun x => x.1 != 0), faulty := 0 :: s.sys.faulty } } :
        State).markhorTrip 1)) ∧
  (∀ t s, s.inReset = false → 
    (∃ s', exec (.ck2Check t true) s = .next s' ∧ Keeps (fun _ => False) s s') ∧
    exec (.ck2Check t false) s = .next (s.ran t fun s => s.resetAndStart 3))

/-- Refused writes: A write that step 2 to 8 of R494 or the owning chapter refuses leaves the object unchanged, stops
nothing, and is recorded: the writing partition's RefusedWrites counter advances, its LastRefusal notes index,
sub-index, code and device time, and flag 1 of its DictionaryStatus is set with a Notice event of the same content;
nothing outside these records and the event objects changes. A refusal with STATUS_SEQ_STALE only counts in
STALE_CLEARS. This holds of a write of a scalar and of the content of a block, of a control-window write of any object
(but for three objects whose writes do more than be refused), and of a Tilsol write, whose response carries the code. -/
def Obligations.RefusedWritesAreRecorded : Prop :=
  (∀ (q : Wr) (own : State → Nat → Option Nat) (eff : State → Nat → State) (code : Nat) (s : State), s.writeRefusal q false = some code → 
    s.write q own eff = (s.refuse q.ini q.idx q.sub code, code)) ∧
  (∀ (q : Wr) (own : State → Nat → Option Nat) (eff : State → Nat → State) (code : Nat) (o : Obj) (s : State), s.writeRefusal q false = none →
    findObj s.cfg (canonIdx q.idx) q.sub = some o → o.row.status.isNone = true →
    own s (s.newValue q o (s.targetKey q.ini q.idx q.sub)).1.toNat = some code → 
    s.write q own eff = (s.refuse q.ini q.idx q.sub code, code)) ∧
  (∀ (ini : Ini) idx sub data (own : State → List Byte → Option Nat) (eff : State → List Byte → State) (code : Nat) (s : State),
    s.writeRefusal ⟨ini, 0, idx, sub, 0⟩ true = some code → 
    s.writeBlock ini idx sub data own eff = (s.refuse ini idx sub code, code)) ∧
  (∀ (ini : Ini) idx sub (code : Nat) (s : State), ini.part < 16 → idx < 2 ^ 16 → sub < 2 ^ 8 → code < 2 ^ 32 → s.now < 2 ^ 64 →
    code ≠ codeStatusSeqStale → 
    let s' := s.refuse ini idx sub code;
    s'.get 0x11B0 (ini.part + 1) = min (s.get 0x11B0 (ini.part + 1) + 1) (2 ^ 32 - 1) ∧
      s'.getB ini.part 0x11B1 1 = idx * 256 + sub ∧ s'.getB ini.part 0x11B1 2 = code ∧ s'.getB ini.part 0x11B1 3 = s.now ∧
      s'.flag (okey ini.part 0x11B8 1) 1 = true ∧ Keeps (fun k => logKey k ∨ evKey k) s s' ∧
      s' = (((((s.bump 0x11B0 (ini.part + 1)).putB ini.part 0x11B1 1 (idx * 256 + sub)).putB ini.part 0x11B1 2 code).putB
        ini.part 0x11B1 3 s.now).setFlag (okey ini.part 0x11B8 1) 1).occur
        ⟨256, 4096 + 0x1B8, ini.part, sevNotice, leBytes 4 (idx * 256 + sub) ++ leBytes 4 code ++ leBytes 8 s.now⟩) ∧
  (∀ (ini : Ini) idx sub (s : State), ini.part < 16 → 
    (s.refuse ini idx sub codeStatusSeqStale).getB ini.part 0x11B8 2 = min (s.getB ini.part 0x11B8 2 + 1) (2 ^ 32 - 1) ∧
      (s.refuse ini idx sub codeStatusSeqStale).ev = s.ev ∧
      Keeps (fun k => k = okey ini.part 0x11B8 2) s (s.refuse ini idx sub codeStatusSeqStale)) ∧
  (∀ t ini idx sub v env (code : Nat) s, s.inReset = false → s.writeRefusal ⟨ini, 0, idx, sub, v⟩ false = some code →
    (canonIdx idx, sub) ≠ (0x1130, 4) → canonIdx idx ≠ 0x2110 → canonIdx idx ≠ 0x7820 →
    s.til.mailbox.all (fun m => m.taken) = true → 
    exec (.registerWrite t ini idx sub 0 8 v env) s = .next (s.ran t fun s => s.refuse ini idx sub code)) ∧
  (∀ (ini : Ini) (f : TilFrame) (env : Env) (o : Obj) (code : Nat) (s : State), findObj s.cfg (canonIdx f.head.index) f.head.sub = some o → o.row.ty.isBlock = false →
    f.payload.length = natSize o → (canonIdx f.head.index, f.head.sub) ≠ (0x1130, 4) → canonIdx f.head.index ≠ 0x2110 →
    canonIdx f.head.index ≠ 0x7820 → isRefusal code = true →
    s.writeRefusal ⟨ini, windowOf f.head, f.head.index, f.head.sub, natValue o f.payload⟩ false = some code → 
    (s.tilWrite ini f env).status = code ∧ (s.tilWrite ini f env).payload = [] ∧
      (s.tilWrite ini f env).st = s.refuse ini f.head.index f.head.sub code)

/-- Status objects: Every status object is BITS64. An event sets its flag at once, leaves the others, and advances SEQ
by one, wrapping at 24 bits, whether or not the flag was set, unless the limit of R47 makes it mark a pending advance. A
read of a status object changes nothing. An accepted write of it through the main window or the CLEAR alias with the
current SEQ clears the flags written as 1, leaves the others and SEQ, and changes nothing else; with another SEQ it is
refused, counted in STALE_CLEARS alone. A clear that carries the SEQ from before an event is refused. A write through
SET or TOGGLE is refused with ALIAS_NOT_BITS. No bits of a write make it refused for reserved bits. -/
def Obligations.StatusObjectsKeepTheirFlags : Prop :=
  (∀ idx sub (o : Obj) (s : State), findObj s.cfg idx sub = some o → o.row.status.isSome = true → o.row.ty = .bits 64) ∧
  (∀ k n (s : State), n < 40 → s.statusMeta k = none → 
    let s' := s.setFlag k n;
    (∀ m, m < 40 → s'.flag k m = (m == n || s.flag k m)) ∧
      statusSeq (s'.getK k).toNat = (statusSeq (s.getK k).toNat + 1) % 2 ^ 24 ∧ Keeps (fun j => j = k) s s') ∧
  (∀ k n (m : StatusMeta) (w : Nat) (s : State), n < 40 → s.statusMeta k = some m → statusRate s.cfg k = .interval w → m.pend = false →
    m.last + max w 1000 ≤ s.now → 
    let s' := s.setFlag k n;
    (∀ j, j < 40 → s'.flag k j = (j == n || s.flag k j)) ∧
      statusSeq (s'.getK k).toNat = (statusSeq (s.getK k).toNat + 1) % 2 ^ 24 ∧ Keeps (fun j => j = k) s s') ∧
  (∀ k n (m : StatusMeta) (w : Nat) (s : State), n < 40 → s.statusMeta k = some m → statusRate s.cfg k = .interval w →
    s.now < m.last + max w 1000 → 
    let s' := s.setFlag k n;
    (∀ j, j < 40 → s'.flag k j = (j == n || s.flag k j)) ∧ statusSeq (s'.getK k).toNat = statusSeq (s.getK k).toNat ∧
      s'.statusMeta k = some { m with pend := true } ∧ Keeps (fun j => j = k) s s') ∧
  (∀ (ini : Ini) idx sub (o : Obj) (s : State), findObj s.cfg (canonIdx idx) sub = some o → o.row.status.isSome = true → 
    (s.readAt ini idx sub).1 = s) ∧
  (∀ t ini skip idx sub v (o : Obj) s, s.inReset = false → findObj s.cfg (canonIdx idx) sub = some o → o.row.status.isSome = true →
    s.writeRefusal ⟨ini, if skip then 2 else 0, idx, sub, v⟩ false = none →
    (s.statusMeta (s.targetKey ini idx sub)).elim true (fun m => !m.pend && m.pendFlags == 0) = true →
    statusSeq v.toNat = statusSeq (s.getK (s.targetKey ini idx sub)).toNat → 
    ∃ s', exec (.statusClear t ini skip idx sub v) s = .next s' ∧
      (∀ n, n < 40 → s'.flag (s.targetKey ini idx sub) n = (s.flag (s.targetKey ini idx sub) n && !bit v.toNat n)) ∧
      statusSeq (s'.getK (s.targetKey ini idx sub)).toNat = statusSeq (s.getK (s.targetKey ini idx sub)).toNat ∧
      Keeps (fun k => k = s.targetKey ini idx sub) s s') ∧
  (∀ t ini skip idx sub v (o : Obj) s, s.inReset = false → findObj s.cfg (canonIdx idx) sub = some o → o.row.status.isSome = true →
    s.writeRefusal ⟨ini, if skip then 2 else 0, idx, sub, v⟩ false = none →
    (s.statusMeta (s.targetKey ini idx sub)).elim true (fun m => !m.pend && m.pendFlags == 0) = true →
    statusSeq v.toNat ≠ statusSeq (s.getK (s.targetKey ini idx sub)).toNat → 
    exec (.statusClear t ini skip idx sub v) s = .next (s.ran t fun s => s.bumpW 32 ini.part 0x11B8 2 1)) ∧
  (∀ (ini : Ini) idx sub k n (v : Word) (s : State), n < 40 → statusSeq v.toNat = statusSeq (s.getK k).toNat → 
    ((s.setFlag k n).clearStatus ini idx sub k v).2 = codeStatusSeqStale) ∧
  (∀ (ini : Ini) n idx sub (v : Word) (o : Obj) (s : State), findObj s.cfg (canonIdx idx) sub = some o → o.row.status.isSome = true → (n = 1 ∨ n = 3) →
    ini.path ≠ .monitor → s.hasRight ini true o (canonIdx idx) sub = true → 
    s.writeRefusal ⟨ini, n, idx, sub, v⟩ false = some codeAliasNotBits) ∧
  (∀ (ini : Ini) n idx sub (v : Word) (o : Obj) (s : State), findObj s.cfg (canonIdx idx) sub = some o → o.row.status.isSome = true → (n = 0 ∨ n = 2) →
    ini.path ≠ .monitor → s.hasRight ini true o (canonIdx idx) sub = true → 
    s.writeRefusal ⟨ini, n, idx, sub, v⟩ false = none)

/-- Failed checks: Of the sets of a commit without ALIGN those whose pre-check fails are not among those that go on, and
are the ones that are reported; under ALIGN one failure ends all of them. A commit of one group that fails the pre-check
leaves the pending sets, every active value and every shadow value as they were, and is reported with RULE_FAILED, the
rule and the object. A unit of sets that fails the final check at its boundary ends without being applied and is
reported so; the units that are applied together pass it. A report of a failure changes nothing but the report and
DictionaryStatus. -/
def Obligations.FailedChecksRejectGroups : Prop :=
  (∀ (l : List PendingSet) (x : PendingSet) (s : State), 
    (x ∈ (s.preCheck l false).1 ↔ x ∈ l ∧ s.checkSet [x] x = none) ∧
      (∀ r, ([x], r) ∈ (s.preCheck l false).2 ↔ x ∈ l ∧ s.checkSet [x] x = some r)) ∧
  (∀ (l : List PendingSet) (r : RuleFail) (s : State), l.findSome? (s.checkSet l) = some r → s.preCheck l true = ([], [(l, r)])) ∧
  (∀ (part at0 g : Nat) (r : RuleFail) (s : State), part < 16 → g < 61 → g ≠ 0 → g ≠ 57 → s.dict.sets.all (fun x => x.group != g) = true →
    r.1 < 2 ^ 16 → r.2 < 2 ^ 32 →
    ({ s with dict := { s.dict with nextCommit := s.dict.nextCommit + 1 } } : State).checkSet [s.newSet part 0 at0 none g]
      (s.newSet part 0 at0 none g) = some r → 
    let s' := s.makeSets part (2 ^ g) 0 at0 none;
    s'.dict.sets = s.dict.sets ∧ Keeps (fun j => keyIdx j = 0x1110 + part ∨ j = okey part 0x11B8 1) s s' ∧
      s'.get (0x1110 + part) 3 = codeRuleFailed ∧ s'.get (0x1110 + part) 4 = r.1 ∧ s'.get (0x1110 + part) 5 = r.2 ∧
      s'.get (0x1110 + part) 2 = 2 ^ g ∧ s'.flag (okey part 0x11B8 1) 2 = true) ∧
  (∀ (part v at0 : Nat) (r : RuleFail) (s : State), part < 16 → v % 2 = 0 → v < 2 ^ 61 → bit v 57 = false →
    s.dict.sets.all (fun x => !bit v x.group) = true → r.1 < 2 ^ 16 → r.2 < 2 ^ 32 →
    ((maskGroups v).map (s.newSet part 1 at0 none)).findSome?
      (({ s with dict := { s.dict with nextCommit := s.dict.nextCommit + 1 } } : State).checkSet
        ((maskGroups v).map (s.newSet part 1 at0 none))) = some r → 
    let s' := s.makeSets part v 1 at0 none;
    s'.dict.sets = s.dict.sets ∧ Keeps (fun j => keyIdx j = 0x1110 + part ∨ j = okey part 0x11B8 1) s s' ∧
      s'.get (0x1110 + part) 3 = codeRuleFailed ∧ s'.get (0x1110 + part) 4 = r.1 ∧ s'.get (0x1110 + part) 5 = r.2 ∧
      s'.get (0x1110 + part) 2 = v) ∧
  (∀ (l : List PendingSet) (r : RuleFail) (s : State), l.findSome? (s.checkSet l) = some r → 
    s.applyUnits [l] = s.endUnit l codeRuleFailed r.1 r.2) ∧
  (∀ (l : List PendingSet) (x : PendingSet) (rule obj : Nat) (s : State), x ∈ l → x.part < 16 → rule < 2 ^ 16 → obj < 2 ^ 32 →
    l.all (fun y => y.part == x.part && y.client.isNone) = true → 
    let s' := s.endUnit l codeRuleFailed rule obj;
    (∀ y, y ∈ l → y ∉ s'.dict.sets) ∧ Keeps (fun j => keyIdx j = 0x1110 + x.part ∨ j = okey x.part 0x11B8 1) s s' ∧
      s'.get (0x1110 + x.part) 3 = codeRuleFailed ∧ s'.get (0x1110 + x.part) 4 = rule ∧ s'.get (0x1110 + x.part) 5 = obj) ∧
  (∀ (l : List (List PendingSet)) (u : List PendingSet) (x : PendingSet) (s : State), u ∈ (s.finalCheck l.length l).1 → x ∈ u → 
    s.checkSet (s.finalCheck l.length l).1.flatten x = none)

/-- The detent table torque: The detent table of an axis is an object of 2,048 bytes. With p the position, CPR the
counts per revolution, q the floor remainder of p by CPR, i and f the quotient and the remainder of 1,024 × q by CPR,
and T the signed 16-bit entries of the table in force, the torque is T[i] + floordiv((T[(i + 1) mod 1,024] − T[i]) × f,
CPR), and i is an entry of the table. -/
def Obligations.DetentTorqueInterpolates : Prop :=
  (∀ a (s : State), a < s.cfg.axes → (findObj s.cfg (axIdx a + 6) 0).map (fun o => o.row.ty) = some (.octet 2048)) ∧
  (∀ a (p q i f cpr : Int) (s : State), 0 < s.get (axIdx a) 6 → cpr = s.get (axIdx a) 6 → q = Int.fmod p cpr →
    i = Int.fdiv (q * 1024) cpr → f = Int.fmod (q * 1024) cpr → 
    let T := fun (n : Nat) => (BitVec.ofNat 16 (numAt (s.getLive (okey 0 (axIdx a + 6) 0)).data (2 * n) 2)).toInt;
    s.detentTorque a p = T i.toNat + Int.fdiv ((T ((i.toNat + 1) % 1024) - T i.toNat) * f) cpr ∧ 0 ≤ i ∧ i < 1024)

/-- A step runs the command at the front of the queue: A step of a state with a command at the front of its queue is
exec of that command on the state with the queue's rest. On an empty queue the block idles (the model's choice, log
entry 1). No row of the command table has bits, so no word spells a command. Where the manual leaves a point open, it
holds for the model's choice in DESIGN CHOICE, log entries 1, 81. -/
def Obligations.StepRunsTheFrontCommand : Prop :=
  (∀ c s, step { s with pending := c :: s.pending } = exec c s) ∧
  (∀ (s : State), s.pending = [] → step s = .next s) ∧
  (∀ (nbits n : Nat) (s : State), decodeTableWord nbits n = none ∧ s.withFetchWord nbits n = s)

/-- The state at reset: At reset every object holds its Default as active and as shadow value, every block its default
content, every byte of the internal memory reads 0 (DESIGN CHOICE, log entry 10), no command waits, nothing has been sent, device time
is 0, no plan is active, the epoch period is 16,666,667 ns, SAFE_OK is low with hold bit 5 set, and the device is not
held in reset. The maps are canonical and the invariant holds. Where the manual leaves a point open, it holds for the
model's choice in DESIGN CHOICE, log entry 9. -/
def Obligations.ResetState : Prop :=
  (∀ k (s : State), s = State.reset → s.getK k = objDefault s.cfg k ∧ s.getShadow k = objDefault s.cfg k ∧
    s.getBlk k = blockDefault s.cfg k ∧ s.getLive k = blockDefault s.cfg k ∧ s.rdByte k = 0 ∧ s.pending = [] ∧ s.out = [] ∧
    s.now = 0 ∧ s.plan.active = none ∧ s.period = 16666667 ∧ s.get 0x8C60 2 = 0 ∧ s.get 0x8C60 1 = 32 ∧ s.inReset = false ∧
    s.wf = true) ∧
  (State.reset.Inv)

/-- Every command answers a next state: Whatever the state, every command answers a next state; it leaves the
configuration and the queue, and device time does not run back but at a power-on reset. While the device is held in
reset, every command but RESET_N, POWER_ON_RESET and the four of the supply and temperature monitors that act in reset
lets only time pass. A step takes exactly the front command out of the queue. Where the manual leaves a point open, it
holds for the model's choice in DESIGN CHOICE, log entry 2. -/
def Obligations.EveryCommandAnswers : Prop :=
  (∀ c s, ∃ s', exec c s = .next s' ∧ s'.cfg = s.cfg ∧ s'.pending = s.pending ∧ (s.now ≤ s'.now ∨ ∃ t, c = .powerOnReset t)) ∧
  (∀ c (s : State), s.inReset = true → (∃ t, exec c s = .next (s.advance t)) ∨ (∃ t low node senior mode, c = .resetN t low node senior mode) ∨
      (∃ t, c = .powerOnReset t) ∨ (∃ t temps, c = .thermalRelease t temps) ∨ (∃ t mv, c = .vinBrownout t mv) ∨
      (∃ t mv, c = .vinHighTrip t mv) ∨ ∃ t mv ma, c = .tripRelease t mv ma) ∧
  (∀ (s : State), ∃ s', step s = .next s' ∧ s'.cfg = s.cfg ∧ s'.pending = s.pending.tail)

/-- Every step keeps the invariant of the block: From every state in which the configuration is one that exists, device
time fits 64 bits and every waiting command is well formed, a step that answers a next state leaves such a state (queue
and configuration as DESIGN CHOICE, log entries 1 and 9 have them). -/
def Obligations.BlockInvariant : Prop :=
  ∀ (s s' : State), s.Inv → step s = .next s' → s'.Inv
end

