-- ==== Sys2Proof/Laws/Maps.lean ====
section
/-!
SUPPORT. The laws of the sparse maps: a read after a write, a read of another key, and the canonical form, which every
write keeps.
-/
namespace Sys2Proof.Machine

/-! ## Reads after writes -/

theorem mget_filter_same {α : Type} (d : α) (k : Nat) (m : List (Nat × α)) :
    mget d k (m.filter (fun e => e.1 != k)) = d := by
  induction m with
  | nil => rfl
  | cons e r ih =>
    obtain ⟨k', v⟩ := e
    by_cases h : k' = k <;> simp [h, mget, ih]

theorem mget_filter_ne {α : Type} (d : α) {k j : Nat} (h : j ≠ k) (m : List (Nat × α)) :
    mget d j (m.filter (fun e => e.1 != k)) = mget d j m := by
  induction m with
  | nil => rfl
  | cons e r ih =>
    obtain ⟨k', v⟩ := e
    by_cases h1 : k' = k
    · subst h1
      simp [mget, Ne.symm h, ih]
    · simp [h1, mget, ih]

theorem mget_minsert_same {α : Type} (d : α) (k : Nat) (v : α) (m : List (Nat × α)) :
    mget d k (minsert k v m) = v := by
  induction m with
  | nil => simp [minsert, mget]
  | cons e r ih =>
    obtain ⟨k', v'⟩ := e
    unfold minsert
    split
    · simp [mget]
    · split
      · simp [mget]
      · next h1 h2 => simp [mget, Ne.symm h2, ih]

theorem mget_minsert_ne {α : Type} (d : α) {k j : Nat} (h : j ≠ k) (v : α) (m : List (Nat × α)) :
    mget d j (minsert k v m) = mget d j m := by
  induction m with
  | nil => simp [minsert, mget, Ne.symm h]
  | cons e r ih =>
    obtain ⟨k', v'⟩ := e
    unfold minsert
    split
    · simp [mget, Ne.symm h]
    · split
      · next h1 h2 => subst h2; simp [mget, Ne.symm h]
      · simp [mget, ih]

/-- A read of the key that was written gives the value written. -/
theorem mget_mput_same {α : Type} [DecidableEq α] (d : α) (k : Nat) (v : α) (m : List (Nat × α)) :
    mget d k (mput d k v m) = v := by
  unfold mput
  split
  · next h => rw [mget_filter_same, h]
  · exact mget_minsert_same d k v m

/-- A read of another key gives what it gave before. -/
theorem mget_mput_ne {α : Type} [DecidableEq α] (d d' : α) {k j : Nat} (h : j ≠ k) (v : α) (m : List (Nat × α)) :
    mget d' j (mput d k v m) = mget d' j m := by
  unfold mput
  split
  · exact mget_filter_ne d' h m
  · exact mget_minsert_ne d' h v m

/-! ## The canonical form -/

/-- A map in the form above a key is in it above every lower one. -/
theorem mwfFrom_mono {α : Type} [DecidableEq α] (dflt : Nat → α) (l : Option Nat) (k : Nat) (m : List (Nat × α))
    (hl : ∀ x, l = some x → x ≤ k) (h : mwfFrom dflt (some k) m = true) : mwfFrom dflt l m = true := by
  cases m with
  | nil => rfl
  | cons e r =>
    obtain ⟨k', v⟩ := e
    cases l with
    | none => simp_all [mwfFrom]
    | some x =>
      have := hl x rfl
      simp only [mwfFrom, Bool.and_eq_true, decide_eq_true_eq] at h ⊢
      exact ⟨⟨by omega, h.1.2⟩, h.2⟩

theorem mwfFrom_tail {α : Type} [DecidableEq α] (dflt : Nat → α) (l : Option Nat) (k : Nat) (v : α) (r : List (Nat × α))
    (h : mwfFrom dflt l ((k, v) :: r) = true) : mwfFrom dflt (some k) r = true := by
  simp only [mwfFrom, Bool.and_eq_true] at h
  exact h.2

/-- Taking entries out keeps the form. -/
theorem mwfFrom_filter {α : Type} [DecidableEq α] (dflt : Nat → α) (p : Nat × α → Bool) (m : List (Nat × α)) :
    ∀ l, mwfFrom dflt l m = true → mwfFrom dflt l (m.filter p) = true := by
  induction m with
  | nil => intro l h; exact h
  | cons e r ih =>
    obtain ⟨k, v⟩ := e
    intro l h
    have hr := ih (some k) (mwfFrom_tail dflt l k v r h)
    rw [List.filter_cons]
    split
    · simp only [mwfFrom, Bool.and_eq_true] at h ⊢
      exact ⟨h.1, hr⟩
    · refine mwfFrom_mono dflt l k _ ?_ hr
      intro x hx
      subst hx
      simp only [mwfFrom, Bool.and_eq_true, decide_eq_true_eq] at h
      omega

/-- Listing a value that is not the default of its key keeps the form. -/
theorem mwfFrom_minsert {α : Type} [DecidableEq α] (dflt : Nat → α) (k : Nat) (v : α) (hv : v ≠ dflt k)
    (m : List (Nat × α)) :
    ∀ l, (∀ x, l = some x → x < k) → mwfFrom dflt l m = true → mwfFrom dflt l (minsert k v m) = true := by
  induction m with
  | nil =>
    intro l hl _
    cases l with
    | none => simp [minsert, mwfFrom, hv]
    | some x => simp [minsert, mwfFrom, hv, hl x rfl]
  | cons e r ih =>
    obtain ⟨k', v'⟩ := e
    intro l hl h
    have ht := mwfFrom_tail dflt l k' v' r h
    unfold minsert
    split
    · next hk =>
      cases l with
      | none => simp_all [mwfFrom]
      | some x =>
        have := hl x rfl
        simp_all [mwfFrom]
    · split
      · next hk1 hk =>
        subst hk
        simp only [mwfFrom, Bool.and_eq_true, Bool.not_eq_true', decide_eq_false_iff_not] at h ⊢
        exact ⟨⟨h.1.1, hv⟩, h.2⟩
      · next h1 h2 =>
        have := ih (some k') (by intro x hx; cases hx; omega) ht
        simp only [mwfFrom, Bool.and_eq_true] at h ⊢
        exact ⟨h.1, this⟩

/-- Every write keeps the canonical form. -/
theorem mwf_mput {α : Type} [DecidableEq α] (dflt : Nat → α) (k : Nat) (v : α) (m : List (Nat × α))
    (h : mwf dflt m = true) : mwf dflt (mput (dflt k) k v m) = true := by
  unfold mput
  split
  · exact mwfFrom_filter dflt _ m none h
  · next hv => exact mwfFrom_minsert dflt k v hv m none (by simp) h

theorem mwf_mputAll {α : Type} [DecidableEq α] (dflt : Nat → α) (l : List (Nat × α)) :
    ∀ m, mwf dflt m = true → mwf dflt (mputAll dflt l m) = true := by
  induction l with
  | nil => intro m h; exact h
  | cons e r ih =>
    obtain ⟨k, v⟩ := e
    intro m h
    exact ih _ (mwf_mput dflt k v m h)

theorem mwf_filter {α : Type} [DecidableEq α] (dflt : Nat → α) (p : Nat × α → Bool) (m : List (Nat × α))
    (h : mwf dflt m = true) : mwf dflt (m.filter p) = true := mwfFrom_filter dflt p m none h

end Sys2Proof.Machine
end

