-- ==== Sys2Proof/Laws/State.lean ====
section
/-!
SUPPORT. What each update of State leaves alone: one lemma per field per update, true by unfolding, so that no later
proof unfolds a record update.
-/
namespace Sys2Proof.Machine

/-! `putK` writes `objs` alone. -/

@[simp] theorem State.putK_cfg (s : State) (k : Nat) (v : Word) : (s.putK k v).cfg = s.cfg := rfl
@[simp] theorem State.putK_now (s : State) (k : Nat) (v : Word) : (s.putK k v).now = s.now := rfl
@[simp] theorem State.putK_fresh (s : State) (k : Nat) (v : Word) : (s.putK k v).fresh = s.fresh := rfl
@[simp] theorem State.putK_pending (s : State) (k : Nat) (v : Word) : (s.putK k v).pending = s.pending := rfl
@[simp] theorem State.putK_shadow (s : State) (k : Nat) (v : Word) : (s.putK k v).shadow = s.shadow := rfl
@[simp] theorem State.putK_stored (s : State) (k : Nat) (v : Word) : (s.putK k v).stored = s.stored := rfl
@[simp] theorem State.putK_blocks (s : State) (k : Nat) (v : Word) : (s.putK k v).blocks = s.blocks := rfl
@[simp] theorem State.putK_liveBlocks (s : State) (k : Nat) (v : Word) : (s.putK k v).liveBlocks = s.liveBlocks := rfl
@[simp] theorem State.putK_storedBlocks (s : State) (k : Nat) (v : Word) : (s.putK k v).storedBlocks = s.storedBlocks := rfl
@[simp] theorem State.putK_mem (s : State) (k : Nat) (v : Word) : (s.putK k v).mem = s.mem := rfl
@[simp] theorem State.putK_out (s : State) (k : Nat) (v : Word) : (s.putK k v).out = s.out := rfl
@[simp] theorem State.putK_dict (s : State) (k : Nat) (v : Word) : (s.putK k v).dict = s.dict := rfl
@[simp] theorem State.putK_ev (s : State) (k : Nat) (v : Word) : (s.putK k v).ev = s.ev := rfl
@[simp] theorem State.putK_til (s : State) (k : Nat) (v : Word) : (s.putK k v).til = s.til := rfl
@[simp] theorem State.putK_plan (s : State) (k : Nat) (v : Word) : (s.putK k v).plan = s.plan := rfl
@[simp] theorem State.putK_time (s : State) (k : Nat) (v : Word) : (s.putK k v).time = s.time := rfl
@[simp] theorem State.putK_place (s : State) (k : Nat) (v : Word) : (s.putK k v).place = s.place := rfl
@[simp] theorem State.putK_comp (s : State) (k : Nat) (v : Word) : (s.putK k v).comp = s.comp := rfl
@[simp] theorem State.putK_queue (s : State) (k : Nat) (v : Word) : (s.putK k v).queue = s.queue := rfl
@[simp] theorem State.putK_memc (s : State) (k : Nat) (v : Word) : (s.putK k v).memc = s.memc := rfl
@[simp] theorem State.putK_sec (s : State) (k : Nat) (v : Word) : (s.putK k v).sec = s.sec := rfl
@[simp] theorem State.putK_scan (s : State) (k : Nat) (v : Word) : (s.putK k v).scan = s.scan := rfl
@[simp] theorem State.putK_motion (s : State) (k : Nat) (v : Word) : (s.putK k v).motion = s.motion := rfl
@[simp] theorem State.putK_touch (s : State) (k : Nat) (v : Word) : (s.putK k v).touch = s.touch := rfl
@[simp] theorem State.putK_audio (s : State) (k : Nat) (v : Word) : (s.putK k v).audio = s.audio := rfl
@[simp] theorem State.putK_fabric (s : State) (k : Nat) (v : Word) : (s.putK k v).fabric = s.fabric := rfl
@[simp] theorem State.putK_integ (s : State) (k : Nat) (v : Word) : (s.putK k v).integ = s.integ := rfl
@[simp] theorem State.putK_links (s : State) (k : Nat) (v : Word) : (s.putK k v).links = s.links := rfl
@[simp] theorem State.putK_low (s : State) (k : Nat) (v : Word) : (s.putK k v).low = s.low := rfl
@[simp] theorem State.putK_render (s : State) (k : Nat) (v : Word) : (s.putK k v).render = s.render := rfl
@[simp] theorem State.putK_trace (s : State) (k : Nat) (v : Word) : (s.putK k v).trace = s.trace := rfl
@[simp] theorem State.putK_sys (s : State) (k : Nat) (v : Word) : (s.putK k v).sys = s.sys := rfl

/-! `putShadow` writes `shadow` alone. -/

@[simp] theorem State.putShadow_cfg (s : State) (k : Nat) (v : Word) : (s.putShadow k v).cfg = s.cfg := rfl
@[simp] theorem State.putShadow_now (s : State) (k : Nat) (v : Word) : (s.putShadow k v).now = s.now := rfl
@[simp] theorem State.putShadow_fresh (s : State) (k : Nat) (v : Word) : (s.putShadow k v).fresh = s.fresh := rfl
@[simp] theorem State.putShadow_pending (s : State) (k : Nat) (v : Word) : (s.putShadow k v).pending = s.pending := rfl
@[simp] theorem State.putShadow_objs (s : State) (k : Nat) (v : Word) : (s.putShadow k v).objs = s.objs := rfl
@[simp] theorem State.putShadow_stored (s : State) (k : Nat) (v : Word) : (s.putShadow k v).stored = s.stored := rfl
@[simp] theorem State.putShadow_blocks (s : State) (k : Nat) (v : Word) : (s.putShadow k v).blocks = s.blocks := rfl
@[simp] theorem State.putShadow_liveBlocks (s : State) (k : Nat) (v : Word) : (s.putShadow k v).liveBlocks = s.liveBlocks := rfl
@[simp] theorem State.putShadow_storedBlocks (s : State) (k : Nat) (v : Word) : (s.putShadow k v).storedBlocks = s.storedBlocks := rfl
@[simp] theorem State.putShadow_mem (s : State) (k : Nat) (v : Word) : (s.putShadow k v).mem = s.mem := rfl
@[simp] theorem State.putShadow_out (s : State) (k : Nat) (v : Word) : (s.putShadow k v).out = s.out := rfl
@[simp] theorem State.putShadow_dict (s : State) (k : Nat) (v : Word) : (s.putShadow k v).dict = s.dict := rfl
@[simp] theorem State.putShadow_ev (s : State) (k : Nat) (v : Word) : (s.putShadow k v).ev = s.ev := rfl
@[simp] theorem State.putShadow_til (s : State) (k : Nat) (v : Word) : (s.putShadow k v).til = s.til := rfl
@[simp] theorem State.putShadow_plan (s : State) (k : Nat) (v : Word) : (s.putShadow k v).plan = s.plan := rfl
@[simp] theorem State.putShadow_time (s : State) (k : Nat) (v : Word) : (s.putShadow k v).time = s.time := rfl
@[simp] theorem State.putShadow_place (s : State) (k : Nat) (v : Word) : (s.putShadow k v).place = s.place := rfl
@[simp] theorem State.putShadow_comp (s : State) (k : Nat) (v : Word) : (s.putShadow k v).comp = s.comp := rfl
@[simp] theorem State.putShadow_queue (s : State) (k : Nat) (v : Word) : (s.putShadow k v).queue = s.queue := rfl
@[simp] theorem State.putShadow_memc (s : State) (k : Nat) (v : Word) : (s.putShadow k v).memc = s.memc := rfl
@[simp] theorem State.putShadow_sec (s : State) (k : Nat) (v : Word) : (s.putShadow k v).sec = s.sec := rfl
@[simp] theorem State.putShadow_scan (s : State) (k : Nat) (v : Word) : (s.putShadow k v).scan = s.scan := rfl
@[simp] theorem State.putShadow_motion (s : State) (k : Nat) (v : Word) : (s.putShadow k v).motion = s.motion := rfl
@[simp] theorem State.putShadow_touch (s : State) (k : Nat) (v : Word) : (s.putShadow k v).touch = s.touch := rfl
@[simp] theorem State.putShadow_audio (s : State) (k : Nat) (v : Word) : (s.putShadow k v).audio = s.audio := rfl
@[simp] theorem State.putShadow_fabric (s : State) (k : Nat) (v : Word) : (s.putShadow k v).fabric = s.fabric := rfl
@[simp] theorem State.putShadow_integ (s : State) (k : Nat) (v : Word) : (s.putShadow k v).integ = s.integ := rfl
@[simp] theorem State.putShadow_links (s : State) (k : Nat) (v : Word) : (s.putShadow k v).links = s.links := rfl
@[simp] theorem State.putShadow_low (s : State) (k : Nat) (v : Word) : (s.putShadow k v).low = s.low := rfl
@[simp] theorem State.putShadow_render (s : State) (k : Nat) (v : Word) : (s.putShadow k v).render = s.render := rfl
@[simp] theorem State.putShadow_trace (s : State) (k : Nat) (v : Word) : (s.putShadow k v).trace = s.trace := rfl
@[simp] theorem State.putShadow_sys (s : State) (k : Nat) (v : Word) : (s.putShadow k v).sys = s.sys := rfl

/-! `putBlk` writes `blocks` alone. -/

@[simp] theorem State.putBlk_cfg (s : State) (k : Nat) (d : List Byte) : (s.putBlk k d).cfg = s.cfg := rfl
@[simp] theorem State.putBlk_now (s : State) (k : Nat) (d : List Byte) : (s.putBlk k d).now = s.now := rfl
@[simp] theorem State.putBlk_fresh (s : State) (k : Nat) (d : List Byte) : (s.putBlk k d).fresh = s.fresh := rfl
@[simp] theorem State.putBlk_pending (s : State) (k : Nat) (d : List Byte) : (s.putBlk k d).pending = s.pending := rfl
@[simp] theorem State.putBlk_objs (s : State) (k : Nat) (d : List Byte) : (s.putBlk k d).objs = s.objs := rfl
@[simp] theorem State.putBlk_shadow (s : State) (k : Nat) (d : List Byte) : (s.putBlk k d).shadow = s.shadow := rfl
@[simp] theorem State.putBlk_stored (s : State) (k : Nat) (d : List Byte) : (s.putBlk k d).stored = s.stored := rfl
@[simp] theorem State.putBlk_liveBlocks (s : State) (k : Nat) (d : List Byte) : (s.putBlk k d).liveBlocks = s.liveBlocks := rfl
@[simp] theorem State.putBlk_storedBlocks (s : State) (k : Nat) (d : List Byte) : (s.putBlk k d).storedBlocks = s.storedBlocks := rfl
@[simp] theorem State.putBlk_mem (s : State) (k : Nat) (d : List Byte) : (s.putBlk k d).mem = s.mem := rfl
@[simp] theorem State.putBlk_out (s : State) (k : Nat) (d : List Byte) : (s.putBlk k d).out = s.out := rfl
@[simp] theorem State.putBlk_dict (s : State) (k : Nat) (d : List Byte) : (s.putBlk k d).dict = s.dict := rfl
@[simp] theorem State.putBlk_ev (s : State) (k : Nat) (d : List Byte) : (s.putBlk k d).ev = s.ev := rfl
@[simp] theorem State.putBlk_til (s : State) (k : Nat) (d : List Byte) : (s.putBlk k d).til = s.til := rfl
@[simp] theorem State.putBlk_plan (s : State) (k : Nat) (d : List Byte) : (s.putBlk k d).plan = s.plan := rfl
@[simp] theorem State.putBlk_time (s : State) (k : Nat) (d : List Byte) : (s.putBlk k d).time = s.time := rfl
@[simp] theorem State.putBlk_place (s : State) (k : Nat) (d : List Byte) : (s.putBlk k d).place = s.place := rfl
@[simp] theorem State.putBlk_comp (s : State) (k : Nat) (d : List Byte) : (s.putBlk k d).comp = s.comp := rfl
@[simp] theorem State.putBlk_queue (s : State) (k : Nat) (d : List Byte) : (s.putBlk k d).queue = s.queue := rfl
@[simp] theorem State.putBlk_memc (s : State) (k : Nat) (d : List Byte) : (s.putBlk k d).memc = s.memc := rfl
@[simp] theorem State.putBlk_sec (s : State) (k : Nat) (d : List Byte) : (s.putBlk k d).sec = s.sec := rfl
@[simp] theorem State.putBlk_scan (s : State) (k : Nat) (d : List Byte) : (s.putBlk k d).scan = s.scan := rfl
@[simp] theorem State.putBlk_motion (s : State) (k : Nat) (d : List Byte) : (s.putBlk k d).motion = s.motion := rfl
@[simp] theorem State.putBlk_touch (s : State) (k : Nat) (d : List Byte) : (s.putBlk k d).touch = s.touch := rfl
@[simp] theorem State.putBlk_audio (s : State) (k : Nat) (d : List Byte) : (s.putBlk k d).audio = s.audio := rfl
@[simp] theorem State.putBlk_fabric (s : State) (k : Nat) (d : List Byte) : (s.putBlk k d).fabric = s.fabric := rfl
@[simp] theorem State.putBlk_integ (s : State) (k : Nat) (d : List Byte) : (s.putBlk k d).integ = s.integ := rfl
@[simp] theorem State.putBlk_links (s : State) (k : Nat) (d : List Byte) : (s.putBlk k d).links = s.links := rfl
@[simp] theorem State.putBlk_low (s : State) (k : Nat) (d : List Byte) : (s.putBlk k d).low = s.low := rfl
@[simp] theorem State.putBlk_render (s : State) (k : Nat) (d : List Byte) : (s.putBlk k d).render = s.render := rfl
@[simp] theorem State.putBlk_trace (s : State) (k : Nat) (d : List Byte) : (s.putBlk k d).trace = s.trace := rfl
@[simp] theorem State.putBlk_sys (s : State) (k : Nat) (d : List Byte) : (s.putBlk k d).sys = s.sys := rfl

/-! `putLive` writes `liveBlocks` alone. -/

@[simp] theorem State.putLive_cfg (s : State) (k : Nat) (b : Block) : (s.putLive k b).cfg = s.cfg := rfl
@[simp] theorem State.putLive_now (s : State) (k : Nat) (b : Block) : (s.putLive k b).now = s.now := rfl
@[simp] theorem State.putLive_fresh (s : State) (k : Nat) (b : Block) : (s.putLive k b).fresh = s.fresh := rfl
@[simp] theorem State.putLive_pending (s : State) (k : Nat) (b : Block) : (s.putLive k b).pending = s.pending := rfl
@[simp] theorem State.putLive_objs (s : State) (k : Nat) (b : Block) : (s.putLive k b).objs = s.objs := rfl
@[simp] theorem State.putLive_shadow (s : State) (k : Nat) (b : Block) : (s.putLive k b).shadow = s.shadow := rfl
@[simp] theorem State.putLive_stored (s : State) (k : Nat) (b : Block) : (s.putLive k b).stored = s.stored := rfl
@[simp] theorem State.putLive_blocks (s : State) (k : Nat) (b : Block) : (s.putLive k b).blocks = s.blocks := rfl
@[simp] theorem State.putLive_storedBlocks (s : State) (k : Nat) (b : Block) : (s.putLive k b).storedBlocks = s.storedBlocks := rfl
@[simp] theorem State.putLive_mem (s : State) (k : Nat) (b : Block) : (s.putLive k b).mem = s.mem := rfl
@[simp] theorem State.putLive_out (s : State) (k : Nat) (b : Block) : (s.putLive k b).out = s.out := rfl
@[simp] theorem State.putLive_dict (s : State) (k : Nat) (b : Block) : (s.putLive k b).dict = s.dict := rfl
@[simp] theorem State.putLive_ev (s : State) (k : Nat) (b : Block) : (s.putLive k b).ev = s.ev := rfl
@[simp] theorem State.putLive_til (s : State) (k : Nat) (b : Block) : (s.putLive k b).til = s.til := rfl
@[simp] theorem State.putLive_plan (s : State) (k : Nat) (b : Block) : (s.putLive k b).plan = s.plan := rfl
@[simp] theorem State.putLive_time (s : State) (k : Nat) (b : Block) : (s.putLive k b).time = s.time := rfl
@[simp] theorem State.putLive_place (s : State) (k : Nat) (b : Block) : (s.putLive k b).place = s.place := rfl
@[simp] theorem State.putLive_comp (s : State) (k : Nat) (b : Block) : (s.putLive k b).comp = s.comp := rfl
@[simp] theorem State.putLive_queue (s : State) (k : Nat) (b : Block) : (s.putLive k b).queue = s.queue := rfl
@[simp] theorem State.putLive_memc (s : State) (k : Nat) (b : Block) : (s.putLive k b).memc = s.memc := rfl
@[simp] theorem State.putLive_sec (s : State) (k : Nat) (b : Block) : (s.putLive k b).sec = s.sec := rfl
@[simp] theorem State.putLive_scan (s : State) (k : Nat) (b : Block) : (s.putLive k b).scan = s.scan := rfl
@[simp] theorem State.putLive_motion (s : State) (k : Nat) (b : Block) : (s.putLive k b).motion = s.motion := rfl
@[simp] theorem State.putLive_touch (s : State) (k : Nat) (b : Block) : (s.putLive k b).touch = s.touch := rfl
@[simp] theorem State.putLive_audio (s : State) (k : Nat) (b : Block) : (s.putLive k b).audio = s.audio := rfl
@[simp] theorem State.putLive_fabric (s : State) (k : Nat) (b : Block) : (s.putLive k b).fabric = s.fabric := rfl
@[simp] theorem State.putLive_integ (s : State) (k : Nat) (b : Block) : (s.putLive k b).integ = s.integ := rfl
@[simp] theorem State.putLive_links (s : State) (k : Nat) (b : Block) : (s.putLive k b).links = s.links := rfl
@[simp] theorem State.putLive_low (s : State) (k : Nat) (b : Block) : (s.putLive k b).low = s.low := rfl
@[simp] theorem State.putLive_render (s : State) (k : Nat) (b : Block) : (s.putLive k b).render = s.render := rfl
@[simp] theorem State.putLive_trace (s : State) (k : Nat) (b : Block) : (s.putLive k b).trace = s.trace := rfl
@[simp] theorem State.putLive_sys (s : State) (k : Nat) (b : Block) : (s.putLive k b).sys = s.sys := rfl

/-! `wrByte` writes `mem` alone. -/

@[simp] theorem State.wrByte_cfg (s : State) (a : Nat) (v : Byte) : (s.wrByte a v).cfg = s.cfg := rfl
@[simp] theorem State.wrByte_now (s : State) (a : Nat) (v : Byte) : (s.wrByte a v).now = s.now := rfl
@[simp] theorem State.wrByte_fresh (s : State) (a : Nat) (v : Byte) : (s.wrByte a v).fresh = s.fresh := rfl
@[simp] theorem State.wrByte_pending (s : State) (a : Nat) (v : Byte) : (s.wrByte a v).pending = s.pending := rfl
@[simp] theorem State.wrByte_objs (s : State) (a : Nat) (v : Byte) : (s.wrByte a v).objs = s.objs := rfl
@[simp] theorem State.wrByte_shadow (s : State) (a : Nat) (v : Byte) : (s.wrByte a v).shadow = s.shadow := rfl
@[simp] theorem State.wrByte_stored (s : State) (a : Nat) (v : Byte) : (s.wrByte a v).stored = s.stored := rfl
@[simp] theorem State.wrByte_blocks (s : State) (a : Nat) (v : Byte) : (s.wrByte a v).blocks = s.blocks := rfl
@[simp] theorem State.wrByte_liveBlocks (s : State) (a : Nat) (v : Byte) : (s.wrByte a v).liveBlocks = s.liveBlocks := rfl
@[simp] theorem State.wrByte_storedBlocks (s : State) (a : Nat) (v : Byte) : (s.wrByte a v).storedBlocks = s.storedBlocks := rfl
@[simp] theorem State.wrByte_out (s : State) (a : Nat) (v : Byte) : (s.wrByte a v).out = s.out := rfl
@[simp] theorem State.wrByte_dict (s : State) (a : Nat) (v : Byte) : (s.wrByte a v).dict = s.dict := rfl
@[simp] theorem State.wrByte_ev (s : State) (a : Nat) (v : Byte) : (s.wrByte a v).ev = s.ev := rfl
@[simp] theorem State.wrByte_til (s : State) (a : Nat) (v : Byte) : (s.wrByte a v).til = s.til := rfl
@[simp] theorem State.wrByte_plan (s : State) (a : Nat) (v : Byte) : (s.wrByte a v).plan = s.plan := rfl
@[simp] theorem State.wrByte_time (s : State) (a : Nat) (v : Byte) : (s.wrByte a v).time = s.time := rfl
@[simp] theorem State.wrByte_place (s : State) (a : Nat) (v : Byte) : (s.wrByte a v).place = s.place := rfl
@[simp] theorem State.wrByte_comp (s : State) (a : Nat) (v : Byte) : (s.wrByte a v).comp = s.comp := rfl
@[simp] theorem State.wrByte_queue (s : State) (a : Nat) (v : Byte) : (s.wrByte a v).queue = s.queue := rfl
@[simp] theorem State.wrByte_memc (s : State) (a : Nat) (v : Byte) : (s.wrByte a v).memc = s.memc := rfl
@[simp] theorem State.wrByte_sec (s : State) (a : Nat) (v : Byte) : (s.wrByte a v).sec = s.sec := rfl
@[simp] theorem State.wrByte_scan (s : State) (a : Nat) (v : Byte) : (s.wrByte a v).scan = s.scan := rfl
@[simp] theorem State.wrByte_motion (s : State) (a : Nat) (v : Byte) : (s.wrByte a v).motion = s.motion := rfl
@[simp] theorem State.wrByte_touch (s : State) (a : Nat) (v : Byte) : (s.wrByte a v).touch = s.touch := rfl
@[simp] theorem State.wrByte_audio (s : State) (a : Nat) (v : Byte) : (s.wrByte a v).audio = s.audio := rfl
@[simp] theorem State.wrByte_fabric (s : State) (a : Nat) (v : Byte) : (s.wrByte a v).fabric = s.fabric := rfl
@[simp] theorem State.wrByte_integ (s : State) (a : Nat) (v : Byte) : (s.wrByte a v).integ = s.integ := rfl
@[simp] theorem State.wrByte_links (s : State) (a : Nat) (v : Byte) : (s.wrByte a v).links = s.links := rfl
@[simp] theorem State.wrByte_low (s : State) (a : Nat) (v : Byte) : (s.wrByte a v).low = s.low := rfl
@[simp] theorem State.wrByte_render (s : State) (a : Nat) (v : Byte) : (s.wrByte a v).render = s.render := rfl
@[simp] theorem State.wrByte_trace (s : State) (a : Nat) (v : Byte) : (s.wrByte a v).trace = s.trace := rfl
@[simp] theorem State.wrByte_sys (s : State) (a : Nat) (v : Byte) : (s.wrByte a v).sys = s.sys := rfl

/-! `emit` writes `out` alone. -/

@[simp] theorem State.emit_cfg (s : State) (o : Out) : (s.emit o).cfg = s.cfg := rfl
@[simp] theorem State.emit_now (s : State) (o : Out) : (s.emit o).now = s.now := rfl
@[simp] theorem State.emit_fresh (s : State) (o : Out) : (s.emit o).fresh = s.fresh := rfl
@[simp] theorem State.emit_pending (s : State) (o : Out) : (s.emit o).pending = s.pending := rfl
@[simp] theorem State.emit_objs (s : State) (o : Out) : (s.emit o).objs = s.objs := rfl
@[simp] theorem State.emit_shadow (s : State) (o : Out) : (s.emit o).shadow = s.shadow := rfl
@[simp] theorem State.emit_stored (s : State) (o : Out) : (s.emit o).stored = s.stored := rfl
@[simp] theorem State.emit_blocks (s : State) (o : Out) : (s.emit o).blocks = s.blocks := rfl
@[simp] theorem State.emit_liveBlocks (s : State) (o : Out) : (s.emit o).liveBlocks = s.liveBlocks := rfl
@[simp] theorem State.emit_storedBlocks (s : State) (o : Out) : (s.emit o).storedBlocks = s.storedBlocks := rfl
@[simp] theorem State.emit_mem (s : State) (o : Out) : (s.emit o).mem = s.mem := rfl
@[simp] theorem State.emit_dict (s : State) (o : Out) : (s.emit o).dict = s.dict := rfl
@[simp] theorem State.emit_ev (s : State) (o : Out) : (s.emit o).ev = s.ev := rfl
@[simp] theorem State.emit_til (s : State) (o : Out) : (s.emit o).til = s.til := rfl
@[simp] theorem State.emit_plan (s : State) (o : Out) : (s.emit o).plan = s.plan := rfl
@[simp] theorem State.emit_time (s : State) (o : Out) : (s.emit o).time = s.time := rfl
@[simp] theorem State.emit_place (s : State) (o : Out) : (s.emit o).place = s.place := rfl
@[simp] theorem State.emit_comp (s : State) (o : Out) : (s.emit o).comp = s.comp := rfl
@[simp] theorem State.emit_queue (s : State) (o : Out) : (s.emit o).queue = s.queue := rfl
@[simp] theorem State.emit_memc (s : State) (o : Out) : (s.emit o).memc = s.memc := rfl
@[simp] theorem State.emit_sec (s : State) (o : Out) : (s.emit o).sec = s.sec := rfl
@[simp] theorem State.emit_scan (s : State) (o : Out) : (s.emit o).scan = s.scan := rfl
@[simp] theorem State.emit_motion (s : State) (o : Out) : (s.emit o).motion = s.motion := rfl
@[simp] theorem State.emit_touch (s : State) (o : Out) : (s.emit o).touch = s.touch := rfl
@[simp] theorem State.emit_audio (s : State) (o : Out) : (s.emit o).audio = s.audio := rfl
@[simp] theorem State.emit_fabric (s : State) (o : Out) : (s.emit o).fabric = s.fabric := rfl
@[simp] theorem State.emit_integ (s : State) (o : Out) : (s.emit o).integ = s.integ := rfl
@[simp] theorem State.emit_links (s : State) (o : Out) : (s.emit o).links = s.links := rfl
@[simp] theorem State.emit_low (s : State) (o : Out) : (s.emit o).low = s.low := rfl
@[simp] theorem State.emit_render (s : State) (o : Out) : (s.emit o).render = s.render := rfl
@[simp] theorem State.emit_trace (s : State) (o : Out) : (s.emit o).trace = s.trace := rfl
@[simp] theorem State.emit_sys (s : State) (o : Out) : (s.emit o).sys = s.sys := rfl

/-! `useFree` writes `fresh` alone. -/

@[simp] theorem State.useFree_cfg (s : State) : (s.useFree).cfg = s.cfg := rfl
@[simp] theorem State.useFree_now (s : State) : (s.useFree).now = s.now := rfl
@[simp] theorem State.useFree_pending (s : State) : (s.useFree).pending = s.pending := rfl
@[simp] theorem State.useFree_objs (s : State) : (s.useFree).objs = s.objs := rfl
@[simp] theorem State.useFree_shadow (s : State) : (s.useFree).shadow = s.shadow := rfl
@[simp] theorem State.useFree_stored (s : State) : (s.useFree).stored = s.stored := rfl
@[simp] theorem State.useFree_blocks (s : State) : (s.useFree).blocks = s.blocks := rfl
@[simp] theorem State.useFree_liveBlocks (s : State) : (s.useFree).liveBlocks = s.liveBlocks := rfl
@[simp] theorem State.useFree_storedBlocks (s : State) : (s.useFree).storedBlocks = s.storedBlocks := rfl
@[simp] theorem State.useFree_mem (s : State) : (s.useFree).mem = s.mem := rfl
@[simp] theorem State.useFree_out (s : State) : (s.useFree).out = s.out := rfl
@[simp] theorem State.useFree_dict (s : State) : (s.useFree).dict = s.dict := rfl
@[simp] theorem State.useFree_ev (s : State) : (s.useFree).ev = s.ev := rfl
@[simp] theorem State.useFree_til (s : State) : (s.useFree).til = s.til := rfl
@[simp] theorem State.useFree_plan (s : State) : (s.useFree).plan = s.plan := rfl
@[simp] theorem State.useFree_time (s : State) : (s.useFree).time = s.time := rfl
@[simp] theorem State.useFree_place (s : State) : (s.useFree).place = s.place := rfl
@[simp] theorem State.useFree_comp (s : State) : (s.useFree).comp = s.comp := rfl
@[simp] theorem State.useFree_queue (s : State) : (s.useFree).queue = s.queue := rfl
@[simp] theorem State.useFree_memc (s : State) : (s.useFree).memc = s.memc := rfl
@[simp] theorem State.useFree_sec (s : State) : (s.useFree).sec = s.sec := rfl
@[simp] theorem State.useFree_scan (s : State) : (s.useFree).scan = s.scan := rfl
@[simp] theorem State.useFree_motion (s : State) : (s.useFree).motion = s.motion := rfl
@[simp] theorem State.useFree_touch (s : State) : (s.useFree).touch = s.touch := rfl
@[simp] theorem State.useFree_audio (s : State) : (s.useFree).audio = s.audio := rfl
@[simp] theorem State.useFree_fabric (s : State) : (s.useFree).fabric = s.fabric := rfl
@[simp] theorem State.useFree_integ (s : State) : (s.useFree).integ = s.integ := rfl
@[simp] theorem State.useFree_links (s : State) : (s.useFree).links = s.links := rfl
@[simp] theorem State.useFree_low (s : State) : (s.useFree).low = s.low := rfl
@[simp] theorem State.useFree_render (s : State) : (s.useFree).render = s.render := rfl
@[simp] theorem State.useFree_trace (s : State) : (s.useFree).trace = s.trace := rfl
@[simp] theorem State.useFree_sys (s : State) : (s.useFree).sys = s.sys := rfl

/-! `advance` writes `now` alone. -/

@[simp] theorem State.advance_cfg (s : State) (t : Nat) : (s.advance t).cfg = s.cfg := rfl
@[simp] theorem State.advance_fresh (s : State) (t : Nat) : (s.advance t).fresh = s.fresh := rfl
@[simp] theorem State.advance_pending (s : State) (t : Nat) : (s.advance t).pending = s.pending := rfl
@[simp] theorem State.advance_objs (s : State) (t : Nat) : (s.advance t).objs = s.objs := rfl
@[simp] theorem State.advance_shadow (s : State) (t : Nat) : (s.advance t).shadow = s.shadow := rfl
@[simp] theorem State.advance_stored (s : State) (t : Nat) : (s.advance t).stored = s.stored := rfl
@[simp] theorem State.advance_blocks (s : State) (t : Nat) : (s.advance t).blocks = s.blocks := rfl
@[simp] theorem State.advance_liveBlocks (s : State) (t : Nat) : (s.advance t).liveBlocks = s.liveBlocks := rfl
@[simp] theorem State.advance_storedBlocks (s : State) (t : Nat) : (s.advance t).storedBlocks = s.storedBlocks := rfl
@[simp] theorem State.advance_mem (s : State) (t : Nat) : (s.advance t).mem = s.mem := rfl
@[simp] theorem State.advance_out (s : State) (t : Nat) : (s.advance t).out = s.out := rfl
@[simp] theorem State.advance_dict (s : State) (t : Nat) : (s.advance t).dict = s.dict := rfl
@[simp] theorem State.advance_ev (s : State) (t : Nat) : (s.advance t).ev = s.ev := rfl
@[simp] theorem State.advance_til (s : State) (t : Nat) : (s.advance t).til = s.til := rfl
@[simp] theorem State.advance_plan (s : State) (t : Nat) : (s.advance t).plan = s.plan := rfl
@[simp] theorem State.advance_time (s : State) (t : Nat) : (s.advance t).time = s.time := rfl
@[simp] theorem State.advance_place (s : State) (t : Nat) : (s.advance t).place = s.place := rfl
@[simp] theorem State.advance_comp (s : State) (t : Nat) : (s.advance t).comp = s.comp := rfl
@[simp] theorem State.advance_queue (s : State) (t : Nat) : (s.advance t).queue = s.queue := rfl
@[simp] theorem State.advance_memc (s : State) (t : Nat) : (s.advance t).memc = s.memc := rfl
@[simp] theorem State.advance_sec (s : State) (t : Nat) : (s.advance t).sec = s.sec := rfl
@[simp] theorem State.advance_scan (s : State) (t : Nat) : (s.advance t).scan = s.scan := rfl
@[simp] theorem State.advance_motion (s : State) (t : Nat) : (s.advance t).motion = s.motion := rfl
@[simp] theorem State.advance_touch (s : State) (t : Nat) : (s.advance t).touch = s.touch := rfl
@[simp] theorem State.advance_audio (s : State) (t : Nat) : (s.advance t).audio = s.audio := rfl
@[simp] theorem State.advance_fabric (s : State) (t : Nat) : (s.advance t).fabric = s.fabric := rfl
@[simp] theorem State.advance_integ (s : State) (t : Nat) : (s.advance t).integ = s.integ := rfl
@[simp] theorem State.advance_links (s : State) (t : Nat) : (s.advance t).links = s.links := rfl
@[simp] theorem State.advance_low (s : State) (t : Nat) : (s.advance t).low = s.low := rfl
@[simp] theorem State.advance_render (s : State) (t : Nat) : (s.advance t).render = s.render := rfl
@[simp] theorem State.advance_trace (s : State) (t : Nat) : (s.advance t).trace = s.trace := rfl
@[simp] theorem State.advance_sys (s : State) (t : Nat) : (s.advance t).sys = s.sys := rfl

/-! `putMeta` writes `dict` alone. -/

@[simp] theorem State.putMeta_cfg (s : State) (m : StatusMeta) : (s.putMeta m).cfg = s.cfg := rfl
@[simp] theorem State.putMeta_now (s : State) (m : StatusMeta) : (s.putMeta m).now = s.now := rfl
@[simp] theorem State.putMeta_fresh (s : State) (m : StatusMeta) : (s.putMeta m).fresh = s.fresh := rfl
@[simp] theorem State.putMeta_pending (s : State) (m : StatusMeta) : (s.putMeta m).pending = s.pending := rfl
@[simp] theorem State.putMeta_objs (s : State) (m : StatusMeta) : (s.putMeta m).objs = s.objs := rfl
@[simp] theorem State.putMeta_shadow (s : State) (m : StatusMeta) : (s.putMeta m).shadow = s.shadow := rfl
@[simp] theorem State.putMeta_stored (s : State) (m : StatusMeta) : (s.putMeta m).stored = s.stored := rfl
@[simp] theorem State.putMeta_blocks (s : State) (m : StatusMeta) : (s.putMeta m).blocks = s.blocks := rfl
@[simp] theorem State.putMeta_liveBlocks (s : State) (m : StatusMeta) : (s.putMeta m).liveBlocks = s.liveBlocks := rfl
@[simp] theorem State.putMeta_storedBlocks (s : State) (m : StatusMeta) : (s.putMeta m).storedBlocks = s.storedBlocks := rfl
@[simp] theorem State.putMeta_mem (s : State) (m : StatusMeta) : (s.putMeta m).mem = s.mem := rfl
@[simp] theorem State.putMeta_out (s : State) (m : StatusMeta) : (s.putMeta m).out = s.out := rfl
@[simp] theorem State.putMeta_ev (s : State) (m : StatusMeta) : (s.putMeta m).ev = s.ev := rfl
@[simp] theorem State.putMeta_til (s : State) (m : StatusMeta) : (s.putMeta m).til = s.til := rfl
@[simp] theorem State.putMeta_plan (s : State) (m : StatusMeta) : (s.putMeta m).plan = s.plan := rfl
@[simp] theorem State.putMeta_time (s : State) (m : StatusMeta) : (s.putMeta m).time = s.time := rfl
@[simp] theorem State.putMeta_place (s : State) (m : StatusMeta) : (s.putMeta m).place = s.place := rfl
@[simp] theorem State.putMeta_comp (s : State) (m : StatusMeta) : (s.putMeta m).comp = s.comp := rfl
@[simp] theorem State.putMeta_queue (s : State) (m : StatusMeta) : (s.putMeta m).queue = s.queue := rfl
@[simp] theorem State.putMeta_memc (s : State) (m : StatusMeta) : (s.putMeta m).memc = s.memc := rfl
@[simp] theorem State.putMeta_sec (s : State) (m : StatusMeta) : (s.putMeta m).sec = s.sec := rfl
@[simp] theorem State.putMeta_scan (s : State) (m : StatusMeta) : (s.putMeta m).scan = s.scan := rfl
@[simp] theorem State.putMeta_motion (s : State) (m : StatusMeta) : (s.putMeta m).motion = s.motion := rfl
@[simp] theorem State.putMeta_touch (s : State) (m : StatusMeta) : (s.putMeta m).touch = s.touch := rfl
@[simp] theorem State.putMeta_audio (s : State) (m : StatusMeta) : (s.putMeta m).audio = s.audio := rfl
@[simp] theorem State.putMeta_fabric (s : State) (m : StatusMeta) : (s.putMeta m).fabric = s.fabric := rfl
@[simp] theorem State.putMeta_integ (s : State) (m : StatusMeta) : (s.putMeta m).integ = s.integ := rfl
@[simp] theorem State.putMeta_links (s : State) (m : StatusMeta) : (s.putMeta m).links = s.links := rfl
@[simp] theorem State.putMeta_low (s : State) (m : StatusMeta) : (s.putMeta m).low = s.low := rfl
@[simp] theorem State.putMeta_render (s : State) (m : StatusMeta) : (s.putMeta m).render = s.render := rfl
@[simp] theorem State.putMeta_trace (s : State) (m : StatusMeta) : (s.putMeta m).trace = s.trace := rfl
@[simp] theorem State.putMeta_sys (s : State) (m : StatusMeta) : (s.putMeta m).sys = s.sys := rfl

/-! `ran` gives back the configuration and the queue, and device time its instant; the rest is the effect's. -/

@[simp] theorem State.ran_fresh (s : State) (t : Nat) (f : State → State) : (s.ran t f).fresh = (f (s.advance t)).fresh := rfl
@[simp] theorem State.ran_objs (s : State) (t : Nat) (f : State → State) : (s.ran t f).objs = (f (s.advance t)).objs := rfl
@[simp] theorem State.ran_shadow (s : State) (t : Nat) (f : State → State) : (s.ran t f).shadow = (f (s.advance t)).shadow := rfl
@[simp] theorem State.ran_stored (s : State) (t : Nat) (f : State → State) : (s.ran t f).stored = (f (s.advance t)).stored := rfl
@[simp] theorem State.ran_blocks (s : State) (t : Nat) (f : State → State) : (s.ran t f).blocks = (f (s.advance t)).blocks := rfl
@[simp] theorem State.ran_liveBlocks (s : State) (t : Nat) (f : State → State) : (s.ran t f).liveBlocks = (f (s.advance t)).liveBlocks := rfl
@[simp] theorem State.ran_storedBlocks (s : State) (t : Nat) (f : State → State) : (s.ran t f).storedBlocks = (f (s.advance t)).storedBlocks := rfl
@[simp] theorem State.ran_mem (s : State) (t : Nat) (f : State → State) : (s.ran t f).mem = (f (s.advance t)).mem := rfl
@[simp] theorem State.ran_out (s : State) (t : Nat) (f : State → State) : (s.ran t f).out = (f (s.advance t)).out := rfl
@[simp] theorem State.ran_dict (s : State) (t : Nat) (f : State → State) : (s.ran t f).dict = (f (s.advance t)).dict := rfl
@[simp] theorem State.ran_ev (s : State) (t : Nat) (f : State → State) : (s.ran t f).ev = (f (s.advance t)).ev := rfl
@[simp] theorem State.ran_til (s : State) (t : Nat) (f : State → State) : (s.ran t f).til = (f (s.advance t)).til := rfl
@[simp] theorem State.ran_plan (s : State) (t : Nat) (f : State → State) : (s.ran t f).plan = (f (s.advance t)).plan := rfl
@[simp] theorem State.ran_time (s : State) (t : Nat) (f : State → State) : (s.ran t f).time = (f (s.advance t)).time := rfl
@[simp] theorem State.ran_place (s : State) (t : Nat) (f : State → State) : (s.ran t f).place = (f (s.advance t)).place := rfl
@[simp] theorem State.ran_comp (s : State) (t : Nat) (f : State → State) : (s.ran t f).comp = (f (s.advance t)).comp := rfl
@[simp] theorem State.ran_queue (s : State) (t : Nat) (f : State → State) : (s.ran t f).queue = (f (s.advance t)).queue := rfl
@[simp] theorem State.ran_memc (s : State) (t : Nat) (f : State → State) : (s.ran t f).memc = (f (s.advance t)).memc := rfl
@[simp] theorem State.ran_sec (s : State) (t : Nat) (f : State → State) : (s.ran t f).sec = (f (s.advance t)).sec := rfl
@[simp] theorem State.ran_scan (s : State) (t : Nat) (f : State → State) : (s.ran t f).scan = (f (s.advance t)).scan := rfl
@[simp] theorem State.ran_motion (s : State) (t : Nat) (f : State → State) : (s.ran t f).motion = (f (s.advance t)).motion := rfl
@[simp] theorem State.ran_touch (s : State) (t : Nat) (f : State → State) : (s.ran t f).touch = (f (s.advance t)).touch := rfl
@[simp] theorem State.ran_audio (s : State) (t : Nat) (f : State → State) : (s.ran t f).audio = (f (s.advance t)).audio := rfl
@[simp] theorem State.ran_fabric (s : State) (t : Nat) (f : State → State) : (s.ran t f).fabric = (f (s.advance t)).fabric := rfl
@[simp] theorem State.ran_integ (s : State) (t : Nat) (f : State → State) : (s.ran t f).integ = (f (s.advance t)).integ := rfl
@[simp] theorem State.ran_links (s : State) (t : Nat) (f : State → State) : (s.ran t f).links = (f (s.advance t)).links := rfl
@[simp] theorem State.ran_low (s : State) (t : Nat) (f : State → State) : (s.ran t f).low = (f (s.advance t)).low := rfl
@[simp] theorem State.ran_render (s : State) (t : Nat) (f : State → State) : (s.ran t f).render = (f (s.advance t)).render := rfl
@[simp] theorem State.ran_trace (s : State) (t : Nat) (f : State → State) : (s.ran t f).trace = (f (s.advance t)).trace := rfl
@[simp] theorem State.ran_sys (s : State) (t : Nat) (f : State → State) : (s.ran t f).sys = (f (s.advance t)).sys := rfl

/-! What an update writes. -/

theorem State.putK_objs (s : State) (k : Nat) (v : Word) :
    (s.putK k v).objs = mput (objDefault s.cfg k) k v s.objs := rfl
theorem State.putShadow_shadow (s : State) (k : Nat) (v : Word) :
    (s.putShadow k v).shadow = mput (objDefault s.cfg k) k v s.shadow := rfl
theorem State.wrByte_mem (s : State) (a : Nat) (v : Byte) : (s.wrByte a v).mem = mput (memDefault a) a v s.mem := rfl
@[simp] theorem State.emit_out (s : State) (o : Out) : (s.emit o).out = o :: s.out := rfl
@[simp] theorem State.useFree_fresh (s : State) : s.useFree.fresh = s.fresh + 1 := rfl
@[simp] theorem State.advance_now (s : State) (t : Nat) : (s.advance t).now = max s.now t := rfl

end Sys2Proof.Machine
end

