-- ==== Sys2Proof/Laws/Ops.lean ====
section
/-!
SUPPORT. What the named operations over registers, blocks, memory and time do: a read after a write, a read of
something else, the canonical forms, and what the forms of a meaning answer.
-/
namespace Sys2Proof.Machine

/-! ## Registers -/

theorem State.getK_putK_same (s : State) (k : Nat) (v : Word) : (s.putK k v).getK k = v := mget_mput_same _ k v s.objs

theorem State.getK_putK_ne (s : State) {k j : Nat} (h : j ≠ k) (v : Word) : (s.putK k v).getK j = s.getK j :=
  mget_mput_ne _ _ h v s.objs

theorem State.getK_putK (s : State) (k j : Nat) (v : Word) : (s.putK k v).getK j = if j = k then v else s.getK j := by
  split
  · next h => subst h; exact s.getK_putK_same j v
  · next h => exact s.getK_putK_ne h v

theorem State.getShadow_putShadow_same (s : State) (k : Nat) (v : Word) : (s.putShadow k v).getShadow k = v :=
  mget_mput_same _ k v s.shadow

theorem State.getShadow_putShadow_ne (s : State) {k j : Nat} (h : j ≠ k) (v : Word) :
    (s.putShadow k v).getShadow j = s.getShadow j := mget_mput_ne _ _ h v s.shadow

theorem State.getBlk_putBlk_same (s : State) (k : Nat) (d : List Byte) :
    (s.putBlk k d).getBlk k = ⟨((s.getBlk k).gen + 1) % 2 ^ 32, d⟩ := mget_mput_same _ k _ s.blocks

theorem State.getBlk_putBlk_ne (s : State) {k j : Nat} (h : j ≠ k) (d : List Byte) :
    (s.putBlk k d).getBlk j = s.getBlk j := mget_mput_ne _ _ h _ s.blocks

/-- A read of an active value looks at nothing but the configuration and the active values. -/
theorem State.getK_congr {s s' : State} (hc : s'.cfg = s.cfg) (ho : s'.objs = s.objs) (k : Nat) : s'.getK k = s.getK k := by
  simp [State.getK, hc, ho]

theorem State.get_congr {s s' : State} (hc : s'.cfg = s.cfg) (ho : s'.objs = s.objs) (i u : Nat) :
    s'.get i u = s.get i u := by simp [State.get, State.getK_congr hc ho]

theorem State.getB_congr {s s' : State} (hc : s'.cfg = s.cfg) (ho : s'.objs = s.objs) (b i u : Nat) :
    s'.getB b i u = s.getB b i u := by simp [State.getB, State.getK_congr hc ho]

/-- A number as a word reads back modulo 2^64. -/
theorem w64_toNat (n : Nat) : (w64 n).toNat = n % 2 ^ 64 := by simp [w64]

theorem State.get_put_same (s : State) (i u v : Nat) : (s.put i u v).get i u = v % 2 ^ 64 := by
  simp only [State.get, State.put, State.getK_putK_same, w64_toNat]

theorem State.get_put_ne (s : State) {i u j w : Nat} (h : okey 0 j w ≠ okey 0 i u) (v : Nat) :
    (s.put i u v).get j w = s.get j w := by
  simp only [State.get, State.put, State.getK_putK_ne s h]

theorem State.getB_putB_same (s : State) (b i u v : Nat) : (s.putB b i u v).getB b i u = v % 2 ^ 64 := by
  simp only [State.getB, State.putB, State.getK_putK_same, w64_toNat]

theorem State.getB_putB_ne (s : State) {b i u c j w : Nat} (h : okey c j w ≠ okey b i u) (v : Nat) :
    (s.putB b i u v).getB c j w = s.getB c j w := by
  simp only [State.getB, State.putB, State.getK_putK_ne s h]

/-- A saturating counter stops at 2^width − 1. -/
theorem State.getB_bumpW_same (s : State) (w b i u n : Nat) (h : w ≤ 64) :
    (s.bumpW w b i u n).getB b i u = min (s.getB b i u + n) (2 ^ w - 1) := by
  unfold State.bumpW
  rw [State.getB_putB_same, Nat.mod_eq_of_lt]
  have : 2 ^ w ≤ 2 ^ 64 := Nat.pow_le_pow_right (by decide) h
  have : 0 < 2 ^ w := Nat.two_pow_pos w
  omega

theorem State.get_bump_same (s : State) (i u : Nat) : (s.bump i u).get i u = min (s.get i u + 1) (2 ^ 32 - 1) :=
  s.getB_bumpW_same 32 0 i u 1 (by decide)

theorem State.get_bump_ne (s : State) {i u j w : Nat} (h : okey 0 j w ≠ okey 0 i u) : (s.bump i u).get j w = s.get j w :=
  s.getB_putB_ne h _

/-- The frame of a register write: configuration, memory, time and everything but the active values stay. -/
theorem State.put_frame (s : State) (i u v : Nat) : ∃ o, s.put i u v = { s with objs := o } := ⟨_, rfl⟩

/-! ## Memory -/

theorem State.rdByte_wrByte_same (s : State) (a : Nat) (v : Byte) : (s.wrByte a v).rdByte a = v :=
  mget_mput_same _ a v s.mem

theorem State.rdByte_wrByte_ne (s : State) {a b : Nat} (h : b ≠ a) (v : Byte) : (s.wrByte a v).rdByte b = s.rdByte b :=
  mget_mput_ne _ _ h v s.mem

/-- A write of several bytes leaves every byte outside them alone. -/
theorem State.rdByte_wrBytes_ne (l : List Byte) :
    ∀ (s : State) (a b : Nat), b < a ∨ a + l.length ≤ b → (s.wrBytes a l).rdByte b = s.rdByte b := by
  induction l with
  | nil => intro s a b _; rfl
  | cons x r ih =>
    intro s a b h
    have hl : (x :: r).length = r.length + 1 := rfl
    rw [hl] at h
    show ((s.wrByte a x).wrBytes (a + 1) r).rdByte b = _
    rw [ih (s.wrByte a x) (a + 1) b (by omega), State.rdByte_wrByte_ne s (by omega)]

/-- A read of the bytes that were written gives them back. -/
theorem State.rdBytes_wrBytes (l : List Byte) : ∀ (s : State) (a : Nat), (s.wrBytes a l).rdBytes a l.length = l := by
  induction l with
  | nil => intro s a; rfl
  | cons x r ih =>
    intro s a
    show ((s.wrByte a x).wrBytes (a + 1) r).rdByte a :: ((s.wrByte a x).wrBytes (a + 1) r).rdBytes (a + 1) r.length = _
    rw [ih, State.rdByte_wrBytes_ne r _ (a + 1) a (by omega), State.rdByte_wrByte_same]

/-! Every memory operation keeps the canonical form. -/

theorem State.wrByte_wf (s : State) (a : Nat) (v : Byte) (h : Memory.wf s.mem = true) : Memory.wf (s.wrByte a v).mem = true :=
  mwf_mput memDefault a v s.mem h

theorem State.wrBytes_wf (l : List Byte) :
    ∀ (s : State) (a : Nat), Memory.wf s.mem = true → Memory.wf (s.wrBytes a l).mem = true := by
  induction l with
  | nil => intro s a h; exact h
  | cons x r ih => intro s a h; exact ih (s.wrByte a x) (a + 1) (s.wrByte_wf a x h)

theorem State.reset_memory_wf : Memory.wf State.reset.mem = true := rfl

theorem State.reset_wf : State.reset.wf = true := rfl

/-- Every register map is canonical after a register write where it was before. -/
theorem State.putK_wf (s : State) (k : Nat) (v : Word) (h : mwf (objDefault s.cfg) s.objs = true) :
    mwf (objDefault (s.putK k v).cfg) (s.putK k v).objs = true := mwf_mput (objDefault s.cfg) k v s.objs h

theorem State.putShadow_wf (s : State) (k : Nat) (v : Word) (h : mwf (objDefault s.cfg) s.shadow = true) :
    mwf (objDefault (s.putShadow k v).cfg) (s.putShadow k v).shadow = true := mwf_mput (objDefault s.cfg) k v s.shadow h

theorem State.putBlk_wf (s : State) (k : Nat) (d : List Byte) (h : mwf (blockDefault s.cfg) s.blocks = true) :
    mwf (blockDefault (s.putBlk k d).cfg) (s.putBlk k d).blocks = true := mwf_mput (blockDefault s.cfg) k _ s.blocks h

theorem State.putLive_wf (s : State) (k : Nat) (b : Block) (h : mwf (blockDefault s.cfg) s.liveBlocks = true) :
    mwf (blockDefault (s.putLive k b).cfg) (s.putLive k b).liveBlocks = true := mwf_mput (blockDefault s.cfg) k b s.liveBlocks h

/-! ## The forms of a meaning -/

/-- A command that is held in reset leaves a state in which only time has passed. -/
theorem at_reset (t : Nat) (s : State) (f : State → State) (h : s.inReset = true) : at_ t s f = .next (s.advance t) := by
  simp [at_, h]

/-- A command out of reset leaves what its effect leaves at its instant. -/
theorem at_run (t : Nat) (s : State) (f : State → State) (h : s.inReset = false) : at_ t s f = .next (s.ran t f) := by
  simp [at_, h]

/-- Whatever its effect is, a command answers a next state with the configuration and the queue as they were, and device
time at its instant unless that has passed. -/
theorem at_spec (t : Nat) (s : State) (f : State → State) :
    ∃ s', at_ t s f = .next s' ∧ s'.cfg = s.cfg ∧ s'.pending = s.pending ∧ s'.now = max s.now t := by
  unfold at_
  split
  · exact ⟨_, rfl, rfl, rfl, rfl⟩
  · exact ⟨_, rfl, rfl, rfl, rfl⟩

theorem always_spec (t : Nat) (s : State) (f : State → State) :
    ∃ s', always t s f = .next s' ∧ s'.cfg = s.cfg ∧ s'.pending = s.pending ∧ s'.now = max s.now t := ⟨_, rfl, rfl, rfl, rfl⟩

@[simp] theorem State.ran_cfg (s : State) (t : Nat) (f : State → State) : (s.ran t f).cfg = s.cfg := rfl
@[simp] theorem State.ran_pending (s : State) (t : Nat) (f : State → State) : (s.ran t f).pending = s.pending := rfl
@[simp] theorem State.ran_now (s : State) (t : Nat) (f : State → State) : (s.ran t f).now = max s.now t := rfl

theorem State.when_true (s : State) (f : State → State) : s.when true f = f s := rfl
theorem State.when_false (s : State) (f : State → State) : s.when false f = s := rfl

end Sys2Proof.Machine
end

