-- ==== Sys2Proof/Laws/Frame.lean ====
section
/-!
SUPPORT. What the shared operations leave alone: register writes, status flags, events, refusals, and the whole of a
dictionary write. Each lemma says once everything that an operation can change.
-/
namespace Sys2Proof.Machine

/-! ## Keys -/

/-- An object's index is read back from its key. -/
theorem keyIdx_okey (b : Nat) {i u : Nat} (hi : i < 65536) (hu : u < 256) : keyIdx (okey b i u) = i := by
  unfold keyIdx okey
  omega

theorem keySub_okey (b : Nat) (i : Nat) {u : Nat} (hu : u < 256) : keySub (okey b i u) = u := by
  unfold keySub okey
  omega

/-! ## Composition -/

theorem Keeps.refl (P : Nat → Prop) (s : State) : Keeps P s s :=
  ⟨rfl, fun _ => rfl, fun _ _ => rfl, fun _ _ => rfl, fun _ _ => rfl, fun _ _ => rfl⟩

theorem Keeps.trans {P : Nat → Prop} {a b c : State} (h : Keeps P a b) (h' : Keeps P b c) : Keeps P a c :=
  ⟨h'.cfg.trans h.cfg, fun x => (h'.mem x).trans (h.mem x), fun k hk => (h'.regs k hk).trans (h.regs k hk),
   fun k hk => (h'.shadow k hk).trans (h.shadow k hk), fun k hk => (h'.blks k hk).trans (h.blks k hk),
   fun k hk => (h'.live k hk).trans (h.live k hk)⟩

/-- `trans` with the later half first. -/
theorem Keeps.after {P : Nat → Prop} {a b c : State} (h' : Keeps P b c) (h : Keeps P a b) : Keeps P a c := h.trans h'

theorem Keeps.mono {P Q : Nat → Prop} {a b : State} (h : Keeps P a b) (hpq : ∀ k, P k → Q k) : Keeps Q a b :=
  ⟨h.cfg, h.mem, fun k hk => h.regs k (fun p => hk (hpq k p)), fun k hk => h.shadow k (fun p => hk (hpq k p)),
   fun k hk => h.blks k (fun p => hk (hpq k p)), fun k hk => h.live k (fun p => hk (hpq k p))⟩

/-- A state that has the same configuration, memory and maps keeps everything. -/
theorem Keeps.ofEq {P : Nat → Prop} {s s' : State} (h1 : s'.cfg = s.cfg) (h2 : s'.mem = s.mem) (h3 : s'.objs = s.objs)
    (h4 : s'.shadow = s.shadow) (h5 : s'.blocks = s.blocks) (h6 : s'.liveBlocks = s.liveBlocks) : Keeps P s s' := by
  refine ⟨h1, ?_, ?_, ?_, ?_, ?_⟩
  · intro a; simp [State.rdByte, h2]
  · intro k _; simp [State.getK, h1, h3]
  · intro k _; simp [State.getShadow, h1, h4]
  · intro k _; simp [State.getBlk, h1, h5]
  · intro k _; simp [State.getLive, h1, h6]

theorem Keeps.get {P : Nat → Prop} {s s' : State} (h : Keeps P s s') {i u : Nat} (hk : ¬ P (okey 0 i u)) :
    s'.get i u = s.get i u := by simp [State.get, h.regs _ hk]

theorem Keeps.getB {P : Nat → Prop} {s s' : State} (h : Keeps P s s') {b i u : Nat} (hk : ¬ P (okey b i u)) :
    s'.getB b i u = s.getB b i u := by simp [State.getB, h.regs _ hk]

/-- A fold of steps that each keep everything outside a set keeps it. -/
theorem Keeps.fold {α : Type} {P : Nat → Prop} {f : State → α → State} (l : List α)
    (h : ∀ s x, x ∈ l → Keeps P s (f s x)) : ∀ s, Keeps P s (foldS f s l) := by
  induction l with
  | nil => intro s; exact Keeps.refl P s
  | cons x r ih =>
    intro s
    exact (h s x (by simp)).trans (ih (fun s y hy => h s y (by simp [hy])) (f s x))

/-- What a command leaves is what its effect leaves, in every register and byte of memory. -/
theorem Keeps.ran {P : Nat → Prop} {s : State} {t : Nat} {f : State → State}
    (h : Keeps P (s.advance t) (f (s.advance t))) : Keeps P s (s.ran t f) := by
  have e : Keeps P (f (s.advance t)) (s.ran t f) := Keeps.ofEq h.cfg.symm rfl rfl rfl rfl rfl
  have e0 : Keeps P s (s.advance t) := Keeps.ofEq rfl rfl rfl rfl rfl rfl
  exact (e0.trans h).trans e

/-- A register after a command is what the effect left in it. -/
theorem State.ran_getK {s : State} {t : Nat} {f : State → State} (h : (f (s.advance t)).cfg = s.cfg) (k : Nat) :
    (s.ran t f).getK k = (f (s.advance t)).getK k := by
  show mget (objDefault s.cfg k) k (f (s.advance t)).objs = mget (objDefault (f (s.advance t)).cfg k) k _
  rw [h]

theorem State.ran_get {s : State} {t : Nat} {f : State → State} (h : (f (s.advance t)).cfg = s.cfg) (i u : Nat) :
    (s.ran t f).get i u = (f (s.advance t)).get i u := by simp [State.get, State.ran_getK h]

theorem State.ran_getB {s : State} {t : Nat} {f : State → State} (h : (f (s.advance t)).cfg = s.cfg) (b i u : Nat) :
    (s.ran t f).getB b i u = (f (s.advance t)).getB b i u := by simp [State.getB, State.ran_getK h]

/-! ## Register updates -/

theorem Keeps.putK (s : State) (k : Nat) (v : Word) : Keeps (fun j => j = k) s (s.putK k v) :=
  ⟨rfl, fun _ => rfl, fun _ h => s.getK_putK_ne h v, fun _ _ => rfl, fun _ _ => rfl, fun _ _ => rfl⟩

theorem Keeps.put (s : State) (i u v : Nat) : Keeps (fun j => j = okey 0 i u) s (s.put i u v) := Keeps.putK s _ _
theorem Keeps.putI (s : State) (i u : Nat) (v : Int) : Keeps (fun j => j = okey 0 i u) s (s.putI i u v) := Keeps.putK s _ _
theorem Keeps.putB (s : State) (b i u v : Nat) : Keeps (fun j => j = okey b i u) s (s.putB b i u v) := Keeps.putK s _ _
theorem Keeps.bumpW (s : State) (w b i u n : Nat) : Keeps (fun j => j = okey b i u) s (s.bumpW w b i u n) := Keeps.putK s _ _
theorem Keeps.bump (s : State) (i u : Nat) : Keeps (fun j => j = okey 0 i u) s (s.bump i u) := Keeps.putK s _ _
theorem Keeps.bumpN (s : State) (i u n : Nat) : Keeps (fun j => j = okey 0 i u) s (s.bumpN i u n) := Keeps.putK s _ _
theorem Keeps.bump64 (s : State) (i u n : Nat) : Keeps (fun j => j = okey 0 i u) s (s.bump64 i u n) := Keeps.putK s _ _
theorem Keeps.wrap32 (s : State) (i u : Nat) : Keeps (fun j => j = okey 0 i u) s (s.wrap32 i u) := Keeps.putK s _ _
theorem Keeps.setPin (s : State) (b : Nat) (on : Bool) : Keeps (fun j => j = okey 0 0x9700 1) s (s.setPin b on) := Keeps.putK s _ _

theorem Keeps.putShadow (s : State) (k : Nat) (v : Word) : Keeps (fun j => j = k) s (s.putShadow k v) :=
  ⟨rfl, fun _ => rfl, fun _ _ => rfl, fun _ h => s.getShadow_putShadow_ne h v, fun _ _ => rfl, fun _ _ => rfl⟩

theorem Keeps.putBoth (s : State) (k : Nat) (v : Word) : Keeps (fun j => j = k) s (s.putBoth k v) :=
  (Keeps.putK s k v).trans (Keeps.putShadow _ k v)

theorem Keeps.putBlk (s : State) (k : Nat) (d : List Byte) : Keeps (fun j => j = k) s (s.putBlk k d) :=
  ⟨rfl, fun _ => rfl, fun _ _ => rfl, fun _ _ => rfl, fun _ h => s.getBlk_putBlk_ne h d, fun _ _ => rfl⟩

theorem Keeps.putLive (s : State) (k : Nat) (b : Block) : Keeps (fun j => j = k) s (s.putLive k b) :=
  ⟨rfl, fun _ => rfl, fun _ _ => rfl, fun _ _ => rfl, fun _ _ => rfl, fun _ h => mget_mput_ne _ _ h b s.liveBlocks⟩

theorem Keeps.emit {P : Nat → Prop} (s : State) (o : Out) : Keeps P s (s.emit o) := Keeps.ofEq rfl rfl rfl rfl rfl rfl
theorem Keeps.useFree {P : Nat → Prop} (s : State) : Keeps P s s.useFree := Keeps.ofEq rfl rfl rfl rfl rfl rfl
theorem Keeps.putMeta {P : Nat → Prop} (s : State) (m : StatusMeta) : Keeps P s (s.putMeta m) := Keeps.ofEq rfl rfl rfl rfl rfl rfl
theorem Keeps.putTrace {P : Nat → Prop} (s : State) (x : TraceRun) : Keeps P s (s.putTrace x) := Keeps.ofEq rfl rfl rfl rfl rfl rfl

theorem Keeps.when {P : Nat → Prop} {f : State → State} (s : State) (c : Bool) (h : Keeps P s (f s)) : Keeps P s (s.when c f) := by
  unfold State.when
  split
  · exact h
  · exact Keeps.refl P s

/-! ## Flags and events -/

theorem Keeps.settleStatus (s : State) (k : Nat) : Keeps (fun j => j = k) s (s.settleStatus k) := by
  unfold State.settleStatus
  split
  · exact Keeps.refl _ s
  · extract_lets
    split
    · exact (Keeps.putK s k _).trans (Keeps.putMeta _ _)
    · exact Keeps.refl _ s

/-- A flag set changes its status object alone. -/
theorem Keeps.setFlag (s : State) (k n : Nat) : Keeps (fun j => j = k) s (s.setFlag k n) := by
  unfold State.setFlag
  refine (Keeps.settleStatus s k).trans ?_
  dsimp only
  split
  · exact (Keeps.putK _ k _).trans (Keeps.putMeta _ _)
  · split
    · split
      · exact (Keeps.putK _ k _).trans (Keeps.putMeta _ _)
      · exact (Keeps.putK _ k _).trans (Keeps.putMeta _ _)
    · split
      · exact (Keeps.putK _ k _).trans (Keeps.putMeta _ _)
      · split
        · exact (Keeps.putK _ k _).trans (Keeps.putMeta _ _)
        · exact (Keeps.putK _ k _).trans (Keeps.putMeta _ _)

/-- Every object of an index in the event range, of every bank. -/
theorem evKey_okey {b i u : Nat} (h : 0x8C00 ≤ i ∧ i < 0x9000) (hu : u < 256) : evKey (okey b i u) := by
  unfold evKey
  rw [keyIdx_okey b (by omega) hu]
  exact h

theorem not_evKey_okey {b i u : Nat} (hi : i < 65536) (h : i < 0x8C00 ∨ 0x9000 ≤ i) (hu : u < 256) : ¬ evKey (okey b i u) := by
  unfold evKey
  rw [keyIdx_okey b hi hu]
  omega

theorem Keeps.evPut (s : State) {i u : Nat} (v : Nat) (h : 0x8C00 ≤ i ∧ i < 0x9000) (hu : u < 256) : Keeps evKey s (s.put i u v) :=
  (Keeps.put s i u v).mono (fun k hk => by subst hk; exact evKey_okey h hu)

theorem Keeps.evBump (s : State) {i u : Nat} (h : 0x8C00 ≤ i ∧ i < 0x9000) (hu : u < 256) : Keeps evKey s (s.bump i u) :=
  (Keeps.bump s i u).mono (fun k hk => by subst hk; exact evKey_okey h hu)

theorem Keeps.evFlag (s : State) {i u : Nat} (n : Nat) (h : 0x8C00 ≤ i ∧ i < 0x9000) (hu : u < 256) :
    Keeps evKey s (s.setFlag (okey 0 i u) n) :=
  (Keeps.setFlag s _ n).mono (fun k hk => by subst hk; exact evKey_okey h hu)

/-- The record of a trace ring is that of its number. -/
theorem State.traceRun_ring (s : State) (r : Nat) : (s.traceRun r).ring = r := by
  unfold State.traceRun
  cases h : s.trace.rings.find? (fun x => x.ring == r) with
  | none => rfl
  | some x =>
    have := List.find?_some h
    simpa using this

theorem Keeps.handPage (s : State) (x : TraceRun) (a b : Nat) (hx : x.ring < 8) : Keeps evKey s (s.handPage x a b) := by
  unfold State.handPage
  exact ((Keeps.emit s _).trans (Keeps.evPut _ _ (by unfold trIdx; omega) (by decide))).trans (Keeps.putTrace _ _)

theorem Keeps.traceLost (s : State) (x : TraceRun) (hx : x.ring < 8) : Keeps evKey s (s.traceLost x) := by
  unfold State.traceLost
  exact ((Keeps.putTrace s _).trans (Keeps.evBump _ (by unfold trIdx; omega) (by decide))).trans
    (Keeps.evFlag _ 3 (by decide) (by decide))

theorem Keeps.turnPage (s : State) (x : TraceRun) (a : Nat) (hx : x.ring < 8) : Keeps evKey s (s.turnPage x a) := by
  unfold State.turnPage
  dsimp only
  split
  · exact Keeps.handPage s x _ _ hx
  · refine (Keeps.handPage s x (x.flags + a) x.before hx).trans ?_
    exact (((Keeps.putTrace _ _).trans (Keeps.evPut _ _ (by unfold trIdx; omega) (by decide))).trans
      (Keeps.evBump _ (by unfold trIdx; omega) (by decide))).trans (Keeps.evFlag _ 3 (by decide) (by decide))

theorem Keeps.tracePut (s : State) (r : Nat) (d : List Byte) (hr : r < 8) : Keeps evKey s (s.tracePut r d) := by
  have hx : (s.traceRun r).ring < 8 := by rw [State.traceRun_ring]; exact hr
  unfold State.tracePut
  dsimp only
  split
  · exact Keeps.traceLost s _ hx
  · split
    · exact Keeps.putTrace s _
    · split
      · exact Keeps.traceLost s _ hx
      · exact (Keeps.turnPage s _ 0 hx).trans (Keeps.putTrace _ _)

theorem Keeps.traceSource (s : State) (n : Nat) (d : List Byte) : Keeps evKey s (s.traceSource n d) := by
  unfold State.traceSource
  refine Keeps.fold _ ?_ s
  intro s r hr
  have : r < 8 := by simpa using hr
  split
  · exact Keeps.tracePut s r d this
  · exact Keeps.refl _ s

theorem Keeps.loseRing (s : State) (q : Nat) : Keeps evKey s (s.when (q < 16) (fun s => s.bump (0x8C40 + q) 8)) := by
  by_cases hq : q < 16
  · exact Keeps.when _ _ (Keeps.evBump _ (by omega) (by decide))
  · simp only [hq, decide_false, State.when_false]
    exact Keeps.refl _ _

theorem Keeps.lose (s : State) (sev : Nat) (p : EvPath) : Keeps evKey s (s.lose sev p) := by
  unfold State.lose
  cases p with
  | ring q => exact (Keeps.loseRing _ q).after (Keeps.ofEq rfl rfl rfl rfl rfl rfl)
  | sub i => exact Keeps.ofEq rfl rfl rfl rfl rfl rfl
  | emcy t => exact Keeps.ofEq rfl rfl rfl rfl rfl rfl

theorem Keeps.loseFold (s : State) (p : EvPath) : Keeps evKey s (s.loseFold p) := Keeps.ofEq rfl rfl rfl rfl rfl rfl

theorem Keeps.countDrop (s : State) (sev : Nat) : Keeps evKey s (s.countDrop sev) :=
  (Keeps.evBump s (by decide) (by omega)).trans (Keeps.evFlag _ 0 (by decide) (by decide))

theorem Keeps.countStore (s : State) : Keeps evKey s s.countStore := by
  unfold State.countStore
  exact ((Keeps.evPut s _ (by decide) (by decide)).trans (Keeps.evPut _ _ (by decide) (by decide))).trans
    (Keeps.evPut _ _ (by decide) (by decide))

theorem Keeps.setStore (s : State) (l : List EvRec) : Keeps evKey s (s.setStore l) :=
  (Keeps.countStore _).after (Keeps.ofEq rfl rfl rfl rfl rfl rfl)

theorem Keeps.loseAll (s : State) (sev : Nat) (l : List EvPath) : Keeps evKey s (foldS (fun s p => s.lose sev p) s l) :=
  Keeps.fold l (fun s p _ => Keeps.lose s sev p) s

theorem Keeps.makeShared (s s' : State) (sev : Nat) (h : s.makeShared sev = some s') : Keeps evKey s s' := by
  unfold State.makeShared at h
  split at h
  · cases h; exact Keeps.refl _ s
  · dsimp only at h
    split at h
    · split at h
      · cases h
        exact ((Keeps.loseAll s _ _).trans (Keeps.setStore _ _)).trans (Keeps.countDrop _ _)
      · cases h; exact Keeps.refl _ s
    · cases h

theorem Keeps.makePath (s : State) (sev : Nat) (p : EvPath) : Keeps evKey s (s.makePath sev p).1 := by
  unfold State.makePath
  dsimp only
  split
  · exact Keeps.refl _ s
  · split
    · exact ((Keeps.setStore s _).trans (Keeps.lose _ _ _)).trans (Keeps.countDrop _ _)
    · exact (Keeps.lose s _ _).trans (Keeps.countDrop _ _)

theorem Keeps.takeToken (s : State) (n : Nat) : Keeps evKey s (s.takeToken n).1 := by
  unfold State.takeToken
  extract_lets
  split <;> exact Keeps.ofEq rfl rfl rfl rfl rfl rfl

theorem Keeps.takeSeq (s : State) (p : Nat) : Keeps evKey s (s.takeSeq p).1 := Keeps.ofEq rfl rfl rfl rfl rfl rfl

theorem Keeps.storeCritical (s : State) (r : EvRec) : Keeps evKey s (s.storeCritical r) := by
  unfold State.storeCritical
  split
  · exact Keeps.setStore s _
  · dsimp only
    refine (Keeps.evFlag _ 1 (by decide) (by decide)).after ?_
    refine (Keeps.evBump _ (by decide) (by decide)).after ?_
    refine (Keeps.fold _ (fun s p _ => Keeps.loseFold s p) _).after ?_
    exact Keeps.setStore s _

theorem Keeps.roomFor (sev : Nat) (l : List EvPath) :
    ∀ (s : State) (kept : List EvPath), Keeps evKey s (s.roomFor sev kept l).1 := by
  induction l with
  | nil => intro s kept; exact Keeps.refl _ _
  | cons p r ih =>
    intro s kept
    exact (ih _ _).after (Keeps.makePath s sev p)

theorem Keeps.fileCritical (s : State) (r : EvRec) : Keeps evKey s (s.fileCritical r) := by
  unfold State.fileCritical
  extract_lets s1
  have h1 : Keeps evKey s s1 := Keeps.storeCritical s r
  split
  · refine Keeps.after ?_ h1
    refine (Keeps.storeCritical _ _).after ?_
    exact Keeps.ofEq rfl rfl rfl rfl rfl rfl
  · exact h1

theorem Keeps.fileShared (s : State) (r : EvRec) : Keeps evKey s (s.fileShared r) := by
  unfold State.fileShared
  refine Keeps.after ?_ (Keeps.takeToken s r.source)
  generalize s.takeToken r.source = a
  extract_lets
  split
  · refine (Keeps.loseAll _ _ _).after ?_
    exact (Keeps.countDrop _ _).after (Keeps.evBump _ (by decide) (by decide))
  · split
    · exact Keeps.refl _ _
    · split
      · exact (Keeps.loseAll _ _ _).after (Keeps.countDrop _ _)
      · next s4 h4 =>
        refine Keeps.after ?_ (Keeps.makeShared _ s4 _ h4)
        refine Keeps.after ?_ (Keeps.roomFor r.sev r.paths s4 [])
        generalize s4.roomFor r.sev [] r.paths = b
        extract_lets
        split
        · exact Keeps.refl _ _
        · exact Keeps.setStore _ _

/-- A record created changes the event range alone. -/
theorem Keeps.createRecord (s : State) (o : Occ) (time count last : Nat) (c : Bool) :
    Keeps evKey s (s.createRecord o time count last c) := by
  unfold State.createRecord
  extract_lets a r s1
  have h1 : Keeps evKey s s1 := (Keeps.traceSource _ _ _).after (Keeps.takeSeq s o.part)
  refine Keeps.after ?_ h1
  split
  · exact Keeps.fileCritical _ _
  · exact Keeps.fileShared _ _

theorem Keeps.closeSlot (s : State) (z : EvSlot) : Keeps evKey s (s.closeSlot z) := by
  unfold State.closeSlot
  dsimp only
  split
  · exact Keeps.ofEq rfl rfl rfl rfl rfl rfl
  · exact (Keeps.createRecord _ _ _ _ _ _).after (Keeps.ofEq rfl rfl rfl rfl rfl rfl)

/-- An event occurrence changes the event range alone. -/
theorem Keeps.occur (s : State) (o : Occ) : Keeps evKey s (s.occur o) := by
  unfold State.occur
  split
  · exact Keeps.refl _ s
  · extract_lets s1 here s2 s3 _ s4 _
    have h1 : Keeps evKey s s1 := (Keeps.bump64 s 0x8C02 1 1).mono (fun k hk => by subst hk; exact evKey_okey (by decide) (by decide))
    have h2 : Keeps evKey s1 s2 := by
      show Keeps evKey s1 (match s1.ev.slots.find? here with
        | some z => if z.ends ≤ s1.now then s1.closeSlot z else s1
        | none => s1)
      split
      · split
        · exact Keeps.closeSlot _ _
        · exact Keeps.refl _ _
      · exact Keeps.refl _ _
    refine Keeps.after ?_ (h1.trans h2)
    split
    · have h3 : Keeps evKey s2 s3 := Keeps.createRecord _ _ _ _ _ _
      split
      · exact h3.trans (Keeps.ofEq rfl rfl rfl rfl rfl rfl)
      · refine Keeps.after ?_ h3
        exact (Keeps.evFlag _ 2 (by decide) (by decide)).after (Keeps.evBump _ (by decide) (by decide))
    · have h3 : Keeps evKey s2 s4 := Keeps.evBump _ (by decide) (by decide)
      split
      · exact (Keeps.setStore _ _).after h3
      · exact h3.trans (Keeps.ofEq rfl rfl rfl rfl rfl rfl)

/-- An event that sets a flag changes the status object and the event range. -/
theorem Keeps.raiseB (s : State) (b i u unit flag sev part : Nat) (d : List Byte) :
    Keeps (flagKey (okey b i u)) s (s.raiseB b i u unit flag sev part d) :=
  ((Keeps.setFlag s _ flag).mono (fun _ h => Or.inl h)).trans ((Keeps.occur _ _).mono (fun _ h => Or.inr h))

theorem Keeps.raise (s : State) (i unit flag sev part : Nat) (d : List Byte) :
    Keeps (flagKey (okey 0 i 0)) s (s.raise i unit flag sev part d) := Keeps.raiseB s 0 i 0 unit flag sev part d

theorem Keeps.raiseCode (s : State) (c unit code sev part : Nat) (d : List Byte) :
    Keeps evKey s (s.raiseCode c unit code sev part d) := Keeps.occur s _

/-- SAFE_OK and its object are in the event range. -/
theorem Keeps.safeOkUpdate (s : State) : Keeps evKey s s.safeOkUpdate := by
  unfold State.safeOkUpdate
  extract_lets high
  split
  · refine (Keeps.emit _ _).after ?_
    refine (Keeps.occur _ _).after ?_
    refine (Keeps.evPut _ _ (by decide) (by decide)).after ?_
    exact (Keeps.evBump _ (by decide) (by decide)).after (Keeps.evPut _ _ (by decide) (by decide))
  · split
    · exact (Keeps.emit _ _).after (Keeps.evPut _ _ (by decide) (by decide))
    · exact Keeps.refl _ s

theorem Keeps.hold (s : State) (b : Nat) (on : Bool) : Keeps evKey s (s.hold b on) :=
  (Keeps.safeOkUpdate _).after (Keeps.evPut s _ (by decide) (by decide))

/-! ## Dictionary writes -/

theorem logKey_okey {b i u : Nat} (h : 0x1180 ≤ i ∧ i < 0x11C0) (hu : u < 256) : logKey (okey b i u) := by
  unfold logKey
  rw [keyIdx_okey b (by omega) hu]
  exact h

/-- What the records of refused and clamped writes may change. -/
def recKey (k : Nat) : Prop := logKey k ∨ evKey k

theorem Keeps.logPutB (s : State) (b : Nat) {i u : Nat} (v : Nat) (h : 0x1180 ≤ i ∧ i < 0x11C0) (hu : u < 256) :
    Keeps recKey s (s.putB b i u v) :=
  (Keeps.putB s b i u v).mono (fun k hk => by subst hk; exact Or.inl (logKey_okey h hu))

theorem Keeps.logPutK (s : State) (b : Nat) {i u : Nat} (v : Word) (h : 0x1180 ≤ i ∧ i < 0x11C0) (hu : u < 256) :
    Keeps recKey s (s.putK (okey b i u) v) :=
  (Keeps.putK s _ v).mono (fun k hk => by subst hk; exact Or.inl (logKey_okey h hu))

theorem Keeps.logFlag (s : State) (b : Nat) {i u : Nat} (n : Nat) (h : 0x1180 ≤ i ∧ i < 0x11C0) (hu : u < 256) :
    Keeps recKey s (s.setFlag (okey b i u) n) :=
  (Keeps.setFlag s _ n).mono (fun k hk => by subst hk; exact Or.inl (logKey_okey h hu))

/-- A refused write changes the records of refusals and the event range alone. -/
theorem Keeps.refuse (s : State) (ini : Ini) (idx sub code : Nat) (hp : ini.part < 255) :
    Keeps recKey s (s.refuse ini idx sub code) := by
  unfold State.refuse
  split
  · exact Keeps.logPutB s _ _ (by decide) (by decide)
  · refine Keeps.after ((Keeps.raiseB _ _ _ _ _ _ _ _ _).mono ?_) ?_
    · intro k hk
      cases hk with
      | inl h => subst h; exact Or.inl (logKey_okey (by decide) (by decide))
      | inr h => exact Or.inr h
    · refine (Keeps.logPutB _ _ _ (by decide) (by decide)).after ?_
      refine (Keeps.logPutB _ _ _ (by decide) (by decide)).after ?_
      refine (Keeps.logPutB _ _ _ (by decide) (by decide)).after ?_
      exact Keeps.logPutB s 0 _ (by decide) (by omega)

/-- A clamp report changes the clamp ring and the CLAMPED flag's object alone. -/
theorem Keeps.logClamp (s : State) (ini : Ini) (idx sub : Nat) (raw stored : Word) (st : Nat) :
    Keeps recKey s (s.logClamp ini idx sub raw stored st) := by
  unfold State.logClamp
  have he : 0x1180 ≤ 0x1181 + s.get 0x1180 1 % 32 ∧ 0x1181 + s.get 0x1180 1 % 32 < 0x11C0 := by omega
  refine (Keeps.logFlag _ _ 0 (by decide) (by decide)).after ?_
  refine (Keeps.logPutB _ 0 _ (by decide) (by decide)).after ?_
  refine (Keeps.logPutB _ 0 _ (by decide) (by decide)).after ?_
  refine (Keeps.logPutB _ 0 _ he (by decide)).after ?_
  refine (Keeps.logPutB _ 0 _ he (by decide)).after ?_
  refine (Keeps.logPutK _ 0 _ he (by decide)).after ?_
  refine (Keeps.logPutK _ 0 _ he (by decide)).after ?_
  exact (Keeps.logPutB _ 0 _ he (by decide)).after (Keeps.logPutB s 0 _ he (by decide))

theorem recKey_wrKey (k : Nat) : ∀ j, recKey j → wrKey k j := fun _ h => Or.inr h

/-- A status clear changes the status object, or the records of a refusal. -/
theorem Keeps.clearStatus (s : State) (ini : Ini) (idx sub k : Nat) (raw : Word) (hp : ini.part < 255) :
    Keeps (wrKey k) s (s.clearStatus ini idx sub k raw).1 := by
  unfold State.clearStatus
  extract_lets s1 cur pending
  have h1 : Keeps (wrKey k) s s1 := (Keeps.settleStatus s k).mono (fun j h => Or.inl h)
  split
  · exact ((Keeps.refuse s1 ini idx sub codeStatusSeqStale hp).mono (recKey_wrKey k)).after h1
  · exact ((Keeps.putK s1 k _).mono (fun j h => Or.inl h)).after h1

/-- A value stored changes the object's active or shadow value alone. -/
theorem Keeps.storeValue (s : State) (o : Obj) (k : Nat) (v : Word) : Keeps (fun j => j = k) s (s.storeValue o k v) := by
  unfold State.storeValue
  extract_lets _ s1
  have h1 : Keeps (fun j => j = k) s s1 := by
    show Keeps _ s (if o.row.acc = .rwo then { s with dict := { s.dict with written := k :: s.dict.written } } else s)
    split
    · exact Keeps.ofEq rfl rfl rfl rfl rfl rfl
    · exact Keeps.refl _ _
  split
  · exact h1
  · split
    · exact h1.trans (Keeps.putK _ _ _)
    · exact h1.trans (Keeps.putShadow _ _ _)

/-- A whole dictionary write changes the object, the records of refused and clamped writes, the event range, and what its
own effect changes; a refused one nothing but the records. -/
theorem Keeps.write {Q : Nat → Prop} (s : State) (q : Wr) (own : State → Nat → Option Nat) (eff : State → Nat → State)
    (hp : q.ini.part < 255) (he : ∀ s v, Keeps Q s (eff s v)) :
    Keeps (fun j => wrKey (s.targetKey q.ini q.idx q.sub) j ∨ Q j) s (s.write q own eff).1 := by
  have hrec : ∀ c, Keeps (fun j => wrKey (s.targetKey q.ini q.idx q.sub) j ∨ Q j) s (s.refuse q.ini q.idx q.sub c) :=
    fun c => (Keeps.refuse s _ _ _ c hp).mono (fun j h => Or.inl (Or.inr h))
  unfold State.write
  split
  · exact hrec _
  · dsimp only
    split
    · exact Keeps.refl _ _
    · next o ho =>
      have hk : okey (o.bankFor q.ini.part) (canonIdx q.idx) q.sub = s.targetKey q.ini q.idx q.sub := by
        simp [State.targetKey, ho]
      rw [hk]
      split
      · exact (Keeps.clearStatus s _ _ _ _ _ hp).mono (fun j h => Or.inl h)
      · generalize s.newValue q o (s.targetKey q.ini q.idx q.sub) = nv
        obtain ⟨v, st⟩ := nv
        dsimp only
        split
        · exact hrec _
        · refine Keeps.after ((he _ _).mono (fun j h => Or.inr h)) ?_
          have h1 : Keeps (fun j => wrKey (s.targetKey q.ini q.idx q.sub) j ∨ Q j) s
              (s.storeValue o (s.targetKey q.ini q.idx q.sub) v) :=
            (Keeps.storeValue s o _ v).mono (fun j h => Or.inl (Or.inl h))
          split
          · exact h1
          · exact h1.trans ((Keeps.logClamp _ _ _ _ _ _ _).mono (fun j h => Or.inl (Or.inr h)))

theorem Keeps.writeAt {Q : Nat → Prop} (s : State) (ini : Ini) (idx sub : Nat) (v : Word) (own : State → Nat → Option Nat)
    (eff : State → Nat → State) (hp : ini.part < 255) (he : ∀ s v, Keeps Q s (eff s v)) :
    Keeps (fun j => wrKey (s.targetKey ini idx sub) j ∨ Q j) s (s.writeAt ini idx sub v own eff) :=
  Keeps.write s ⟨ini, 0, idx, sub, v⟩ own eff hp he

theorem Keeps.storeBlock (s : State) (o : Obj) (k : Nat) (d : List Byte) : Keeps (fun j => j = k) s (s.storeBlock o k d) := by
  unfold State.storeBlock
  extract_lets s1
  split
  · exact (Keeps.putBlk s k d).trans (Keeps.putLive _ _ _)
  · exact Keeps.putBlk s k d

/-! ## Writes that are taken -/

theorem State.accepts_advance (s : State) (t : Nat) (q : Wr) : (s.advance t).accepts q = s.accepts q := rfl

/-- A write that is taken stores its value and has its effect. -/
theorem State.write_took (s : State) (q : Wr) (o : Obj) (w : Word) (own : State → Nat → Option Nat) (eff : State → Nat → State)
    (h : s.accepts q = some (o, w)) (ho : own s w.toNat = none) : s.write q own eff = (eff (s.took q o w) w.toNat, 0) := by
  unfold State.accepts at h
  split at h
  · next o' h1 h2 =>
    dsimp only at h
    split at h
    · next h3 =>
      simp only [Bool.and_eq_true, beq_iff_eq] at h3
      simp only [Option.some.injEq, Prod.mk.injEq] at h
      obtain ⟨rfl, h4⟩ := h
      have hk : okey (o'.bankFor q.ini.part) (canonIdx q.idx) q.sub = s.targetKey q.ini q.idx q.sub := by
        simp [State.targetKey, h2]
      unfold State.write
      rw [h1]
      dsimp only
      rw [h2]
      dsimp only
      have hs : o'.row.status.isSome = false := by
        have := h3.1
        revert this
        cases o'.row.status with
        | none => intro _; rfl
        | some r => intro h; cases h
      rw [hs, hk, ← h4]
      have e2 := h3.2
      generalize s.newValue q o' (s.targetKey q.ini q.idx q.sub) = x at *
      obtain ⟨v, st⟩ := x
      dsimp only at *
      subst e2 h4
      simp [ho, State.took]
    · cases h
  · cases h

theorem State.writeAt_took (s : State) (ini : Ini) (idx sub : Nat) (v : Word) (o : Obj) (w : Word)
    (own : State → Nat → Option Nat) (eff : State → Nat → State) (h : s.accepts ⟨ini, 0, idx, sub, v⟩ = some (o, w))
    (ho : own s w.toNat = none) : s.writeAt ini idx sub v own eff = eff (s.took ⟨ini, 0, idx, sub, v⟩ o w) w.toNat := by
  simp [State.writeAt, State.write_took s _ o w own eff h ho]

end Sys2Proof.Machine
end

