-- ==== Sys2Proof/Laws/Values.lean ====
section
/-!
SUPPORT. What a register reads after the shared operations, in the form in which the claims about commands need it: the
value written, or the value before for any other register.
-/
namespace Sys2Proof.Machine

/-! ## Registers after register updates -/

@[simp] theorem State.get_advance (s : State) (t i u : Nat) : (s.advance t).get i u = s.get i u := rfl
@[simp] theorem State.getB_advance (s : State) (t b i u : Nat) : (s.advance t).getB b i u = s.getB b i u := rfl
@[simp] theorem State.getK_advance (s : State) (t k : Nat) : (s.advance t).getK k = s.getK k := rfl
@[simp] theorem State.getI_advance (s : State) (t i u : Nat) : (s.advance t).getI i u = s.getI i u := rfl
@[simp] theorem State.getBlk_advance (s : State) (t k : Nat) : (s.advance t).getBlk k = s.getBlk k := rfl
@[simp] theorem State.getShadow_advance (s : State) (t k : Nat) : (s.advance t).getShadow k = s.getShadow k := rfl
@[simp] theorem State.pdOn_advance (s : State) (t d : Nat) : (s.advance t).pdOn d = s.pdOn d := rfl
@[simp] theorem State.get_emit (s : State) (o : Out) (i u : Nat) : (s.emit o).get i u = s.get i u := rfl
@[simp] theorem State.get_useFree (s : State) (i u : Nat) : s.useFree.get i u = s.get i u := rfl
@[simp] theorem State.get_putMeta (s : State) (m : StatusMeta) (i u : Nat) : (s.putMeta m).get i u = s.get i u := rfl
@[simp] theorem State.get_putBlk (s : State) (k : Nat) (d : List Byte) (i u : Nat) : (s.putBlk k d).get i u = s.get i u := rfl

/-- A register after a register write: the value written, or what it held. -/
theorem State.get_put (s : State) (i u v j w : Nat) :
    (s.put i u v).get j w = if okey 0 j w = okey 0 i u then v % 2 ^ 64 else s.get j w := by
  split
  · next h => simp only [State.get, State.put, h, State.getK_putK_same, w64_toNat]
  · next h => exact s.get_put_ne h v

/-- A register after a saturating counter has advanced. -/
theorem State.get_bump (s : State) (i u j w : Nat) :
    (s.bump i u).get j w = if okey 0 j w = okey 0 i u then min (s.get i u + 1) (2 ^ 32 - 1) else s.get j w := by
  split
  · next h =>
    have := s.get_bump_same i u
    simp only [State.get] at this ⊢
    rw [h]; exact this
  · next h => exact s.get_bump_ne h

theorem State.get_putI_ne (s : State) {i u j w : Nat} (v : Int) (h : okey 0 j w ≠ okey 0 i u) : (s.putI i u v).get j w = s.get j w := by
  simp only [State.get, State.putI, State.getK_putK_ne s h]

/-! ## Registers after flags and events -/

theorem State.getK_setFlag_ne (s : State) {k j : Nat} (h : j ≠ k) (n : Nat) : (s.setFlag k n).getK j = s.getK j :=
  (Keeps.setFlag s k n).regs j h

theorem State.get_setFlag_ne (s : State) {k : Nat} {j w : Nat} (h : okey 0 j w ≠ k) (n : Nat) : (s.setFlag k n).get j w = s.get j w :=
  (Keeps.setFlag s k n).get h

theorem State.getK_occur_ne (s : State) (o : Occ) {k : Nat} (h : ¬ evKey k) : (s.occur o).getK k = s.getK k :=
  (Keeps.occur s o).regs k h

theorem State.get_occur_ne (s : State) (o : Occ) {j w : Nat} (h : ¬ evKey (okey 0 j w)) : (s.occur o).get j w = s.get j w :=
  (Keeps.occur s o).get h

theorem State.get_raise_ne (s : State) (i unit flag sev part : Nat) (d : List Byte) {j w : Nat} (h : okey 0 j w ≠ okey 0 i 0)
    (he : ¬ evKey (okey 0 j w)) : (s.raise i unit flag sev part d).get j w = s.get j w :=
  (Keeps.raise s i unit flag sev part d).get (fun p => p.elim h he)

theorem State.get_raiseB_ne (s : State) (b i u unit flag sev part : Nat) (d : List Byte) {j w : Nat} (h : okey 0 j w ≠ okey b i u)
    (he : ¬ evKey (okey 0 j w)) : (s.raiseB b i u unit flag sev part d).get j w = s.get j w :=
  (Keeps.raiseB s b i u unit flag sev part d).get (fun p => p.elim h he)

theorem State.get_raiseCode_ne (s : State) (c unit code sev part : Nat) (d : List Byte) {j w : Nat}
    (he : ¬ evKey (okey 0 j w)) : (s.raiseCode c unit code sev part d).get j w = s.get j w :=
  (Keeps.raiseCode s c unit code sev part d).get he

theorem State.get_hold_ne (s : State) (b : Nat) (on : Bool) {j w : Nat} (he : ¬ evKey (okey 0 j w)) :
    (s.hold b on).get j w = s.get j w := (Keeps.hold s b on).get he

/-! ## The configuration after every shared operation -/

@[simp] theorem State.put_cfg (s : State) (i u v : Nat) : (s.put i u v).cfg = s.cfg := rfl
@[simp] theorem State.putB_cfg (s : State) (b i u v : Nat) : (s.putB b i u v).cfg = s.cfg := (Keeps.putB s b i u v).cfg
@[simp] theorem State.putI_cfg (s : State) (i u : Nat) (v : Int) : (s.putI i u v).cfg = s.cfg := rfl
@[simp] theorem State.bump_cfg (s : State) (i u : Nat) : (s.bump i u).cfg = s.cfg := (Keeps.bump s i u).cfg
@[simp] theorem State.bumpW_cfg (s : State) (x b i u n : Nat) : (s.bumpW x b i u n).cfg = s.cfg := (Keeps.bumpW s x b i u n).cfg
@[simp] theorem State.bumpN_cfg (s : State) (i u n : Nat) : (s.bumpN i u n).cfg = s.cfg := (Keeps.bumpN s i u n).cfg
@[simp] theorem State.wrap32_cfg (s : State) (i u : Nat) : (s.wrap32 i u).cfg = s.cfg := (Keeps.wrap32 s i u).cfg
@[simp] theorem State.setPin_cfg (s : State) (b : Nat) (on : Bool) : (s.setPin b on).cfg = s.cfg := (Keeps.setPin s b on).cfg
@[simp] theorem State.setFlag_cfg (s : State) (k n : Nat) : (s.setFlag k n).cfg = s.cfg := (Keeps.setFlag s k n).cfg
@[simp] theorem State.settleStatus_cfg (s : State) (k : Nat) : (s.settleStatus k).cfg = s.cfg := (Keeps.settleStatus s k).cfg
@[simp] theorem State.occur_cfg (s : State) (o : Occ) : (s.occur o).cfg = s.cfg := (Keeps.occur s o).cfg
@[simp] theorem State.raise_cfg (s : State) (i unit flag sev part : Nat) (d : List Byte) :
    (s.raise i unit flag sev part d).cfg = s.cfg := (Keeps.raise s i unit flag sev part d).cfg
@[simp] theorem State.raiseB_cfg (s : State) (b i u unit flag sev part : Nat) (d : List Byte) :
    (s.raiseB b i u unit flag sev part d).cfg = s.cfg := (Keeps.raiseB s b i u unit flag sev part d).cfg
@[simp] theorem State.raiseCode_cfg (s : State) (c unit code sev part : Nat) (d : List Byte) :
    (s.raiseCode c unit code sev part d).cfg = s.cfg := (Keeps.raiseCode s c unit code sev part d).cfg
@[simp] theorem State.hold_cfg (s : State) (b : Nat) (on : Bool) : (s.hold b on).cfg = s.cfg := (Keeps.hold s b on).cfg

/-! ## Bits and flags -/

theorem bit_eq_testBit (v b : Nat) : bit v b = v.testBit b := by
  simp [bit, Nat.testBit_eq_decide_div_mod_eq, BEq.beq]

/-- A bit that was set is set. -/
theorem bit_setBit_true (v b : Nat) : bit (setBit v b true) b = true := by
  unfold setBit
  split
  · next h => simpa using h
  · next h =>
    have h0 : v / 2 ^ b % 2 = 0 := by
      simp only [bit, beq_iff_eq] at h
      omega
    simp only [if_true, bit, beq_iff_eq]
    rw [Nat.add_div_right _ (Nat.two_pow_pos b)]
    omega

/-- A bit below 40 of a status value is not changed by an advance of SEQ. -/
theorem bit_mod (v b m : Nat) (h : b < m) : bit (v % 2 ^ m) b = bit v b := by
  simp [bit_eq_testBit, Nat.testBit_mod_two_pow, h]

theorem bit_statusAdvance (v n b : Nat) (h : b < 40) : bit (statusAdvance v n % 2 ^ 64) b = bit v b := by
  rw [bit_mod _ _ _ (by omega)]
  unfold statusAdvance statusFlags
  rw [← bit_mod _ b 40 h, Nat.mul_add_mod_self_right, Nat.mod_mod, bit_mod _ _ _ h]

/-- A flag that an event sets reads as set, whatever SEQ does. -/
theorem State.flag_setFlag (s : State) (k n : Nat) (h : n < 40) : (s.setFlag k n).flag k n = true := by
  have h64 : n < 64 := by omega
  unfold State.setFlag
  extract_lets s1 v
  have e : ∀ (x : Nat) (m : StatusMeta), bit x n = true → ((s1.putK k (w64 x)).putMeta m).flag k n = true := by
    intro x m hx
    show bit ((s1.putK k (w64 x)).getK k).toNat n = true
    rw [State.getK_putK_same, w64_toNat, bit_mod _ _ _ h64, hx]
  have hv : bit v n = true := bit_setBit_true _ _
  have ha : bit (statusAdvance v 1) n = true := by
    have := bit_statusAdvance v 1 n h
    rw [bit_mod _ _ _ h64] at this
    rw [this, hv]
  split
  · exact e _ _ ha
  · split
    · split
      · exact e _ _ hv
      · exact e _ _ ha
    · split
      · exact e _ _ hv
      · split
        · exact e _ _ hv
        · exact e _ _ ha

theorem State.flag_congr {s s' : State} {k : Nat} (n : Nat) (h : s'.getK k = s.getK k) : s'.flag k n = s.flag k n := by
  simp [State.flag, h]

theorem State.flag_raiseB (s : State) (b i u unit flag sev part : Nat) (d : List Byte) (h : flag < 40)
    (he : ¬ evKey (okey b i u)) : (s.raiseB b i u unit flag sev part d).flag (okey b i u) flag = true := by
  unfold State.raiseB
  rw [State.flag_congr _ (State.getK_occur_ne _ _ he)]
  exact State.flag_setFlag s _ _ h

theorem State.flag_raise (s : State) (i unit flag sev part : Nat) (d : List Byte) (h : flag < 40)
    (he : ¬ evKey (okey 0 i 0)) : (s.raise i unit flag sev part d).flag (okey 0 i 0) flag = true :=
  State.flag_raiseB s 0 i 0 unit flag sev part d h he

/-! ## Writes that are taken -/

/-- A value stored changes the active values, the shadow values, or the record of what has been written once. -/
theorem State.storeValue_form (s : State) (o : Obj) (k : Nat) (v : Word) :
    ∃ a b d, s.storeValue o k v = { s with objs := a, shadow := b, dict := d } := by
  unfold State.storeValue
  extract_lets _ s1
  have h1 : ∃ d, s1 = { s with dict := d } := by
    show ∃ d, (if o.row.acc = .rwo then { s with dict := { s.dict with written := k :: s.dict.written } } else s) = { s with dict := d }
    split
    · exact ⟨_, rfl⟩
    · exact ⟨s.dict, rfl⟩
  obtain ⟨d, hd⟩ := h1
  rw [hd]
  split
  · exact ⟨_, _, _, rfl⟩
  · split
    · exact ⟨_, _, _, rfl⟩
    · exact ⟨_, _, _, rfl⟩

theorem State.took_form (s : State) (q : Wr) (o : Obj) (w : Word) :
    ∃ a b d, s.took q o w = { s with objs := a, shadow := b, dict := d } := s.storeValue_form o _ w

theorem Keeps.took (s : State) (q : Wr) (o : Obj) (w : Word) :
    Keeps (fun j => j = s.targetKey q.ini q.idx q.sub) s (s.took q o w) := Keeps.storeValue s o _ w

/-- Another register after a write that is taken. -/
theorem State.get_took_ne (s : State) (q : Wr) (o : Obj) (w : Word) {j u : Nat}
    (h : okey 0 j u ≠ s.targetKey q.ini q.idx q.sub) : (s.took q o w).get j u = s.get j u := (Keeps.took s q o w).get h

/-- Two slots of the dictionary have the same key only if bank, index and sub-index agree. -/
theorem okey_inj {b i u c j w : Nat} (hi : i < 65536) (hu : u < 256) (hj : j < 65536) (hw : w < 256) :
    okey b i u = okey c j w ↔ b = c ∧ i = j ∧ u = w := by
  unfold okey
  constructor
  · intro h; omega
  · rintro ⟨rfl, rfl, rfl⟩; rfl

/-- An index outside the heritage ranges is its own canonical index. -/
theorem canonIdx_own {i : Nat} (h : i < 0x6000 ∨ 0x6800 ≤ i) : canonIdx i = i := by
  unfold canonIdx
  have : aliasMap.find? (fun r => decide (r.1 ≤ i) && decide (i < r.1 + r.2.2)) = none := by
    simp only [List.find?_eq_none, aliasMap]
    intro x hx
    simp only [List.mem_cons, List.not_mem_nil, or_false] at hx
    rcases hx with rfl | rfl | rfl | rfl | rfl | rfl <;> simp <;> omega
  rw [this]

/-- The key of a named register is not that of another slot. -/
theorem targetKey_ne (s : State) (ini : Ini) (i u j w b : Nat) (hi : i < 0x6000 ∨ 0x6800 ≤ i) (hi2 : i < 65536) (hu : u < 256)
    (hj : j < 65536) (hw : w < 256) (h : j ≠ i ∨ w ≠ u) : okey b j w ≠ s.targetKey ini i u := by
  unfold State.targetKey
  rw [canonIdx_own hi]
  intro e
  rw [okey_inj hj hw hi2 hu] at e
  omega

/-- Another register after a write of a named register that is taken. -/
theorem State.get_took (s : State) (ini : Ini) (win i u : Nat) (v : Word) (o : Obj) (w : Word) {j x : Nat}
    (hi : i < 0x6000 ∨ 0x6800 ≤ i) (hi2 : i < 65536) (hu : u < 256) (hj : j < 65536) (hx : x < 256) (h : j ≠ i ∨ x ≠ u) :
    (s.took ⟨ini, win, i, u, v⟩ o w).get j x = s.get j x :=
  s.get_took_ne ⟨ini, win, i, u, v⟩ o w (targetKey_ne s ini i u j x 0 hi hi2 hu hj hx h)

/-- The form in which a named register write is used: what an accepted one leaves. -/
theorem at_took {t : Nat} {s : State} {ini : Ini} {win idx sub : Nat} {v : Word} {o : Obj} {w : Word}
    {own : State → Nat → Option Nat} {eff : State → Nat → State} (h : s.accepts ⟨ini, win, idx, sub, v⟩ = some (o, w))
    (ho : own (s.advance t) w.toNat = none) :
    ((s.advance t).write ⟨ini, win, idx, sub, v⟩ own eff).1 = eff ((s.advance t).took ⟨ini, win, idx, sub, v⟩ o w) w.toNat := by
  have h' : (s.advance t).accepts ⟨ini, win, idx, sub, v⟩ = some (o, w) := by rw [State.accepts_advance]; exact h
  rw [State.write_took _ _ o w own eff h' ho]

end Sys2Proof.Machine
end

