-- ==== Sys2Proof/Laws/Aside.lean ====
section
/-!
SUPPORT. What flags, events and register updates leave of the rest of the state: they change active values, the records of
status objects, event and trace records, and what has been sent, and no other field.
-/
namespace Sys2Proof.Machine

/-- Only active values, the records of chapter 02, event and trace records and what has been sent differ. -/
def Aside (s s' : State) : Prop := ∃ o d e r x, s' = { s with objs := o, dict := d, ev := e, trace := r, out := x }

theorem Aside.refl (s : State) : Aside s s := ⟨_, _, _, _, _, rfl⟩

theorem Aside.trans {a b c : State} (h : Aside a b) (h' : Aside b c) : Aside a c := by
  obtain ⟨_, _, _, _, _, rfl⟩ := h
  obtain ⟨_, _, _, _, _, rfl⟩ := h'
  exact ⟨_, _, _, _, _, rfl⟩

theorem Aside.fold {α : Type} {f : State → α → State} (l : List α) (h : ∀ s x, Aside s (f s x)) : ∀ s, Aside s (foldS f s l) := by
  induction l with
  | nil => intro s; exact Aside.refl s
  | cons x r ih => intro s; exact (h s x).trans (ih (f s x))

theorem Aside.when {f : State → State} (s : State) (c : Bool) (h : Aside s (f s)) : Aside s (s.when c f) := by
  unfold State.when
  split
  · exact h
  · exact Aside.refl s

theorem Aside.putK (s : State) (k : Nat) (v : Word) : Aside s (s.putK k v) := ⟨_, _, _, _, _, rfl⟩
theorem Aside.put (s : State) (i u v : Nat) : Aside s (s.put i u v) := Aside.putK s _ _
theorem Aside.putB (s : State) (b i u v : Nat) : Aside s (s.putB b i u v) := Aside.putK s _ _
theorem Aside.putI (s : State) (i u : Nat) (v : Int) : Aside s (s.putI i u v) := Aside.putK s _ _
theorem Aside.bumpW (s : State) (w b i u n : Nat) : Aside s (s.bumpW w b i u n) := Aside.putB s _ _ _ _
theorem Aside.bump (s : State) (i u : Nat) : Aside s (s.bump i u) := Aside.bumpW s _ _ _ _ _
theorem Aside.bumpN (s : State) (i u n : Nat) : Aside s (s.bumpN i u n) := Aside.bumpW s _ _ _ _ _
theorem Aside.bump64 (s : State) (i u n : Nat) : Aside s (s.bump64 i u n) := Aside.bumpW s _ _ _ _ _
theorem Aside.wrap32 (s : State) (i u : Nat) : Aside s (s.wrap32 i u) := Aside.put s _ _ _
theorem Aside.setPin (s : State) (b : Nat) (on : Bool) : Aside s (s.setPin b on) := Aside.put s _ _ _
theorem Aside.emit (s : State) (o : Out) : Aside s (s.emit o) := ⟨_, _, _, _, _, rfl⟩
theorem Aside.putMeta (s : State) (m : StatusMeta) : Aside s (s.putMeta m) := ⟨_, _, _, _, _, rfl⟩
theorem Aside.putTrace (s : State) (x : TraceRun) : Aside s (s.putTrace x) := ⟨_, _, _, _, _, rfl⟩
theorem Aside.putEv (s : State) (e : EvState) : Aside s { s with ev := e } := ⟨_, _, _, _, _, rfl⟩

theorem Aside.settleStatus (s : State) (k : Nat) : Aside s (s.settleStatus k) := by
  unfold State.settleStatus
  split
  · exact Aside.refl s
  · extract_lets
    split
    · exact (Aside.putK s k _).trans (Aside.putMeta _ _)
    · exact Aside.refl s

theorem Aside.setFlag (s : State) (k n : Nat) : Aside s (s.setFlag k n) := by
  unfold State.setFlag
  refine (Aside.settleStatus s k).trans ?_
  dsimp only
  split
  · exact (Aside.putK _ k _).trans (Aside.putMeta _ _)
  · split
    · split
      · exact (Aside.putK _ k _).trans (Aside.putMeta _ _)
      · exact (Aside.putK _ k _).trans (Aside.putMeta _ _)
    · split
      · exact (Aside.putK _ k _).trans (Aside.putMeta _ _)
      · split
        · exact (Aside.putK _ k _).trans (Aside.putMeta _ _)
        · exact (Aside.putK _ k _).trans (Aside.putMeta _ _)

theorem Aside.handPage (s : State) (x : TraceRun) (a b : Nat) : Aside s (s.handPage x a b) := by
  unfold State.handPage
  exact ((Aside.emit s _).trans (Aside.put _ _ _ _)).trans (Aside.putTrace _ _)

theorem Aside.traceLost (s : State) (x : TraceRun) : Aside s (s.traceLost x) := by
  unfold State.traceLost
  exact ((Aside.putTrace s _).trans (Aside.bump _ _ _)).trans (Aside.setFlag _ _ _)

theorem Aside.turnPage (s : State) (x : TraceRun) (a : Nat) : Aside s (s.turnPage x a) := by
  unfold State.turnPage
  dsimp only
  split
  · exact Aside.handPage s x _ _
  · refine (Aside.handPage s x (x.flags + a) x.before).trans ?_
    exact (((Aside.putTrace _ _).trans (Aside.put _ _ _ _)).trans (Aside.bump _ _ _)).trans (Aside.setFlag _ _ _)

theorem Aside.tracePut (s : State) (r : Nat) (d : List Byte) : Aside s (s.tracePut r d) := by
  unfold State.tracePut
  dsimp only
  split
  · exact Aside.traceLost s _
  · split
    · exact Aside.putTrace s _
    · split
      · exact Aside.traceLost s _
      · exact (Aside.turnPage s _ 0).trans (Aside.putTrace _ _)

theorem Aside.traceSource (s : State) (n : Nat) (d : List Byte) : Aside s (s.traceSource n d) := by
  unfold State.traceSource
  refine Aside.fold _ ?_ s
  intro s r
  split
  · exact Aside.tracePut s r d
  · exact Aside.refl s

theorem Aside.lose (s : State) (sev : Nat) (p : EvPath) : Aside s (s.lose sev p) := by
  unfold State.lose
  cases p with
  | ring q => exact (Aside.putEv s _).trans (Aside.when _ _ (Aside.bump _ _ _))
  | sub i => exact Aside.putEv s _
  | emcy t => exact Aside.putEv s _

theorem Aside.loseFold (s : State) (p : EvPath) : Aside s (s.loseFold p) := Aside.putEv s _

theorem Aside.countDrop (s : State) (sev : Nat) : Aside s (s.countDrop sev) := (Aside.bump s _ _).trans (Aside.setFlag _ _ _)

theorem Aside.countStore (s : State) : Aside s s.countStore := by
  unfold State.countStore
  exact ((Aside.put s _ _ _).trans (Aside.put _ _ _ _)).trans (Aside.put _ _ _ _)

theorem Aside.setStore (s : State) (l : List EvRec) : Aside s (s.setStore l) := (Aside.putEv s _).trans (Aside.countStore _)

theorem Aside.loseAll (s : State) (sev : Nat) (l : List EvPath) : Aside s (foldS (fun s p => s.lose sev p) s l) :=
  Aside.fold l (fun s p => Aside.lose s sev p) s

theorem Aside.makeShared (s s' : State) (sev : Nat) (h : s.makeShared sev = some s') : Aside s s' := by
  unfold State.makeShared at h
  split at h
  · cases h; exact Aside.refl s
  · dsimp only at h
    split at h
    · split at h
      · cases h
        exact ((Aside.loseAll s _ _).trans (Aside.setStore _ _)).trans (Aside.countDrop _ _)
      · cases h; exact Aside.refl s
    · cases h

theorem Aside.makePath (s : State) (sev : Nat) (p : EvPath) : Aside s (s.makePath sev p).1 := by
  unfold State.makePath
  dsimp only
  split
  · exact Aside.refl s
  · split
    · exact ((Aside.setStore s _).trans (Aside.lose _ _ _)).trans (Aside.countDrop _ _)
    · exact (Aside.lose s _ _).trans (Aside.countDrop _ _)

theorem Aside.takeToken (s : State) (n : Nat) : Aside s (s.takeToken n).1 := by
  unfold State.takeToken
  extract_lets
  split <;> exact Aside.putEv s _

theorem Aside.takeSeq (s : State) (p : Nat) : Aside s (s.takeSeq p).1 := Aside.putEv s _

theorem Aside.storeCritical (s : State) (r : EvRec) : Aside s (s.storeCritical r) := by
  unfold State.storeCritical
  split
  · exact Aside.setStore s _
  · dsimp only
    exact (((Aside.setStore s _).trans (Aside.fold _ (fun s p => Aside.loseFold s p) _)).trans (Aside.bump _ _ _)).trans
      (Aside.setFlag _ _ _)

theorem Aside.roomFor (sev : Nat) (l : List EvPath) : ∀ (s : State) (kept : List EvPath), Aside s (s.roomFor sev kept l).1 := by
  induction l with
  | nil => intro s kept; exact Aside.refl _
  | cons p r ih => intro s kept; exact (Aside.makePath s sev p).trans (ih _ _)

theorem Aside.fileCritical (s : State) (r : EvRec) : Aside s (s.fileCritical r) := by
  unfold State.fileCritical
  extract_lets s1
  have h1 : Aside s s1 := Aside.storeCritical s r
  split
  · exact (h1.trans (Aside.putEv _ _)).trans ((Aside.takeSeq _ _).trans (Aside.storeCritical _ _))
  · exact h1

theorem Aside.fileShared (s : State) (r : EvRec) : Aside s (s.fileShared r) := by
  unfold State.fileShared
  refine (Aside.takeToken s r.source).trans ?_
  generalize s.takeToken r.source = a
  extract_lets
  split
  · exact ((Aside.bump _ _ _).trans (Aside.countDrop _ _)).trans (Aside.loseAll _ _ _)
  · split
    · exact Aside.refl _
    · split
      · exact (Aside.countDrop _ _).trans (Aside.loseAll _ _ _)
      · next s4 h4 =>
        refine (Aside.makeShared _ s4 _ h4).trans ((Aside.roomFor r.sev r.paths s4 []).trans ?_)
        generalize s4.roomFor r.sev [] r.paths = b
        extract_lets
        split
        · exact Aside.refl _
        · exact Aside.setStore _ _

theorem Aside.createRecord (s : State) (o : Occ) (time count last : Nat) (c : Bool) : Aside s (s.createRecord o time count last c) := by
  unfold State.createRecord
  extract_lets a r s1
  have h1 : Aside s s1 := (Aside.takeSeq s o.part).trans (Aside.traceSource _ _ _)
  refine h1.trans ?_
  split
  · exact Aside.fileCritical _ _
  · exact Aside.fileShared _ _

theorem Aside.closeSlot (s : State) (z : EvSlot) : Aside s (s.closeSlot z) := by
  unfold State.closeSlot
  dsimp only
  split
  · exact Aside.putEv s _
  · exact (Aside.putEv s _).trans (Aside.createRecord _ _ _ _ _ _)

theorem Aside.occur (s : State) (o : Occ) : Aside s (s.occur o) := by
  unfold State.occur
  split
  · exact Aside.refl s
  · extract_lets s1 here s2 s3 _ s4 _
    have h2 : Aside s1 s2 := by
      show Aside s1 (match s1.ev.slots.find? here with
        | some z => if z.ends ≤ s1.now then s1.closeSlot z else s1
        | none => s1)
      split
      · split
        · exact Aside.closeSlot _ _
        · exact Aside.refl _
      · exact Aside.refl _
    refine ((Aside.bump64 s _ _ _).trans h2).trans ?_
    split
    · have h3 : Aside s2 s3 := Aside.createRecord _ _ _ _ _ _
      split
      · exact h3.trans (Aside.putEv _ _)
      · exact (h3.trans (Aside.bump _ _ _)).trans (Aside.setFlag _ _ _)
    · have h3 : Aside s2 s4 := Aside.bump _ _ _
      split
      · exact h3.trans (Aside.setStore _ _)
      · exact h3.trans (Aside.putEv _ _)

theorem Aside.raiseB (s : State) (b i u unit flag sev part : Nat) (d : List Byte) : Aside s (s.raiseB b i u unit flag sev part d) :=
  (Aside.setFlag s _ flag).trans (Aside.occur _ _)

theorem Aside.raise (s : State) (i unit flag sev part : Nat) (d : List Byte) : Aside s (s.raise i unit flag sev part d) :=
  Aside.raiseB s 0 i 0 unit flag sev part d

theorem Aside.raiseCode (s : State) (c unit code sev part : Nat) (d : List Byte) : Aside s (s.raiseCode c unit code sev part d) :=
  Aside.occur s _

theorem Aside.safeOkUpdate (s : State) : Aside s s.safeOkUpdate := by
  unfold State.safeOkUpdate
  extract_lets high
  split
  · exact ((((Aside.put s _ _ _).trans (Aside.bump _ _ _)).trans (Aside.put _ _ _ _)).trans (Aside.occur _ _)).trans (Aside.emit _ _)
  · split
    · exact (Aside.put s _ _ _).trans (Aside.emit _ _)
    · exact Aside.refl s

theorem Aside.hold (s : State) (b : Nat) (on : Bool) : Aside s (s.hold b on) := (Aside.put s _ _ _).trans (Aside.safeOkUpdate _)

/-! ## Single fields, as `simp` uses them -/

theorem Aside.cfg {s s' : State} (h : Aside s s') : s'.cfg = s.cfg := by obtain ⟨_, _, _, _, _, rfl⟩ := h; rfl
theorem Aside.now {s s' : State} (h : Aside s s') : s'.now = s.now := by obtain ⟨_, _, _, _, _, rfl⟩ := h; rfl
theorem Aside.fresh {s s' : State} (h : Aside s s') : s'.fresh = s.fresh := by obtain ⟨_, _, _, _, _, rfl⟩ := h; rfl
theorem Aside.pending {s s' : State} (h : Aside s s') : s'.pending = s.pending := by obtain ⟨_, _, _, _, _, rfl⟩ := h; rfl
theorem Aside.shadow {s s' : State} (h : Aside s s') : s'.shadow = s.shadow := by obtain ⟨_, _, _, _, _, rfl⟩ := h; rfl
theorem Aside.stored {s s' : State} (h : Aside s s') : s'.stored = s.stored := by obtain ⟨_, _, _, _, _, rfl⟩ := h; rfl
theorem Aside.blocks {s s' : State} (h : Aside s s') : s'.blocks = s.blocks := by obtain ⟨_, _, _, _, _, rfl⟩ := h; rfl
theorem Aside.liveBlocks {s s' : State} (h : Aside s s') : s'.liveBlocks = s.liveBlocks := by obtain ⟨_, _, _, _, _, rfl⟩ := h; rfl
theorem Aside.storedBlocks {s s' : State} (h : Aside s s') : s'.storedBlocks = s.storedBlocks := by obtain ⟨_, _, _, _, _, rfl⟩ := h; rfl
theorem Aside.mem {s s' : State} (h : Aside s s') : s'.mem = s.mem := by obtain ⟨_, _, _, _, _, rfl⟩ := h; rfl
theorem Aside.til {s s' : State} (h : Aside s s') : s'.til = s.til := by obtain ⟨_, _, _, _, _, rfl⟩ := h; rfl
theorem Aside.plan {s s' : State} (h : Aside s s') : s'.plan = s.plan := by obtain ⟨_, _, _, _, _, rfl⟩ := h; rfl
theorem Aside.time {s s' : State} (h : Aside s s') : s'.time = s.time := by obtain ⟨_, _, _, _, _, rfl⟩ := h; rfl
theorem Aside.place {s s' : State} (h : Aside s s') : s'.place = s.place := by obtain ⟨_, _, _, _, _, rfl⟩ := h; rfl
theorem Aside.comp {s s' : State} (h : Aside s s') : s'.comp = s.comp := by obtain ⟨_, _, _, _, _, rfl⟩ := h; rfl
theorem Aside.queue {s s' : State} (h : Aside s s') : s'.queue = s.queue := by obtain ⟨_, _, _, _, _, rfl⟩ := h; rfl
theorem Aside.memc {s s' : State} (h : Aside s s') : s'.memc = s.memc := by obtain ⟨_, _, _, _, _, rfl⟩ := h; rfl
theorem Aside.sec {s s' : State} (h : Aside s s') : s'.sec = s.sec := by obtain ⟨_, _, _, _, _, rfl⟩ := h; rfl
theorem Aside.scan {s s' : State} (h : Aside s s') : s'.scan = s.scan := by obtain ⟨_, _, _, _, _, rfl⟩ := h; rfl
theorem Aside.motion {s s' : State} (h : Aside s s') : s'.motion = s.motion := by obtain ⟨_, _, _, _, _, rfl⟩ := h; rfl
theorem Aside.touch {s s' : State} (h : Aside s s') : s'.touch = s.touch := by obtain ⟨_, _, _, _, _, rfl⟩ := h; rfl
theorem Aside.audio {s s' : State} (h : Aside s s') : s'.audio = s.audio := by obtain ⟨_, _, _, _, _, rfl⟩ := h; rfl
theorem Aside.fabric {s s' : State} (h : Aside s s') : s'.fabric = s.fabric := by obtain ⟨_, _, _, _, _, rfl⟩ := h; rfl
theorem Aside.integ {s s' : State} (h : Aside s s') : s'.integ = s.integ := by obtain ⟨_, _, _, _, _, rfl⟩ := h; rfl
theorem Aside.links {s s' : State} (h : Aside s s') : s'.links = s.links := by obtain ⟨_, _, _, _, _, rfl⟩ := h; rfl
theorem Aside.low {s s' : State} (h : Aside s s') : s'.low = s.low := by obtain ⟨_, _, _, _, _, rfl⟩ := h; rfl
theorem Aside.render {s s' : State} (h : Aside s s') : s'.render = s.render := by obtain ⟨_, _, _, _, _, rfl⟩ := h; rfl
theorem Aside.sys {s s' : State} (h : Aside s s') : s'.sys = s.sys := by obtain ⟨_, _, _, _, _, rfl⟩ := h; rfl

/-- Blocks read as before. -/
theorem Aside.getBlk {s s' : State} (h : Aside s s') (k : Nat) : s'.getBlk k = s.getBlk k := by
  obtain ⟨_, _, _, _, _, rfl⟩ := h; rfl
theorem Aside.getLive {s s' : State} (h : Aside s s') (k : Nat) : s'.getLive k = s.getLive k := by
  obtain ⟨_, _, _, _, _, rfl⟩ := h; rfl
theorem Aside.getShadow {s s' : State} (h : Aside s s') (k : Nat) : s'.getShadow k = s.getShadow k := by
  obtain ⟨_, _, _, _, _, rfl⟩ := h; rfl
theorem Aside.rdByte {s s' : State} (h : Aside s s') (a : Nat) : s'.rdByte a = s.rdByte a := by
  obtain ⟨_, _, _, _, _, rfl⟩ := h; rfl

/-! `put` -/

@[simp] theorem State.put_now (s : State) (i u v : Nat) : (s.put i u v).now = s.now := (Aside.put s i u v).now
@[simp] theorem State.put_mem (s : State) (i u v : Nat) : (s.put i u v).mem = s.mem := (Aside.put s i u v).mem
@[simp] theorem State.put_blocks (s : State) (i u v : Nat) : (s.put i u v).blocks = s.blocks := (Aside.put s i u v).blocks
@[simp] theorem State.put_liveBlocks (s : State) (i u v : Nat) : (s.put i u v).liveBlocks = s.liveBlocks := (Aside.put s i u v).liveBlocks
@[simp] theorem State.put_shadow (s : State) (i u v : Nat) : (s.put i u v).shadow = s.shadow := (Aside.put s i u v).shadow
@[simp] theorem State.put_pending (s : State) (i u v : Nat) : (s.put i u v).pending = s.pending := (Aside.put s i u v).pending
@[simp] theorem State.put_fresh (s : State) (i u v : Nat) : (s.put i u v).fresh = s.fresh := (Aside.put s i u v).fresh
@[simp] theorem State.put_til (s : State) (i u v : Nat) : (s.put i u v).til = s.til := (Aside.put s i u v).til
@[simp] theorem State.put_plan (s : State) (i u v : Nat) : (s.put i u v).plan = s.plan := (Aside.put s i u v).plan
@[simp] theorem State.put_time (s : State) (i u v : Nat) : (s.put i u v).time = s.time := (Aside.put s i u v).time
@[simp] theorem State.put_place (s : State) (i u v : Nat) : (s.put i u v).place = s.place := (Aside.put s i u v).place
@[simp] theorem State.put_comp (s : State) (i u v : Nat) : (s.put i u v).comp = s.comp := (Aside.put s i u v).comp
@[simp] theorem State.put_queue (s : State) (i u v : Nat) : (s.put i u v).queue = s.queue := (Aside.put s i u v).queue
@[simp] theorem State.put_memc (s : State) (i u v : Nat) : (s.put i u v).memc = s.memc := (Aside.put s i u v).memc
@[simp] theorem State.put_sec (s : State) (i u v : Nat) : (s.put i u v).sec = s.sec := (Aside.put s i u v).sec
@[simp] theorem State.put_scan (s : State) (i u v : Nat) : (s.put i u v).scan = s.scan := (Aside.put s i u v).scan
@[simp] theorem State.put_motion (s : State) (i u v : Nat) : (s.put i u v).motion = s.motion := (Aside.put s i u v).motion
@[simp] theorem State.put_touch (s : State) (i u v : Nat) : (s.put i u v).touch = s.touch := (Aside.put s i u v).touch
@[simp] theorem State.put_audio (s : State) (i u v : Nat) : (s.put i u v).audio = s.audio := (Aside.put s i u v).audio
@[simp] theorem State.put_fabric (s : State) (i u v : Nat) : (s.put i u v).fabric = s.fabric := (Aside.put s i u v).fabric
@[simp] theorem State.put_integ (s : State) (i u v : Nat) : (s.put i u v).integ = s.integ := (Aside.put s i u v).integ
@[simp] theorem State.put_links (s : State) (i u v : Nat) : (s.put i u v).links = s.links := (Aside.put s i u v).links
@[simp] theorem State.put_low (s : State) (i u v : Nat) : (s.put i u v).low = s.low := (Aside.put s i u v).low
@[simp] theorem State.put_render (s : State) (i u v : Nat) : (s.put i u v).render = s.render := (Aside.put s i u v).render
@[simp] theorem State.put_sys (s : State) (i u v : Nat) : (s.put i u v).sys = s.sys := (Aside.put s i u v).sys
@[simp] theorem State.getBlk_put (s : State) (i u v : Nat) (j : Nat) : (s.put i u v).getBlk j = s.getBlk j := (Aside.put s i u v).getBlk j
@[simp] theorem State.getLive_put (s : State) (i u v : Nat) (j : Nat) : (s.put i u v).getLive j = s.getLive j := (Aside.put s i u v).getLive j

/-! `putI` -/

@[simp] theorem State.putI_now (s : State) (i u : Nat) (v : Int) : (s.putI i u v).now = s.now := (Aside.putI s i u v).now
@[simp] theorem State.putI_mem (s : State) (i u : Nat) (v : Int) : (s.putI i u v).mem = s.mem := (Aside.putI s i u v).mem
@[simp] theorem State.putI_blocks (s : State) (i u : Nat) (v : Int) : (s.putI i u v).blocks = s.blocks := (Aside.putI s i u v).blocks
@[simp] theorem State.putI_liveBlocks (s : State) (i u : Nat) (v : Int) : (s.putI i u v).liveBlocks = s.liveBlocks := (Aside.putI s i u v).liveBlocks
@[simp] theorem State.putI_shadow (s : State) (i u : Nat) (v : Int) : (s.putI i u v).shadow = s.shadow := (Aside.putI s i u v).shadow
@[simp] theorem State.putI_pending (s : State) (i u : Nat) (v : Int) : (s.putI i u v).pending = s.pending := (Aside.putI s i u v).pending
@[simp] theorem State.putI_fresh (s : State) (i u : Nat) (v : Int) : (s.putI i u v).fresh = s.fresh := (Aside.putI s i u v).fresh
@[simp] theorem State.putI_til (s : State) (i u : Nat) (v : Int) : (s.putI i u v).til = s.til := (Aside.putI s i u v).til
@[simp] theorem State.putI_plan (s : State) (i u : Nat) (v : Int) : (s.putI i u v).plan = s.plan := (Aside.putI s i u v).plan
@[simp] theorem State.putI_time (s : State) (i u : Nat) (v : Int) : (s.putI i u v).time = s.time := (Aside.putI s i u v).time
@[simp] theorem State.putI_place (s : State) (i u : Nat) (v : Int) : (s.putI i u v).place = s.place := (Aside.putI s i u v).place
@[simp] theorem State.putI_comp (s : State) (i u : Nat) (v : Int) : (s.putI i u v).comp = s.comp := (Aside.putI s i u v).comp
@[simp] theorem State.putI_queue (s : State) (i u : Nat) (v : Int) : (s.putI i u v).queue = s.queue := (Aside.putI s i u v).queue
@[simp] theorem State.putI_memc (s : State) (i u : Nat) (v : Int) : (s.putI i u v).memc = s.memc := (Aside.putI s i u v).memc
@[simp] theorem State.putI_sec (s : State) (i u : Nat) (v : Int) : (s.putI i u v).sec = s.sec := (Aside.putI s i u v).sec
@[simp] theorem State.putI_scan (s : State) (i u : Nat) (v : Int) : (s.putI i u v).scan = s.scan := (Aside.putI s i u v).scan
@[simp] theorem State.putI_motion (s : State) (i u : Nat) (v : Int) : (s.putI i u v).motion = s.motion := (Aside.putI s i u v).motion
@[simp] theorem State.putI_touch (s : State) (i u : Nat) (v : Int) : (s.putI i u v).touch = s.touch := (Aside.putI s i u v).touch
@[simp] theorem State.putI_audio (s : State) (i u : Nat) (v : Int) : (s.putI i u v).audio = s.audio := (Aside.putI s i u v).audio
@[simp] theorem State.putI_fabric (s : State) (i u : Nat) (v : Int) : (s.putI i u v).fabric = s.fabric := (Aside.putI s i u v).fabric
@[simp] theorem State.putI_integ (s : State) (i u : Nat) (v : Int) : (s.putI i u v).integ = s.integ := (Aside.putI s i u v).integ
@[simp] theorem State.putI_links (s : State) (i u : Nat) (v : Int) : (s.putI i u v).links = s.links := (Aside.putI s i u v).links
@[simp] theorem State.putI_low (s : State) (i u : Nat) (v : Int) : (s.putI i u v).low = s.low := (Aside.putI s i u v).low
@[simp] theorem State.putI_render (s : State) (i u : Nat) (v : Int) : (s.putI i u v).render = s.render := (Aside.putI s i u v).render
@[simp] theorem State.putI_sys (s : State) (i u : Nat) (v : Int) : (s.putI i u v).sys = s.sys := (Aside.putI s i u v).sys
@[simp] theorem State.getBlk_putI (s : State) (i u : Nat) (v : Int) (j : Nat) : (s.putI i u v).getBlk j = s.getBlk j := (Aside.putI s i u v).getBlk j
@[simp] theorem State.getLive_putI (s : State) (i u : Nat) (v : Int) (j : Nat) : (s.putI i u v).getLive j = s.getLive j := (Aside.putI s i u v).getLive j

/-! `putB` -/

@[simp] theorem State.putB_now (s : State) (b i u v : Nat) : (s.putB b i u v).now = s.now := (Aside.putB s b i u v).now
@[simp] theorem State.putB_mem (s : State) (b i u v : Nat) : (s.putB b i u v).mem = s.mem := (Aside.putB s b i u v).mem
@[simp] theorem State.putB_blocks (s : State) (b i u v : Nat) : (s.putB b i u v).blocks = s.blocks := (Aside.putB s b i u v).blocks
@[simp] theorem State.putB_liveBlocks (s : State) (b i u v : Nat) : (s.putB b i u v).liveBlocks = s.liveBlocks := (Aside.putB s b i u v).liveBlocks
@[simp] theorem State.putB_shadow (s : State) (b i u v : Nat) : (s.putB b i u v).shadow = s.shadow := (Aside.putB s b i u v).shadow
@[simp] theorem State.putB_pending (s : State) (b i u v : Nat) : (s.putB b i u v).pending = s.pending := (Aside.putB s b i u v).pending
@[simp] theorem State.putB_fresh (s : State) (b i u v : Nat) : (s.putB b i u v).fresh = s.fresh := (Aside.putB s b i u v).fresh
@[simp] theorem State.putB_til (s : State) (b i u v : Nat) : (s.putB b i u v).til = s.til := (Aside.putB s b i u v).til
@[simp] theorem State.putB_plan (s : State) (b i u v : Nat) : (s.putB b i u v).plan = s.plan := (Aside.putB s b i u v).plan
@[simp] theorem State.putB_time (s : State) (b i u v : Nat) : (s.putB b i u v).time = s.time := (Aside.putB s b i u v).time
@[simp] theorem State.putB_place (s : State) (b i u v : Nat) : (s.putB b i u v).place = s.place := (Aside.putB s b i u v).place
@[simp] theorem State.putB_comp (s : State) (b i u v : Nat) : (s.putB b i u v).comp = s.comp := (Aside.putB s b i u v).comp
@[simp] theorem State.putB_queue (s : State) (b i u v : Nat) : (s.putB b i u v).queue = s.queue := (Aside.putB s b i u v).queue
@[simp] theorem State.putB_memc (s : State) (b i u v : Nat) : (s.putB b i u v).memc = s.memc := (Aside.putB s b i u v).memc
@[simp] theorem State.putB_sec (s : State) (b i u v : Nat) : (s.putB b i u v).sec = s.sec := (Aside.putB s b i u v).sec
@[simp] theorem State.putB_scan (s : State) (b i u v : Nat) : (s.putB b i u v).scan = s.scan := (Aside.putB s b i u v).scan
@[simp] theorem State.putB_motion (s : State) (b i u v : Nat) : (s.putB b i u v).motion = s.motion := (Aside.putB s b i u v).motion
@[simp] theorem State.putB_touch (s : State) (b i u v : Nat) : (s.putB b i u v).touch = s.touch := (Aside.putB s b i u v).touch
@[simp] theorem State.putB_audio (s : State) (b i u v : Nat) : (s.putB b i u v).audio = s.audio := (Aside.putB s b i u v).audio
@[simp] theorem State.putB_fabric (s : State) (b i u v : Nat) : (s.putB b i u v).fabric = s.fabric := (Aside.putB s b i u v).fabric
@[simp] theorem State.putB_integ (s : State) (b i u v : Nat) : (s.putB b i u v).integ = s.integ := (Aside.putB s b i u v).integ
@[simp] theorem State.putB_links (s : State) (b i u v : Nat) : (s.putB b i u v).links = s.links := (Aside.putB s b i u v).links
@[simp] theorem State.putB_low (s : State) (b i u v : Nat) : (s.putB b i u v).low = s.low := (Aside.putB s b i u v).low
@[simp] theorem State.putB_render (s : State) (b i u v : Nat) : (s.putB b i u v).render = s.render := (Aside.putB s b i u v).render
@[simp] theorem State.putB_sys (s : State) (b i u v : Nat) : (s.putB b i u v).sys = s.sys := (Aside.putB s b i u v).sys
@[simp] theorem State.getBlk_putB (s : State) (b i u v : Nat) (j : Nat) : (s.putB b i u v).getBlk j = s.getBlk j := (Aside.putB s b i u v).getBlk j
@[simp] theorem State.getLive_putB (s : State) (b i u v : Nat) (j : Nat) : (s.putB b i u v).getLive j = s.getLive j := (Aside.putB s b i u v).getLive j

/-! `bump` -/

@[simp] theorem State.bump_now (s : State) (i u : Nat) : (s.bump i u).now = s.now := (Aside.bump s i u).now
@[simp] theorem State.bump_mem (s : State) (i u : Nat) : (s.bump i u).mem = s.mem := (Aside.bump s i u).mem
@[simp] theorem State.bump_blocks (s : State) (i u : Nat) : (s.bump i u).blocks = s.blocks := (Aside.bump s i u).blocks
@[simp] theorem State.bump_liveBlocks (s : State) (i u : Nat) : (s.bump i u).liveBlocks = s.liveBlocks := (Aside.bump s i u).liveBlocks
@[simp] theorem State.bump_shadow (s : State) (i u : Nat) : (s.bump i u).shadow = s.shadow := (Aside.bump s i u).shadow
@[simp] theorem State.bump_pending (s : State) (i u : Nat) : (s.bump i u).pending = s.pending := (Aside.bump s i u).pending
@[simp] theorem State.bump_fresh (s : State) (i u : Nat) : (s.bump i u).fresh = s.fresh := (Aside.bump s i u).fresh
@[simp] theorem State.bump_til (s : State) (i u : Nat) : (s.bump i u).til = s.til := (Aside.bump s i u).til
@[simp] theorem State.bump_plan (s : State) (i u : Nat) : (s.bump i u).plan = s.plan := (Aside.bump s i u).plan
@[simp] theorem State.bump_time (s : State) (i u : Nat) : (s.bump i u).time = s.time := (Aside.bump s i u).time
@[simp] theorem State.bump_place (s : State) (i u : Nat) : (s.bump i u).place = s.place := (Aside.bump s i u).place
@[simp] theorem State.bump_comp (s : State) (i u : Nat) : (s.bump i u).comp = s.comp := (Aside.bump s i u).comp
@[simp] theorem State.bump_queue (s : State) (i u : Nat) : (s.bump i u).queue = s.queue := (Aside.bump s i u).queue
@[simp] theorem State.bump_memc (s : State) (i u : Nat) : (s.bump i u).memc = s.memc := (Aside.bump s i u).memc
@[simp] theorem State.bump_sec (s : State) (i u : Nat) : (s.bump i u).sec = s.sec := (Aside.bump s i u).sec
@[simp] theorem State.bump_scan (s : State) (i u : Nat) : (s.bump i u).scan = s.scan := (Aside.bump s i u).scan
@[simp] theorem State.bump_motion (s : State) (i u : Nat) : (s.bump i u).motion = s.motion := (Aside.bump s i u).motion
@[simp] theorem State.bump_touch (s : State) (i u : Nat) : (s.bump i u).touch = s.touch := (Aside.bump s i u).touch
@[simp] theorem State.bump_audio (s : State) (i u : Nat) : (s.bump i u).audio = s.audio := (Aside.bump s i u).audio
@[simp] theorem State.bump_fabric (s : State) (i u : Nat) : (s.bump i u).fabric = s.fabric := (Aside.bump s i u).fabric
@[simp] theorem State.bump_integ (s : State) (i u : Nat) : (s.bump i u).integ = s.integ := (Aside.bump s i u).integ
@[simp] theorem State.bump_links (s : State) (i u : Nat) : (s.bump i u).links = s.links := (Aside.bump s i u).links
@[simp] theorem State.bump_low (s : State) (i u : Nat) : (s.bump i u).low = s.low := (Aside.bump s i u).low
@[simp] theorem State.bump_render (s : State) (i u : Nat) : (s.bump i u).render = s.render := (Aside.bump s i u).render
@[simp] theorem State.bump_sys (s : State) (i u : Nat) : (s.bump i u).sys = s.sys := (Aside.bump s i u).sys
@[simp] theorem State.getBlk_bump (s : State) (i u : Nat) (j : Nat) : (s.bump i u).getBlk j = s.getBlk j := (Aside.bump s i u).getBlk j
@[simp] theorem State.getLive_bump (s : State) (i u : Nat) (j : Nat) : (s.bump i u).getLive j = s.getLive j := (Aside.bump s i u).getLive j

/-! `bumpW` -/

@[simp] theorem State.bumpW_now (s : State) (w b i u n : Nat) : (s.bumpW w b i u n).now = s.now := (Aside.bumpW s w b i u n).now
@[simp] theorem State.bumpW_mem (s : State) (w b i u n : Nat) : (s.bumpW w b i u n).mem = s.mem := (Aside.bumpW s w b i u n).mem
@[simp] theorem State.bumpW_blocks (s : State) (w b i u n : Nat) : (s.bumpW w b i u n).blocks = s.blocks := (Aside.bumpW s w b i u n).blocks
@[simp] theorem State.bumpW_liveBlocks (s : State) (w b i u n : Nat) : (s.bumpW w b i u n).liveBlocks = s.liveBlocks := (Aside.bumpW s w b i u n).liveBlocks
@[simp] theorem State.bumpW_shadow (s : State) (w b i u n : Nat) : (s.bumpW w b i u n).shadow = s.shadow := (Aside.bumpW s w b i u n).shadow
@[simp] theorem State.bumpW_pending (s : State) (w b i u n : Nat) : (s.bumpW w b i u n).pending = s.pending := (Aside.bumpW s w b i u n).pending
@[simp] theorem State.bumpW_fresh (s : State) (w b i u n : Nat) : (s.bumpW w b i u n).fresh = s.fresh := (Aside.bumpW s w b i u n).fresh
@[simp] theorem State.bumpW_til (s : State) (w b i u n : Nat) : (s.bumpW w b i u n).til = s.til := (Aside.bumpW s w b i u n).til
@[simp] theorem State.bumpW_plan (s : State) (w b i u n : Nat) : (s.bumpW w b i u n).plan = s.plan := (Aside.bumpW s w b i u n).plan
@[simp] theorem State.bumpW_time (s : State) (w b i u n : Nat) : (s.bumpW w b i u n).time = s.time := (Aside.bumpW s w b i u n).time
@[simp] theorem State.bumpW_place (s : State) (w b i u n : Nat) : (s.bumpW w b i u n).place = s.place := (Aside.bumpW s w b i u n).place
@[simp] theorem State.bumpW_comp (s : State) (w b i u n : Nat) : (s.bumpW w b i u n).comp = s.comp := (Aside.bumpW s w b i u n).comp
@[simp] theorem State.bumpW_queue (s : State) (w b i u n : Nat) : (s.bumpW w b i u n).queue = s.queue := (Aside.bumpW s w b i u n).queue
@[simp] theorem State.bumpW_memc (s : State) (w b i u n : Nat) : (s.bumpW w b i u n).memc = s.memc := (Aside.bumpW s w b i u n).memc
@[simp] theorem State.bumpW_sec (s : State) (w b i u n : Nat) : (s.bumpW w b i u n).sec = s.sec := (Aside.bumpW s w b i u n).sec
@[simp] theorem State.bumpW_scan (s : State) (w b i u n : Nat) : (s.bumpW w b i u n).scan = s.scan := (Aside.bumpW s w b i u n).scan
@[simp] theorem State.bumpW_motion (s : State) (w b i u n : Nat) : (s.bumpW w b i u n).motion = s.motion := (Aside.bumpW s w b i u n).motion
@[simp] theorem State.bumpW_touch (s : State) (w b i u n : Nat) : (s.bumpW w b i u n).touch = s.touch := (Aside.bumpW s w b i u n).touch
@[simp] theorem State.bumpW_audio (s : State) (w b i u n : Nat) : (s.bumpW w b i u n).audio = s.audio := (Aside.bumpW s w b i u n).audio
@[simp] theorem State.bumpW_fabric (s : State) (w b i u n : Nat) : (s.bumpW w b i u n).fabric = s.fabric := (Aside.bumpW s w b i u n).fabric
@[simp] theorem State.bumpW_integ (s : State) (w b i u n : Nat) : (s.bumpW w b i u n).integ = s.integ := (Aside.bumpW s w b i u n).integ
@[simp] theorem State.bumpW_links (s : State) (w b i u n : Nat) : (s.bumpW w b i u n).links = s.links := (Aside.bumpW s w b i u n).links
@[simp] theorem State.bumpW_low (s : State) (w b i u n : Nat) : (s.bumpW w b i u n).low = s.low := (Aside.bumpW s w b i u n).low
@[simp] theorem State.bumpW_render (s : State) (w b i u n : Nat) : (s.bumpW w b i u n).render = s.render := (Aside.bumpW s w b i u n).render
@[simp] theorem State.bumpW_sys (s : State) (w b i u n : Nat) : (s.bumpW w b i u n).sys = s.sys := (Aside.bumpW s w b i u n).sys
@[simp] theorem State.getBlk_bumpW (s : State) (w b i u n : Nat) (j : Nat) : (s.bumpW w b i u n).getBlk j = s.getBlk j := (Aside.bumpW s w b i u n).getBlk j
@[simp] theorem State.getLive_bumpW (s : State) (w b i u n : Nat) (j : Nat) : (s.bumpW w b i u n).getLive j = s.getLive j := (Aside.bumpW s w b i u n).getLive j

/-! `bumpN` -/

@[simp] theorem State.bumpN_now (s : State) (i u n : Nat) : (s.bumpN i u n).now = s.now := (Aside.bumpN s i u n).now
@[simp] theorem State.bumpN_mem (s : State) (i u n : Nat) : (s.bumpN i u n).mem = s.mem := (Aside.bumpN s i u n).mem
@[simp] theorem State.bumpN_blocks (s : State) (i u n : Nat) : (s.bumpN i u n).blocks = s.blocks := (Aside.bumpN s i u n).blocks
@[simp] theorem State.bumpN_liveBlocks (s : State) (i u n : Nat) : (s.bumpN i u n).liveBlocks = s.liveBlocks := (Aside.bumpN s i u n).liveBlocks
@[simp] theorem State.bumpN_shadow (s : State) (i u n : Nat) : (s.bumpN i u n).shadow = s.shadow := (Aside.bumpN s i u n).shadow
@[simp] theorem State.bumpN_pending (s : State) (i u n : Nat) : (s.bumpN i u n).pending = s.pending := (Aside.bumpN s i u n).pending
@[simp] theorem State.bumpN_fresh (s : State) (i u n : Nat) : (s.bumpN i u n).fresh = s.fresh := (Aside.bumpN s i u n).fresh
@[simp] theorem State.bumpN_til (s : State) (i u n : Nat) : (s.bumpN i u n).til = s.til := (Aside.bumpN s i u n).til
@[simp] theorem State.bumpN_plan (s : State) (i u n : Nat) : (s.bumpN i u n).plan = s.plan := (Aside.bumpN s i u n).plan
@[simp] theorem State.bumpN_time (s : State) (i u n : Nat) : (s.bumpN i u n).time = s.time := (Aside.bumpN s i u n).time
@[simp] theorem State.bumpN_place (s : State) (i u n : Nat) : (s.bumpN i u n).place = s.place := (Aside.bumpN s i u n).place
@[simp] theorem State.bumpN_comp (s : State) (i u n : Nat) : (s.bumpN i u n).comp = s.comp := (Aside.bumpN s i u n).comp
@[simp] theorem State.bumpN_queue (s : State) (i u n : Nat) : (s.bumpN i u n).queue = s.queue := (Aside.bumpN s i u n).queue
@[simp] theorem State.bumpN_memc (s : State) (i u n : Nat) : (s.bumpN i u n).memc = s.memc := (Aside.bumpN s i u n).memc
@[simp] theorem State.bumpN_sec (s : State) (i u n : Nat) : (s.bumpN i u n).sec = s.sec := (Aside.bumpN s i u n).sec
@[simp] theorem State.bumpN_scan (s : State) (i u n : Nat) : (s.bumpN i u n).scan = s.scan := (Aside.bumpN s i u n).scan
@[simp] theorem State.bumpN_motion (s : State) (i u n : Nat) : (s.bumpN i u n).motion = s.motion := (Aside.bumpN s i u n).motion
@[simp] theorem State.bumpN_touch (s : State) (i u n : Nat) : (s.bumpN i u n).touch = s.touch := (Aside.bumpN s i u n).touch
@[simp] theorem State.bumpN_audio (s : State) (i u n : Nat) : (s.bumpN i u n).audio = s.audio := (Aside.bumpN s i u n).audio
@[simp] theorem State.bumpN_fabric (s : State) (i u n : Nat) : (s.bumpN i u n).fabric = s.fabric := (Aside.bumpN s i u n).fabric
@[simp] theorem State.bumpN_integ (s : State) (i u n : Nat) : (s.bumpN i u n).integ = s.integ := (Aside.bumpN s i u n).integ
@[simp] theorem State.bumpN_links (s : State) (i u n : Nat) : (s.bumpN i u n).links = s.links := (Aside.bumpN s i u n).links
@[simp] theorem State.bumpN_low (s : State) (i u n : Nat) : (s.bumpN i u n).low = s.low := (Aside.bumpN s i u n).low
@[simp] theorem State.bumpN_render (s : State) (i u n : Nat) : (s.bumpN i u n).render = s.render := (Aside.bumpN s i u n).render
@[simp] theorem State.bumpN_sys (s : State) (i u n : Nat) : (s.bumpN i u n).sys = s.sys := (Aside.bumpN s i u n).sys
@[simp] theorem State.getBlk_bumpN (s : State) (i u n : Nat) (j : Nat) : (s.bumpN i u n).getBlk j = s.getBlk j := (Aside.bumpN s i u n).getBlk j
@[simp] theorem State.getLive_bumpN (s : State) (i u n : Nat) (j : Nat) : (s.bumpN i u n).getLive j = s.getLive j := (Aside.bumpN s i u n).getLive j

/-! `bump64` -/

@[simp] theorem State.bump64_now (s : State) (i u n : Nat) : (s.bump64 i u n).now = s.now := (Aside.bump64 s i u n).now
@[simp] theorem State.bump64_mem (s : State) (i u n : Nat) : (s.bump64 i u n).mem = s.mem := (Aside.bump64 s i u n).mem
@[simp] theorem State.bump64_blocks (s : State) (i u n : Nat) : (s.bump64 i u n).blocks = s.blocks := (Aside.bump64 s i u n).blocks
@[simp] theorem State.bump64_liveBlocks (s : State) (i u n : Nat) : (s.bump64 i u n).liveBlocks = s.liveBlocks := (Aside.bump64 s i u n).liveBlocks
@[simp] theorem State.bump64_shadow (s : State) (i u n : Nat) : (s.bump64 i u n).shadow = s.shadow := (Aside.bump64 s i u n).shadow
@[simp] theorem State.bump64_pending (s : State) (i u n : Nat) : (s.bump64 i u n).pending = s.pending := (Aside.bump64 s i u n).pending
@[simp] theorem State.bump64_fresh (s : State) (i u n : Nat) : (s.bump64 i u n).fresh = s.fresh := (Aside.bump64 s i u n).fresh
@[simp] theorem State.bump64_til (s : State) (i u n : Nat) : (s.bump64 i u n).til = s.til := (Aside.bump64 s i u n).til
@[simp] theorem State.bump64_plan (s : State) (i u n : Nat) : (s.bump64 i u n).plan = s.plan := (Aside.bump64 s i u n).plan
@[simp] theorem State.bump64_time (s : State) (i u n : Nat) : (s.bump64 i u n).time = s.time := (Aside.bump64 s i u n).time
@[simp] theorem State.bump64_place (s : State) (i u n : Nat) : (s.bump64 i u n).place = s.place := (Aside.bump64 s i u n).place
@[simp] theorem State.bump64_comp (s : State) (i u n : Nat) : (s.bump64 i u n).comp = s.comp := (Aside.bump64 s i u n).comp
@[simp] theorem State.bump64_queue (s : State) (i u n : Nat) : (s.bump64 i u n).queue = s.queue := (Aside.bump64 s i u n).queue
@[simp] theorem State.bump64_memc (s : State) (i u n : Nat) : (s.bump64 i u n).memc = s.memc := (Aside.bump64 s i u n).memc
@[simp] theorem State.bump64_sec (s : State) (i u n : Nat) : (s.bump64 i u n).sec = s.sec := (Aside.bump64 s i u n).sec
@[simp] theorem State.bump64_scan (s : State) (i u n : Nat) : (s.bump64 i u n).scan = s.scan := (Aside.bump64 s i u n).scan
@[simp] theorem State.bump64_motion (s : State) (i u n : Nat) : (s.bump64 i u n).motion = s.motion := (Aside.bump64 s i u n).motion
@[simp] theorem State.bump64_touch (s : State) (i u n : Nat) : (s.bump64 i u n).touch = s.touch := (Aside.bump64 s i u n).touch
@[simp] theorem State.bump64_audio (s : State) (i u n : Nat) : (s.bump64 i u n).audio = s.audio := (Aside.bump64 s i u n).audio
@[simp] theorem State.bump64_fabric (s : State) (i u n : Nat) : (s.bump64 i u n).fabric = s.fabric := (Aside.bump64 s i u n).fabric
@[simp] theorem State.bump64_integ (s : State) (i u n : Nat) : (s.bump64 i u n).integ = s.integ := (Aside.bump64 s i u n).integ
@[simp] theorem State.bump64_links (s : State) (i u n : Nat) : (s.bump64 i u n).links = s.links := (Aside.bump64 s i u n).links
@[simp] theorem State.bump64_low (s : State) (i u n : Nat) : (s.bump64 i u n).low = s.low := (Aside.bump64 s i u n).low
@[simp] theorem State.bump64_render (s : State) (i u n : Nat) : (s.bump64 i u n).render = s.render := (Aside.bump64 s i u n).render
@[simp] theorem State.bump64_sys (s : State) (i u n : Nat) : (s.bump64 i u n).sys = s.sys := (Aside.bump64 s i u n).sys
@[simp] theorem State.getBlk_bump64 (s : State) (i u n : Nat) (j : Nat) : (s.bump64 i u n).getBlk j = s.getBlk j := (Aside.bump64 s i u n).getBlk j
@[simp] theorem State.getLive_bump64 (s : State) (i u n : Nat) (j : Nat) : (s.bump64 i u n).getLive j = s.getLive j := (Aside.bump64 s i u n).getLive j

/-! `wrap32` -/

@[simp] theorem State.wrap32_now (s : State) (i u : Nat) : (s.wrap32 i u).now = s.now := (Aside.wrap32 s i u).now
@[simp] theorem State.wrap32_mem (s : State) (i u : Nat) : (s.wrap32 i u).mem = s.mem := (Aside.wrap32 s i u).mem
@[simp] theorem State.wrap32_blocks (s : State) (i u : Nat) : (s.wrap32 i u).blocks = s.blocks := (Aside.wrap32 s i u).blocks
@[simp] theorem State.wrap32_liveBlocks (s : State) (i u : Nat) : (s.wrap32 i u).liveBlocks = s.liveBlocks := (Aside.wrap32 s i u).liveBlocks
@[simp] theorem State.wrap32_shadow (s : State) (i u : Nat) : (s.wrap32 i u).shadow = s.shadow := (Aside.wrap32 s i u).shadow
@[simp] theorem State.wrap32_pending (s : State) (i u : Nat) : (s.wrap32 i u).pending = s.pending := (Aside.wrap32 s i u).pending
@[simp] theorem State.wrap32_fresh (s : State) (i u : Nat) : (s.wrap32 i u).fresh = s.fresh := (Aside.wrap32 s i u).fresh
@[simp] theorem State.wrap32_til (s : State) (i u : Nat) : (s.wrap32 i u).til = s.til := (Aside.wrap32 s i u).til
@[simp] theorem State.wrap32_plan (s : State) (i u : Nat) : (s.wrap32 i u).plan = s.plan := (Aside.wrap32 s i u).plan
@[simp] theorem State.wrap32_time (s : State) (i u : Nat) : (s.wrap32 i u).time = s.time := (Aside.wrap32 s i u).time
@[simp] theorem State.wrap32_place (s : State) (i u : Nat) : (s.wrap32 i u).place = s.place := (Aside.wrap32 s i u).place
@[simp] theorem State.wrap32_comp (s : State) (i u : Nat) : (s.wrap32 i u).comp = s.comp := (Aside.wrap32 s i u).comp
@[simp] theorem State.wrap32_queue (s : State) (i u : Nat) : (s.wrap32 i u).queue = s.queue := (Aside.wrap32 s i u).queue
@[simp] theorem State.wrap32_memc (s : State) (i u : Nat) : (s.wrap32 i u).memc = s.memc := (Aside.wrap32 s i u).memc
@[simp] theorem State.wrap32_sec (s : State) (i u : Nat) : (s.wrap32 i u).sec = s.sec := (Aside.wrap32 s i u).sec
@[simp] theorem State.wrap32_scan (s : State) (i u : Nat) : (s.wrap32 i u).scan = s.scan := (Aside.wrap32 s i u).scan
@[simp] theorem State.wrap32_motion (s : State) (i u : Nat) : (s.wrap32 i u).motion = s.motion := (Aside.wrap32 s i u).motion
@[simp] theorem State.wrap32_touch (s : State) (i u : Nat) : (s.wrap32 i u).touch = s.touch := (Aside.wrap32 s i u).touch
@[simp] theorem State.wrap32_audio (s : State) (i u : Nat) : (s.wrap32 i u).audio = s.audio := (Aside.wrap32 s i u).audio
@[simp] theorem State.wrap32_fabric (s : State) (i u : Nat) : (s.wrap32 i u).fabric = s.fabric := (Aside.wrap32 s i u).fabric
@[simp] theorem State.wrap32_integ (s : State) (i u : Nat) : (s.wrap32 i u).integ = s.integ := (Aside.wrap32 s i u).integ
@[simp] theorem State.wrap32_links (s : State) (i u : Nat) : (s.wrap32 i u).links = s.links := (Aside.wrap32 s i u).links
@[simp] theorem State.wrap32_low (s : State) (i u : Nat) : (s.wrap32 i u).low = s.low := (Aside.wrap32 s i u).low
@[simp] theorem State.wrap32_render (s : State) (i u : Nat) : (s.wrap32 i u).render = s.render := (Aside.wrap32 s i u).render
@[simp] theorem State.wrap32_sys (s : State) (i u : Nat) : (s.wrap32 i u).sys = s.sys := (Aside.wrap32 s i u).sys
@[simp] theorem State.getBlk_wrap32 (s : State) (i u : Nat) (j : Nat) : (s.wrap32 i u).getBlk j = s.getBlk j := (Aside.wrap32 s i u).getBlk j
@[simp] theorem State.getLive_wrap32 (s : State) (i u : Nat) (j : Nat) : (s.wrap32 i u).getLive j = s.getLive j := (Aside.wrap32 s i u).getLive j

/-! `setPin` -/

@[simp] theorem State.setPin_now (s : State) (b : Nat) (on : Bool) : (s.setPin b on).now = s.now := (Aside.setPin s b on).now
@[simp] theorem State.setPin_mem (s : State) (b : Nat) (on : Bool) : (s.setPin b on).mem = s.mem := (Aside.setPin s b on).mem
@[simp] theorem State.setPin_blocks (s : State) (b : Nat) (on : Bool) : (s.setPin b on).blocks = s.blocks := (Aside.setPin s b on).blocks
@[simp] theorem State.setPin_liveBlocks (s : State) (b : Nat) (on : Bool) : (s.setPin b on).liveBlocks = s.liveBlocks := (Aside.setPin s b on).liveBlocks
@[simp] theorem State.setPin_shadow (s : State) (b : Nat) (on : Bool) : (s.setPin b on).shadow = s.shadow := (Aside.setPin s b on).shadow
@[simp] theorem State.setPin_pending (s : State) (b : Nat) (on : Bool) : (s.setPin b on).pending = s.pending := (Aside.setPin s b on).pending
@[simp] theorem State.setPin_fresh (s : State) (b : Nat) (on : Bool) : (s.setPin b on).fresh = s.fresh := (Aside.setPin s b on).fresh
@[simp] theorem State.setPin_til (s : State) (b : Nat) (on : Bool) : (s.setPin b on).til = s.til := (Aside.setPin s b on).til
@[simp] theorem State.setPin_plan (s : State) (b : Nat) (on : Bool) : (s.setPin b on).plan = s.plan := (Aside.setPin s b on).plan
@[simp] theorem State.setPin_time (s : State) (b : Nat) (on : Bool) : (s.setPin b on).time = s.time := (Aside.setPin s b on).time
@[simp] theorem State.setPin_place (s : State) (b : Nat) (on : Bool) : (s.setPin b on).place = s.place := (Aside.setPin s b on).place
@[simp] theorem State.setPin_comp (s : State) (b : Nat) (on : Bool) : (s.setPin b on).comp = s.comp := (Aside.setPin s b on).comp
@[simp] theorem State.setPin_queue (s : State) (b : Nat) (on : Bool) : (s.setPin b on).queue = s.queue := (Aside.setPin s b on).queue
@[simp] theorem State.setPin_memc (s : State) (b : Nat) (on : Bool) : (s.setPin b on).memc = s.memc := (Aside.setPin s b on).memc
@[simp] theorem State.setPin_sec (s : State) (b : Nat) (on : Bool) : (s.setPin b on).sec = s.sec := (Aside.setPin s b on).sec
@[simp] theorem State.setPin_scan (s : State) (b : Nat) (on : Bool) : (s.setPin b on).scan = s.scan := (Aside.setPin s b on).scan
@[simp] theorem State.setPin_motion (s : State) (b : Nat) (on : Bool) : (s.setPin b on).motion = s.motion := (Aside.setPin s b on).motion
@[simp] theorem State.setPin_touch (s : State) (b : Nat) (on : Bool) : (s.setPin b on).touch = s.touch := (Aside.setPin s b on).touch
@[simp] theorem State.setPin_audio (s : State) (b : Nat) (on : Bool) : (s.setPin b on).audio = s.audio := (Aside.setPin s b on).audio
@[simp] theorem State.setPin_fabric (s : State) (b : Nat) (on : Bool) : (s.setPin b on).fabric = s.fabric := (Aside.setPin s b on).fabric
@[simp] theorem State.setPin_integ (s : State) (b : Nat) (on : Bool) : (s.setPin b on).integ = s.integ := (Aside.setPin s b on).integ
@[simp] theorem State.setPin_links (s : State) (b : Nat) (on : Bool) : (s.setPin b on).links = s.links := (Aside.setPin s b on).links
@[simp] theorem State.setPin_low (s : State) (b : Nat) (on : Bool) : (s.setPin b on).low = s.low := (Aside.setPin s b on).low
@[simp] theorem State.setPin_render (s : State) (b : Nat) (on : Bool) : (s.setPin b on).render = s.render := (Aside.setPin s b on).render
@[simp] theorem State.setPin_sys (s : State) (b : Nat) (on : Bool) : (s.setPin b on).sys = s.sys := (Aside.setPin s b on).sys
@[simp] theorem State.getBlk_setPin (s : State) (b : Nat) (on : Bool) (j : Nat) : (s.setPin b on).getBlk j = s.getBlk j := (Aside.setPin s b on).getBlk j
@[simp] theorem State.getLive_setPin (s : State) (b : Nat) (on : Bool) (j : Nat) : (s.setPin b on).getLive j = s.getLive j := (Aside.setPin s b on).getLive j

/-! `setFlag` -/

@[simp] theorem State.setFlag_now (s : State) (k n : Nat) : (s.setFlag k n).now = s.now := (Aside.setFlag s k n).now
@[simp] theorem State.setFlag_mem (s : State) (k n : Nat) : (s.setFlag k n).mem = s.mem := (Aside.setFlag s k n).mem
@[simp] theorem State.setFlag_blocks (s : State) (k n : Nat) : (s.setFlag k n).blocks = s.blocks := (Aside.setFlag s k n).blocks
@[simp] theorem State.setFlag_liveBlocks (s : State) (k n : Nat) : (s.setFlag k n).liveBlocks = s.liveBlocks := (Aside.setFlag s k n).liveBlocks
@[simp] theorem State.setFlag_shadow (s : State) (k n : Nat) : (s.setFlag k n).shadow = s.shadow := (Aside.setFlag s k n).shadow
@[simp] theorem State.setFlag_pending (s : State) (k n : Nat) : (s.setFlag k n).pending = s.pending := (Aside.setFlag s k n).pending
@[simp] theorem State.setFlag_fresh (s : State) (k n : Nat) : (s.setFlag k n).fresh = s.fresh := (Aside.setFlag s k n).fresh
@[simp] theorem State.setFlag_til (s : State) (k n : Nat) : (s.setFlag k n).til = s.til := (Aside.setFlag s k n).til
@[simp] theorem State.setFlag_plan (s : State) (k n : Nat) : (s.setFlag k n).plan = s.plan := (Aside.setFlag s k n).plan
@[simp] theorem State.setFlag_time (s : State) (k n : Nat) : (s.setFlag k n).time = s.time := (Aside.setFlag s k n).time
@[simp] theorem State.setFlag_place (s : State) (k n : Nat) : (s.setFlag k n).place = s.place := (Aside.setFlag s k n).place
@[simp] theorem State.setFlag_comp (s : State) (k n : Nat) : (s.setFlag k n).comp = s.comp := (Aside.setFlag s k n).comp
@[simp] theorem State.setFlag_queue (s : State) (k n : Nat) : (s.setFlag k n).queue = s.queue := (Aside.setFlag s k n).queue
@[simp] theorem State.setFlag_memc (s : State) (k n : Nat) : (s.setFlag k n).memc = s.memc := (Aside.setFlag s k n).memc
@[simp] theorem State.setFlag_sec (s : State) (k n : Nat) : (s.setFlag k n).sec = s.sec := (Aside.setFlag s k n).sec
@[simp] theorem State.setFlag_scan (s : State) (k n : Nat) : (s.setFlag k n).scan = s.scan := (Aside.setFlag s k n).scan
@[simp] theorem State.setFlag_motion (s : State) (k n : Nat) : (s.setFlag k n).motion = s.motion := (Aside.setFlag s k n).motion
@[simp] theorem State.setFlag_touch (s : State) (k n : Nat) : (s.setFlag k n).touch = s.touch := (Aside.setFlag s k n).touch
@[simp] theorem State.setFlag_audio (s : State) (k n : Nat) : (s.setFlag k n).audio = s.audio := (Aside.setFlag s k n).audio
@[simp] theorem State.setFlag_fabric (s : State) (k n : Nat) : (s.setFlag k n).fabric = s.fabric := (Aside.setFlag s k n).fabric
@[simp] theorem State.setFlag_integ (s : State) (k n : Nat) : (s.setFlag k n).integ = s.integ := (Aside.setFlag s k n).integ
@[simp] theorem State.setFlag_links (s : State) (k n : Nat) : (s.setFlag k n).links = s.links := (Aside.setFlag s k n).links
@[simp] theorem State.setFlag_low (s : State) (k n : Nat) : (s.setFlag k n).low = s.low := (Aside.setFlag s k n).low
@[simp] theorem State.setFlag_render (s : State) (k n : Nat) : (s.setFlag k n).render = s.render := (Aside.setFlag s k n).render
@[simp] theorem State.setFlag_sys (s : State) (k n : Nat) : (s.setFlag k n).sys = s.sys := (Aside.setFlag s k n).sys
@[simp] theorem State.getBlk_setFlag (s : State) (k n : Nat) (j : Nat) : (s.setFlag k n).getBlk j = s.getBlk j := (Aside.setFlag s k n).getBlk j
@[simp] theorem State.getLive_setFlag (s : State) (k n : Nat) (j : Nat) : (s.setFlag k n).getLive j = s.getLive j := (Aside.setFlag s k n).getLive j

/-! `settleStatus` -/

@[simp] theorem State.settleStatus_now (s : State) (k : Nat) : (s.settleStatus k).now = s.now := (Aside.settleStatus s k).now
@[simp] theorem State.settleStatus_mem (s : State) (k : Nat) : (s.settleStatus k).mem = s.mem := (Aside.settleStatus s k).mem
@[simp] theorem State.settleStatus_blocks (s : State) (k : Nat) : (s.settleStatus k).blocks = s.blocks := (Aside.settleStatus s k).blocks
@[simp] theorem State.settleStatus_liveBlocks (s : State) (k : Nat) : (s.settleStatus k).liveBlocks = s.liveBlocks := (Aside.settleStatus s k).liveBlocks
@[simp] theorem State.settleStatus_shadow (s : State) (k : Nat) : (s.settleStatus k).shadow = s.shadow := (Aside.settleStatus s k).shadow
@[simp] theorem State.settleStatus_pending (s : State) (k : Nat) : (s.settleStatus k).pending = s.pending := (Aside.settleStatus s k).pending
@[simp] theorem State.settleStatus_fresh (s : State) (k : Nat) : (s.settleStatus k).fresh = s.fresh := (Aside.settleStatus s k).fresh
@[simp] theorem State.settleStatus_til (s : State) (k : Nat) : (s.settleStatus k).til = s.til := (Aside.settleStatus s k).til
@[simp] theorem State.settleStatus_plan (s : State) (k : Nat) : (s.settleStatus k).plan = s.plan := (Aside.settleStatus s k).plan
@[simp] theorem State.settleStatus_time (s : State) (k : Nat) : (s.settleStatus k).time = s.time := (Aside.settleStatus s k).time
@[simp] theorem State.settleStatus_place (s : State) (k : Nat) : (s.settleStatus k).place = s.place := (Aside.settleStatus s k).place
@[simp] theorem State.settleStatus_comp (s : State) (k : Nat) : (s.settleStatus k).comp = s.comp := (Aside.settleStatus s k).comp
@[simp] theorem State.settleStatus_queue (s : State) (k : Nat) : (s.settleStatus k).queue = s.queue := (Aside.settleStatus s k).queue
@[simp] theorem State.settleStatus_memc (s : State) (k : Nat) : (s.settleStatus k).memc = s.memc := (Aside.settleStatus s k).memc
@[simp] theorem State.settleStatus_sec (s : State) (k : Nat) : (s.settleStatus k).sec = s.sec := (Aside.settleStatus s k).sec
@[simp] theorem State.settleStatus_scan (s : State) (k : Nat) : (s.settleStatus k).scan = s.scan := (Aside.settleStatus s k).scan
@[simp] theorem State.settleStatus_motion (s : State) (k : Nat) : (s.settleStatus k).motion = s.motion := (Aside.settleStatus s k).motion
@[simp] theorem State.settleStatus_touch (s : State) (k : Nat) : (s.settleStatus k).touch = s.touch := (Aside.settleStatus s k).touch
@[simp] theorem State.settleStatus_audio (s : State) (k : Nat) : (s.settleStatus k).audio = s.audio := (Aside.settleStatus s k).audio
@[simp] theorem State.settleStatus_fabric (s : State) (k : Nat) : (s.settleStatus k).fabric = s.fabric := (Aside.settleStatus s k).fabric
@[simp] theorem State.settleStatus_integ (s : State) (k : Nat) : (s.settleStatus k).integ = s.integ := (Aside.settleStatus s k).integ
@[simp] theorem State.settleStatus_links (s : State) (k : Nat) : (s.settleStatus k).links = s.links := (Aside.settleStatus s k).links
@[simp] theorem State.settleStatus_low (s : State) (k : Nat) : (s.settleStatus k).low = s.low := (Aside.settleStatus s k).low
@[simp] theorem State.settleStatus_render (s : State) (k : Nat) : (s.settleStatus k).render = s.render := (Aside.settleStatus s k).render
@[simp] theorem State.settleStatus_sys (s : State) (k : Nat) : (s.settleStatus k).sys = s.sys := (Aside.settleStatus s k).sys
@[simp] theorem State.getBlk_settleStatus (s : State) (k : Nat) (j : Nat) : (s.settleStatus k).getBlk j = s.getBlk j := (Aside.settleStatus s k).getBlk j
@[simp] theorem State.getLive_settleStatus (s : State) (k : Nat) (j : Nat) : (s.settleStatus k).getLive j = s.getLive j := (Aside.settleStatus s k).getLive j

/-! `occur` -/

@[simp] theorem State.occur_now (s : State) (o : Occ) : (s.occur o).now = s.now := (Aside.occur s o).now
@[simp] theorem State.occur_mem (s : State) (o : Occ) : (s.occur o).mem = s.mem := (Aside.occur s o).mem
@[simp] theorem State.occur_blocks (s : State) (o : Occ) : (s.occur o).blocks = s.blocks := (Aside.occur s o).blocks
@[simp] theorem State.occur_liveBlocks (s : State) (o : Occ) : (s.occur o).liveBlocks = s.liveBlocks := (Aside.occur s o).liveBlocks
@[simp] theorem State.occur_shadow (s : State) (o : Occ) : (s.occur o).shadow = s.shadow := (Aside.occur s o).shadow
@[simp] theorem State.occur_pending (s : State) (o : Occ) : (s.occur o).pending = s.pending := (Aside.occur s o).pending
@[simp] theorem State.occur_fresh (s : State) (o : Occ) : (s.occur o).fresh = s.fresh := (Aside.occur s o).fresh
@[simp] theorem State.occur_til (s : State) (o : Occ) : (s.occur o).til = s.til := (Aside.occur s o).til
@[simp] theorem State.occur_plan (s : State) (o : Occ) : (s.occur o).plan = s.plan := (Aside.occur s o).plan
@[simp] theorem State.occur_time (s : State) (o : Occ) : (s.occur o).time = s.time := (Aside.occur s o).time
@[simp] theorem State.occur_place (s : State) (o : Occ) : (s.occur o).place = s.place := (Aside.occur s o).place
@[simp] theorem State.occur_comp (s : State) (o : Occ) : (s.occur o).comp = s.comp := (Aside.occur s o).comp
@[simp] theorem State.occur_queue (s : State) (o : Occ) : (s.occur o).queue = s.queue := (Aside.occur s o).queue
@[simp] theorem State.occur_memc (s : State) (o : Occ) : (s.occur o).memc = s.memc := (Aside.occur s o).memc
@[simp] theorem State.occur_sec (s : State) (o : Occ) : (s.occur o).sec = s.sec := (Aside.occur s o).sec
@[simp] theorem State.occur_scan (s : State) (o : Occ) : (s.occur o).scan = s.scan := (Aside.occur s o).scan
@[simp] theorem State.occur_motion (s : State) (o : Occ) : (s.occur o).motion = s.motion := (Aside.occur s o).motion
@[simp] theorem State.occur_touch (s : State) (o : Occ) : (s.occur o).touch = s.touch := (Aside.occur s o).touch
@[simp] theorem State.occur_audio (s : State) (o : Occ) : (s.occur o).audio = s.audio := (Aside.occur s o).audio
@[simp] theorem State.occur_fabric (s : State) (o : Occ) : (s.occur o).fabric = s.fabric := (Aside.occur s o).fabric
@[simp] theorem State.occur_integ (s : State) (o : Occ) : (s.occur o).integ = s.integ := (Aside.occur s o).integ
@[simp] theorem State.occur_links (s : State) (o : Occ) : (s.occur o).links = s.links := (Aside.occur s o).links
@[simp] theorem State.occur_low (s : State) (o : Occ) : (s.occur o).low = s.low := (Aside.occur s o).low
@[simp] theorem State.occur_render (s : State) (o : Occ) : (s.occur o).render = s.render := (Aside.occur s o).render
@[simp] theorem State.occur_sys (s : State) (o : Occ) : (s.occur o).sys = s.sys := (Aside.occur s o).sys
@[simp] theorem State.getBlk_occur (s : State) (o : Occ) (j : Nat) : (s.occur o).getBlk j = s.getBlk j := (Aside.occur s o).getBlk j
@[simp] theorem State.getLive_occur (s : State) (o : Occ) (j : Nat) : (s.occur o).getLive j = s.getLive j := (Aside.occur s o).getLive j

/-! `raiseB` -/

@[simp] theorem State.raiseB_now (s : State) (b i u unit flag sev part : Nat) (d : List Byte) : (s.raiseB b i u unit flag sev part d).now = s.now := (Aside.raiseB s b i u unit flag sev part d).now
@[simp] theorem State.raiseB_mem (s : State) (b i u unit flag sev part : Nat) (d : List Byte) : (s.raiseB b i u unit flag sev part d).mem = s.mem := (Aside.raiseB s b i u unit flag sev part d).mem
@[simp] theorem State.raiseB_blocks (s : State) (b i u unit flag sev part : Nat) (d : List Byte) : (s.raiseB b i u unit flag sev part d).blocks = s.blocks := (Aside.raiseB s b i u unit flag sev part d).blocks
@[simp] theorem State.raiseB_liveBlocks (s : State) (b i u unit flag sev part : Nat) (d : List Byte) : (s.raiseB b i u unit flag sev part d).liveBlocks = s.liveBlocks := (Aside.raiseB s b i u unit flag sev part d).liveBlocks
@[simp] theorem State.raiseB_shadow (s : State) (b i u unit flag sev part : Nat) (d : List Byte) : (s.raiseB b i u unit flag sev part d).shadow = s.shadow := (Aside.raiseB s b i u unit flag sev part d).shadow
@[simp] theorem State.raiseB_pending (s : State) (b i u unit flag sev part : Nat) (d : List Byte) : (s.raiseB b i u unit flag sev part d).pending = s.pending := (Aside.raiseB s b i u unit flag sev part d).pending
@[simp] theorem State.raiseB_fresh (s : State) (b i u unit flag sev part : Nat) (d : List Byte) : (s.raiseB b i u unit flag sev part d).fresh = s.fresh := (Aside.raiseB s b i u unit flag sev part d).fresh
@[simp] theorem State.raiseB_til (s : State) (b i u unit flag sev part : Nat) (d : List Byte) : (s.raiseB b i u unit flag sev part d).til = s.til := (Aside.raiseB s b i u unit flag sev part d).til
@[simp] theorem State.raiseB_plan (s : State) (b i u unit flag sev part : Nat) (d : List Byte) : (s.raiseB b i u unit flag sev part d).plan = s.plan := (Aside.raiseB s b i u unit flag sev part d).plan
@[simp] theorem State.raiseB_time (s : State) (b i u unit flag sev part : Nat) (d : List Byte) : (s.raiseB b i u unit flag sev part d).time = s.time := (Aside.raiseB s b i u unit flag sev part d).time
@[simp] theorem State.raiseB_place (s : State) (b i u unit flag sev part : Nat) (d : List Byte) : (s.raiseB b i u unit flag sev part d).place = s.place := (Aside.raiseB s b i u unit flag sev part d).place
@[simp] theorem State.raiseB_comp (s : State) (b i u unit flag sev part : Nat) (d : List Byte) : (s.raiseB b i u unit flag sev part d).comp = s.comp := (Aside.raiseB s b i u unit flag sev part d).comp
@[simp] theorem State.raiseB_queue (s : State) (b i u unit flag sev part : Nat) (d : List Byte) : (s.raiseB b i u unit flag sev part d).queue = s.queue := (Aside.raiseB s b i u unit flag sev part d).queue
@[simp] theorem State.raiseB_memc (s : State) (b i u unit flag sev part : Nat) (d : List Byte) : (s.raiseB b i u unit flag sev part d).memc = s.memc := (Aside.raiseB s b i u unit flag sev part d).memc
@[simp] theorem State.raiseB_sec (s : State) (b i u unit flag sev part : Nat) (d : List Byte) : (s.raiseB b i u unit flag sev part d).sec = s.sec := (Aside.raiseB s b i u unit flag sev part d).sec
@[simp] theorem State.raiseB_scan (s : State) (b i u unit flag sev part : Nat) (d : List Byte) : (s.raiseB b i u unit flag sev part d).scan = s.scan := (Aside.raiseB s b i u unit flag sev part d).scan
@[simp] theorem State.raiseB_motion (s : State) (b i u unit flag sev part : Nat) (d : List Byte) : (s.raiseB b i u unit flag sev part d).motion = s.motion := (Aside.raiseB s b i u unit flag sev part d).motion
@[simp] theorem State.raiseB_touch (s : State) (b i u unit flag sev part : Nat) (d : List Byte) : (s.raiseB b i u unit flag sev part d).touch = s.touch := (Aside.raiseB s b i u unit flag sev part d).touch
@[simp] theorem State.raiseB_audio (s : State) (b i u unit flag sev part : Nat) (d : List Byte) : (s.raiseB b i u unit flag sev part d).audio = s.audio := (Aside.raiseB s b i u unit flag sev part d).audio
@[simp] theorem State.raiseB_fabric (s : State) (b i u unit flag sev part : Nat) (d : List Byte) : (s.raiseB b i u unit flag sev part d).fabric = s.fabric := (Aside.raiseB s b i u unit flag sev part d).fabric
@[simp] theorem State.raiseB_integ (s : State) (b i u unit flag sev part : Nat) (d : List Byte) : (s.raiseB b i u unit flag sev part d).integ = s.integ := (Aside.raiseB s b i u unit flag sev part d).integ
@[simp] theorem State.raiseB_links (s : State) (b i u unit flag sev part : Nat) (d : List Byte) : (s.raiseB b i u unit flag sev part d).links = s.links := (Aside.raiseB s b i u unit flag sev part d).links
@[simp] theorem State.raiseB_low (s : State) (b i u unit flag sev part : Nat) (d : List Byte) : (s.raiseB b i u unit flag sev part d).low = s.low := (Aside.raiseB s b i u unit flag sev part d).low
@[simp] theorem State.raiseB_render (s : State) (b i u unit flag sev part : Nat) (d : List Byte) : (s.raiseB b i u unit flag sev part d).render = s.render := (Aside.raiseB s b i u unit flag sev part d).render
@[simp] theorem State.raiseB_sys (s : State) (b i u unit flag sev part : Nat) (d : List Byte) : (s.raiseB b i u unit flag sev part d).sys = s.sys := (Aside.raiseB s b i u unit flag sev part d).sys
@[simp] theorem State.getBlk_raiseB (s : State) (b i u unit flag sev part : Nat) (d : List Byte) (j : Nat) : (s.raiseB b i u unit flag sev part d).getBlk j = s.getBlk j := (Aside.raiseB s b i u unit flag sev part d).getBlk j
@[simp] theorem State.getLive_raiseB (s : State) (b i u unit flag sev part : Nat) (d : List Byte) (j : Nat) : (s.raiseB b i u unit flag sev part d).getLive j = s.getLive j := (Aside.raiseB s b i u unit flag sev part d).getLive j

/-! `raise` -/

@[simp] theorem State.raise_now (s : State) (i unit flag sev part : Nat) (d : List Byte) : (s.raise i unit flag sev part d).now = s.now := (Aside.raise s i unit flag sev part d).now
@[simp] theorem State.raise_mem (s : State) (i unit flag sev part : Nat) (d : List Byte) : (s.raise i unit flag sev part d).mem = s.mem := (Aside.raise s i unit flag sev part d).mem
@[simp] theorem State.raise_blocks (s : State) (i unit flag sev part : Nat) (d : List Byte) : (s.raise i unit flag sev part d).blocks = s.blocks := (Aside.raise s i unit flag sev part d).blocks
@[simp] theorem State.raise_liveBlocks (s : State) (i unit flag sev part : Nat) (d : List Byte) : (s.raise i unit flag sev part d).liveBlocks = s.liveBlocks := (Aside.raise s i unit flag sev part d).liveBlocks
@[simp] theorem State.raise_shadow (s : State) (i unit flag sev part : Nat) (d : List Byte) : (s.raise i unit flag sev part d).shadow = s.shadow := (Aside.raise s i unit flag sev part d).shadow
@[simp] theorem State.raise_pending (s : State) (i unit flag sev part : Nat) (d : List Byte) : (s.raise i unit flag sev part d).pending = s.pending := (Aside.raise s i unit flag sev part d).pending
@[simp] theorem State.raise_fresh (s : State) (i unit flag sev part : Nat) (d : List Byte) : (s.raise i unit flag sev part d).fresh = s.fresh := (Aside.raise s i unit flag sev part d).fresh
@[simp] theorem State.raise_til (s : State) (i unit flag sev part : Nat) (d : List Byte) : (s.raise i unit flag sev part d).til = s.til := (Aside.raise s i unit flag sev part d).til
@[simp] theorem State.raise_plan (s : State) (i unit flag sev part : Nat) (d : List Byte) : (s.raise i unit flag sev part d).plan = s.plan := (Aside.raise s i unit flag sev part d).plan
@[simp] theorem State.raise_time (s : State) (i unit flag sev part : Nat) (d : List Byte) : (s.raise i unit flag sev part d).time = s.time := (Aside.raise s i unit flag sev part d).time
@[simp] theorem State.raise_place (s : State) (i unit flag sev part : Nat) (d : List Byte) : (s.raise i unit flag sev part d).place = s.place := (Aside.raise s i unit flag sev part d).place
@[simp] theorem State.raise_comp (s : State) (i unit flag sev part : Nat) (d : List Byte) : (s.raise i unit flag sev part d).comp = s.comp := (Aside.raise s i unit flag sev part d).comp
@[simp] theorem State.raise_queue (s : State) (i unit flag sev part : Nat) (d : List Byte) : (s.raise i unit flag sev part d).queue = s.queue := (Aside.raise s i unit flag sev part d).queue
@[simp] theorem State.raise_memc (s : State) (i unit flag sev part : Nat) (d : List Byte) : (s.raise i unit flag sev part d).memc = s.memc := (Aside.raise s i unit flag sev part d).memc
@[simp] theorem State.raise_sec (s : State) (i unit flag sev part : Nat) (d : List Byte) : (s.raise i unit flag sev part d).sec = s.sec := (Aside.raise s i unit flag sev part d).sec
@[simp] theorem State.raise_scan (s : State) (i unit flag sev part : Nat) (d : List Byte) : (s.raise i unit flag sev part d).scan = s.scan := (Aside.raise s i unit flag sev part d).scan
@[simp] theorem State.raise_motion (s : State) (i unit flag sev part : Nat) (d : List Byte) : (s.raise i unit flag sev part d).motion = s.motion := (Aside.raise s i unit flag sev part d).motion
@[simp] theorem State.raise_touch (s : State) (i unit flag sev part : Nat) (d : List Byte) : (s.raise i unit flag sev part d).touch = s.touch := (Aside.raise s i unit flag sev part d).touch
@[simp] theorem State.raise_audio (s : State) (i unit flag sev part : Nat) (d : List Byte) : (s.raise i unit flag sev part d).audio = s.audio := (Aside.raise s i unit flag sev part d).audio
@[simp] theorem State.raise_fabric (s : State) (i unit flag sev part : Nat) (d : List Byte) : (s.raise i unit flag sev part d).fabric = s.fabric := (Aside.raise s i unit flag sev part d).fabric
@[simp] theorem State.raise_integ (s : State) (i unit flag sev part : Nat) (d : List Byte) : (s.raise i unit flag sev part d).integ = s.integ := (Aside.raise s i unit flag sev part d).integ
@[simp] theorem State.raise_links (s : State) (i unit flag sev part : Nat) (d : List Byte) : (s.raise i unit flag sev part d).links = s.links := (Aside.raise s i unit flag sev part d).links
@[simp] theorem State.raise_low (s : State) (i unit flag sev part : Nat) (d : List Byte) : (s.raise i unit flag sev part d).low = s.low := (Aside.raise s i unit flag sev part d).low
@[simp] theorem State.raise_render (s : State) (i unit flag sev part : Nat) (d : List Byte) : (s.raise i unit flag sev part d).render = s.render := (Aside.raise s i unit flag sev part d).render
@[simp] theorem State.raise_sys (s : State) (i unit flag sev part : Nat) (d : List Byte) : (s.raise i unit flag sev part d).sys = s.sys := (Aside.raise s i unit flag sev part d).sys
@[simp] theorem State.getBlk_raise (s : State) (i unit flag sev part : Nat) (d : List Byte) (j : Nat) : (s.raise i unit flag sev part d).getBlk j = s.getBlk j := (Aside.raise s i unit flag sev part d).getBlk j
@[simp] theorem State.getLive_raise (s : State) (i unit flag sev part : Nat) (d : List Byte) (j : Nat) : (s.raise i unit flag sev part d).getLive j = s.getLive j := (Aside.raise s i unit flag sev part d).getLive j

/-! `raiseCode` -/

@[simp] theorem State.raiseCode_now (s : State) (c unit code sev part : Nat) (d : List Byte) : (s.raiseCode c unit code sev part d).now = s.now := (Aside.raiseCode s c unit code sev part d).now
@[simp] theorem State.raiseCode_mem (s : State) (c unit code sev part : Nat) (d : List Byte) : (s.raiseCode c unit code sev part d).mem = s.mem := (Aside.raiseCode s c unit code sev part d).mem
@[simp] theorem State.raiseCode_blocks (s : State) (c unit code sev part : Nat) (d : List Byte) : (s.raiseCode c unit code sev part d).blocks = s.blocks := (Aside.raiseCode s c unit code sev part d).blocks
@[simp] theorem State.raiseCode_liveBlocks (s : State) (c unit code sev part : Nat) (d : List Byte) : (s.raiseCode c unit code sev part d).liveBlocks = s.liveBlocks := (Aside.raiseCode s c unit code sev part d).liveBlocks
@[simp] theorem State.raiseCode_shadow (s : State) (c unit code sev part : Nat) (d : List Byte) : (s.raiseCode c unit code sev part d).shadow = s.shadow := (Aside.raiseCode s c unit code sev part d).shadow
@[simp] theorem State.raiseCode_pending (s : State) (c unit code sev part : Nat) (d : List Byte) : (s.raiseCode c unit code sev part d).pending = s.pending := (Aside.raiseCode s c unit code sev part d).pending
@[simp] theorem State.raiseCode_fresh (s : State) (c unit code sev part : Nat) (d : List Byte) : (s.raiseCode c unit code sev part d).fresh = s.fresh := (Aside.raiseCode s c unit code sev part d).fresh
@[simp] theorem State.raiseCode_til (s : State) (c unit code sev part : Nat) (d : List Byte) : (s.raiseCode c unit code sev part d).til = s.til := (Aside.raiseCode s c unit code sev part d).til
@[simp] theorem State.raiseCode_plan (s : State) (c unit code sev part : Nat) (d : List Byte) : (s.raiseCode c unit code sev part d).plan = s.plan := (Aside.raiseCode s c unit code sev part d).plan
@[simp] theorem State.raiseCode_time (s : State) (c unit code sev part : Nat) (d : List Byte) : (s.raiseCode c unit code sev part d).time = s.time := (Aside.raiseCode s c unit code sev part d).time
@[simp] theorem State.raiseCode_place (s : State) (c unit code sev part : Nat) (d : List Byte) : (s.raiseCode c unit code sev part d).place = s.place := (Aside.raiseCode s c unit code sev part d).place
@[simp] theorem State.raiseCode_comp (s : State) (c unit code sev part : Nat) (d : List Byte) : (s.raiseCode c unit code sev part d).comp = s.comp := (Aside.raiseCode s c unit code sev part d).comp
@[simp] theorem State.raiseCode_queue (s : State) (c unit code sev part : Nat) (d : List Byte) : (s.raiseCode c unit code sev part d).queue = s.queue := (Aside.raiseCode s c unit code sev part d).queue
@[simp] theorem State.raiseCode_memc (s : State) (c unit code sev part : Nat) (d : List Byte) : (s.raiseCode c unit code sev part d).memc = s.memc := (Aside.raiseCode s c unit code sev part d).memc
@[simp] theorem State.raiseCode_sec (s : State) (c unit code sev part : Nat) (d : List Byte) : (s.raiseCode c unit code sev part d).sec = s.sec := (Aside.raiseCode s c unit code sev part d).sec
@[simp] theorem State.raiseCode_scan (s : State) (c unit code sev part : Nat) (d : List Byte) : (s.raiseCode c unit code sev part d).scan = s.scan := (Aside.raiseCode s c unit code sev part d).scan
@[simp] theorem State.raiseCode_motion (s : State) (c unit code sev part : Nat) (d : List Byte) : (s.raiseCode c unit code sev part d).motion = s.motion := (Aside.raiseCode s c unit code sev part d).motion
@[simp] theorem State.raiseCode_touch (s : State) (c unit code sev part : Nat) (d : List Byte) : (s.raiseCode c unit code sev part d).touch = s.touch := (Aside.raiseCode s c unit code sev part d).touch
@[simp] theorem State.raiseCode_audio (s : State) (c unit code sev part : Nat) (d : List Byte) : (s.raiseCode c unit code sev part d).audio = s.audio := (Aside.raiseCode s c unit code sev part d).audio
@[simp] theorem State.raiseCode_fabric (s : State) (c unit code sev part : Nat) (d : List Byte) : (s.raiseCode c unit code sev part d).fabric = s.fabric := (Aside.raiseCode s c unit code sev part d).fabric
@[simp] theorem State.raiseCode_integ (s : State) (c unit code sev part : Nat) (d : List Byte) : (s.raiseCode c unit code sev part d).integ = s.integ := (Aside.raiseCode s c unit code sev part d).integ
@[simp] theorem State.raiseCode_links (s : State) (c unit code sev part : Nat) (d : List Byte) : (s.raiseCode c unit code sev part d).links = s.links := (Aside.raiseCode s c unit code sev part d).links
@[simp] theorem State.raiseCode_low (s : State) (c unit code sev part : Nat) (d : List Byte) : (s.raiseCode c unit code sev part d).low = s.low := (Aside.raiseCode s c unit code sev part d).low
@[simp] theorem State.raiseCode_render (s : State) (c unit code sev part : Nat) (d : List Byte) : (s.raiseCode c unit code sev part d).render = s.render := (Aside.raiseCode s c unit code sev part d).render
@[simp] theorem State.raiseCode_sys (s : State) (c unit code sev part : Nat) (d : List Byte) : (s.raiseCode c unit code sev part d).sys = s.sys := (Aside.raiseCode s c unit code sev part d).sys
@[simp] theorem State.getBlk_raiseCode (s : State) (c unit code sev part : Nat) (d : List Byte) (j : Nat) : (s.raiseCode c unit code sev part d).getBlk j = s.getBlk j := (Aside.raiseCode s c unit code sev part d).getBlk j
@[simp] theorem State.getLive_raiseCode (s : State) (c unit code sev part : Nat) (d : List Byte) (j : Nat) : (s.raiseCode c unit code sev part d).getLive j = s.getLive j := (Aside.raiseCode s c unit code sev part d).getLive j

/-! `hold` -/

@[simp] theorem State.hold_now (s : State) (b : Nat) (on : Bool) : (s.hold b on).now = s.now := (Aside.hold s b on).now
@[simp] theorem State.hold_mem (s : State) (b : Nat) (on : Bool) : (s.hold b on).mem = s.mem := (Aside.hold s b on).mem
@[simp] theorem State.hold_blocks (s : State) (b : Nat) (on : Bool) : (s.hold b on).blocks = s.blocks := (Aside.hold s b on).blocks
@[simp] theorem State.hold_liveBlocks (s : State) (b : Nat) (on : Bool) : (s.hold b on).liveBlocks = s.liveBlocks := (Aside.hold s b on).liveBlocks
@[simp] theorem State.hold_shadow (s : State) (b : Nat) (on : Bool) : (s.hold b on).shadow = s.shadow := (Aside.hold s b on).shadow
@[simp] theorem State.hold_pending (s : State) (b : Nat) (on : Bool) : (s.hold b on).pending = s.pending := (Aside.hold s b on).pending
@[simp] theorem State.hold_fresh (s : State) (b : Nat) (on : Bool) : (s.hold b on).fresh = s.fresh := (Aside.hold s b on).fresh
@[simp] theorem State.hold_til (s : State) (b : Nat) (on : Bool) : (s.hold b on).til = s.til := (Aside.hold s b on).til
@[simp] theorem State.hold_plan (s : State) (b : Nat) (on : Bool) : (s.hold b on).plan = s.plan := (Aside.hold s b on).plan
@[simp] theorem State.hold_time (s : State) (b : Nat) (on : Bool) : (s.hold b on).time = s.time := (Aside.hold s b on).time
@[simp] theorem State.hold_place (s : State) (b : Nat) (on : Bool) : (s.hold b on).place = s.place := (Aside.hold s b on).place
@[simp] theorem State.hold_comp (s : State) (b : Nat) (on : Bool) : (s.hold b on).comp = s.comp := (Aside.hold s b on).comp
@[simp] theorem State.hold_queue (s : State) (b : Nat) (on : Bool) : (s.hold b on).queue = s.queue := (Aside.hold s b on).queue
@[simp] theorem State.hold_memc (s : State) (b : Nat) (on : Bool) : (s.hold b on).memc = s.memc := (Aside.hold s b on).memc
@[simp] theorem State.hold_sec (s : State) (b : Nat) (on : Bool) : (s.hold b on).sec = s.sec := (Aside.hold s b on).sec
@[simp] theorem State.hold_scan (s : State) (b : Nat) (on : Bool) : (s.hold b on).scan = s.scan := (Aside.hold s b on).scan
@[simp] theorem State.hold_motion (s : State) (b : Nat) (on : Bool) : (s.hold b on).motion = s.motion := (Aside.hold s b on).motion
@[simp] theorem State.hold_touch (s : State) (b : Nat) (on : Bool) : (s.hold b on).touch = s.touch := (Aside.hold s b on).touch
@[simp] theorem State.hold_audio (s : State) (b : Nat) (on : Bool) : (s.hold b on).audio = s.audio := (Aside.hold s b on).audio
@[simp] theorem State.hold_fabric (s : State) (b : Nat) (on : Bool) : (s.hold b on).fabric = s.fabric := (Aside.hold s b on).fabric
@[simp] theorem State.hold_integ (s : State) (b : Nat) (on : Bool) : (s.hold b on).integ = s.integ := (Aside.hold s b on).integ
@[simp] theorem State.hold_links (s : State) (b : Nat) (on : Bool) : (s.hold b on).links = s.links := (Aside.hold s b on).links
@[simp] theorem State.hold_low (s : State) (b : Nat) (on : Bool) : (s.hold b on).low = s.low := (Aside.hold s b on).low
@[simp] theorem State.hold_render (s : State) (b : Nat) (on : Bool) : (s.hold b on).render = s.render := (Aside.hold s b on).render
@[simp] theorem State.hold_sys (s : State) (b : Nat) (on : Bool) : (s.hold b on).sys = s.sys := (Aside.hold s b on).sys
@[simp] theorem State.getBlk_hold (s : State) (b : Nat) (on : Bool) (j : Nat) : (s.hold b on).getBlk j = s.getBlk j := (Aside.hold s b on).getBlk j
@[simp] theorem State.getLive_hold (s : State) (b : Nat) (on : Bool) (j : Nat) : (s.hold b on).getLive j = s.getLive j := (Aside.hold s b on).getLive j

/-! Register updates and flags send nothing, and a write that is taken changes no chapter's own state. -/

/-- Only active values and the records of chapter 02 differ. -/
def Quiet (s s' : State) : Prop := ∃ o d, s' = { s with objs := o, dict := d }

theorem Quiet.refl (s : State) : Quiet s s := ⟨_, _, rfl⟩
theorem Quiet.trans {a b c : State} (h : Quiet a b) (h' : Quiet b c) : Quiet a c := by
  obtain ⟨_, _, rfl⟩ := h
  obtain ⟨_, _, rfl⟩ := h'
  exact ⟨_, _, rfl⟩
theorem Quiet.putK (s : State) (k : Nat) (v : Word) : Quiet s (s.putK k v) := ⟨_, _, rfl⟩
theorem Quiet.putMeta (s : State) (m : StatusMeta) : Quiet s (s.putMeta m) := ⟨_, _, rfl⟩
theorem Quiet.both (s : State) (k : Nat) (v : Word) (m : StatusMeta) : Quiet s ((s.putK k v).putMeta m) :=
  (Quiet.putK s k v).trans (Quiet.putMeta _ m)

theorem Quiet.settleStatus (s : State) (k : Nat) : Quiet s (s.settleStatus k) := by
  unfold State.settleStatus
  split
  · exact Quiet.refl s
  · extract_lets
    split
    · exact Quiet.both s _ _ _
    · exact Quiet.refl s

theorem Quiet.setFlag (s : State) (k n : Nat) : Quiet s (s.setFlag k n) := by
  unfold State.setFlag
  refine (Quiet.settleStatus s k).trans ?_
  dsimp only
  split
  · exact Quiet.both _ _ _ _
  · split
    · split <;> exact Quiet.both _ _ _ _
    · split
      · exact Quiet.both _ _ _ _
      · split <;> exact Quiet.both _ _ _ _

@[simp] theorem State.setFlag_out (s : State) (k n : Nat) : (s.setFlag k n).out = s.out := by
  obtain ⟨_, _, h⟩ := Quiet.setFlag s k n; rw [h]
@[simp] theorem State.put_out (s : State) (i u v : Nat) : (s.put i u v).out = s.out := rfl
@[simp] theorem State.putI_out (s : State) (i u : Nat) (v : Int) : (s.putI i u v).out = s.out := rfl
@[simp] theorem State.putB_out (s : State) (b i u v : Nat) : (s.putB b i u v).out = s.out := rfl
@[simp] theorem State.bump_out (s : State) (i u : Nat) : (s.bump i u).out = s.out := by
  unfold State.bump State.bumpW State.putB; exact rfl
@[simp] theorem State.bumpW_out (s : State) (w b i u n : Nat) : (s.bumpW w b i u n).out = s.out := by
  unfold State.bumpW State.putB; exact rfl
@[simp] theorem State.bumpN_out (s : State) (i u n : Nat) : (s.bumpN i u n).out = s.out := by
  unfold State.bumpN State.bumpW State.putB; exact rfl
@[simp] theorem State.bump64_out (s : State) (i u n : Nat) : (s.bump64 i u n).out = s.out := by
  unfold State.bump64 State.bumpW State.putB; exact rfl
@[simp] theorem State.wrap32_out (s : State) (i u : Nat) : (s.wrap32 i u).out = s.out := by
  unfold State.wrap32; exact rfl
@[simp] theorem State.setPin_out (s : State) (b : Nat) (on : Bool) : (s.setPin b on).out = s.out := by
  unfold State.setPin; exact rfl
@[simp] theorem State.setFlag_ev (s : State) (k n : Nat) : (s.setFlag k n).ev = s.ev := by
  obtain ⟨_, _, h⟩ := Quiet.setFlag s k n; rw [h]
@[simp] theorem State.put_ev (s : State) (i u v : Nat) : (s.put i u v).ev = s.ev := rfl
@[simp] theorem State.putI_ev (s : State) (i u : Nat) (v : Int) : (s.putI i u v).ev = s.ev := rfl
@[simp] theorem State.putB_ev (s : State) (b i u v : Nat) : (s.putB b i u v).ev = s.ev := rfl
@[simp] theorem State.bump_ev (s : State) (i u : Nat) : (s.bump i u).ev = s.ev := by
  unfold State.bump State.bumpW State.putB; exact rfl
@[simp] theorem State.bumpW_ev (s : State) (w b i u n : Nat) : (s.bumpW w b i u n).ev = s.ev := by
  unfold State.bumpW State.putB; exact rfl
@[simp] theorem State.bumpN_ev (s : State) (i u n : Nat) : (s.bumpN i u n).ev = s.ev := by
  unfold State.bumpN State.bumpW State.putB; exact rfl
@[simp] theorem State.bump64_ev (s : State) (i u n : Nat) : (s.bump64 i u n).ev = s.ev := by
  unfold State.bump64 State.bumpW State.putB; exact rfl
@[simp] theorem State.wrap32_ev (s : State) (i u : Nat) : (s.wrap32 i u).ev = s.ev := by
  unfold State.wrap32; exact rfl
@[simp] theorem State.setPin_ev (s : State) (b : Nat) (on : Bool) : (s.setPin b on).ev = s.ev := by
  unfold State.setPin; exact rfl
@[simp] theorem State.setFlag_trace (s : State) (k n : Nat) : (s.setFlag k n).trace = s.trace := by
  obtain ⟨_, _, h⟩ := Quiet.setFlag s k n; rw [h]
@[simp] theorem State.put_trace (s : State) (i u v : Nat) : (s.put i u v).trace = s.trace := rfl
@[simp] theorem State.putI_trace (s : State) (i u : Nat) (v : Int) : (s.putI i u v).trace = s.trace := rfl
@[simp] theorem State.putB_trace (s : State) (b i u v : Nat) : (s.putB b i u v).trace = s.trace := rfl
@[simp] theorem State.bump_trace (s : State) (i u : Nat) : (s.bump i u).trace = s.trace := by
  unfold State.bump State.bumpW State.putB; exact rfl
@[simp] theorem State.bumpW_trace (s : State) (w b i u n : Nat) : (s.bumpW w b i u n).trace = s.trace := by
  unfold State.bumpW State.putB; exact rfl
@[simp] theorem State.bumpN_trace (s : State) (i u n : Nat) : (s.bumpN i u n).trace = s.trace := by
  unfold State.bumpN State.bumpW State.putB; exact rfl
@[simp] theorem State.bump64_trace (s : State) (i u n : Nat) : (s.bump64 i u n).trace = s.trace := by
  unfold State.bump64 State.bumpW State.putB; exact rfl
@[simp] theorem State.wrap32_trace (s : State) (i u : Nat) : (s.wrap32 i u).trace = s.trace := by
  unfold State.wrap32; exact rfl
@[simp] theorem State.setPin_trace (s : State) (b : Nat) (on : Bool) : (s.setPin b on).trace = s.trace := by
  unfold State.setPin; exact rfl

@[simp] theorem State.took_cfg (s : State) (q : Wr) (o : Obj) (w : Word) : (s.took q o w).cfg = s.cfg := by
  obtain ⟨_, _, _, h⟩ := s.took_form q o w; rw [h]
@[simp] theorem State.took_now (s : State) (q : Wr) (o : Obj) (w : Word) : (s.took q o w).now = s.now := by
  obtain ⟨_, _, _, h⟩ := s.took_form q o w; rw [h]
@[simp] theorem State.took_out (s : State) (q : Wr) (o : Obj) (w : Word) : (s.took q o w).out = s.out := by
  obtain ⟨_, _, _, h⟩ := s.took_form q o w; rw [h]
@[simp] theorem State.took_mem (s : State) (q : Wr) (o : Obj) (w : Word) : (s.took q o w).mem = s.mem := by
  obtain ⟨_, _, _, h⟩ := s.took_form q o w; rw [h]
@[simp] theorem State.took_blocks (s : State) (q : Wr) (o : Obj) (w : Word) : (s.took q o w).blocks = s.blocks := by
  obtain ⟨_, _, _, h⟩ := s.took_form q o w; rw [h]
@[simp] theorem State.took_liveBlocks (s : State) (q : Wr) (o : Obj) (w : Word) : (s.took q o w).liveBlocks = s.liveBlocks := by
  obtain ⟨_, _, _, h⟩ := s.took_form q o w; rw [h]
@[simp] theorem State.took_fresh (s : State) (q : Wr) (o : Obj) (w : Word) : (s.took q o w).fresh = s.fresh := by
  obtain ⟨_, _, _, h⟩ := s.took_form q o w; rw [h]
@[simp] theorem State.took_pending (s : State) (q : Wr) (o : Obj) (w : Word) : (s.took q o w).pending = s.pending := by
  obtain ⟨_, _, _, h⟩ := s.took_form q o w; rw [h]
@[simp] theorem State.took_ev (s : State) (q : Wr) (o : Obj) (w : Word) : (s.took q o w).ev = s.ev := by
  obtain ⟨_, _, _, h⟩ := s.took_form q o w; rw [h]
@[simp] theorem State.took_trace (s : State) (q : Wr) (o : Obj) (w : Word) : (s.took q o w).trace = s.trace := by
  obtain ⟨_, _, _, h⟩ := s.took_form q o w; rw [h]
@[simp] theorem State.took_til (s : State) (q : Wr) (o : Obj) (w : Word) : (s.took q o w).til = s.til := by
  obtain ⟨_, _, _, h⟩ := s.took_form q o w; rw [h]
@[simp] theorem State.took_plan (s : State) (q : Wr) (o : Obj) (w : Word) : (s.took q o w).plan = s.plan := by
  obtain ⟨_, _, _, h⟩ := s.took_form q o w; rw [h]
@[simp] theorem State.took_time (s : State) (q : Wr) (o : Obj) (w : Word) : (s.took q o w).time = s.time := by
  obtain ⟨_, _, _, h⟩ := s.took_form q o w; rw [h]
@[simp] theorem State.took_place (s : State) (q : Wr) (o : Obj) (w : Word) : (s.took q o w).place = s.place := by
  obtain ⟨_, _, _, h⟩ := s.took_form q o w; rw [h]
@[simp] theorem State.took_comp (s : State) (q : Wr) (o : Obj) (w : Word) : (s.took q o w).comp = s.comp := by
  obtain ⟨_, _, _, h⟩ := s.took_form q o w; rw [h]
@[simp] theorem State.took_queue (s : State) (q : Wr) (o : Obj) (w : Word) : (s.took q o w).queue = s.queue := by
  obtain ⟨_, _, _, h⟩ := s.took_form q o w; rw [h]
@[simp] theorem State.took_memc (s : State) (q : Wr) (o : Obj) (w : Word) : (s.took q o w).memc = s.memc := by
  obtain ⟨_, _, _, h⟩ := s.took_form q o w; rw [h]
@[simp] theorem State.took_sec (s : State) (q : Wr) (o : Obj) (w : Word) : (s.took q o w).sec = s.sec := by
  obtain ⟨_, _, _, h⟩ := s.took_form q o w; rw [h]
@[simp] theorem State.took_scan (s : State) (q : Wr) (o : Obj) (w : Word) : (s.took q o w).scan = s.scan := by
  obtain ⟨_, _, _, h⟩ := s.took_form q o w; rw [h]
@[simp] theorem State.took_motion (s : State) (q : Wr) (o : Obj) (w : Word) : (s.took q o w).motion = s.motion := by
  obtain ⟨_, _, _, h⟩ := s.took_form q o w; rw [h]
@[simp] theorem State.took_touch (s : State) (q : Wr) (o : Obj) (w : Word) : (s.took q o w).touch = s.touch := by
  obtain ⟨_, _, _, h⟩ := s.took_form q o w; rw [h]
@[simp] theorem State.took_audio (s : State) (q : Wr) (o : Obj) (w : Word) : (s.took q o w).audio = s.audio := by
  obtain ⟨_, _, _, h⟩ := s.took_form q o w; rw [h]
@[simp] theorem State.took_fabric (s : State) (q : Wr) (o : Obj) (w : Word) : (s.took q o w).fabric = s.fabric := by
  obtain ⟨_, _, _, h⟩ := s.took_form q o w; rw [h]
@[simp] theorem State.took_integ (s : State) (q : Wr) (o : Obj) (w : Word) : (s.took q o w).integ = s.integ := by
  obtain ⟨_, _, _, h⟩ := s.took_form q o w; rw [h]
@[simp] theorem State.took_links (s : State) (q : Wr) (o : Obj) (w : Word) : (s.took q o w).links = s.links := by
  obtain ⟨_, _, _, h⟩ := s.took_form q o w; rw [h]
@[simp] theorem State.took_low (s : State) (q : Wr) (o : Obj) (w : Word) : (s.took q o w).low = s.low := by
  obtain ⟨_, _, _, h⟩ := s.took_form q o w; rw [h]
@[simp] theorem State.took_render (s : State) (q : Wr) (o : Obj) (w : Word) : (s.took q o w).render = s.render := by
  obtain ⟨_, _, _, h⟩ := s.took_form q o w; rw [h]
@[simp] theorem State.took_sys (s : State) (q : Wr) (o : Obj) (w : Word) : (s.took q o w).sys = s.sys := by
  obtain ⟨_, _, _, h⟩ := s.took_form q o w; rw [h]
@[simp] theorem State.getBlk_took (s : State) (q : Wr) (o : Obj) (w : Word) (k : Nat) : (s.took q o w).getBlk k = s.getBlk k := by
  obtain ⟨_, _, _, h⟩ := s.took_form q o w; rw [h]; rfl
@[simp] theorem State.getLive_took (s : State) (q : Wr) (o : Obj) (w : Word) (k : Nat) : (s.took q o w).getLive k = s.getLive k := by
  obtain ⟨_, _, _, h⟩ := s.took_form q o w; rw [h]; rfl

theorem State.takes_iff (s : State) (q : Wr) (w : Word) : s.takes q w ↔ ∃ o, s.accepts q = some (o, w) := by
  unfold State.takes
  cases s.accepts q with
  | none => simp
  | some x => obtain ⟨o, v⟩ := x; simp

end Sys2Proof.Machine
end

