-- ==== Sys2Proof/Tests/Base.lean ====
section
/-!
SUPPORT. Small states and initiators from which the tests start.
-/
namespace Sys2Proof.Tests
open Sys2Proof.Machine

/-- The state after reset with some registers (index, sub-index, value) written. -/
def st (l : List (Nat × Nat × Nat)) : State := l.foldl (fun s x => s.put x.1 x.2.1 x.2.2) State.reset

/-- The same of a device that has started: Markhor runs, the self-test has ended and the planner is released. -/
def up (l : List (Nat × Nat × Nat)) : State :=
  let s := st ([(0x2000, 1, 1)] ++ l)
  { s with sys := { s.sys with booted := true, tested := true, plannerFw := true, released := true } }

/-- A partition's normal world through the control window. -/
def win (p : Nat) : Ini := ⟨p, false, .window⟩

/-- A head of 64 by 32 pixels, one tile, on port 0. -/
def head0 : PlanHead := ⟨0, 0, 0, 0, 1, 25000, 64, 128, 70, 4, 32, 40, 34, 2, 0, 0, 0, 0, 1, 1, 0⟩

/-- A layer of partition 2 on that head, of kind 1 (surfaces), format 4, in slot 3. -/
def layer3 : PlanLayer :=
  ⟨3, 0, 0, 2, 1, 0, 1, 4, 0, 1, 64, 32, -64, -32, 64, 32, 64, 32, 0, 65535, 0, 0, 0, 0, 65535, 0, 0, 0⟩

/-- A plan of that head and layer, with one batch on engine 0. -/
def plan1 : Plan :=
  ⟨1, 7, 0, 0, 0, 1, 0, 0, 0, 0, 1, 0, 16666667, [], [], [head0], [layer3], [], [], [], [⟨0, 0, 0, 0, 0, 1, 0, 1, 0, 0⟩], [], [], [],
   [], [], [], []⟩

/-- A plan of nothing. -/
def plan0 : Plan := { plan1 with kind := 0, heads := [], layers := [], batches := [] }

/-- A state in which that plan is active. -/
def planned1 (s : State) : State := { s with plan := { s.plan with active := some plan1 } }

/-- A pick structure of one empty node. -/
def bvh1 : List Byte :=
  leBytes 4 0x48564253 ++ leBytes 4 0x00010000 ++ leBytes 4 0 ++ leBytes 4 1 ++ leBytes 4 0 ++ leBytes 4 0 ++ leBytes 4 0x40
    ++ leBytes 4 0x80 ++ leBytes 4 0x80 ++ List.replicate (28 + 64) 0

/-- A firmware image of a type, signed by key slot 0, of security version 2 and version 9, without content. -/
def fw1 (ty : Nat) : List Byte :=
  strBytes "SAHFW" ++ [0, 0, 0, byteOf ty, 0, 2, 0] ++ leBytes 4 9 ++ List.replicate (4 + 44 + 3416) 0

/-- The same of a device of serial number 0 without enrolled keys. -/
def blank (s : State) : State := s.putBlk (okey 0 0x2080 0) (List.replicate 10 0 ++ [1] ++ List.replicate 1013 0)

/-- A state in which firmware key slot 0 is enrolled. -/
def fused (s : State) : State := (blank s).blow 256 1

/-- A key bundle for binding 3, client 9 of partition 2, generation 4, for a device of serial number 0. -/
def bundle1 : List Byte := strBytes "SKB1" ++ List.replicate 8 0 ++ [0, 3, 9, 2, 7, 0, 0, 0, 4] ++ List.replicate 240 0

/-- A Foxglove token of purpose 1, scope 15, for 7 s, for the nonce of zeros and serial number 0. -/
def token1 : List Byte := List.replicate 40 0 ++ [1, 15] ++ leBytes 4 7 ++ List.replicate 3416 0

/-- The same with trained DRAM. -/
def dram (s : State) : State := (foldS (fun s c => s.put (0x3040 + c) 1 3) s (List.range 32)).dramTrained [] []

/-- An environment that gives nothing. -/
def env0 : Env := ⟨[], [], [], false, none, false⟩

/-- A surface of partition 3 at the start of the tile store, with its owner's handle in slot 0. -/
def surf1 (s : State) : State :=
  { s with place := { s.place with
      surfs := [⟨1, 3, 64, 32, 4, 0, 1, 8192, 0, 0, 0, tsBase, 0, 0, 0, false, false, none, 0⟩],
      handles := [⟨3, 0, 1, true, false, 1, 0, 4096⟩] } }

/-- An entry of the fallback library: image 7, format 4, 8 by 8, without content. -/
def lib1 : List Byte := leBytes 4 7 ++ [4, 0, 0, 0, 8, 0, 8, 0] ++ List.replicate (20 + 3416) 0

/-- A started device with queue 3 of partition 2 enabled, rings of 16 entries, and one command in its ring. -/
def queue1 (l : List (Nat × Nat × Nat)) : State :=
  (up ([(0x7423, 1, 1), (0x742B, 2, 0), (0x742B, 3, 2 ^ 32 - 1), (0x742B, 4, 2 ^ 32 - 1), (0x7423, 7, 2 ^ 32 - 16)] ++ l)).putQueue
    ⟨2, 3, 4096, 4, 8192, none, none, 0, [], none, 0, false, none⟩

/-- A command of that queue with SIGNAL and IRQ, fence 9, value 5. -/
def cmd1 (arg : Nat) : QHdr := ⟨2, 3, 3, 9, arg, 77, 5⟩

/-- That queue with an operation at its head, on an engine or not. -/
def onQ (queue : Nat) (op : QOp) (e : Option Nat) (promoted : Bool) : QueueSt :=
  ⟨2, queue, 4096, 4, 8192, some ⟨cmd1 0, op, 0, false, 0, 0, 0, 0, false, none⟩, e, 0, [], some 7, 10, promoted, none⟩

/-- A fill of one pixel. -/
def fill1 : QOp := .fill 1 0 0 1 1 0

/-- That queue runs an operation on an engine, and queue 4 waits, promoted, with another. -/
def two (op1 : QOp) (e : Option Nat) (op2 : QOp) : State :=
  ((queue1 [(0x7424, 1, 1)]).putQueue (onQ 3 op1 e false)).putQueue (onQ 4 op2 none true)

/-- The plan of one layer, of a kind. -/
def planned1k (k : Nat) (s : State) : State :=
  { s with plan := { s.plan with active := some { plan1 with layers := [{ layer3 with kind := k }] } } }

/-- That surface owned by partition 2 instead. -/
def own2 (s : State) : State :=
  { s with place := { s.place with
      surfs := [⟨1, 2, 64, 32, 4, 0, 1, 8192, 0, 0, 0, tsBase, 0, 0, 0, false, false, none, 0⟩],
      handles := [⟨2, 0, 1, true, false, 1, 0, 4096⟩] } }

/-- The plan of one layer of class A. -/
def planned1a (s : State) : State :=
  { s with plan := { s.plan with active := some { plan1 with layers := [{ layer3 with cls := 0 }] } } }

/-- A wire-point region of one pixel with a golden value, with its reactions. -/
def region5 (expect point : Nat) : PlanRegion := ⟨5, 0, point, 0, 0, 1, 1, 0, expect, 0xFFFF, 7, 0x41, 0⟩

/-- The settings of a 32-bit check value unit. -/
def cvu32 : PlanCvu := ⟨0x04C11DB7, 2 ^ 32 - 1, 2 ^ 32 - 1, 32, true, true⟩

/-- A delivered value of frame 3, that the golden value expects, or one next to it. -/
def cap5 (off : Nat) : RegionCap := ⟨3, 0, cvu32.fold (regionPrefix (region5 0 1) 0 3) 3 7 + off, false, 3, 3, none, 9⟩

/-- The plan of one layer of class A with a region. -/
def planR (r : PlanRegion) : Plan := { plan1 with layers := [{ layer3 with cls := 0 }], cvus := [cvu32], regions := [r] }

/-- That region at work, with delivered values, consecutive failures, and whether it fails. -/
def run5 (got : List RegionCap) (fails : Nat) (failing : Bool) : RegionRun :=
  ⟨5, 0, [], 0, none, 0, 0, 0, false, 0, false, got, [], [], [], 0, 0, none, fails, 0, 0, failing, [], 0, false⟩

/-- The plan of one layer of class A with that region active, and the region at work. -/
def regioned (r : PlanRegion) (q : RegionRun) (s : State) : State :=
  { s with plan := { s.plan with active := some (planR r) }, integ := { s.integ with runs := [q] } }

/-- The plan of one layer active, with a frame store of one black tile and a run of the head that has shown `scan` pixels and
holds `buf`. -/
def shown1 (f : FTile) (scan : Nat) (buf : List Nat) (s : State) : State :=
  let s := planned1 s
  { s with comp := { s.comp with stores := [⟨0, 1, [f], 0, 0, false⟩] },
           scan := { s.scan with heads := [⟨0, true, 0, scan, buf, [], none, false, false, false, false, 0, 0, false, 0, [], 0, 0⟩] } }

/-- A tile of a frame store with a pending state. -/
def tile1 (pend : Nat) : FTile := ⟨false, pend, 0, [], 0, [], false, false, 0, 0, 0⟩

/-- An engine that runs a batch. -/
def engine1 (batch : Option Nat) (next : Nat) (flight : List Flight) : Engine := ⟨0, batch, next, [], flight, 0, false, 0⟩

/-- A surface of one page in DRAM group 0, and its migration in a phase. -/
def moving (phase passes : Nat) (copying dirty : List Nat) (s : State) : State :=
  { s with place := { s.place with
      surfs := [⟨1, 2, 4, 1, 4, 0, 1, 16, 0, 1, 0, 4096, 4112, 0, 0, false, false, none, 0⟩],
      migs := [⟨1, phase, 0, 1, 1048576, 1048592, 0, passes, copying, dirty, none⟩] } }

/-- A plan image of a kind with one empty section, for one device, signed by plan key slot 0. -/
def image1 (kind : Nat) : List Byte :=
  leBytes 8 0x004E414C50484153 ++ leBytes 4 0x10000 ++ leBytes 4 256 ++ leBytes 8 7 ++ leBytes 4 3688 ++ leBytes 4 0
    ++ [0x46, byteOf kind, 0, 0, 1, 1, 1, 0] ++ leBytes 4 16666667 ++ leBytes 2 1 ++ leBytes 2 0 ++ leBytes 4 256 ++ leBytes 4 272
    ++ List.replicate 40 0 ++ leBytes 8 1 ++ List.replicate 152 0 ++ leBytes 2 1 ++ [0xFF, 0] ++ leBytes 4 0 ++ leBytes 4 272
    ++ leBytes 4 0 ++ leBytes 4 0x301 ++ List.replicate 3412 0

/-- A started device with plan key slot 0 enrolled and an image in the staging area, in a state of plan handling. -/
def staged (m : List Byte) (state : Nat) (l : List (Nat × Nat × Nat)) : State :=
  ((blank (up ([(0x4000, 4, state)] ++ l))).putBlk (okey 0 0x4001 0) m).blow 1792 1

/-- A started device with binding 3: client 9 of partition 2, every transport, RX_COUNTER 5. -/
def bound (l : List (Nat × Nat × Nat)) : State :=
  up ([(0x1203, 1, 9), (0x1203, 2, 2), (0x1203, 3, 31), (0x1203, 4, 1), (0x1203, 5, 5)] ++ l)

/-- A request of that client by transport 4, with its tag under key 0: operation, object, counter and payload. -/
def frame4 (op idx sub counter : Nat) (payload : List Byte) : TilFrame :=
  let h : TilHead := ⟨4, 0, op, 9, 77, idx, sub, counter⟩
  ⟨h, 255, payload.length, payload, tagOf 0 0 h payload.length payload, 0⟩

/-- Such a request with the next counter, and a Read with one that was used. -/
def goodMeas : SelfMeas :=
  ⟨[], [], [], (List.range 80).map (fun c => if c % 2 = 0 then 100 else 200)⟩

def witFrame : TilFrame :=
  let h : TilHead := ⟨2, 1, 0x8D, 0, 1, 0, 0, 7⟩
  let body := List.replicate 24 0
  ⟨h, 0, 24, body, tagOf 0 1 h 24 body, 5⟩

def ask (op idx sub : Nat) (payload : List Byte) : TilFrame := frame4 op idx sub 6 payload
def again (payload : List Byte) : TilFrame := frame4 1 0x1000 1 5 payload

/-- The object of an index and sub-index at reset. -/
def obj1 (idx sub : Nat) : Obj :=
  (findObj State.reset.cfg idx sub).getD ⟨⟨0x6800, 1, 1, 0, 1, 0, 0, 3, 1, 1, (.uns 8), .ro, false, .none, .all, .none, 0, false, none,
    [.v 0], (.iv 0 100)⟩, 0, 0⟩

/-- A device with a Critical record that waits for its Emergency frame on transport 2. -/
def emcy1 : State := (bound [(0x1040, 7, 4)]).occur ⟨0, 2, 0, sevCritical, [1]⟩

/-- That device with the plan of nothing valid and being prepared. -/
def preparing : State :=
  let s := dram (staged (image1 0) 4 [])
  { s with plan := { s.plan with valid := some plan0 } }

/-- That device with an early image in boot slot 1. -/
def early1 : State :=
  let s := staged [] 0 [(0x4000, 8, 1)]
  { s with plan := { s.plan with slots := [(1, image1 1)] } }

end Sys2Proof.Tests
end

