-- ==== Sys2Proof/Tests/Slice0.lean ====
section
/-!
SUPPORT. Tests of single commands on small states, with results from the manual, and states that meet the premises of
the statements.
-/
namespace Sys2Proof.Tests
open Sys2Proof.Machine

set_option Elab.async false

/-! ## Well-formedness: a term of every command, and for each check of its operands one that it refuses -/

/-- An initiator, a header and a frame whose fields fit, and ones of which a field does not. -/
def i0 : Ini := ⟨0, false, .window⟩
def i1 : Ini := ⟨16, false, .window⟩
def q0 : QHdr := ⟨0, 0, 0, 0, 0, 0, 0⟩
def q1 : QHdr := ⟨0, 8, 0, 0, 0, 0, 0⟩
def f0 : TilFrame := ⟨⟨0, 0, 1, 9, 7, 0x1000, 0, 1⟩, 255, 0, [], [0, 0, 0, 0, 0, 0, 0, 0], 0⟩
def f1 : TilFrame := { f0 with mac := [] }

theorem test_operandFieldsFit :
    [i0, ⟨0, true, .window⟩, ⟨15, false, .tilsol 64⟩, ⟨15, false, .vf⟩, ⟨0, false, .pf⟩, ⟨0, false, .monitor⟩].all Ini.fits && [q0, ⟨15, 7, 255, 255, 255, 2 ^ 32 - 1, 2 ^ 64 - 1⟩].all QHdr.fits && f0.fits
      = true := by decide +kernel

theorem test_operandFieldsRefused :
    ([i1, ⟨0, false, .tilsol 65⟩, ⟨0, true, .tilsol 1⟩, ⟨0, false, .vf⟩, ⟨1, true, .vf⟩, ⟨1, false, .pf⟩, ⟨0, true, .pf⟩,
        ⟨1, false, .monitor⟩].any Ini.fits || [q1, ⟨16, 0, 0, 0, 0, 0, 0⟩, ⟨0, 0, 256, 0, 0, 0, 0⟩, ⟨0, 0, 0, 256, 0, 0, 0⟩,
        ⟨0, 0, 0, 0, 256, 0, 0⟩, ⟨0, 0, 0, 0, 0, 2 ^ 32, 0⟩, ⟨0, 0, 0, 0, 0, 0, 2 ^ 64⟩].any QHdr.fits ||
      [f1, { f0 with ident := 2 ^ 16 }, { f0 with route := 256 }, { f0 with len := 2 ^ 16 }, { f0 with head := { f0.head with via := 5 } },
        { f0 with head := { f0.head with port := 64 } }, { f0 with head := { f0.head with op := 256 } },
        { f0 with head := { f0.head with client := 256 } }, { f0 with head := { f0.head with tag := 256 } },
        { f0 with head := { f0.head with index := 2 ^ 16 } }, { f0 with head := { f0.head with sub := 256 } },
        { f0 with head := { f0.head with counter := 2 ^ 32 } }].any TilFrame.fits ||
      [(⟨0, 2 ^ 16, 0, 0⟩ : Rect), ⟨0, 0, 2 ^ 16, 0⟩, ⟨0, 0, 0, 2 ^ 16⟩].any Rect.fits) = false := by decide +kernel

theorem test_wellFormed_1 : ([.frameEpoch 0, .d2dTransferCrcFail 0 0, .d2dLaneFail 0, .unitLost 0 .head 0, .bindingComputed 0,
    .registerWrite 0 i0 0 0 0 8 0 env0, .setAliasWrite 0 i0 0 0 0 env0, .clearAliasWrite 0 i0 0 0 0 env0,
    .toggleAliasWrite 0 i0 0 0 0 env0, .statusClear 0 i0 false 0 0 0, .pendingSeqAdvance 0 0 0 0,
    .lowHalfRead 0 i0 0 0 0, .highHalfRead 0 i0 0 0 0, .lowHalfWrite 0 i0 0 0 0 0 env0,
    .highHalfWrite 0 i0 0 0 0 0 env0, .commitRequest 0 i0 0, .commitInEdge 0 false, .armedCommitTimeout 0,
    .wallTimeRelease 0, .store 0 i0 0, .storeDone 0 false, .restoreDefaults 0 i0 0, .lockSetsWrite 0 i0 0,
    .snapshotTrigger 0 i0 0 0 false, .snapshotDeferredCapture 0 0, .domainSelect 0 i0 0, .domainDataRead 0 i0,
    .domainDataWrite 0 i0 0, .domainCommitLen 0 i0 0 env0, .tilsolRead 0 f0, .tilsolWrite 0 f0 env0,
    .tilsolReadseg 0 f0, .tilsolWriteseg 0 f0 env0, .tilsolCommit 0 f0, .tilsolSnapshot 0 f0 false,
    .tilsolSubscribe 0 f0, .tilsolUnsubscribe 0 f0, .tilsolAbort 0 f0, .tilsolReservedOpcode 0 f0,
    .mailboxDoorbell 0 i0 0 env0, .forwardedResponse 0 0 0 0 0 [0, 0, 0, 0, 0, 0, 0, 0], .writesegTimeout 0,
    .subscriptionPush 0 0 0, .heartbeat 0, .emergency 0 0] :
    List Instr).all wellFormed = true := by decide +kernel

theorem test_wellFormed_2 : ([.tilsolRekey 0 f0, .rekeyDone 0 0, .planDmaGo 0 i0 0 [], .planValidated 0 false, .planRevalidate 0 i0,
    .planStoreSlot 0 i0, .planLoadSlot 0 i0, .planSwapWhenReady 0 i0, .planSwapAtTime 0 i0, .planDiscard 0 i0,
    .planEraseSlot 0 i0, .planPrepare 0 i0, .planActionDone 0, .preparationDone 0, .readyExpired 0,
    .allocate 0 q0 0 0 0 0 0, .free 0 q0 0, .share 0 q0 0 0 0,
    .memoryTransaction 0 0 0 0 0 false 0 false 0 0 [] 0 env0, .apertureAccess 0 0 0 i0 0 0 false [] 0,
    .imbalanceWindow 0 [], .migrationCopyDone 0 0, .migrationPassDone 0 0, .migrationHold 0 0, .migrationRetry 0 0,
    .batchStart 0 0, .tileStart 0 0 [], .tileWritebackDone 0 0, .batchDeadline 0 0, .videoFrameStart 0 0,
    .videoFrameEnd 0 0 0 0 0 false [], .videoInputTimeout 0 0, .vblankStart 0 0, .fetchDataReturn 0 0 0 0 [],
    .pixelScan 0 0, .irqHpd 0 0 false, .hpdUnplug 0 0, .hpdPlug 0 0, .sinkIdReadDone 0 0 0 0 false [] [],
    .trainingAttemptDone 0 0 false, .retrainTimer 0 0, .linkLost 0 0, .linkGraceExpired 0 0,
    .hdcpAuthDone 0 0 false false, .sentinelValueReady 0 0] :
    List Instr).all wellFormed = true := by decide +kernel

theorem test_wellFormed_3 : ([.sentinelLate 0 0, .regionCompare 0 0, .releaseRegion 0 i0 0, .requestedState 0 i0 0 0,
    .integrityRequestDone 0 none, .renderSubmit 0 q0 [] false, .renderComplete 0 0 0, .renderPreempt 0 0,
    .renderTimeout 0 0, .spirvTranslationDone 0 0 0 0 false false false, .pickValidationDone 0 0, .pickResult 0 0,
    .queueEnable 0 i0 0 0 0, .queueDoorbell 0 i0 0 0 0, .cqHeadWrite 0 i0 0 0 0, .cqRecordWrite 0 0 0,
    .dispatch 0 0, .present 0 q0 0 0 0 0 0 [], .copy 0 q0 0 0 0 0 0 0 0 0, .fill 0 q0 0 0 0 0 0 0,
    .convert 0 q0 0 0 0 0 0 0 0 0, .checkValue 0 q0 0 0 0 0 0, .copyEngineDone 0 0, .commandPreempt 0 0 0,
    .fenceWait 0 q0 0 0, .fenceTimeout 0 0 0, .fenceSignal 0 q0, .fenceValuesWrite 0 i0 0 0 0,
    .reservedCommand 0 q0, .queuePromotion 0 0 0, .queueAbort 0 i0 0 0 0 0 [], .markhorWatchdogTrip 0,
    .lockstepMismatch 0, .markhorAutoRelease 0, .markhorRestart 0 i0 0, .markhorRestartDone 0,
    .markhorBootDone 0 [] 0 false [], .fwLevelRaise 0, .fuseProgram 0 i0 .lifecycle 0 false, .fuseProgramDone 0 0,
    .keyBundle 0 i0 [], .bundleResult 0 false, .firmwareImage 0 i0 [] false, .challenge 0 i0 0,
    .foxgloveToken 0 i0 []] :
    List Instr).all wellFormed = true := by decide +kernel

theorem test_wellFormed_4 : ([.tokenChecked 0 false, .authorisationExpiry 0, .revoke 0 i0 0, .rngReady 0, .rngHealthFail 0, .rngReseed 0,
    .seedRefresh 0 false, .rngDataRead 0 i0, .refreshDue 0 0 0 false, .mr4Poll 0 [], .freqChangeStart 0,
    .freqChangeDone 0, .freqDeferred 0, .trackerEntryFree 0 0, .agePromotion 0 0, .patrolScrub 0 0 [] [],
    .bankRetention 0 0, .wearCounterStore 0 0, .userStore 0 0xC100, .libraryEntry 0 i0 [] false, .eraseId 0 i0 0,
    .dataFlitRx 0 0 [] 0, .nakFlitRx 0 0 [] 0, .idleFlitRx 0 0 [] 0, .idleFlitSend 0 0, .replayTimeout 0 0,
    .portRetrainDone 0 0 0 0, .linkRetry 0 0, .e2eAckRx 0 0 0 0, .e2eTimeout 0 0 0,
    .tileMessageRx 0 0 0 0 0 0 [] 0 [], .bulkWriteRx 0 0 0 false 0 [], .bulkReadRequestRx 0 0 0 false 0 0,
    .bulkReadDataRx 0 0 0 [], .nodeHelloRx 0 0 0 0 0 0 false, .nodeHeartbeatRx 0 0, .nodeHeartbeatSend 0,
    .nodeLost 0 0 0, .timeFlitSend 0 0, .timeFlitRx 0 0 0 0 0 0, .timeSourceLost 0, .wallTimeSet 0 i0 0,
    .gptpMessageRx 0 0 0 0, .twinHeartbeatRx 0 0 0 0, .twinHeartbeatSend 0] :
    List Instr).all wellFormed = true := by decide +kernel

theorem test_wellFormed_5 : ([.twinAliveOutToggle 0, .twinAliveInEdge 0, .witnessHeartbeatRx 0 0 f0, .twinEvaluation 0,
    .twinNoticeRx 0 0 false, .foxgloveConfig 0 i0 0 1 0, .pcieLinkDown 0, .pcieLinkUp 0 1 0 0 false, .flr 0 0,
    .peerToPeerRequest 0 0, .touchSample 0 0 [] [] [], .gloveExit 0 0, .touchRecordWrite 0 0, .selftestRun 0 i0 0 0,
    .selftestDone 0 0 ⟨[], [], [], []⟩, .hitMask 0 i0 0 [], .hapticTick 0 0 0 0, .channelOvercurrent 0 0,
    .brakeTimeout 0 0, .haptTrigEdge 0 0 false, .play 0 i0 0 0, .hapticFaultClear 0 i0 0 0, .axisUpdate 0 0 false 0,
    .encoderTransition 0 0 false false, .encClear 0 i0 0 0, .limitInputEdge 0 0 0 false, .limitLatch 0 0 0,
    .homeRequest 0 i0 0 0, .homeFound 0 0, .homingTimeout 0 0, .axisFaultClear 0 i0 0 0, .handoverEnd 0 0,
    .audioBlock 0 [] [], .ampEnFall 0 0, .avbPacketRx 0 0 0 [], .asrcUnlock 0 0, .coalesceWindowEnd 0 0 0 0,
    .eventRecordWrite 0 0, .aliveToggle 0, .counterOverflow 0 0, .dumpLatch 0 false, .tracePageFlush 0 0,
    .traceConsumerWrite 0 i0 0 0, .captureFrameDone 0 0 0, .domainPowerOnDone 0 0] :
    List Instr).all wellFormed = true := by decide +kernel

theorem test_wellFormed_6 : ([.domainReset 0 i0 0, .deviceReset 0 i0 0, .resetN 0 false 0 0 0, .powerOnReset 0, .pllLockLoss 0 0,
    .pllRelockTimeout 0 0, .ck2Check 0 false, .bistRun 0 i0 0, .bistDone 0 [], .plannerWatchdogTrip 0 [],
    .plannerRestartDone 0, .partitionRestart 0 i0 1 0 [] [], .partitionRestartDone 0 1, .dramTrainingDone 0 [] [],
    .eccInitDone 0, .earlyPlanLoaded 0 false, .gpioInputEdge 0 0 false, .gpioOutWrite 0 i0 0 0 0,
    .bankUndervoltage 0 0 0, .bankResume 0 0 0, .i2cGo 0 i0 0 0, .i2cTransferDone 0 0 0 [], .busTimeout 0 0,
    .recover 0 i0 0 0, .i2cRecoveryDone 0 0 false 0, .spiGo 0 i0 0 0, .spiTransferDone 0 0 [], .txLen 0 i0 0 0,
    .uartByteRx 0 0 0 false, .uartRxdataRead 0 i0 0 0, .canBusError 0 0 0 0, .busOffRecovery 0 0,
    .ethLinkChange 0 0 false 0, .gateCycleStart 0 0, .thermalThrottle 0 [], .renderStopped 0 [], .thermalTrip 0 [],
    .thermalRelease 0 [], .vinOvercurrent 0 0, .overcurrentTrip 0 0, .vinBrownout 0 0, .vinHighTrip 0 0,
    .tripRelease 0 0 0, .pllRelock 0 0, .uartTxComplete 0 0] :
    List Instr).all wellFormed = true := by decide +kernel

theorem test_wellFormed_7 : ([.encoderIndexEdge 0 0 false] :
    List Instr).all wellFormed = true := by decide +kernel

theorem test_illFormed_1 : ([.frameEpoch (2 ^ 64), .d2dTransferCrcFail (2 ^ 64) 0, .d2dTransferCrcFail 0 (2 ^ 64), .d2dLaneFail (2 ^ 64),
    .unitLost (2 ^ 64) .head 0, .unitLost 0 .head (2 ^ 8), .bindingComputed (2 ^ 64),
    .registerWrite (2 ^ 64) i0 0 0 0 8 0 env0, .registerWrite 0 i1 0 0 0 8 0 env0,
    .registerWrite 0 i0 (2 ^ 16) 0 0 8 0 env0, .registerWrite 0 i0 0 (2 ^ 8) 0 8 0 env0,
    .registerWrite 0 i0 0 0 8 8 0 env0, .registerWrite 0 i0 0 0 0 3 0 env0, .registerWrite 0 i0 0 0 4 8 0 env0,
    .setAliasWrite (2 ^ 64) i0 0 0 0 env0, .setAliasWrite 0 i1 0 0 0 env0, .setAliasWrite 0 i0 (2 ^ 16) 0 0 env0,
    .setAliasWrite 0 i0 0 (2 ^ 8) 0 env0, .clearAliasWrite (2 ^ 64) i0 0 0 0 env0, .clearAliasWrite 0 i1 0 0 0 env0,
    .clearAliasWrite 0 i0 (2 ^ 16) 0 0 env0, .clearAliasWrite 0 i0 0 (2 ^ 8) 0 env0,
    .toggleAliasWrite (2 ^ 64) i0 0 0 0 env0, .toggleAliasWrite 0 i1 0 0 0 env0,
    .toggleAliasWrite 0 i0 (2 ^ 16) 0 0 env0, .toggleAliasWrite 0 i0 0 (2 ^ 8) 0 env0,
    .statusClear (2 ^ 64) i0 false 0 0 0, .statusClear 0 i1 false 0 0 0, .statusClear 0 i0 false (2 ^ 16) 0 0,
    .statusClear 0 i0 false 0 (2 ^ 8) 0, .pendingSeqAdvance (2 ^ 64) 0 0 0, .pendingSeqAdvance 0 16 0 0,
    .pendingSeqAdvance 0 0 (2 ^ 16) 0, .pendingSeqAdvance 0 0 0 (2 ^ 8), .lowHalfRead (2 ^ 64) i0 0 0 0,
    .lowHalfRead 0 i1 0 0 0, .lowHalfRead 0 i0 4 0 0, .lowHalfRead 0 i0 0 (2 ^ 16) 0, .lowHalfRead 0 i0 0 0 (2 ^ 8),
    .highHalfRead (2 ^ 64) i0 0 0 0, .highHalfRead 0 i1 0 0 0, .highHalfRead 0 i0 4 0 0,
    .highHalfRead 0 i0 0 (2 ^ 16) 0, .highHalfRead 0 i0 0 0 (2 ^ 8), .lowHalfWrite (2 ^ 64) i0 0 0 0 0 env0] :
    List Instr).any wellFormed = false := by decide +kernel

theorem test_illFormed_2 : ([.lowHalfWrite 0 i1 0 0 0 0 env0, .lowHalfWrite 0 i0 4 0 0 0 env0, .lowHalfWrite 0 i0 0 (2 ^ 16) 0 0 env0,
    .lowHalfWrite 0 i0 0 0 (2 ^ 8) 0 env0, .highHalfWrite (2 ^ 64) i0 0 0 0 0 env0,
    .highHalfWrite 0 i1 0 0 0 0 env0, .highHalfWrite 0 i0 4 0 0 0 env0, .highHalfWrite 0 i0 0 (2 ^ 16) 0 0 env0,
    .highHalfWrite 0 i0 0 0 (2 ^ 8) 0 env0, .commitRequest (2 ^ 64) i0 0, .commitRequest 0 i1 0,
    .commitInEdge (2 ^ 64) false, .armedCommitTimeout (2 ^ 64), .wallTimeRelease (2 ^ 64), .store (2 ^ 64) i0 0,
    .store 0 i1 0, .storeDone (2 ^ 64) false, .restoreDefaults (2 ^ 64) i0 0, .restoreDefaults 0 i1 0,
    .lockSetsWrite (2 ^ 64) i0 0, .lockSetsWrite 0 i1 0, .snapshotTrigger (2 ^ 64) i0 0 0 false,
    .snapshotTrigger 0 i1 0 0 false, .snapshotTrigger 0 i0 16 0 false, .snapshotDeferredCapture (2 ^ 64) 0,
    .snapshotDeferredCapture 0 16, .domainSelect (2 ^ 64) i0 0, .domainSelect 0 i1 0, .domainDataRead (2 ^ 64) i0,
    .domainDataRead 0 i1, .domainDataWrite (2 ^ 64) i0 0, .domainDataWrite 0 i1 0,
    .domainCommitLen (2 ^ 64) i0 0 env0, .domainCommitLen 0 i1 0 env0, .tilsolRead (2 ^ 64) f0, .tilsolRead 0 f1,
    .tilsolWrite (2 ^ 64) f0 env0, .tilsolWrite 0 f1 env0, .tilsolReadseg (2 ^ 64) f0, .tilsolReadseg 0 f1,
    .tilsolWriteseg (2 ^ 64) f0 env0, .tilsolWriteseg 0 f1 env0, .tilsolCommit (2 ^ 64) f0, .tilsolCommit 0 f1,
    .tilsolSnapshot (2 ^ 64) f0 false] :
    List Instr).any wellFormed = false := by decide +kernel

theorem test_illFormed_3 : ([.tilsolSnapshot 0 f1 false, .tilsolSubscribe (2 ^ 64) f0, .tilsolSubscribe 0 f1, .tilsolUnsubscribe (2 ^ 64) f0,
    .tilsolUnsubscribe 0 f1, .tilsolAbort (2 ^ 64) f0, .tilsolAbort 0 f1, .tilsolReservedOpcode (2 ^ 64) f0,
    .tilsolReservedOpcode 0 f1, .mailboxDoorbell (2 ^ 64) i0 0 env0, .mailboxDoorbell 0 i1 0 env0,
    .forwardedResponse (2 ^ 64) 0 0 0 0 [0, 0, 0, 0, 0, 0, 0, 0],
    .forwardedResponse 0 64 0 0 0 [0, 0, 0, 0, 0, 0, 0, 0], .forwardedResponse 0 0 256 0 0 [0, 0, 0, 0, 0, 0, 0, 0],
    .forwardedResponse 0 0 0 256 0 [0, 0, 0, 0, 0, 0, 0, 0],
    .forwardedResponse 0 0 0 0 (2 ^ 32) [0, 0, 0, 0, 0, 0, 0, 0], .forwardedResponse 0 0 0 0 0 [],
    .writesegTimeout (2 ^ 64), .subscriptionPush (2 ^ 64) 0 0, .subscriptionPush 0 65 0, .subscriptionPush 0 0 16,
    .heartbeat (2 ^ 64), .emergency (2 ^ 64) 0, .emergency 0 5, .tilsolRekey (2 ^ 64) f0, .tilsolRekey 0 f1,
    .rekeyDone (2 ^ 64) 0, .rekeyDone 0 65, .planDmaGo (2 ^ 64) i0 0 [], .planDmaGo 0 i1 0 [],
    .planValidated (2 ^ 64) false, .planRevalidate (2 ^ 64) i0, .planRevalidate 0 i1, .planStoreSlot (2 ^ 64) i0,
    .planStoreSlot 0 i1, .planLoadSlot (2 ^ 64) i0, .planLoadSlot 0 i1, .planSwapWhenReady (2 ^ 64) i0,
    .planSwapWhenReady 0 i1, .planSwapAtTime (2 ^ 64) i0, .planSwapAtTime 0 i1, .planDiscard (2 ^ 64) i0,
    .planDiscard 0 i1, .planEraseSlot (2 ^ 64) i0, .planEraseSlot 0 i1] :
    List Instr).any wellFormed = false := by decide +kernel

theorem test_illFormed_4 : ([.planPrepare (2 ^ 64) i0, .planPrepare 0 i1, .planActionDone (2 ^ 64), .preparationDone (2 ^ 64),
    .readyExpired (2 ^ 64), .allocate (2 ^ 64) q0 0 0 0 0 0, .allocate 0 q1 0 0 0 0 0,
    .allocate 0 q0 (2 ^ 16) 0 0 0 0, .allocate 0 q0 0 (2 ^ 16) 0 0 0, .allocate 0 q0 0 0 (2 ^ 8) 0 0,
    .allocate 0 q0 0 0 0 (2 ^ 8) 0, .allocate 0 q0 0 0 0 0 (2 ^ 8), .free (2 ^ 64) q0 0, .free 0 q1 0,
    .free 0 q0 (2 ^ 32), .share (2 ^ 64) q0 0 0 0, .share 0 q1 0 0 0, .share 0 q0 (2 ^ 32) 0 0,
    .share 0 q0 0 (2 ^ 8) 0, .share 0 q0 0 0 (2 ^ 8),
    .memoryTransaction (2 ^ 64) 0 0 0 0 false 0 false 0 0 [] 0 env0,
    .memoryTransaction 0 (2 ^ 64) 0 0 0 false 0 false 0 0 [] 0 env0,
    .memoryTransaction 0 0 256 0 0 false 0 false 0 0 [] 0 env0,
    .memoryTransaction 0 0 0 13 0 false 0 false 0 0 [] 0 env0,
    .memoryTransaction 0 0 0 0 16 false 0 false 0 0 [] 0 env0,
    .memoryTransaction 0 0 0 0 0 false 4 false 0 0 [] 0 env0,
    .memoryTransaction 0 0 0 0 0 false 0 false (2 ^ 46) 0 [] 0 env0,
    .memoryTransaction 0 0 0 0 0 false 0 false 0 (2 ^ 32) [] 0 env0,
    .memoryTransaction 0 0 0 0 0 false 0 false 0 0 [] (2 ^ 8) env0, .apertureAccess (2 ^ 64) 0 0 i0 0 0 false [] 0,
    .apertureAccess 0 (2 ^ 64) 0 i0 0 0 false [] 0, .apertureAccess 0 0 256 i0 0 0 false [] 0,
    .apertureAccess 0 0 0 i1 0 0 false [] 0, .apertureAccess 0 0 0 i0 (2 ^ 64) 0 false [] 0,
    .apertureAccess 0 0 0 i0 0 (2 ^ 32) false [] 0, .apertureAccess 0 0 0 i0 0 0 false [] (2 ^ 8),
    .imbalanceWindow (2 ^ 64) [], .migrationCopyDone (2 ^ 64) 0, .migrationCopyDone 0 (2 ^ 64),
    .migrationPassDone (2 ^ 64) 0, .migrationPassDone 0 (2 ^ 64), .migrationHold (2 ^ 64) 0,
    .migrationHold 0 (2 ^ 64), .migrationRetry (2 ^ 64) 0, .migrationRetry 0 (2 ^ 64)] :
    List Instr).any wellFormed = false := by decide +kernel

theorem test_illFormed_5 : ([.batchStart (2 ^ 64) 0, .batchStart 0 65536, .tileStart (2 ^ 64) 0 [], .tileStart 0 8 [],
    .tileWritebackDone (2 ^ 64) 0, .tileWritebackDone 0 8, .batchDeadline (2 ^ 64) 0, .batchDeadline 0 65536,
    .videoFrameStart (2 ^ 64) 0, .videoFrameStart 0 10, .videoFrameEnd (2 ^ 64) 0 0 0 0 false [],
    .videoFrameEnd 0 10 0 0 0 false [], .videoFrameEnd 0 0 (2 ^ 16) 0 0 false [],
    .videoFrameEnd 0 0 0 (2 ^ 16) 0 false [], .videoFrameEnd 0 0 0 0 (2 ^ 10) false [],
    .videoInputTimeout (2 ^ 64) 0, .videoInputTimeout 0 10, .vblankStart (2 ^ 64) 0, .vblankStart 0 16,
    .fetchDataReturn (2 ^ 64) 0 0 0 [], .fetchDataReturn 0 16 0 0 [], .fetchDataReturn 0 0 (2 ^ 32) 0 [],
    .pixelScan (2 ^ 64) 0, .pixelScan 0 16, .irqHpd (2 ^ 64) 0 false, .irqHpd 0 22 false, .hpdUnplug (2 ^ 64) 0,
    .hpdUnplug 0 22, .hpdPlug (2 ^ 64) 0, .hpdPlug 0 22, .sinkIdReadDone (2 ^ 64) 0 0 0 false [] [],
    .sinkIdReadDone 0 22 0 0 false [] [], .sinkIdReadDone 0 0 (2 ^ 8) 0 false [] [],
    .sinkIdReadDone 0 0 0 (2 ^ 32) false [] [], .sinkIdReadDone 0 0 0 0 false [] [⟨2 ^ 32, 0, 0, 0, 0⟩],
    .sinkIdReadDone 0 0 0 0 false [] [⟨0, 2 ^ 32, 0, 0, 0⟩],
    .sinkIdReadDone 0 0 0 0 false [] [⟨0, 0, 2 ^ 32, 0, 0⟩],
    .sinkIdReadDone 0 0 0 0 false [] [⟨0, 0, 0, 2 ^ 32, 0⟩],
    .sinkIdReadDone 0 0 0 0 false [] [⟨0, 0, 0, 0, 2 ^ 32⟩], .trainingAttemptDone (2 ^ 64) 0 false,
    .trainingAttemptDone 0 22 false, .retrainTimer (2 ^ 64) 0, .retrainTimer 0 22, .linkLost (2 ^ 64) 0,
    .linkLost 0 22] :
    List Instr).any wellFormed = false := by decide +kernel

theorem test_illFormed_6 : ([.linkGraceExpired (2 ^ 64) 0, .linkGraceExpired 0 22, .hdcpAuthDone (2 ^ 64) 0 false false,
    .hdcpAuthDone 0 22 false false, .sentinelValueReady (2 ^ 64) 0, .sentinelValueReady 0 256,
    .sentinelLate (2 ^ 64) 0, .sentinelLate 0 256, .regionCompare (2 ^ 64) 0, .regionCompare 0 256,
    .releaseRegion (2 ^ 64) i0 0, .releaseRegion 0 i1 0, .requestedState (2 ^ 64) i0 0 0, .requestedState 0 i1 0 0,
    .requestedState 0 i0 256 0, .integrityRequestDone (2 ^ 64) none, .renderSubmit (2 ^ 64) q0 [] false,
    .renderSubmit 0 q1 [] false, .renderComplete (2 ^ 64) 0 0, .renderComplete 0 (2 ^ 64) 0,
    .renderComplete 0 0 (2 ^ 64), .renderPreempt (2 ^ 64) 0, .renderPreempt 0 (2 ^ 32), .renderTimeout (2 ^ 64) 0,
    .renderTimeout 0 (2 ^ 32), .spirvTranslationDone (2 ^ 64) 0 0 0 false false false,
    .spirvTranslationDone 0 16 0 0 false false false, .spirvTranslationDone 0 0 (2 ^ 32) 0 false false false,
    .spirvTranslationDone 0 0 0 (2 ^ 32) false false false, .pickValidationDone (2 ^ 64) 0,
    .pickValidationDone 0 512, .pickResult (2 ^ 64) 0, .pickResult 0 (2 ^ 64), .queueEnable (2 ^ 64) i0 0 0 0,
    .queueEnable 0 i1 0 0 0, .queueEnable 0 i0 16 0 0, .queueEnable 0 i0 0 8 0, .queueDoorbell (2 ^ 64) i0 0 0 0,
    .queueDoorbell 0 i1 0 0 0, .queueDoorbell 0 i0 16 0 0, .queueDoorbell 0 i0 0 8 0,
    .cqHeadWrite (2 ^ 64) i0 0 0 0, .cqHeadWrite 0 i1 0 0 0, .cqHeadWrite 0 i0 16 0 0, .cqHeadWrite 0 i0 0 8 0] :
    List Instr).any wellFormed = false := by decide +kernel

theorem test_illFormed_7 : ([.cqRecordWrite (2 ^ 64) 0 0, .cqRecordWrite 0 16 0, .cqRecordWrite 0 0 8, .dispatch (2 ^ 64) 0, .dispatch 0 3,
    .present (2 ^ 64) q0 0 0 0 0 0 [], .present 0 q1 0 0 0 0 0 [], .present 0 q0 (2 ^ 32) 0 0 0 0 [],
    .present 0 q0 0 (2 ^ 16) 0 0 0 [], .present 0 q0 0 0 (2 ^ 16) 0 0 [], .present 0 q0 0 0 0 (2 ^ 64) 0 [],
    .present 0 q0 0 0 0 0 (2 ^ 64) [], .present 0 q0 0 0 0 0 0 [⟨2 ^ 16, 0, 0, 0⟩],
    .copy (2 ^ 64) q0 0 0 0 0 0 0 0 0, .copy 0 q1 0 0 0 0 0 0 0 0, .copy 0 q0 (2 ^ 32) 0 0 0 0 0 0 0,
    .copy 0 q0 0 (2 ^ 32) 0 0 0 0 0 0, .copy 0 q0 0 0 (2 ^ 16) 0 0 0 0 0, .copy 0 q0 0 0 0 (2 ^ 16) 0 0 0 0,
    .copy 0 q0 0 0 0 0 (2 ^ 16) 0 0 0, .copy 0 q0 0 0 0 0 0 (2 ^ 16) 0 0, .copy 0 q0 0 0 0 0 0 0 (2 ^ 16) 0,
    .copy 0 q0 0 0 0 0 0 0 0 (2 ^ 16), .fill (2 ^ 64) q0 0 0 0 0 0 0, .fill 0 q1 0 0 0 0 0 0,
    .fill 0 q0 (2 ^ 32) 0 0 0 0 0, .fill 0 q0 0 (2 ^ 16) 0 0 0 0, .fill 0 q0 0 0 (2 ^ 16) 0 0 0,
    .fill 0 q0 0 0 0 (2 ^ 16) 0 0, .fill 0 q0 0 0 0 0 (2 ^ 16) 0, .fill 0 q0 0 0 0 0 0 (2 ^ 64),
    .convert (2 ^ 64) q0 0 0 0 0 0 0 0 0, .convert 0 q1 0 0 0 0 0 0 0 0, .convert 0 q0 (2 ^ 32) 0 0 0 0 0 0 0,
    .convert 0 q0 0 (2 ^ 32) 0 0 0 0 0 0, .convert 0 q0 0 0 (2 ^ 16) 0 0 0 0 0,
    .convert 0 q0 0 0 0 (2 ^ 16) 0 0 0 0, .convert 0 q0 0 0 0 0 (2 ^ 16) 0 0 0,
    .convert 0 q0 0 0 0 0 0 (2 ^ 16) 0 0, .convert 0 q0 0 0 0 0 0 0 (2 ^ 16) 0,
    .convert 0 q0 0 0 0 0 0 0 0 (2 ^ 16), .checkValue (2 ^ 64) q0 0 0 0 0 0, .checkValue 0 q1 0 0 0 0 0,
    .checkValue 0 q0 (2 ^ 32) 0 0 0 0, .checkValue 0 q0 0 (2 ^ 16) 0 0 0] :
    List Instr).any wellFormed = false := by decide +kernel

theorem test_illFormed_8 : ([.checkValue 0 q0 0 0 (2 ^ 16) 0 0, .checkValue 0 q0 0 0 0 (2 ^ 16) 0, .checkValue 0 q0 0 0 0 0 (2 ^ 16),
    .copyEngineDone (2 ^ 64) 0, .copyEngineDone 0 2, .commandPreempt (2 ^ 64) 0 0, .commandPreempt 0 2 0,
    .commandPreempt 0 0 (2 ^ 32), .fenceWait (2 ^ 64) q0 0 0, .fenceWait 0 q1 0 0, .fenceWait 0 q0 (2 ^ 64) 0,
    .fenceWait 0 q0 0 (2 ^ 32), .fenceTimeout (2 ^ 64) 0 0, .fenceTimeout 0 16 0, .fenceTimeout 0 0 8,
    .fenceSignal (2 ^ 64) q0, .fenceSignal 0 q1, .fenceValuesWrite (2 ^ 64) i0 0 0 0, .fenceValuesWrite 0 i1 0 0 0,
    .fenceValuesWrite 0 i0 16 0 0, .fenceValuesWrite 0 i0 0 255 0, .reservedCommand (2 ^ 64) q0,
    .reservedCommand 0 q1, .queuePromotion (2 ^ 64) 0 0, .queuePromotion 0 16 0, .queuePromotion 0 0 8,
    .queueAbort (2 ^ 64) i0 0 0 0 0 [], .queueAbort 0 i1 0 0 0 0 [], .queueAbort 0 i0 16 0 0 0 [],
    .queueAbort 0 i0 0 8 0 0 [], .queueAbort 0 i0 0 0 0 (2 ^ 32) [], .queueAbort 0 i0 0 0 0 0 [q1],
    .markhorWatchdogTrip (2 ^ 64), .lockstepMismatch (2 ^ 64), .markhorAutoRelease (2 ^ 64),
    .markhorRestart (2 ^ 64) i0 0, .markhorRestart 0 i1 0, .markhorRestartDone (2 ^ 64),
    .markhorBootDone (2 ^ 64) [] 0 false [], .markhorBootDone 0 [] (2 ^ 64) false [], .fwLevelRaise (2 ^ 64),
    .fuseProgram (2 ^ 64) i0 .lifecycle 0 false, .fuseProgram 0 i1 .lifecycle 0 false,
    .fuseProgram 0 i0 .lifecycle (2 ^ 64) false, .fuseProgramDone (2 ^ 64) 0] :
    List Instr).any wellFormed = false := by decide +kernel

theorem test_illFormed_9 : ([.fuseProgramDone 0 (2 ^ 64), .keyBundle (2 ^ 64) i0 [], .keyBundle 0 i1 [], .bundleResult (2 ^ 64) false,
    .firmwareImage (2 ^ 64) i0 [] false, .firmwareImage 0 i1 [] false, .challenge (2 ^ 64) i0 0, .challenge 0 i1 0,
    .foxgloveToken (2 ^ 64) i0 [], .foxgloveToken 0 i1 [], .tokenChecked (2 ^ 64) false,
    .authorisationExpiry (2 ^ 64), .revoke (2 ^ 64) i0 0, .revoke 0 i1 0, .rngReady (2 ^ 64),
    .rngHealthFail (2 ^ 64), .rngReseed (2 ^ 64), .seedRefresh (2 ^ 64) false, .rngDataRead (2 ^ 64) i0,
    .rngDataRead 0 i1, .refreshDue (2 ^ 64) 0 0 false, .refreshDue 0 32 0 false, .mr4Poll (2 ^ 64) [],
    .freqChangeStart (2 ^ 64), .freqChangeDone (2 ^ 64), .freqDeferred (2 ^ 64), .trackerEntryFree (2 ^ 64) 0,
    .trackerEntryFree 0 (2 ^ 64), .agePromotion (2 ^ 64) 0, .agePromotion 0 (2 ^ 64), .patrolScrub (2 ^ 64) 0 [] [],
    .patrolScrub 0 8 [] [], .bankRetention (2 ^ 64) 0, .bankRetention 0 32, .wearCounterStore (2 ^ 64) 0,
    .wearCounterStore 0 256, .userStore (2 ^ 64) 0xC100, .userStore 0 0, .userStore 0 0xFF80,
    .libraryEntry (2 ^ 64) i0 [] false, .libraryEntry 0 i1 [] false, .eraseId (2 ^ 64) i0 0, .eraseId 0 i1 0,
    .dataFlitRx (2 ^ 64) 0 [] 0, .dataFlitRx 0 4 [] 0] :
    List Instr).any wellFormed = false := by decide +kernel

theorem test_illFormed_10 : ([.dataFlitRx 0 0 [] (2 ^ 8), .nakFlitRx (2 ^ 64) 0 [] 0, .nakFlitRx 0 4 [] 0, .nakFlitRx 0 0 [] (2 ^ 8),
    .idleFlitRx (2 ^ 64) 0 [] 0, .idleFlitRx 0 4 [] 0, .idleFlitRx 0 0 [] (2 ^ 8), .idleFlitSend (2 ^ 64) 0,
    .idleFlitSend 0 4, .replayTimeout (2 ^ 64) 0, .replayTimeout 0 4, .portRetrainDone (2 ^ 64) 0 0 0,
    .portRetrainDone 0 4 0 0, .portRetrainDone 0 0 (2 ^ 8) 0, .portRetrainDone 0 0 0 (2 ^ 32),
    .linkRetry (2 ^ 64) 0, .linkRetry 0 4, .e2eAckRx (2 ^ 64) 0 0 0, .e2eAckRx 0 64 0 0, .e2eAckRx 0 0 4 0,
    .e2eAckRx 0 0 0 (2 ^ 16), .e2eTimeout (2 ^ 64) 0 0, .e2eTimeout 0 64 0, .e2eTimeout 0 0 4,
    .tileMessageRx (2 ^ 64) 0 0 0 0 0 [] 0 [], .tileMessageRx 0 64 0 0 0 0 [] 0 [],
    .tileMessageRx 0 0 (2 ^ 16) 0 0 0 [] 0 [], .tileMessageRx 0 0 0 (2 ^ 16) 0 0 [] 0 [],
    .tileMessageRx 0 0 0 0 (2 ^ 64) 0 [] 0 [], .tileMessageRx 0 0 0 0 0 (2 ^ 32) [] 0 [],
    .tileMessageRx 0 0 0 0 0 0 [] (2 ^ 64) [], .bulkWriteRx (2 ^ 64) 0 0 false 0 [], .bulkWriteRx 0 64 0 false 0 [],
    .bulkWriteRx 0 0 16 false 0 [], .bulkWriteRx 0 0 0 false (2 ^ 46) [], .bulkReadRequestRx (2 ^ 64) 0 0 false 0 0,
    .bulkReadRequestRx 0 64 0 false 0 0, .bulkReadRequestRx 0 0 16 false 0 0,
    .bulkReadRequestRx 0 0 0 false (2 ^ 46) 0, .bulkReadRequestRx 0 0 0 false 0 (2 ^ 32),
    .bulkReadDataRx (2 ^ 64) 0 0 [], .bulkReadDataRx 0 64 0 [], .bulkReadDataRx 0 0 (2 ^ 46) [],
    .nodeHelloRx (2 ^ 64) 0 0 0 0 0 false, .nodeHelloRx 0 4 0 0 0 0 false] :
    List Instr).any wellFormed = false := by decide +kernel

theorem test_illFormed_11 : ([.nodeHelloRx 0 0 (2 ^ 64) 0 0 0 false, .nodeHelloRx 0 0 0 (2 ^ 8) 0 0 false, .nodeHelloRx 0 0 0 0 64 0 false,
    .nodeHelloRx 0 0 0 0 0 4 false, .nodeHeartbeatRx (2 ^ 64) 0, .nodeHeartbeatRx 0 64, .nodeHeartbeatSend (2 ^ 64),
    .nodeLost (2 ^ 64) 0 0, .nodeLost 0 64 0, .nodeLost 0 0 256, .timeFlitSend (2 ^ 64) 0, .timeFlitSend 0 4,
    .timeFlitRx (2 ^ 64) 0 0 0 0 0, .timeFlitRx 0 4 0 0 0 0, .timeFlitRx 0 0 (2 ^ 64) 0 0 0,
    .timeFlitRx 0 0 0 (2 ^ 64) 0 0, .timeFlitRx 0 0 0 0 (2 ^ 8) 0, .timeFlitRx 0 0 0 0 0 256,
    .timeSourceLost (2 ^ 64), .wallTimeSet (2 ^ 64) i0 0, .wallTimeSet 0 i1 0, .gptpMessageRx (2 ^ 64) 0 0 0,
    .gptpMessageRx 0 2 0 0, .gptpMessageRx 0 0 (2 ^ 64) 0, .gptpMessageRx 0 0 0 (2 ^ 64),
    .twinHeartbeatRx (2 ^ 64) 0 0 0, .twinHeartbeatRx 0 4 0 0, .twinHeartbeatRx 0 0 (2 ^ 16) 0,
    .twinHeartbeatRx 0 0 0 (2 ^ 32), .twinHeartbeatSend (2 ^ 64), .twinAliveOutToggle (2 ^ 64),
    .twinAliveInEdge (2 ^ 64), .witnessHeartbeatRx (2 ^ 64) 0 f0, .witnessHeartbeatRx 0 5 f0,
    .witnessHeartbeatRx 0 0 f1, .twinEvaluation (2 ^ 64), .twinNoticeRx (2 ^ 64) 0 false, .twinNoticeRx 0 16 false,
    .foxgloveConfig (2 ^ 64) i0 0 1 0, .foxgloveConfig 0 i1 0 1 0, .foxgloveConfig 0 i0 4 1 0,
    .foxgloveConfig 0 i0 0 0 0, .foxgloveConfig 0 i0 0 (2 ^ 8) 0, .pcieLinkDown (2 ^ 64),
    .pcieLinkUp (2 ^ 64) 1 0 0 false] :
    List Instr).any wellFormed = false := by decide +kernel

theorem test_illFormed_12 : ([.pcieLinkUp 0 0 0 0 false, .pcieLinkUp 0 7 0 0 false, .pcieLinkUp 0 1 (2 ^ 8) 0 false,
    .pcieLinkUp 0 1 0 (2 ^ 8) false, .flr (2 ^ 64) 0, .flr 0 16, .peerToPeerRequest (2 ^ 64) 0,
    .peerToPeerRequest 0 16, .touchSample (2 ^ 64) 0 [] [] [], .touchSample 0 4 [] [] [], .gloveExit (2 ^ 64) 0,
    .gloveExit 0 4, .touchRecordWrite (2 ^ 64) 0, .touchRecordWrite 0 16, .selftestRun (2 ^ 64) i0 0 0,
    .selftestRun 0 i1 0 0, .selftestRun 0 i0 4 0, .selftestDone (2 ^ 64) 0 ⟨[], [], [], []⟩,
    .selftestDone 0 4 ⟨[], [], [], []⟩, .hitMask (2 ^ 64) i0 0 [], .hitMask 0 i1 0 [], .hitMask 0 i0 512 [],
    .hapticTick (2 ^ 64) 0 0 0, .hapticTick 0 8 0 0, .channelOvercurrent (2 ^ 64) 0, .channelOvercurrent 0 8,
    .brakeTimeout (2 ^ 64) 0, .brakeTimeout 0 8, .haptTrigEdge (2 ^ 64) 0 false, .haptTrigEdge 0 8 false,
    .play (2 ^ 64) i0 0 0, .play 0 i1 0 0, .play 0 i0 8 0, .hapticFaultClear (2 ^ 64) i0 0 0,
    .hapticFaultClear 0 i1 0 0, .hapticFaultClear 0 i0 8 0, .axisUpdate (2 ^ 64) 0 false 0, .axisUpdate 0 6 false 0,
    .axisUpdate 0 0 false (2 ^ 64), .encoderTransition (2 ^ 64) 0 false false, .encoderTransition 0 8 false false,
    .encClear (2 ^ 64) i0 0 0, .encClear 0 i1 0 0, .encClear 0 i0 8 0, .limitInputEdge (2 ^ 64) 0 0 false] :
    List Instr).any wellFormed = false := by decide +kernel

theorem test_illFormed_13 : ([.limitInputEdge 0 6 0 false, .limitInputEdge 0 0 3 false, .limitLatch (2 ^ 64) 0 0, .limitLatch 0 6 0,
    .limitLatch 0 0 3, .homeRequest (2 ^ 64) i0 0 0, .homeRequest 0 i1 0 0, .homeRequest 0 i0 6 0,
    .homeFound (2 ^ 64) 0, .homeFound 0 6, .homingTimeout (2 ^ 64) 0, .homingTimeout 0 6,
    .axisFaultClear (2 ^ 64) i0 0 0, .axisFaultClear 0 i1 0 0, .axisFaultClear 0 i0 6 0, .handoverEnd (2 ^ 64) 0,
    .handoverEnd 0 6, .audioBlock (2 ^ 64) [] [], .ampEnFall (2 ^ 64) 0, .ampEnFall 0 8,
    .avbPacketRx (2 ^ 64) 0 0 [], .avbPacketRx 0 16 0 [], .avbPacketRx 0 0 (2 ^ 64) [], .asrcUnlock (2 ^ 64) 0,
    .asrcUnlock 0 64, .coalesceWindowEnd (2 ^ 64) 0 0 0, .coalesceWindowEnd 0 65536 0 0,
    .coalesceWindowEnd 0 0 (2 ^ 16) 0, .coalesceWindowEnd 0 0 0 (2 ^ 8), .eventRecordWrite (2 ^ 64) 0,
    .eventRecordWrite 0 16, .aliveToggle (2 ^ 64), .counterOverflow (2 ^ 64) 0, .counterOverflow 0 1024,
    .dumpLatch (2 ^ 64) false, .tracePageFlush (2 ^ 64) 0, .tracePageFlush 0 8, .traceConsumerWrite (2 ^ 64) i0 0 0,
    .traceConsumerWrite 0 i1 0 0, .traceConsumerWrite 0 i0 8 0, .captureFrameDone (2 ^ 64) 0 0,
    .captureFrameDone 0 16 0, .captureFrameDone 0 0 (2 ^ 64), .domainPowerOnDone (2 ^ 64) 0,
    .domainPowerOnDone 0 20] :
    List Instr).any wellFormed = false := by decide +kernel

theorem test_illFormed_14 : ([.domainReset (2 ^ 64) i0 0, .domainReset 0 i1 0, .deviceReset (2 ^ 64) i0 0, .deviceReset 0 i1 0,
    .resetN (2 ^ 64) false 0 0 0, .resetN 0 false 64 0 0, .resetN 0 false 0 2 0, .resetN 0 false 0 0 4,
    .powerOnReset (2 ^ 64), .pllLockLoss (2 ^ 64) 0, .pllLockLoss 0 34, .pllRelockTimeout (2 ^ 64) 0,
    .pllRelockTimeout 0 34, .ck2Check (2 ^ 64) false, .bistRun (2 ^ 64) i0 0, .bistRun 0 i1 0,
    .bistDone (2 ^ 64) [], .plannerWatchdogTrip (2 ^ 64) [], .plannerRestartDone (2 ^ 64),
    .partitionRestart (2 ^ 64) i0 1 0 [] [], .partitionRestart 0 i1 1 0 [] [], .partitionRestart 0 i0 0 0 [] [],
    .partitionRestart 0 i0 16 0 [] [], .partitionRestartDone (2 ^ 64) 1, .partitionRestartDone 0 0,
    .partitionRestartDone 0 16, .dramTrainingDone (2 ^ 64) [] [], .eccInitDone (2 ^ 64),
    .earlyPlanLoaded (2 ^ 64) false, .gpioInputEdge (2 ^ 64) 0 false, .gpioInputEdge 0 128 false,
    .gpioOutWrite (2 ^ 64) i0 0 0 0, .gpioOutWrite 0 i1 0 0 0, .gpioOutWrite 0 i0 8 0 0, .gpioOutWrite 0 i0 0 4 0,
    .bankUndervoltage (2 ^ 64) 0 0, .bankUndervoltage 0 8 0, .bankUndervoltage 0 0 (2 ^ 32),
    .bankResume (2 ^ 64) 0 0, .bankResume 0 8 0, .bankResume 0 0 (2 ^ 32), .i2cGo (2 ^ 64) i0 0 0, .i2cGo 0 i1 0 0,
    .i2cGo 0 i0 16 0, .i2cTransferDone (2 ^ 64) 0 0 []] :
    List Instr).any wellFormed = false := by decide +kernel

theorem test_illFormed_15 : ([.i2cTransferDone 0 16 0 [], .i2cTransferDone 0 0 (2 ^ 16) [], .busTimeout (2 ^ 64) 0, .busTimeout 0 16,
    .recover (2 ^ 64) i0 0 0, .recover 0 i1 0 0, .recover 0 i0 16 0, .i2cRecoveryDone (2 ^ 64) 0 false 0,
    .i2cRecoveryDone 0 16 false 0, .i2cRecoveryDone 0 0 false 10, .spiGo (2 ^ 64) i0 0 0, .spiGo 0 i1 0 0,
    .spiGo 0 i0 4 0, .spiTransferDone (2 ^ 64) 0 [], .spiTransferDone 0 4 [], .txLen (2 ^ 64) i0 0 0,
    .txLen 0 i1 0 0, .txLen 0 i0 4 0, .uartByteRx (2 ^ 64) 0 0 false, .uartByteRx 0 4 0 false,
    .uartRxdataRead (2 ^ 64) i0 0 0, .uartRxdataRead 0 i1 0 0, .uartRxdataRead 0 i0 4 0,
    .uartRxdataRead 0 i0 0 (2 ^ 32), .canBusError (2 ^ 64) 0 0 0, .canBusError 0 4 0 0, .canBusError 0 0 (2 ^ 16) 0,
    .canBusError 0 0 0 (2 ^ 16), .busOffRecovery (2 ^ 64) 0, .busOffRecovery 0 4, .ethLinkChange (2 ^ 64) 0 false 0,
    .ethLinkChange 0 2 false 0, .ethLinkChange 0 0 false (2 ^ 32), .gateCycleStart (2 ^ 64) 0, .gateCycleStart 0 2,
    .thermalThrottle (2 ^ 64) [], .renderStopped (2 ^ 64) [], .thermalTrip (2 ^ 64) [], .thermalRelease (2 ^ 64) [],
    .vinOvercurrent (2 ^ 64) 0, .vinOvercurrent 0 (2 ^ 32), .overcurrentTrip (2 ^ 64) 0,
    .overcurrentTrip 0 (2 ^ 32), .vinBrownout (2 ^ 64) 0, .vinBrownout 0 (2 ^ 32)] :
    List Instr).any wellFormed = false := by decide +kernel

theorem test_illFormed_16 : ([.vinHighTrip (2 ^ 64) 0, .vinHighTrip 0 (2 ^ 32), .tripRelease (2 ^ 64) 0 0, .tripRelease 0 (2 ^ 32) 0,
    .tripRelease 0 0 (2 ^ 32), .pllRelock (2 ^ 64) 0, .pllRelock 0 34, .uartTxComplete (2 ^ 64) 0,
    .uartTxComplete 0 4, .encoderIndexEdge (2 ^ 64) 0 false, .encoderIndexEdge 0 8 false] :
    List Instr).any wellFormed = false := by decide +kernel

/-! ## Worked examples of the manual -/

/-- The two steps of the example of R157: the dial copied, then the telltale blended over it. -/
theorem test_blendExample :
    blendPx true ⟨128 * 257, 96 * 257, 0, 128 * 257⟩ ⟨30 * 257, 40 * 257, 60 * 257, 255 * 257⟩ 52428
      = ⟨30931, 25890, 9228, 65535⟩ := by decide +kernel

/-- Its frame-store word (R159). -/
theorem test_storeWordExample : storeWord ⟨30931, 25890, 9228, 65535⟩ = 0xC90651E3 := by decide +kernel

/-- The bits of the needles tile of the example of R155, by channel: a zero block, then a block of full range. -/
theorem test_compressionExample :
    ([8, 8, 8, 8].foldl (fun s _ => encodeChan s 8 (List.replicate 64 0)) (0, 0)).2 = 48 ∧
      ([8, 8, 8, 8].foldl (fun s _ => encodeChan s 8 (0 :: List.replicate 63 255)) (0, 0)).2 = 2096 := by decide +kernel

/-- An all-zero tile of RGBA8888 has the header of the example of R155 and no data. -/
theorem test_zeroTileHeader : encodeTile 1 (List.replicate 2048 0) = (0x200, []) := by decide +kernel

/-- The check value of the example of R217: the unit's value over prefix and payload, and the expected one folded. -/
theorem test_checkValueExample :
    let c : PlanCvu := ⟨0x07, 0, 0, 8, false, false⟩
    let pre : List Byte := [7, 0, 0, 0, 0xE8, 3, 0, 0]
    c.raw c.init [0xE3, 0x51, 6, 0xC9] = 0x1E ∧ c.raw c.init pre = 0x10 ∧
      c.out (c.raw c.init (pre ++ [0xE3, 0x51, 6, 0xC9])) = 0x79 ∧ c.fold pre 4 0x1E = 0x79 := by decide +kernel

/-- The dithered wire values of the example of chapter 07 at (100, 5) of frame 1,000, and without dither. -/
theorem test_ditherExample :
    ditherTh 1000 100 5 = 63487 ∧ [30942, 25881, 9225].map (reduceBits 8 63487) = [121, 101, 36] ∧
      [30942, 25881, 9225].map (reduceBits 8 32767) = [120, 101, 36] ∧
      [483, 404, 144].map widen10 = [30942, 25881, 9225] := by decide +kernel

/-- SAFE_PX of the example of chapter 07. -/
theorem test_safePxExample : safePx { head0 with clockKhz := 93600 } = 656 := by decide +kernel

/-- The sector of the example of R128 under eight masks, over four channels and over three. -/
theorem test_hashExample :
    let masks := [0x13, 0x02, 0x10, 0, 0x12, 0x04, 0x16, 0x01]
    (⟨0, 0, masks, [8, 9, 10, 11], 0⟩ : HashCtx).channel 0x123400 = 10 ∧
      (⟨0, 0, masks, [8, 10, 11], 0⟩ : HashCtx).channel 0x123400 = 11 := by decide +kernel

/-- The route of the example of R344 in a Wall of 6 by 4: from (5, 1) X+ over the dateline, then Y+ for Pixel. -/
theorem test_routeExample :
    let s := up [(0x7811, 1, 3), (0x7815, 1, 3), (0x7819, 1, 3), (0x781D, 1, 3), (0x1020, 1, 0x0D)]
    let s := { s with fabric := { s.fabric with topology := 3, cols := 6, rows := 4 } }
    s.route 0x18 = some 0 ∧ s.crosses 0 = true ∧ (s.put 0x1020 1 0x08).route 0x18 = some 2 ∧ (s.put 0x1020 1 0x08).crosses 2 = false := by decide +kernel

/-- The detent torque and the planned load of the examples of R397 and R398. -/
theorem test_detentExample :
    let s := (st [(axIdx 0, 6, 4096)]).putLive (okey 0 (axIdx 0 + 6) 0)
      ⟨1, List.replicate 200 0 ++ leBytes 2 (2 ^ 16 - 800) ++ leBytes 2 (2 ^ 16 - 760) ++ List.replicate 1844 0⟩
    s.detentTorque 0 402 = -780 := by decide +kernel

theorem test_plannedLoadExample :
    plannedLoad State.reset.cfg (fun i sub =>
      if i = axIdx 0 then nth 0 [0, 2, 0, 0, 0, 20000] sub
      else if i = axIdx 1 ∨ i = axIdx 2 then nth 0 [0, 1, 0, 1, 0, 5000] sub
      else if i = hapIdx 0 ∨ i = hapIdx 1 ∨ i = hapIdx 2 then 1 else 0) = 1563 := by decide +kernel

/-- The touch position of the example of chapter 15. -/
theorem test_touchExample :
    let s := st [(tpIdx 0, 0xE, 6144), (tpIdx 0, 0xF, 3840), (tpIdx 0, 0x10, 12), (tpIdx 0, 0x11, 7)]
    (s.peakCoord 10 120 300 180).2 = 2585 ∧ (s.peakCoord 20 250 300 50).2 = 5035 ∧ s.headPos 0 2585 5035 = (254, 302) := by
  decide +kernel

/-- The pick of the example of chapter 10: the ray of the touch point, a box of child 1, and the two triangles. -/
def pick1 : List Byte :=
  let f := fun (n : Int) => leBytes 4 (Fl.ofInt n).toF32
  List.replicate 0x0C 0 ++ leBytes 4 1 ++ leBytes 4 2 ++ leBytes 4 4 ++ leBytes 4 0x40 ++ leBytes 4 0x80 ++ leBytes 4 0xC0
    ++ List.replicate 0x1C 0
    ++ (List.replicate 12 0 ++ [2, 1, 0xFC, 0] ++ List.replicate 16 0 ++ List.replicate 6 0 ++ [0x20, 0x20, 0xA0, 0x2F, 0x3F, 0xA0]
      ++ List.replicate 20 0)
    ++ (leBytes 4 0 ++ leBytes 4 1 ++ leBytes 4 2 ++ List.replicate 20 0)
    ++ (leBytes 4 1 ++ leBytes 4 3 ++ leBytes 4 2 ++ List.replicate 20 0)
    ++ [128, 64, 10, 192, 64, 10, 128, 128, 10, 192, 128, 10].flatMap f

def ray1 : Ray :=
  let f := fun (n : Int) => leBytes 4 (Fl.ofInt n).toF32
  pickRay ([320, 0, 0, 320, 0, 192, 0, 192, 0, 0, -100, 100, 0, 0, 0, 1].flatMap f) 160 96 640 384 false

theorem test_pickRayExample :
    ray1.o.map Fl.toF32 = [160, 96, 100].map (fun n => (Fl.ofInt n).toF32) ∧
      ray1.d.map (fun x => x.isZero) = [true, true, false] ∧ (ax ray1.d 2).toF32 = (Fl.ofInt (-100)).toF32 := by decide +kernel

theorem test_pickBoxExample :
    (List.range 3).map (fun a => (boxLo (numAt pick1) 0x40 1 a).toF32) = [128, 64, 10].map (fun n => (Fl.ofInt n).toF32) ∧
      (List.range 2).map (fun a => (boxHi (numAt pick1) 0x40 1 a).toF32) = [192, 128].map (fun n => (Fl.ofInt n).toF32) ∧
      (boxHi (numAt pick1) 0x40 1 2).toF32 = 0x41210000 := by decide +kernel

theorem test_pickLeafExample :
    leafHit (numAt pick1) 0 ray1 Fl.one = none ∧ (leafHit (numAt pick1) 1 ray1 Fl.one).map Fl.toF32 = some 0x3F666666 := by decide +kernel

/-- The exchange of the example of R47: a stale clear after a refused write, then one that clears all three flags. -/
theorem test_statusExample :
    let k := okey 2 0x11B8 1
    let s := (up []).putK k 0x00002A0000000005
    let s1 := (s.setFlag k 1)
    (s1.getK k = 0x00002B0000000007) ∧ (s1.clearStatus (win 2) 0x11B8 1 k 0x00002A0000000005).2 = codeStatusSeqStale ∧
      ((s1.clearStatus (win 2) 0x11B8 1 k 0x00002B0000000007).1.getK k = 0x00002B0000000000) := by decide +kernel

/-- The slot of the example of R47 in the window: BAR0 offset 0x008D_C008 and its CLEAR alias. -/
theorem test_slotExample : winAt 0x008DC008 = (0, 0x11B8, 1, 0) ∧ winAt 0x108DC008 = (2, 0x11B8, 1, 0) := by decide +kernel

/-- A Critical event of SOURCE 0x200 and CODE 0x2001 of partition 4, as the flood of chapter 18 has it. -/
theorem test_eventNames :
    (((up []).raiseB 0 0x2001 0 0 2 sevError 4 []).ev.slots.map (fun z => (z.source, z.code, z.part))) = [(0x200, 0x2001, 4)] := by
  decide +kernel

/-- The epoch counter wraps, and serial order reads across the wrap; a distance of 2^31 is no order (R22). -/
theorem test_serialOrder :
    serialLater 32 0 (2 ^ 32 - 1) = true ∧ serialLater 32 (2 ^ 32 - 1) 0 = false ∧ serialLater 32 (2 ^ 31) 0 = false ∧
      serialLater 32 0 (2 ^ 31) = false := by decide +kernel

/-- The links of the example of chapter 08: four and two lanes of 8.1 Gbit/s, and A-PHY G2. -/
theorem test_linkCapacityExample :
    linkCapacity 0 4 8100 / 16000 = 25272 ∧ linkCapacity 0 2 8100 / 16000 = 12636 ∧ linkCapacity 3 1 4000 / 16000 = 3400 := by
  decide +kernel

/-- Linear pitch and tiled size of a 1920 by 720 RGB10A2 surface: 690 tiles of 8,192 bytes (R26). -/
theorem test_tileCount : tileCols 1920 * tileRows 720 = 690 := by decide +kernel

/-! ## The invariant's premises -/

/-- A state that meets the premises of BlockInvariant and one step from it. -/
theorem wit_BlockInvariant :
    let s : State := { State.reset with pending := [.frameEpoch 100] }
    s.Inv ∧ (match step s with
      | .next s' => s'.now == 100
      | _ => false) = true := by
  refine ⟨⟨rfl, by decide, ?_⟩, by decide +kernel⟩
  intro c h
  cases h with
  | head => decide
  | tail _ h => cases h

/-! ## The premises of the statements are met -/

/-- States and operands that meet the premises of DeviceRuns, clause by clause. -/
theorem wit_DeviceRuns :
    (∃ (t : Nat) (s : State), s.inReset = false ∧ max s.now t < s.time.nextEpoch) ∧
    (∃ (t : Nat) (s : State), s.inReset = false ∧ s.time.nextEpoch ≤ max s.now t) ∧
    (∃ (e : Nat) (s : State), e < s.cfg.engines ∧ s.time.lastEpoch < s.now) ∧
    (∃ (s : State), s.time.spare ≠ 0 ∧ s.get 0x9070 3 + s.time.spare ≤ 2) ∧
    (∃ (s : State), s.inReset = false) ∧
    (∃ (s : State), s.inReset = false ∧ s.time.edgeLost = true) ∧
    (∃ (s : State), s.inReset = false ∧ s.time.edgeLost = false ∧ s.get 0x9070 3 + s.time.spare < 2) ∧
    (∃ (s : State), s.inReset = false ∧ s.time.edgeLost = false ∧ 2 ≤ s.get 0x9070 3 + s.time.spare ∧ s.isLost .edgeDie 0
          = false) ∧
    (∃ (k : UnitKind) (inst : Nat) (s : State), s.inReset = false ∧ k ≠ .dramHalf ∧ k ≠ .edgeDie ∧ ((s.cfg.unitCount k ≤
          inst ∨ s.isLost k inst = true))) ∧
    (∃ (k : UnitKind) (inst : Nat) (s : State), s.inReset = false ∧ k ≠ .dramHalf ∧ k ≠ .edgeDie ∧ inst < s.cfg.unitCount
          k ∧ s.isLost k inst = false) ∧
    (∃ (inst : Nat) (s : State), s.inReset = false ∧ inst < s.cfg.engines ∧ s.isLost .composer inst = false ∧ (List.range
          s.cfg.engines).any (fun e => e != inst && !s.isLost .composer e) = true) ∧
    (∃ (s : State), s.inReset = false ∧ s.isLost .markhor 0 = false) ∧
    (∃ (half : Nat) (s : State), s.inReset = false ∧ s.isLost .dramHalf half = false) ∧
    (∃ (s : State), s.inReset = false ∧ s.isLost .edgeDie 0 = false) ∧
    (∃ (s : State), s.inReset = false ∧ s.isLost .edgeDie 0 = true) :=
  ⟨⟨100, st [], by decide +kernel⟩,
   ⟨16666667, up [], by decide +kernel⟩,
   ⟨1, (let s := { (planned1 (up [])) with now := 1000 }; s.putEngine { (s.engine 1) with busy := 600 }), by decide +kernel⟩,
   ⟨(let s := up []; { s with time := { s.time with spare := 2 } }), by decide +kernel⟩,
   ⟨st [(0x9070, 4, 100), (0x9070, 1, 2 ^ 32 - 1)], by decide +kernel⟩,
   ⟨(let s := st []; { s with time := { s.time with edgeLost := true } }), by decide +kernel⟩,
   ⟨st [(0x9070, 3, 1)], by decide +kernel⟩,
   ⟨st [(0x9070, 3, 2)], by decide +kernel⟩,
   ⟨.audio, 1, st [], by decide +kernel⟩,
   ⟨.head, 15, planned1 (up []), by decide +kernel⟩,
   ⟨0, (planned1 (up [])).putEngine (engine1 (some 0) 0 []), by decide +kernel⟩,
   ⟨up [(0x8C60, 1, 0), (0x8C60, 2, 1)], by decide +kernel⟩,
   ⟨1, up [], by decide +kernel⟩,
   ⟨up [], by decide +kernel⟩,
   ⟨(let s := st []; { s with place := { s.place with lost := [(.edgeDie, 0)] } }), by decide +kernel⟩⟩

/-- States and operands that meet the premises of RegisterWritesAreStored, clause by clause. -/
theorem wit_RegisterWritesAreStored :
    (∃ (ini : Ini) (idx : Nat) (sub : Nat) (v : Word) (w : Word) (o : Obj) (s : State), s.inReset = false ∧ s.accepts
          ⟨ini, 0, idx, sub, v⟩ = some (o, w) ∧ 0x3000 ≤ idx ∧ idx < 0x6800 ∧ idx ≠ 0x30D8 ∧ idx ≠ 0x4000 ∧ idx ≠ 0x4002 ∧
          canonIdx idx = idx ∧ s.til.mailbox.all (fun m => m.taken) = true) ∧
    (∃ (ini : Ini) (idx : Nat) (sub : Nat) (v : Word) (w : Word) (o : Obj) (s : State), s.inReset = false ∧ s.accepts
          ⟨ini, 0, idx, sub, s.extend32 idx sub v.toNat⟩ = some (o, w) ∧ s.wideSlot idx sub = false ∧ 0x3000 ≤ idx ∧ idx <
          0x6800 ∧ idx ≠ 0x30D8 ∧ idx ≠ 0x4000 ∧ idx ≠ 0x4002 ∧ canonIdx idx = idx ∧ s.til.mailbox.all (fun m => m.taken)
          = true) ∧
    (∃ (ini : Ini) (idx : Nat) (sub : Nat) (v : Word) (w : Word) (o : Obj) (s : State), s.inReset = false ∧ s.accepts
          ⟨ini, 1, idx, sub, v⟩ = some (o, w) ∧ 0x3000 ≤ idx ∧ idx < 0x6800 ∧ idx ≠ 0x30D8 ∧ idx ≠ 0x4000 ∧ idx ≠ 0x4002 ∧
          canonIdx idx = idx ∧ s.til.mailbox.all (fun m => m.taken) = true) ∧
    (∃ (ini : Ini) (idx : Nat) (sub : Nat) (v : Word) (w : Word) (o : Obj) (s : State), s.inReset = false ∧ s.accepts
          ⟨ini, 2, idx, sub, v⟩ = some (o, w) ∧ 0x3000 ≤ idx ∧ idx < 0x6800 ∧ idx ≠ 0x30D8 ∧ idx ≠ 0x4000 ∧ idx ≠ 0x4002 ∧
          canonIdx idx = idx ∧ s.til.mailbox.all (fun m => m.taken) = true) ∧
    (∃ (ini : Ini) (idx : Nat) (sub : Nat) (v : Word) (w : Word) (o : Obj) (s : State), s.inReset = false ∧ s.accepts
          ⟨ini, 3, idx, sub, v⟩ = some (o, w) ∧ 0x3000 ≤ idx ∧ idx < 0x6800 ∧ idx ≠ 0x30D8 ∧ idx ≠ 0x4000 ∧ idx ≠ 0x4002 ∧
          canonIdx idx = idx ∧ s.til.mailbox.all (fun m => m.taken) = true) ∧
    (∃ (ini : Ini) (idx : Nat) (sub : Nat) (v : Word) (code : Nat) (s : State), s.inReset = false ∧ s.writeRefusal ⟨ini,
          0, idx, sub, v⟩ false = some code ∧ idx < 2 ^ 16 ∧ 0x3000 ≤ idx ∧ idx < 0x6800 ∧ idx ≠ 0x4000 ∧ canonIdx idx =
          idx ∧ s.til.mailbox.all (fun m => m.taken) = true) :=
  ⟨⟨win 2, 0x4403, 5, 7, 7, obj1 0x4403 5, planned1 (st []), by decide +kernel⟩,
   ⟨win 2, 0x4403, 5, 7, 7, obj1 0x4403 5, planned1 (st []), by decide +kernel⟩,
   ⟨win 0, 0x3402, 2, 3, 7, obj1 0x3402 2, (st []).putShadow (okey 0 0x3402 2) 4, by decide +kernel⟩,
   ⟨win 0, 0x3402, 2, 3, 4, obj1 0x3402 2, (st []).putShadow (okey 0 0x3402 2) 7, by decide +kernel⟩,
   ⟨win 0, 0x3402, 2, 3, 4, obj1 0x3402 2, (st []).putShadow (okey 0 0x3402 2) 7, by decide +kernel⟩,
   ⟨win 3, 0x4403, 5, 7, codeNoWriteAccess, planned1 (st []), by decide +kernel⟩⟩

/-- States and operands that meet the premises of StatusAndStoredValuesFollow, clause by clause. -/
theorem wit_StatusAndStoredValuesFollow :
    (∃ (t : Nat) (part : Nat) (idx : Nat) (sub : Nat) (m : StatusMeta) (n : Nat) (s : State), s.inReset = false ∧
          s.isStatus idx sub = true ∧ s.statusMeta (okey part (canonIdx idx) sub) = some m ∧ m.pend = true ∧ statusRate
          s.cfg (okey part (canonIdx idx) sub) = .interval n ∧ m.last + max n 1000 ≤ max s.now t) ∧
    (∃ (ini : Ini) (mask : Word) (w : Word) (s : State), s.inReset = false ∧ s.takes ⟨ini, 0, 0x1120, 2, mask⟩ w) ∧
    (∃ (ini : Ini) (mask : Word) (w : Word) (s : State), s.inReset = false ∧ s.takes ⟨ini, 0, 0x1128, 1, mask⟩ w) ∧
    (∃ (ini : Ini) (mask : Word) (w : Word) (s : State), s.inReset = false ∧ s.takes ⟨ini, 0, 0x1120, 1, mask⟩ w ∧
          s.dict.store = none) ∧
    (∃ (ini : Ini) (mask : Word) (w : Word) (s : State), s.inReset = false ∧ s.takes ⟨ini, 0, 0x1120, 1, mask⟩ w ∧
          s.dict.store.isSome = true) ∧
    (∃ (x : StoreOp) (s : State), s.inReset = false ∧ s.dict.store = some x ∧ s.edgeUp = true ∧ s.til.reqs = []) ∧
    (∃ (x : StoreOp) (s : State), s.inReset = false ∧ s.dict.store = some x ∧ s.til.reqs = [] ∧ x.part < 16) :=
  ⟨⟨20000000, 0, 0x3430, 0, ⟨okey 0 0x3430 0, 0, true, 4, 0⟩, 10000000, ((st []).setFlag (okey 0 0x3430 0) 2).setFlag
          (okey 0 0x3430 0) 3, by decide +kernel⟩,
   ⟨win 0, 1, 1, { (st []) with stored := [(okey 0 0x1020 2, 1)] }, by decide +kernel⟩,
   ⟨win 0, 4, 4, st [(0x1128, 1, 2)], by decide +kernel⟩,
   ⟨win 0, 1, 1, st [], by decide +kernel⟩,
   ⟨win 0, 1, 1, (let s := st []; { s with dict := { s.dict with store := some ⟨1, 0, [], []⟩ } }), by decide +kernel⟩,
   ⟨⟨1, 0, [(okey 0 0x1020 2, 1)], []⟩,
       (let s := st []; { s with dict := { s.dict with store := some ⟨1, 0, [(okey 0 0x1020 2, 1)], []⟩ } }),
          by decide +kernel⟩,
   ⟨⟨1, 0, [(okey 0 0x1020 2, 1)], []⟩,
       (let s := st []; { s with dict := { s.dict with store := some ⟨1, 0, [(okey 0 0x1020 2, 1)], []⟩ } }),
          by decide +kernel⟩⟩

/-- States and operands that meet the premises of HalvesSnapshotsAndPorts, clause by clause. -/
theorem wit_HalvesSnapshotsAndPorts :
    (∃ (t : Nat) (ini : Ini) (idx : Nat) (sub : Nat) (x : Nat) (s : State), s.inReset = false ∧ s.wideSlot idx sub = true
          ∧ (s.advance t).slotRead ini idx sub = (s.advance t, x)) ∧
    (∃ (ini : Ini) (w0 : Nat) (idx : Nat) (sub : Nat) (z : HalfLatch) (s : State), s.inReset = false ∧ s.wideSlot idx sub
          = true ∧ latchOf s.dict.readLatches ini = some z ∧ z.slot = latchSlot w0 idx sub) ∧
    (∃ (idx : Nat) (sub : Nat) (s : State), s.inReset = false ∧ s.wideSlot idx sub = true ∧ s.til.mailbox.all (fun m =>
          m.taken) = true) ∧
    (∃ (ini : Ini) (w0 : Nat) (idx : Nat) (sub : Nat) (z : HalfLatch) (s : State), s.inReset = false ∧ s.wideSlot idx sub
          = true ∧ latchOf s.dict.writeLatches ini = some z ∧ z.slot = latchSlot w0 idx sub) ∧
    (∃ (ini : Ini) (idx : Nat) (sub : Nat) (s : State), s.inReset = false ∧ s.wideSlot idx sub = true ∧ latchOf
          s.dict.writeLatches ini = none ∧ s.til.mailbox.all (fun m => m.taken) = true) ∧
    (∃ (ini : Ini) (set : Nat) (v : Word) (w : Word) (s : State), s.inReset = false ∧ set < 16 ∧ s.takes ⟨ini, 0, 0x11C0 +
          set, 1, v⟩ w) ∧
    (∃ (ini : Ini) (set : Nat) (v : Word) (w : Word) (s : State), s.inReset = false ∧ set < 16 ∧ s.takes ⟨ini, 0, 0x11C0 +
          set, 1, v⟩ w) ∧
    (∃ (set : Nat) (s : State), s.inReset = false ∧ set < 16 ∧ set ∈ s.dict.deferred ∧ s.til.reqs = []) ∧
    (∃ (n : Nat) (k : Nat) (m : Nat) (s : State), s.get (0x11C0 + n) (4 + k) = m ∧ m ≠ 0) ∧
    (∃ (n : Nat) (k : Nat), n < 16 ∧ k < 32) ∧
    (∃ (ini : Ini) (v : Word) (w : Word) (o : Obj) (s : State), s.inReset = false ∧ ini.part < 16 ∧ s.takes ⟨ini, 0,
          0x1130, 1, v⟩ w ∧ findObj s.cfg (canonIdx (w.toNat / 256)) (w.toNat % 256) = some o ∧ o.row.ty.isBlock = true) ∧
    (∃ (ini : Ini) (v : Word) (w : Word) (s : State), s.inReset = false ∧ ini.part < 16 ∧ s.takes ⟨ini, 0, 0x1130, 1, v⟩ w
          ∧ findObj s.cfg (canonIdx (w.toNat / 256)) (w.toNat % 256) = none) ∧
    (∃ (ini : Ini) (x : PortSel) (o : Obj) (s : State), s.inReset = false ∧ s.portSel ini.part = some x ∧ findObj s.cfg
          (keyIdx x.key) (keySub x.key) = some o ∧ x.ended = false ∧ o.row.acc ≠ .wo ∧ s.hasRight ini false o (keyIdx
          x.key) (keySub x.key) = true ∧ s.blockGen o x.key = x.gen ∧ rxUart x.key = none) ∧
    (∃ (ini : Ini) (x : PortSel) (o : Obj) (s : State), s.inReset = false ∧ s.portSel ini.part = some x ∧ findObj s.cfg
          (keyIdx x.key) (keySub x.key) = some o ∧ x.ended = false ∧ o.row.acc ≠ .wo ∧ s.hasRight ini false o (keyIdx
          x.key) (keySub x.key) = true ∧ s.blockGen o x.key ≠ x.gen) ∧
    (∃ (ini : Ini) (v : Word) (w : Word) (x : PortSel) (s : State), s.inReset = false ∧ s.takes ⟨ini, 0, 0x1130, 3, v⟩ w ∧
          s.portSel ini.part = some x ∧ s.dataRefusal ini = none ∧ x.staged.length = x.offset) ∧
    (∃ (ini : Ini) (v : Word) (w : Word) (env : Env) (x : PortSel) (o : Obj) (s : State), s.inReset = false ∧ s.takes
          ⟨ini, 0, 0x1130, 4, v⟩ w ∧ s.portObj ini.part = some (x, o) ∧ s.stagedOwn ini env w.toNat = none ∧ o.row.acc ≠
          .wo ∧ 0x4400 ≤ keyIdx x.key ∧ keyIdx x.key < 0x7000) :=
  ⟨⟨100, win 0, 0x4000, 3, 2 ^ 33 + 1, st [(0x4000, 3, 2 ^ 33 + 1)], by decide +kernel⟩,
   ⟨win 0, 0, 0x4000, 3, ⟨0, false, 0x400003, 5⟩,
       (let s := st []; { s with dict := { s.dict with readLatches := [⟨0, false, 0x400003, 5⟩] } }), by decide +kernel⟩,
   ⟨0x4000, 3, st [], by decide +kernel⟩,
   ⟨win 0, 0, 0x4000, 3, ⟨0, false, 0x400003, 5⟩,
       (let s := st []; { s with dict := { s.dict with writeLatches := [⟨0, false, 0x400003, 5⟩] } }), by decide +kernel⟩,
   ⟨win 0, 0x4000, 3, st [], by decide +kernel⟩,
   ⟨win 2, 2, 1, 1, st [], by decide +kernel⟩,
   ⟨win 2, 2, 1, 1, st [], by decide +kernel⟩,
   ⟨2, (let s := st []; { s with dict := { s.dict with deferred := [2] } }), by decide +kernel⟩,
   ⟨0, 31, 0x102001, st [(0x11C0, 35, 0x102001)], by decide +kernel⟩,
   ⟨0, 31, by decide +kernel⟩,
   ⟨win 0, 0x208000, 0x208000, obj1 0x2080 0, st [], by decide +kernel⟩,
   ⟨win 0, 0xFFFF00, 0xFFFF00, st [], by decide +kernel⟩,
   ⟨win 0, ⟨0, okey 0 0x2080 0, 16, 0, false, []⟩, obj1 0x2080 0,
       (let s := st []; { s with dict := { s.dict with ports := [⟨0, okey 0 0x2080 0, 16, 0, false, []⟩] } }),
          by decide +kernel⟩,
   ⟨win 0, ⟨0, okey 0 0x4001 0, 16, 7, false, []⟩, obj1 0x4001 0,
       (let s := st []; { s with dict := { s.dict with ports := [⟨0, okey 0 0x4001 0, 16, 7, false, []⟩] } }),
          by decide +kernel⟩,
   ⟨win 0, 7, 7, ⟨0, okey 0 0x4001 0, 0, 0, false, []⟩,
       (let s := st []; { s with dict := { s.dict with ports := [⟨0, okey 0 0x4001 0, 0, 0, false, []⟩] } }),
          by decide +kernel⟩,
   ⟨win 0, 2048, 2048, env0, ⟨0, okey 0 0x500D 0, 8, 0, false, List.replicate 2048 1⟩, obj1 0x500D 0,
       (let s := planned1 (st []);
          { s with dict := { s.dict with ports := [⟨0, okey 0 0x500D 0, 8, 0, false, List.replicate 2048 1⟩] } }),
          by decide +kernel⟩⟩

/-- States and operands that meet the premises of CommitsApply, clause by clause. -/
theorem wit_CommitsApply :
    (∃ (t : Nat) (ini : Ini) (mask : Word) (w : Word) (o : Obj) (s : State), s.inReset = false ∧ s.accepts ⟨ini, 0,
          0x1100, 1, mask⟩ = some (o, w) ∧ (s.advance t).commitRefusal ini.part w.toNat (s.getB ini.part 0x1100 2) (s.getB
          ini.part 0x1100 3) = none) ∧
    (∃ (t : Nat) (ini : Ini) (mask : Word) (w : Word) (code : Nat) (s : State), s.inReset = false ∧ ini.part < 16 ∧
          s.takes ⟨ini, 0, 0x1100, 1, mask⟩ w ∧ w = mask ∧ (s.advance t).commitRefusal ini.part w.toNat (s.getB ini.part
          0x1100 2) (s.getB ini.part 0x1100 3) = some code) ∧
    (∃ (part : Nat) (mode : Nat) (at0 : Nat) (g : Nat) (s : State), g < 61 ∧ g ≠ 0 ∧ g ≠ 57 ∧ s.dict.sets = [] ∧
          s.checkSet [s.newSet part mode at0 none g] (s.newSet part mode at0 none g) = none ∧
          ({ s with dict := { s.dict with nextCommit := s.dict.nextCommit + 1 } } : State).checkSet [s.newSet part mode
          at0 none g] (s.newSet part mode at0 none g) = none) ∧
    (∃ (x : PendingSet) (k : Nat) (s : State), (x.vals.map (fun e => e.1)).Nodup ∧ x.vals.all (fun e => s.keyGroup e.1 ==
          x.group) = true ∧ s.keyGroup k = x.group) ∧
    (∃ (x : PendingSet) (s : State), x.align = false ∧ x.group < 61 ∧ x.group ≠ 57 ∧ s.checkSet [x] x = none) ∧
    (∃ (s : State), s.inReset = false ∧ s.dict.sets.any (fun x => x.armed && x.onPin) = true) ∧
    (∃ (s : State), s.inReset = false ∧ s.dict.sets.any (fun x => x.armed && x.onPin) = false) ∧
    (∃ (s : State), s.inReset = false) ∧
    (∃ (p : PendingSet → Bool) (s : State), (s.dict.sets.map (fun x => if x.armed && p x then { x with armed := false }
          else x)).all (fun x => x.align || !x.ready || s.boundaryOf x.group != 1) = true) ∧
    (∃ (s : State), s.inReset = false) ∧
    (∃ (s : State), s.inReset = false ∧ s.get 0x9060 3 ≠ 0) :=
  ⟨⟨100, win 2, 2 ^ 20, 2 ^ 20, obj1 0x1100 1, planned1 (st [(0x1154, 3, 4)]), by decide +kernel⟩,
   ⟨100, win 2, 2 ^ 20, 2 ^ 20, codeNoCommitRight, planned1 (st [(0x1154, 3, 0)]), by decide +kernel⟩,
   ⟨2, 0, 0, 20, planned1 (st []), by decide +kernel⟩,
   ⟨⟨21, 2, 1, false, false, false, none, none, [(okey 0 0x4403 5, 7)], [], none, 0, false, []⟩, okey 0 0x4403 5, planned1
          (st []), by decide +kernel⟩,
   ⟨⟨21, 2, 1, false, false, false, none, none, [(okey 0 0x4403 5, 7)], [], none, 0, false, []⟩, planned1 (st []),
          by decide +kernel⟩,
   ⟨
       (let s := st [];
          { s with dict := { s.dict with sets := [⟨20, 2, 1, false, true, true, none, none, [], [], none, 0, false, []⟩] } }),
          by decide +kernel⟩,
   ⟨st [], by decide +kernel⟩,
   ⟨st [(0x9700, 1, 16)], by decide +kernel⟩,
   ⟨(fun x => x.onPin),
       (let s := st [];
          { s with dict := { s.dict with sets := [⟨20, 2, 1, false, true, true, none, none, [], [], none, 0, false, []⟩] } }),
          by decide +kernel⟩,
   ⟨st [], by decide +kernel⟩,
   ⟨st [(0x9060, 3, 1)], by decide +kernel⟩⟩

/-- States and operands that meet the premises of TilsolRequestsAreTaken, clause by clause. -/
theorem wit_TilsolRequestsAreTaken :
    (∃ (b : Nat) (f : TilFrame) (s : State), s.tilOpens b f ∧ f.head.op = 1) ∧
    (∃ (b : Nat) (f : TilFrame) (s : State), s.tilOpens b f ∧ f.head.op = 3) ∧
    (∃ (b : Nat) (f : TilFrame) (s : State), s.tilOpens b f ∧ f.head.op = 5) ∧
    (∃ (b : Nat) (f : TilFrame) (s : State), s.tilOpens b f ∧ f.head.op = 7 ∧ f.head.via ≠ 3) ∧
    (∃ (b : Nat) (f : TilFrame) (s : State), s.tilOpens b f ∧ f.head.op = 8) ∧
    (∃ (b : Nat) (f : TilFrame) (s : State), s.tilOpens b f ∧ f.head.op = 9) ∧
    (∃ (b : Nat) (f : TilFrame) (s : State), s.tilOpens b f ∧ f.head.op % 16 = 2 ∧ f.head.op / 16 < 4) ∧
    (∃ (b : Nat) (f : TilFrame) (s : State), s.tilOpens b f ∧ f.head.op = 4) ∧
    (∃ (b : Nat) (f : TilFrame) (s : State), s.tilOpens b f ∧ f.head.op = 6) ∧
    (∃ (b : Nat) (f : TilFrame) (s : State), s.tilOpens b f ∧ f.head.op < 128 ∧ ((1 ≤ opcodeOf f.head ∧ opcodeOf f.head ≤
          9) → windowOf f.head ≠ 0 ∧ (opcodeOf f.head = 2 → 4 ≤ windowOf f.head))) ∧
    (∃ (b : Nat) (f : TilFrame) (s : State), s.tilOpens b f ∧ f.head.op = 2 ∧ f.head.index = 0x2101 ∧ f.head.sub = 1) ∧
    (∃ (b : Nat) (f : TilFrame) (d : TilDone), d.st.plannerUp = true ∧ d.key = 0 ∧ f.head.via = 3 ∧ d.st.bindingFor
          f.head.client = some b) ∧
    (∃ (b : Nat) (f : TilFrame) (d : TilDone), d.st.plannerUp = true ∧ d.key = 0 ∧ f.head.via = 0 ∧ d.st.bindingFor
          f.head.client = some b ∧ d.st.pdOn 18 = true ∧ d.st.get (canIdx f.head.port) 1 ≠ 0 ∧ d.st.get (canIdx
          f.head.port + 1) 1 ≠ 3) ∧
    (∃ (d : TilDone), d.st.plannerUp = true ∧ d.key ≠ 0 ∧ isRefusal d.status = false) ∧
    (∃ (b : Nat) (h : TilHead), b < 64 ∧ h.counter ≤ counterMax) ∧
    (∃ (f : TilFrame) (s : State), s.inReset = false ∧ s.plannerUp = true ∧ f.head.op = 1 ∧ f.head.via ≠ 2 ∧ f.head.via ≠
          3 ∧ s.heard f = true ∧ s.bindingFor f.head.client = none ∧ s.til.mailbox.all (fun m => m.taken) = true) ∧
    (∃ (b : Nat) (f : TilFrame) (s : State), s.inReset = false ∧ s.plannerUp = true ∧ f.head.op = 1 ∧ f.head.via ≠ 2 ∧
          f.head.via ≠ 3 ∧ s.heard f = true ∧ s.bindingFor f.head.client = some b ∧ s.verifies b f = false ∧
          s.til.mailbox.all (fun m => m.taken) = true) ∧
    (∃ (b : Nat) (f : TilFrame) (s : State), s.inReset = false ∧ s.plannerUp = true ∧ f.head.op = 1 ∧ f.head.via ≠ 2 ∧
          f.head.via ≠ 3 ∧ s.heard f = true ∧ s.bindingFor f.head.client = some b ∧ s.verifies b f = true ∧ s.get (0x1200
          + b) 5 < counterMax ∧ f.head.counter ≤ s.get (0x1200 + b) 5 ∧ s.til.cached.all (fun x => x.binding != b ||
          x.counter != f.head.counter) = true ∧ s.til.mailbox.all (fun m => m.taken) = true) ∧
    (∃ (b : Nat) (f : TilFrame) (h : TilHead) (status : Nat) (payload : List Byte) (s : State), s.inReset = false ∧
          s.plannerUp = true ∧ f.head.op = 1 ∧ f.head.via ≠ 2 ∧ f.head.via ≠ 3 ∧ s.heard f = true ∧ s.bindingFor
          f.head.client = some b ∧ s.verifies b f = true ∧ s.get (0x1200 + b) 5 < counterMax ∧ f.head.counter ≤ s.get
          (0x1200 + b) 5 ∧ s.til.cached.find? (fun x => x.binding == b && x.counter == f.head.counter) = some ⟨b,
          f.head.counter, some (h, status, payload)⟩) ∧
    (∃ (b : Nat) (f : TilFrame) (s : State), s.inReset = false ∧ s.plannerUp = true ∧ f.head.op = 1 ∧ f.head.via ≠ 2 ∧
          f.head.via ≠ 3 ∧ s.heard f = true ∧ s.bindingFor f.head.client = some b ∧ s.verifies b f = true ∧ counterMax ≤
          s.get (0x1200 + b) 5) :=
  ⟨⟨3, ask 1 0x1000 1 [], bound [], by decide +kernel⟩,
   ⟨3, ask 3 0x2080 0 (List.replicate 8 0), bound [], by decide +kernel⟩,
   ⟨3, ask 5 0 0 (List.replicate 20 0), bound [], by decide +kernel⟩,
   ⟨3, ask 7 0x1000 1 [0, 100, 0, 0], bound [], by decide +kernel⟩,
   ⟨3, ask 8 0 0 [255], bound [], by decide +kernel⟩,
   ⟨3, ask 9 0 0 [77], bound [], by decide +kernel⟩,
   ⟨3, ask 0x32 0x1000 1 [1], bound [], by decide +kernel⟩,
   ⟨3, ask 4 0x4001 0 (List.replicate 9 1), bound [], by decide +kernel⟩,
   ⟨3, ask 6 0x11C0 0 [], bound [], by decide +kernel⟩,
   ⟨3, ask 0x0A 0 0 [], bound [], by decide +kernel⟩,
   ⟨3, ask 2 0x2101 1 [1], bound [], by decide +kernel⟩,
   ⟨3, { (ask 1 0x1000 1 []) with head := ⟨3, 2, 1, 9, 77, 0x1000, 1, 6⟩ }, ⟨bound [], 0, [7], 0, true⟩, by decide +kernel⟩,
   ⟨3, { (ask 1 0x1000 1 []) with head := ⟨0, 2, 1, 9, 77, 0x1000, 1, 6⟩ }, ⟨bound [(canIdx 2, 1, 1), (canIdx 2 + 1, 1,
          1)], 0, [7], 0, true⟩, by decide +kernel⟩,
   ⟨⟨bound [], 0, [7], 5, true⟩, by decide +kernel⟩,
   ⟨63, ⟨4, 0, 1, 9, 77, 0x1000, 1, 4294967295⟩, by decide +kernel⟩,
   ⟨⟨⟨4, 0, 1, 8, 77, 0x1000, 1, 6⟩, 255, 0, [], [], 0⟩, bound [], by decide +kernel⟩,
   ⟨3, ⟨⟨4, 0, 1, 9, 77, 0x1000, 1, 6⟩, 255, 0, [], [], 0⟩, bound [], by decide +kernel⟩,
   ⟨3, again [], bound [], by decide +kernel⟩,
   ⟨3, again [], ⟨4, 0, 1, 9, 77, 0x1000, 1, 5⟩, 0, [1],
       (let s := bound [];
          { s with til := { s.til with cached := [⟨3, 5, some (⟨4, 0, 1, 9, 77, 0x1000, 1, 5⟩, 0, [1])⟩] } }),
          by decide +kernel⟩,
   ⟨3, again [], bound [(0x1203, 5, 2 ^ 32 - 1)], by decide +kernel⟩⟩

/-- States and operands that meet the premises of TilsolOperationsAnswer, clause by clause. -/
theorem wit_TilsolOperationsAnswer :
    (∃ (ini : Ini) (f : TilFrame) (o : Obj) (s : State), f.payload = [] ∧ findObj s.cfg (canonIdx f.head.index) f.head.sub
          = some o ∧ s.hasRight ini false o (canonIdx f.head.index) f.head.sub = true ∧ o.row.ty.isBlock = false) ∧
    (∃ (ini : Ini) (f : TilFrame) (o : Obj) (off : Nat) (gen : Nat) (s : State), f.payload = leBytes 4 off ++ leBytes 4
          gen ∧ off < 2 ^ 32 ∧ gen < 2 ^ 32 ∧ findObj s.cfg (canonIdx f.head.index) f.head.sub = some o ∧ s.hasRight ini
          false o (canonIdx f.head.index) f.head.sub = true ∧ o.row.ty.isBlock = true ∧ rxUart (okey (o.bankFor ini.part)
          (canonIdx f.head.index) f.head.sub) = none ∧ ((off = 0 ∨ gen = s.blockGen o (okey (o.bankFor ini.part) (canonIdx
          f.head.index) f.head.sub)))) ∧
    (∃ (ini : Ini) (b : Nat) (f : TilFrame) (o : Obj) (data : List Byte) (total : Nat) (s : State), f.payload = leBytes 4
          0 ++ leBytes 4 total ++ data ∧ total < 2 ^ 32 ∧ data.length < total ∧ findObj s.cfg (canonIdx f.head.index)
          f.head.sub = some o ∧ o.row.ty.isBlock = true ∧ s.xferOf b (okey (o.bankFor ini.part) (canonIdx f.head.index)
          f.head.sub) = none ∧ s.openRefusal ini f o b (okey (o.bankFor ini.part) (canonIdx f.head.index) f.head.sub)
          total = none ∧ s.til.xfers.length < 16) ∧
    (∃ (ini : Ini) (b : Nat) (f : TilFrame) (o : Obj) (data : List Byte) (off : Nat) (x : TilXfer) (s : State), f.payload
          = leBytes 4 off ++ leBytes 4 x.total ++ data ∧ off < 2 ^ 32 ∧ x.total < 2 ^ 32 ∧ findObj s.cfg (canonIdx
          f.head.index) f.head.sub = some o ∧ o.row.ty.isBlock = true ∧ s.xferOf b (okey (o.bankFor ini.part) (canonIdx
          f.head.index) f.head.sub) = some x) ∧
    (∃ (ini : Ini) (f : TilFrame) (o : Obj) (ms : Nat) (sev : Nat) (s : State), f.payload = [0] ++ leBytes 2 ms ++ [byteOf
          sev] ∧ ms < 2 ^ 16 ∧ sev < 256 ∧ findObj s.cfg (canonIdx f.head.index) f.head.sub = some o ∧ s.hasRight ini
          false o (canonIdx f.head.index) f.head.sub = true ∧ o.row.ty.isBlock = false ∧ s.til.subs = []) ∧
    (∃ (f : TilFrame), f.payload = [255]) ∧
    (∃ (b : Nat) (tag : Nat) (f : TilFrame) (x : TilXfer) (s : State), f.payload = [byteOf tag] ∧ tag < 256 ∧
          s.til.reqs.all (fun r => r.binding != b || r.head.tag != tag || r.started) = true ∧ s.til.xfers.find? (fun x =>
          x.binding == b && x.tag == tag) = some x) ∧
    (∃ (b : Nat) (tag : Nat) (f : TilFrame) (s : State), f.payload = [byteOf tag] ∧ tag < 256 ∧ s.til.reqs.all (fun r =>
          r.binding != b || r.head.tag != tag || r.started) = true ∧ s.til.xfers.all (fun x => x.binding != b || x.tag !=
          tag) = true) :=
  ⟨⟨⟨2, false, .tilsol 3⟩, ask 1 0x1020 1 [], obj1 0x1020 1, bound [], by decide +kernel⟩,
   ⟨⟨0, false, .tilsol 3⟩, ask 3 0x2080 0 (leBytes 4 5 ++ leBytes 4 0), obj1 0x2080 0, 5, 0, bound [], by decide +kernel⟩,
   ⟨⟨0, false, .tilsol 3⟩, 3, ask 4 0x4001 0 (leBytes 4 0 ++ leBytes 4 3688 ++ [1, 2]), obj1 0x4001 0, [1, 2], 3688, bound
          [], by decide +kernel⟩,
   ⟨⟨0, false, .tilsol 3⟩, 3, ask 4 0x4001 0 (leBytes 4 2 ++ leBytes 4 3688 ++ [1, 2]), obj1 0x4001 0, [1, 2], 2, ⟨3, 7,
          okey 0 0x4001 0, 3688, [8, 9], 0, 4⟩,
       (let s := bound []; { s with til := { s.til with xfers := [⟨3, 7, okey 0 0x4001 0, 3688, [8, 9], 0, 4⟩] } }),
          by decide +kernel⟩,
   ⟨⟨2, false, .tilsol 3⟩, ask 7 0x1020 1 ([0] ++ leBytes 2 60001 ++ [1]), obj1 0x1020 1, 60001, 1, bound [],
          by decide +kernel⟩,
   ⟨ask 8 0 0 [255], by decide +kernel⟩,
   ⟨3, 7, ask 9 0 0 [7], ⟨3, 7, okey 0 0x4001 0, 3688, [8, 9], 0, 4⟩,
       (let s := bound []; { s with til := { s.til with xfers := [⟨3, 7, okey 0 0x4001 0, 3688, [8, 9], 0, 4⟩] } }),
          by decide +kernel⟩,
   ⟨3, 7, ask 9 0 0 [7], bound [], by decide +kernel⟩⟩

/-- States and operands that meet the premises of TilsolServicesRun, clause by clause. -/
theorem wit_TilsolServicesRun :
    (∃ (ini : Ini) (v : Word) (w : Word) (s : State), s.inReset = false ∧ s.takes ⟨ini, 0, 0x1060, 3, v⟩ w ∧ s.mailRefusal
          ⟨ini, 0, 0x1060, 3, v⟩ = none) ∧
    (∃ (m : Mail) (s : State), m.part < 16 ∧ m.taken = false ∧ s.til.mailbox = [m] ∧ s.plannerUp = true ∧ bit (mailFrame
          m).head.op 7 = false ∧ (((mailFrame m).route = 255 ∨ (mailFrame m).route = s.selfNode)) ∧ s.bindingFor
          (mailFrame m).head.client = none) ∧
    (∃ (node : Nat) (client : Nat) (tag : Nat) (data : List Byte) (r : TilReq) (s : State), s.inReset = false ∧ r.head.via
          = 3 ∧ 8 ≤ data.length ∧ s.til.reqs.find? (fun r => r.node == some node && r.head.client == client && r.head.tag
          == tag) = some r) ∧
    (∃ (s : State), s.inReset = false) ∧
    (∃ (t : Nat) (binding : Nat) (sub : Nat) (can : Nat) (u : TilSub) (o : Obj) (v : Word) (s : State), s.inReset = false
          ∧ s.plannerUp = true ∧ binding < 64 ∧ s.subOf binding sub = some u ∧ u.kind = 0 ∧ findObj s.cfg (keyIdx u.key)
          (keySub u.key) = some o ∧ (s.advance t).readAt (s.clientIni binding) (keyIdx u.key) (keySub u.key) = (s.advance
          t, v, 0) ∧ v ≠ u.lastValue ∧ u.lastPush.elim true (fun a => decide (a + u.intervalMs * 1000000 ≤ max s.now t)) =
          true ∧ s.get (0x1200 + binding) 6 + 1 < counterMax ∧ mget (2, 0) binding s.til.ways = (0, can) ∧ s.pdOn 18 =
          true ∧ s.get (canIdx can) 1 ≠ 0 ∧ s.get (canIdx can + 1) 1 ≠ 3) ∧
    (∃ (s : State), s.inReset = false ∧ s.plannerUp = true ∧ s.til.hbLast = none ∧ s.get 0x1040 6 = 1 ∧ s.til.bcastStopped
          = false ∧ s.til.bcast + 1 < 0xF0000000 ∧ s.pdOn 18 = true ∧ s.get (canIdx 0) 1 ≠ 0 ∧ s.get (canIdx 0 + 1) 1 ≠ 3
          ∧ s.get (canIdx 1) 1 = 0 ∧ s.get (canIdx 2) 1 = 0 ∧ s.get (canIdx 3) 1 = 0) ∧
    (∃ (t : Nat) (a : Nat) (s : State), s.inReset = false ∧ s.plannerUp = true ∧ s.til.hbLast = some a ∧ max s.now t < a +
          s.get 0x1040 5 * 1000000) ∧
    (∃ (t : Nat) (transport : Nat) (u : State) (data : List Byte) (s : State), s.inReset = false ∧ s.plannerUp = true ∧
          s.ev.emcyLast.all (fun x => x.1 != transport || decide (x.2 + 10000000 ≤ max s.now t)) = true ∧
          s.til.bcastStopped = false ∧ (s.advance t).deliver (.emcy transport) 0 = (u, some data)) ∧
    (∃ (binding : Nat) (s : State), s.inReset = false ∧ s.noLock 0 = false ∧ binding < 64 ∧ binding ∈ s.til.rekeying ∧
          s.markhorUp = true ∧ s.inSlot 3 binding = true ∧ s.til.reqs = [] ∧ s.sec.challenges = []) :=
  ⟨⟨⟨2, false, .pf⟩, 40, 40, bound [], by decide +kernel⟩,
   ⟨⟨2, [255], false⟩,
       (let s := bound []; { s with til := { s.til with mailbox := [⟨2, [255], false⟩] } }), by decide +kernel⟩,
   ⟨7, 9, 77, List.replicate 8 1, ⟨64, ⟨3, 2, 1, 9, 77, 0x1000, 1, 6⟩, some 7, 0, [], true⟩,
       (let s := bound [];
          { s with til := { s.til with reqs := [⟨64, ⟨3, 2, 1, 9, 77, 0x1000, 1, 6⟩, some 7, 0, [], true⟩] } }),
          by decide +kernel⟩,
   ⟨bound [], by decide +kernel⟩,
   ⟨100, 3, 0, 2, ⟨768, 3, 0, okey 0 0x1020 1, 10, 0, 99, none, 77⟩, obj1 0x1020 1, ((bound []).readAt ⟨2, false, .tilsol
          3⟩ 0x1020 1).2.1,
       (let s := bound [(canIdx 2, 1, 1), (canIdx 2 + 1, 1, 1)];
          { s with til := { s.til with subs := [⟨768, 3, 0, okey 0 0x1020 1, 10, 0, 99, none, 77⟩], ways := [(3, (0, 2))] } }),
          by decide +kernel⟩,
   ⟨bound [(0x1040, 6, 1), (canIdx 0, 1, 1), (canIdx 0 + 1, 1, 1)], by decide +kernel⟩,
   ⟨100, 50, (let s := bound [(0x1040, 5, 100)]; { s with til := { s.til with hbLast := some 50 } }), by decide +kernel⟩,
   ⟨100, 2, ((emcy1.advance 100).deliver (.emcy 2) 0).1, ((emcy1.advance 100).deliver (.emcy 2) 0).2.getD [], emcy1,
          by decide +kernel⟩,
   ⟨3, (let s := bound []; ({ s with til := { s.til with rekeying := [3] } } : State).post 3 3), by decide +kernel⟩⟩

/-- States and operands that meet the premises of PlanActionsBegin, clause by clause. -/
theorem wit_PlanActionsBegin :
    (∃ (ini : Ini) (w : Word) (s : State), s.inReset = false ∧ s.takes ⟨ini, 0, 0x4000, 1, 1⟩ w ∧ w.toNat = 1 ∧
          s.actionRefusal 1 = none) ∧
    (∃ (ini : Ini) (w : Word) (s : State), s.inReset = false ∧ s.takes ⟨ini, 0, 0x4000, 1, 2⟩ w ∧ w.toNat = 2 ∧
          s.actionRefusal 2 = none) ∧
    (∃ (ini : Ini) (w : Word) (s : State), s.inReset = false ∧ s.takes ⟨ini, 0, 0x4000, 1, 3⟩ w ∧ w.toNat = 3 ∧
          s.actionRefusal 3 = none) ∧
    (∃ (ini : Ini) (w : Word) (s : State), s.inReset = false ∧ s.takes ⟨ini, 0, 0x4000, 1, 4⟩ w ∧ w.toNat = 4 ∧
          s.actionRefusal 4 = none) ∧
    (∃ (t : Nat) (ini : Ini) (w : Word) (s : State), s.inReset = false ∧ s.takes ⟨ini, 0, 0x4000, 1, 5⟩ w ∧ w.toNat = 5 ∧
          (s.advance t).actionRefusal 5 = none) ∧
    (∃ (ini : Ini) (w : Word) (s : State), s.inReset = false ∧ s.takes ⟨ini, 0, 0x4000, 1, 6⟩ w ∧ w.toNat = 6 ∧
          s.actionRefusal 6 = none) ∧
    (∃ (ini : Ini) (w : Word) (s : State), s.inReset = false ∧ s.takes ⟨ini, 0, 0x4000, 1, 7⟩ w ∧ w.toNat = 7 ∧
          s.actionRefusal 7 = none) ∧
    (∃ (ini : Ini) (w : Word) (s : State), s.inReset = false ∧ s.takes ⟨ini, 0, 0x4000, 1, 8⟩ w ∧ w.toNat = 8 ∧
          s.actionRefusal 8 = none) ∧
    (∃ (t : Nat) (ini : Ini) (w : Word) (code : Nat) (s : State), s.inReset = false ∧ s.takes ⟨ini, 0, 0x4000, 1, 5⟩ w ∧
          w.toNat = 5 ∧ (s.advance t).actionRefusal 5 = some code) :=
  ⟨⟨win 0, 1, staged (image1 0) 3 [], by decide +kernel⟩,
   ⟨win 0, 2, staged (image1 0) 3 [(0x4000, 2, 1)], by decide +kernel⟩,
   ⟨win 0, 3,
       (let s := staged [] 0 [(0x4000, 2, 1)]; { s with plan := { s.plan with slots := [(1, image1 0)] } }),
          by decide +kernel⟩,
   ⟨win 0, 4,
       (let s := staged (image1 0) 3 []; { s with plan := { s.plan with valid := some { plan1 with kind := 0 } } }),
          by decide +kernel⟩,
   ⟨100, win 0, 5, staged (image1 0) 5 [(0x4000, 3, 1000000000), (0x9060, 3, 1)], by decide +kernel⟩,
   ⟨win 0, 6, staged (image1 0) 3 [], by decide +kernel⟩,
   ⟨win 0, 7, staged (image1 0) 3 [(0x4000, 2, 3)], by decide +kernel⟩,
   ⟨win 0, 8,
       (let s := staged (image1 0) 3 []; { s with plan := { s.plan with valid := some { plan1 with kind := 0 } } }),
          by decide +kernel⟩,
   ⟨100, win 0, 5, codeTimeInvalid, staged (image1 0) 5 [(0x4000, 3, 1000), (0x9060, 3, 1)], by decide +kernel⟩⟩

/-- States and operands that meet the premises of PlansAreValidatedAndPrepared, clause by clause. -/
theorem wit_PlansAreValidatedAndPrepared :
    (∃ (ini : Ini) (v : Word) (w : Word) (s : State), s.inReset = false ∧ s.takes ⟨ini, 0, 0x4002, 3, v⟩ w ∧
          s.stageRefusal = none) ∧
    (∃ (code : Nat) (off : Nat) (s : State), s.inReset = false ∧ s.planRuns = true ∧ s.planState = 2 ∧ code < 2 ^ 64 ∧ off
          < 2 ^ 64 ∧ s.noLock 0 = false ∧ s.planFault s.stagedImage = some (code, off)) ∧
    (∃ (ok : Bool) (code : Nat) (s : State), s.inReset = false ∧ s.planRuns = true ∧ s.planState = 2 ∧ code < 2 ^ 64 ∧
          s.noLock 0 = false ∧ s.planFault s.stagedImage = none ∧ s.markhorUp = true ∧ s.inSlot 1 0 = true ∧ s.planVerify
          s.stagedImage ok = some code) ∧
    (∃ (ok : Bool) (s : State), s.inReset = false ∧ s.planRuns = true ∧ s.planState = 2 ∧ s.planFault s.stagedImage = none
          ∧ s.markhorUp = true ∧ s.noLock 0 = false ∧ s.inSlot 1 0 = true ∧ s.planVerify s.stagedImage ok = none ∧
          s.plan.boot = false) ∧
    (∃ (s : State), s.inReset = false ∧ s.planRuns = true ∧ s.edgeUp = true ∧ s.plan.action = 2 ∧ s.plan.actionSlot < 4) ∧
    (∃ (s : State), s.inReset = false ∧ s.planRuns = true ∧ s.edgeUp = true ∧ s.plan.action = 3) ∧
    (∃ (s : State), s.inReset = false ∧ s.planRuns = true ∧ s.edgeUp = true ∧ s.plan.action = 7 ∧ s.plan.actionSlot < 4) ∧
    (∃ (s : State), s.inReset = false ∧ s.planRuns = true ∧ s.edgeUp = false ∧ ((s.plan.action = 2 ∨ s.plan.action = 3 ∨
          s.plan.action = 7))) ∧
    (∃ (t : Nat) (p : Plan) (s : State), s.inReset = false ∧ s.planRuns = true ∧ s.plan.valid = some p ∧ s.planState = 4 ∧
          (({ s with plan := { s.plan with boot := false } } : State).advance t).prepare p false = none) ∧
    (∃ (t : Nat) (p : Plan) (u : State) (x : Prepared) (s : State), s.inReset = false ∧ s.planRuns = true ∧ s.plan.valid =
          some p ∧ s.planState = 4 ∧ (({ s with plan := { s.plan with boot := false } } : State).advance t).prepare p
          false = some (u, x)) ∧
    (∃ (t : Nat) (s : State), s.inReset = false ∧ s.planRuns = true ∧ s.planState = 5 ∧ s.plan.readyUntil ≤ max s.now t) ∧
    (∃ (t : Nat) (ok : Bool) (p : Plan) (l : List FieldClamp) (u : State) (x : Prepared) (s : State), s.inReset = false ∧
          s.plannerUp = true ∧ s.plan.active = none ∧ s.get 0x9030 5 = 0 ∧ s.get 0x4000 8 < 4 ∧ s.slotImage (s.get 0x4000
          8) ≠ [] ∧ s.earlyPlan (s.slotImage (s.get 0x4000 8)) ok = some (p, l) ∧ (((s.advance t).fieldReport l).when
          (!l.isEmpty) (fun y => y.planFlag 1)).stageEarly.bind (fun y => y.prepare p true) = some (u, x)) ∧
    (∃ (ok : Bool) (s : State), s.inReset = false ∧ s.plannerUp = true ∧ s.plan.active = none ∧ s.get 0x9030 5 = 0 ∧ s.get
          0x4000 8 < 4 ∧ s.slotImage (s.get 0x4000 8) ≠ [] ∧ s.earlyPlan (s.slotImage (s.get 0x4000 8)) ok = none) :=
  ⟨⟨⟨0, false, .pf⟩, 1, 1, staged [] 0 [(0x4002, 2, 3688)], by decide +kernel⟩,
   ⟨codePlanStructure, 24, staged [1, 2, 3] 2 [], by decide +kernel⟩,
   ⟨false, codePlanSignature, (staged (image1 0) 2 []).post 1 0, by decide +kernel⟩,
   ⟨true, (staged (image1 0) 2 []).post 1 0, by decide +kernel⟩,
   ⟨(let s := staged (image1 0) 8 []; { s with plan := { s.plan with action := 2, actionSlot := 3 } }), by decide +kernel⟩,
   ⟨
       (let s := staged [] 0 [];
          { s with plan := { s.plan with action := 3, actionSlot := 1, slots := [(1, image1 0)] } }), by decide +kernel⟩,
   ⟨
       (let s := staged [] 0 [];
          { s with plan := { s.plan with action := 7, actionSlot := 1, slots := [(1, image1 0)] } }), by decide +kernel⟩,
   ⟨
       (let s := staged (image1 0) 8 [];
          { s with plan := { s.plan with action := 2, actionSlot := 3 }, time := { s.time with edgeLost := true } }),
          by decide +kernel⟩,
   ⟨100, plan1,
       (let s := staged (image1 0) 4 [(0x4080, 1, 1), (0x4081, 1, 1), (0x4082, 1, 1), (0x4083, 1, 1), (0x4084, 1, 1),
          (0x4085, 1, 1), (0x4086, 1, 1), (0x4087, 1, 1)]; { s with plan := { s.plan with valid := some plan1 } }),
          by decide +kernel⟩,
   (match Option.isSome_iff_exists.mp (show ((({ preparing with plan := { preparing.plan with boot := false } } :
          State).advance 100).prepare plan0 false).isSome = true by decide +kernel) with | ⟨(u, x), h⟩ => ⟨100, plan0, u,
          x, preparing, by decide +kernel, by decide +kernel, by decide +kernel, by decide +kernel, h⟩),
   ⟨100, staged (image1 0) 5 [], by decide +kernel⟩,
   (match Option.isSome_iff_exists.mp (show ((((early1.advance 100).fieldReport []).stageEarly).bind (fun y => y.prepare
          (readPlan (image1 1) 0).fieldStage.1 true)).isSome = true by decide +kernel) with | ⟨(u, x), h⟩ => ⟨100, true,
          (readPlan (image1 1) 0).fieldStage.1, [], u, x, early1, by decide +kernel, by decide +kernel, by decide +kernel,
          by decide +kernel, by decide +kernel, by decide +kernel, by decide +kernel, h⟩),
   ⟨false, early1, by decide +kernel⟩⟩

/-- States and operands that meet the premises of MigrationsRun, clause by clause. -/
theorem wit_MigrationsRun :
    (∃ (surf : Nat) (m : Migration) (f : Surf) (s : State), s.inReset = false ∧ s.planRuns = true ∧ s.migOf surf = some m
          ∧ s.surf surf = some f ∧ m.phase = 0 ∧ m.loc ≠ 2 ∧ s.memc.broken = [] ∧ ((m.addr + f.span ≤ f.addr ∨ f.addr +
          f.span ≤ m.addr))) ∧
    (∃ (surf : Nat) (m : Migration) (f : Surf) (s : State), s.inReset = false ∧ s.planRuns = true ∧ s.migOf surf = some m
          ∧ s.surf surf = some f ∧ m.phase = 1 ∧ m.loc ≠ 2) ∧
    (∃ (t : Nat) (surf : Nat) (m : Migration) (f : Surf) (s : State), s.inReset = false ∧ s.planRuns = true ∧ s.migOf surf
          = some m ∧ s.surf surf = some f ∧ m.phase = 2 ∧ m.loc ≠ 2 ∧ s.time.nextEpoch ≤ max s.now t + s.get 0x3420 6 *
          1000) ∧
    (∃ (t : Nat) (surf : Nat) (m : Migration) (f : Surf) (s : State), s.inReset = false ∧ s.planRuns = true ∧ s.migOf surf
          = some m ∧ s.surf surf = some f ∧ m.phase = 2 ∧ max s.now t + s.get 0x3420 6 * 1000 < s.time.nextEpoch) ∧
    (∃ (surf : Nat) (m : Migration) (f : Surf) (s : State), s.inReset = false ∧ s.planRuns = true ∧ s.migOf surf = some m
          ∧ s.surf surf = some f) ∧
    (∃ (surf : Nat) (a : Nat) (f : Surf) (s : State), s.inReset = false ∧ s.planRuns = true ∧ s.place.retry.find? (fun x
          => x.1 == surf) = some (surf, a) ∧ s.migOf surf = none ∧ s.surf surf = some f) ∧
    (∃ (s : State), s.inReset = false ∧ s.planRuns = true ∧ s.get 0x3420 8 = 0 ∧ s.place.rekeyDue = []) :=
  ⟨⟨1, ⟨1, 0, 0, 1, 1048576, 1048592, 0, 0, [], [], none⟩, ⟨1, 2, 4, 1, 4, 0, 1, 16, 0, 1, 0, 4096, 4112, 0, 0, false,
          false, none, 0⟩, moving 0 0 [] [] (st []), by decide +kernel⟩,
   ⟨1, ⟨1, 1, 0, 1, 1048576, 1048592, 0, 0, [], [0], none⟩, ⟨1, 2, 4, 1, 4, 0, 1, 16, 0, 1, 0, 4096, 4112, 0, 0, false,
          false, none, 0⟩, moving 1 0 [] [0] (st []), by decide +kernel⟩,
   ⟨20000000, 1, ⟨1, 2, 0, 1, 1048576, 1048592, 0, 0, [], [], none⟩, ⟨1, 2, 4, 1, 4, 0, 1, 16, 0, 1, 0, 4096, 4112, 0, 0,
          false, false, none, 0⟩, moving 2 0 [] [] (st []), by decide +kernel⟩,
   ⟨100, 1, ⟨1, 2, 0, 1, 1048576, 1048592, 0, 0, [], [], none⟩, ⟨1, 2, 4, 1, 4, 0, 1, 16, 0, 1, 0, 4096, 4112, 0, 0,
          false, false, none, 0⟩, moving 2 0 [] [] (st []), by decide +kernel⟩,
   ⟨1, ⟨1, 1, 0, 1, 1048576, 1048592, 0, 0, [], [0], none⟩, ⟨1, 2, 4, 1, 4, 0, 1, 16, 0, 1, 0, 4096, 4112, 0, 0, false,
          false, none, 0⟩, moving 1 0 [] [0] (st []), by decide +kernel⟩,
   ⟨1, 5, ⟨1, 2, 4, 1, 4, 0, 1, 16, 0, 1, 0, 4096, 4112, 0, 0, false, false, none, 0⟩,
       (let s := moving 2 0 [] [] (st []); { s with place := { s.place with migs := [], retry := [(1, 5)] } }),
          by decide +kernel⟩,
   ⟨moving 2 0 [] [] (dram (st [(0x3420, 8, 0)])), by decide +kernel⟩⟩

/-- States and operands that meet the premises of EnginesAreRebound, clause by clause. -/
theorem wit_EnginesAreRebound :
    (∃ (p : Plan) (m : List Nat) (shed : List Nat) (s : State), s.inReset = false ∧ s.planRuns = true ∧ s.place.rebinding
          ≠ [] ∧ s.plan.active = some p ∧ s.shedUntil p (p.shedOrder.filter (fun n => !s.place.shed.contains n))
          s.place.shed = some (m, shed)) ∧
    (∃ (p : Plan) (s : State), s.inReset = false ∧ s.planRuns = true ∧ s.place.rebinding ≠ [] ∧ s.plan.active = some p ∧
          s.shedUntil p (p.shedOrder.filter (fun n => !s.place.shed.contains n)) s.place.shed = none) ∧
    (∃ (s : State), s.inReset = false ∧ s.place.rebinding = []) ∧
    (∃ (m : List Nat) (shed : List Nat) (dropped : List Nat) (k : Nat) (s : State), s.place.binding = some (m, shed,
          dropped) ∧ k < s.cfg.engines ∧ s.cfg.engines ≤ 8 ∧ m.all (fun j => decide (j < 256)) = true) :=
  ⟨⟨plan1, [0, 1, 2, 3, 4, 5, 6, 7], [],
       (let s := planned1 (dram (st [])); { s with place := { s.place with rebinding := [(.composer, 0)] } }),
          by decide +kernel⟩,
   ⟨plan1,
       (let s := planned1 (st [(0x4080, 1, 1), (0x4081, 1, 1), (0x4082, 1, 1), (0x4083, 1, 1), (0x4084, 1, 1), (0x4085, 1,
          1), (0x4086, 1, 1), (0x4087, 1, 1)]); { s with place := { s.place with rebinding := [(.composer, 0)] } }),
          by decide +kernel⟩,
   ⟨st [], by decide +kernel⟩,
   ⟨[0, 1], [3], [], 1,
       (let s := st []; { s with place := { s.place with binding := some ([0, 1], [3], []) } }), by decide +kernel⟩⟩

/-- States and operands that meet the premises of CompositionRuns, clause by clause. -/
theorem wit_CompositionRuns :
    (∃ (t : Nat) (batch : Nat) (p : Plan) (b : PlanBatch) (s : State), s.inReset = false ∧ s.noLock 3 = false ∧
          s.plan.active = some p ∧ p.batches[batch]? = some b ∧ s.engineOf b < s.cfg.engines ∧ s.get (0x4080 + s.engineOf
          b) 1 = 0 ∧ (s.engine (s.engineOf b)).batch = none ∧ (s.engine (s.engineOf b)).flight = [] ∧ b.layout =
          s.layoutOf b.head ∧ s.slotStart p b.startSlot ≤ max s.now t ∧ max s.now t < s.slotStart p (b.endSlot + 1) ∧
          batch ∉ s.comp.ran ∧ (s.advance t).batchTurn p b = true) ∧
    (∃ (t : Nat) (engine : Nat) (p : Plan) (k : Nat) (b : PlanBatch) (h : PlanHead) (x : FStore) (s : State), s.inReset =
          false ∧ s.noLock 3 = false ∧ engine < 16 ∧ s.plan.active = some p ∧ (s.engine engine).batch = some k ∧
          p.batches[k]? = some b ∧ p.headOf b.head = some h ∧ s.store b.head = some x ∧ s.get (0x4080 + engine) 1 = 0 ∧
          (s.engine engine).stuck = false ∧ max s.now t < s.slotStart p (b.endSlot + 1) ∧ (s.engine engine).next < b.tiles
          ∧ (s.engine engine).flight.length < 4 ∧ s.isClean p h (s.dirEntry p h (b.firstTile + (s.engine engine).next))
          (b.firstTile + (s.engine engine).next) (x.tile (b.firstTile + (s.engine engine).next)) = true) ∧
    (∃ (t : Nat) (engine : Nat) (p : Plan) (k : Nat) (b : PlanBatch) (h : PlanHead) (x : FStore) (s : State), s.inReset =
          false ∧ s.noLock 3 = false ∧ engine < 16 ∧ b.head < 64 ∧ s.plan.active = some p ∧ (s.engine engine).batch = some
          k ∧ p.batches[k]? = some b ∧ p.headOf b.head = some h ∧ s.store b.head = some x ∧ s.get (0x4080 + engine) 1 = 0
          ∧ (s.engine engine).stuck = false ∧ max s.now t < s.slotStart p (b.endSlot + 1) ∧ (s.engine engine).next <
          b.tiles ∧ (s.engine engine).flight.length < 4 ∧ s.isClean p h (s.dirEntry p h (b.firstTile + (s.engine
          engine).next)) (b.firstTile + (s.engine engine).next) (x.tile (b.firstTile + (s.engine engine).next)) = false ∧
          p.clonesOf h.head = []) ∧
    (∃ (t : Nat) (engine : Nat) (p : Plan) (k : Nat) (b : PlanBatch) (h : PlanHead) (x : FStore) (s : State), s.inReset =
          false ∧ s.noLock 3 = false ∧ b.head < 64 ∧ s.plan.active = some p ∧ (s.engine engine).batch = some k ∧
          p.batches[k]? = some b ∧ p.headOf b.head = some h ∧ s.store b.head = some x ∧ s.get (0x4080 + engine) 1 = 0 ∧
          (s.engine engine).stuck = false ∧ max s.now t < s.slotStart p (b.endSlot + 1) ∧ (s.engine engine).next < b.tiles
          ∧ (s.engine engine).flight.length < 4 ∧ s.isClean p h (s.dirEntry p h (b.firstTile + (s.engine engine).next))
          (b.firstTile + (s.engine engine).next) (x.tile (b.firstTile + (s.engine engine).next)) = false ∧ (p.clonesOf
          h.head).filter (fun c => s.cloneReading h c (b.firstTile + (s.engine engine).next) (!(x.tile (b.firstTile +
          (s.engine engine).next)).cur)) ≠ []) ∧
    (∃ (engine : Nat) (g : Flight) (l : List Flight) (x : FStore) (s : State), s.inReset = false ∧ s.noLock 3 = false ∧
          (s.engine engine).stuck = false ∧ (s.engine engine).flight = g :: l ∧ s.store g.head = some x) ∧
    (∃ (t : Nat) (batch : Nat) (p : Plan) (b : PlanBatch) (h : PlanHead) (s : State), s.inReset = false ∧ s.plan.active =
          some p ∧ p.batches[batch]? = some b ∧ p.headOf b.head = some h ∧ b.layout = s.layoutOf b.head ∧ s.slotStart p
          (b.endSlot + 1) ≤ max s.now t ∧ batch ∉ s.comp.ran ∧ (s.engine (s.engineOf b)).batch = some batch ∧ b.tiles ≤
          (s.engine (s.engineOf b)).next ∧ (s.engine (s.engineOf b)).flight = []) ∧
    (∃ (t : Nat) (batch : Nat) (p : Plan) (b : PlanBatch) (h : PlanHead) (x : FStore) (s : State), s.inReset = false ∧
          s.plan.active = some p ∧ p.batches[batch]? = some b ∧ p.headOf b.head = some h ∧ b.head < 64 ∧ b.layout =
          s.layoutOf b.head ∧ s.slotStart p (b.endSlot + 1) ≤ max s.now t ∧ batch ∉ s.comp.ran ∧ (s.engine (s.engineOf
          b)).batch ≠ some batch ∧ b.tiles = 1 ∧ b.firstTile < 2 ^ 16 ∧ s.store b.head = some x) :=
  ⟨⟨100, 0, plan1, ⟨0, 0, 0, 0, 0, 1, 0, 1, 0, 0⟩, planned1 (st [(0x3470, 1, 0)]), by decide +kernel⟩,
   ⟨100, 0, { plan1 with dir := [256] }, 0, ⟨0, 0, 0, 0, 0, 1, 0, 1, 0, 0⟩, head0, ⟨0, 1, [⟨false, 0, 0, [], 0, [], false,
          true, 0, 0, 0⟩], 0, 0, false⟩,
       (let s := shown1 ⟨false, 0, 0, [], 0, [], false, true, 0, 0, 0⟩ 0 [] (st [(0x4040, 2, 1)]);
        let s :=
          { s with plan := { s.plan with active := some { plan1 with layers := [], dir := [2 ^ 14, 2 ^ 15, 2 ^ 30] } } };
          { s with plan := { s.plan with active := some { plan1 with dir := [256] } } }.putEngine (engine1 (some 0) 0
          [])), by decide +kernel⟩,
   ⟨100, 0, plan1, 0, ⟨0, 0, 0, 0, 0, 1, 0, 1, 0, 0⟩, head0, ⟨0, 1, [tile1 0], 0, 0, false⟩, (shown1 (tile1 0) 0 [] (st
          [])).putEngine (engine1 (some 0) 0 []), by decide +kernel⟩,
   ⟨100, 0, { plan1 with heads := [{ head0 with clone := 1 }, { head0 with head := 1, clone := 1 }] }, 0, ⟨0, 0, 0, 0, 0,
          1, 0, 1, 0, 0⟩, { head0 with clone := 1 }, ⟨0, 1, [tile1 0], 0, 0, false⟩,
       (let s := (shown1 (tile1 0) 0 [] (st [])).putEngine (engine1 (some 0) 0 []);
          { s with plan := { s.plan with active := some { plan1 with heads := [{ head0 with clone := 1 }, { head0 with head := 1, clone := 1 }] } }, scan := { s.scan with heads := [⟨1, true, 0, 0, [0, 0], [true], none, false, false, false, false, 0, 0, false, 0, [], 0, 0⟩] } }),
          by decide +kernel⟩,
   ⟨0, ⟨0, 0, [5], 3, 0⟩, [], ⟨0, 1, [tile1 1], 0, 0, false⟩, (shown1 (tile1 1) 0 [] (st [])).putEngine (engine1 (some 0)
          1 [⟨0, 0, [5], 3, 0⟩]), by decide +kernel⟩,
   ⟨20000000, 0, plan1, ⟨0, 0, 0, 0, 0, 1, 0, 1, 0, 0⟩, head0, (planned1 (st [(0x3470, 1, 0)])).putEngine (engine1 (some
          0) 1 []), by decide +kernel⟩,
   ⟨20000000, 0, plan1, ⟨0, 0, 0, 0, 0, 1, 0, 1, 0, 0⟩, head0, ⟨0, 1, [tile1 0], 0, 0, false⟩, shown1 (tile1 0) 0 [] (st
          [(0x3470, 1, 0)]), by decide +kernel⟩⟩

/-- States and operands that meet the premises of ScanoutRuns, clause by clause. -/
theorem wit_ScanoutRuns :
    (∃ (head : Nat) (p : Plan) (h : PlanHead) (r : HeadRun) (s : State), s.inReset = false ∧ s.plan.active = some p ∧
          p.headOf head = some h ∧ s.headRun head = some r ∧ ((r.first = true ∨ r.blank = false ∧ h.hActive * h.vActive ≤
          r.scan))) ∧
    (∃ (head : Nat) (p : Plan) (h : PlanHead) (r : HeadRun) (s : State), s.inReset = false ∧ s.plan.active = some p ∧
          p.headOf head = some h ∧ s.headRun head = some r ∧ r.first = false ∧ ((r.blank = true ∨ r.scan < h.hActive *
          h.vActive))) ∧
    (∃ (head : Nat) (x : FStore) (s : State), s.store head = some x ∧ head < 64 ∧ x.tiles.length < 2 ^ 32) ∧
    (∃ (head : Nat) (p : Plan) (h : PlanHead) (r : HeadRun) (s : State), s.inReset = false ∧ head < 64 ∧ s.plan.active =
          some p ∧ p.headOf head = some h ∧ s.headRun head = some r) ∧
    (∃ (head : Nat) (n : Nat) (tile : Nat) (p : Plan) (h : PlanHead) (r : HeadRun) (s : State), s.inReset = false ∧ head <
          64 ∧ s.plan.active = some p ∧ p.headOf head = some h ∧ s.headRun head = some r ∧ tile ∉ r.badTiles ∧ (List.range
          (min (min n (32768 + scanPos p h r.scan - r.buf.length)) (framePx p h - r.buf.length))).any (fun j => tileAt
          (p.ownerHead h) (r.buf.length + j) == tile) = true) ∧
    (∃ (head : Nat) (p : Plan) (h : PlanHead) (r : HeadRun) (s : State), s.inReset = false ∧ s.plan.active = some p ∧
          p.headOf head = some h ∧ s.headRun head = some r ∧ r.scan < h.hActive * h.vActive) ∧
    (∃ (head : Nat) (p : Plan) (h : PlanHead) (r : HeadRun) (s : State), s.inReset = false ∧ head < 64 ∧ s.plan.active =
          some p ∧ p.headOf head = some h ∧ s.headRun head = some r ∧ r.scan < h.hActive * h.vActive ∧ r.buf.length ≤
          neededPos p h r.scan) :=
  ⟨⟨0, plan1, head0, ⟨0, false, 0, 2048, [], [], none, false, false, false, false, 0, 0, false, 0, [], 0, 0⟩, (shown1
          (tile1 2) 5 [] (st [])).putRun ⟨0, false, 0, 2048, [], [], none, false, false, false, false, 0, 0, false, 0, [],
          0, 0⟩, by decide +kernel⟩,
   ⟨0, plan1, head0, ⟨0, true, 0, 5, [], [], none, false, false, false, false, 0, 0, false, 0, [], 0, 0⟩, shown1 (tile1 2)
          5 [] (st []), by decide +kernel⟩,
   ⟨0, ⟨0, 1, [tile1 2], 0, 0, false⟩, shown1 (tile1 2) 5 [] (st []), by decide +kernel⟩,
   ⟨0, plan1, head0, ⟨0, true, 0, 2, [7, 8, 9], [], none, false, false, false, false, 0, 0, false, 0, [], 0, 0⟩, shown1
          (tile1 2) 2 [7, 8, 9] (st []), by decide +kernel⟩,
   ⟨0, 5, 0, plan1, head0, ⟨0, true, 0, 2, [7, 8, 9], [], none, false, false, false, false, 0, 0, false, 0, [], 0, 0⟩,
          shown1 (tile1 2) 2 [7, 8, 9] (st []), by decide +kernel⟩,
   ⟨0, plan1, head0, ⟨0, true, 0, 2, [7, 8, 9], [], none, false, false, false, false, 0, 0, false, 0, [], 0, 0⟩, shown1
          (tile1 2) 2 [7, 8, 9] (st []), by decide +kernel⟩,
   ⟨0, plan1, head0, ⟨0, true, 0, 2, [7], [], none, false, false, false, false, 0, 0, false, 0, [], 0, 0⟩, shown1 (tile1
          2) 2 [7] (st []), by decide +kernel⟩⟩

/-- States and operands that meet the premises of LinksTrainAndFall, clause by clause. -/
theorem wit_LinksTrainAndFall :
    (∃ (port : Nat) (s : State), s.inReset = false ∧ s.hpdPort port = true) ∧
    (∃ (port : Nat) (s : State), s.inReset = false ∧ s.hpdPort port = true) ∧
    (∃ (port : Nat) (s : State), s.inReset = false ∧ s.hpdPort port = true ∧ s.get (poIdx port + 1) 7 ≠ 0 ∧ (s.linkRun
          port).sink.known = false ∧ s.portHeads port = []) ∧
    (∃ (port : Nat) (s : State), s.inReset = false ∧ s.hpdPort port = true ∧ s.get (poIdx port + 1) 7 ≠ 0 ∧ (s.linkRun
          port).sink.known = false) ∧
    (∃ (port : Nat) (s : State), s.inReset = false ∧ s.hpdPort port = true ∧ s.get (poIdx port + 1) 7 ≠ 0 ∧ (s.linkRun
          port).sink.known = true) ∧
    (∃ (port : Nat) (l : List PlanHead) (s : State), (s.linkRun port).sink.known = true ∧ l.any (fun h => !(s.linkRun
          port).sink.lists h) = true) ∧
    (∃ (port : Nat) (s : State), s.inReset = false ∧ s.linkState port = 2 ∧ (s.linkRun port).failed = false ∧
          (s.trainSteps port)[(s.linkRun port).attempts + 1]? = none) ∧
    (∃ (port : Nat) (l : Nat) (rate : Nat) (s : State), s.inReset = false ∧ s.linkState port = 2 ∧ (s.linkRun port).failed
          = false ∧ (s.trainSteps port)[(s.linkRun port).attempts + 1]? = some (l, rate)) ∧
    (∃ (port : Nat) (s : State), s.inReset = false ∧ s.linkState port = 2 ∧ (s.linkRun port).failed = false ∧ (s.get
          (poIdx port) 1 ≠ 2 ∨ (s.linkRun port).rate ≠ 0) ∧ s.portNeed port false ≤ linkCapacity (s.get (poIdx port) 1)
          (s.linkRun port).lanes (s.linkRun port).rate) ∧
    (∃ (t : Nat) (port : Nat) (s : State), s.inReset = false ∧ (s.linkState port = 4 ∨ s.linkState port = 2 ∧ (s.linkRun
          port).failed = true) ∧ (s.linkRun port).triedAt + s.lateField port 0xC * 1000000 ≤ max s.now t) ∧
    (∃ (t : Nat) (port : Nat) (s : State), s.inReset = false ∧ s.linkState port = 3 ∧ s.get (poIdx port + 1) 6 = 4 ∧
          (s.linkRun port).hdcpAt + s.lateField port 0xC * 1000000 ≤ max s.now t) ∧
    (∃ (port : Nat) (lost : Bool) (s : State), s.inReset = false ∧ s.hpdPort port = true ∧ s.get (poIdx port + 1) 7 = 1 ∧
          (lost = false ∨ (s.linkRun port).sink.known = false)) ∧
    (∃ (port : Nat) (s : State), s.inReset = false ∧ s.hpdPort port = true ∧ s.get (poIdx port + 1) 7 = 1 ∧ (s.linkRun
          port).sink.known = true) ∧
    (∃ (port : Nat) (s : State), s.inReset = false ∧ s.portUp port = true) ∧
    (∃ (port : Nat), port < 22) ∧
    (∃ (t : Nat) (port : Nat) (a : Nat) (s : State), s.inReset = false ∧ s.classAPort port = true ∧ s.portUp port = false
          ∧ (s.linkRun port).downAt = some a ∧ a + s.lateField port 0xD * 1000000 < max s.now t ∧ (s.linkRun
          port).reacting = false) ∧
    (∃ (port : Nat) (s : State), s.inReset = false ∧ s.get (poIdx port + 1) 6 = 1 ∧ (s.markhorUp = true → s.inSlot 5 port
          = true)) :=
  ⟨⟨7, st [(poIdx 7 + 1, 1, 1), (poIdx 7 + 3, 4, 2 ^ 32 - 1)], by decide +kernel⟩,
   ⟨7, st [(poIdx 7 + 1, 1, 3), (poIdx 7 + 1, 7, 1), (poIdx 7 + 1, 2, 4)], by decide +kernel⟩,
   ⟨7, st [(poIdx 7 + 1, 1, 1), (poIdx 7 + 1, 7, 1)], by decide +kernel⟩,
   ⟨0, planned1 (st [(poIdx 0 + 1, 1, 1), (poIdx 0 + 1, 7, 1)]), by decide +kernel⟩,
   ⟨0, (st [(poIdx 0 + 1, 1, 2), (poIdx 0 + 1, 7, 1)]).putLinkRun ⟨0, ⟨true, 4, 8100, false, true, []⟩, 4, 8100, 0, false,
          0, [], none, false, 0, 0, false, [], []⟩, by decide +kernel⟩,
   ⟨0, [head0], (st []).putLinkRun ⟨0, ⟨true, 4, 8100, false, true, []⟩, 4, 8100, 0, false, 0, [], none, false, 0, 0,
          false, [], []⟩, by decide +kernel⟩,
   ⟨7, st [(poIdx 7 + 1, 1, 2)], by decide +kernel⟩,
   ⟨0, 4, 5400, (st [(poIdx 0 + 1, 1, 2), (poIdx 0, 2, 4), (poIdx 0, 3, 8100), (poIdx 0, 1, 0)]).putLinkRun ⟨0, ⟨true, 4,
          8100, false, true, []⟩, 4, 8100, 0, false, 0, [], none, false, 0, 0, false, [], []⟩, by decide +kernel⟩,
   ⟨7, st [(poIdx 7 + 1, 1, 2), (poIdx 7, 1, 0)], by decide +kernel⟩,
   ⟨1000000000000, 7, st [(poIdx 7 + 1, 1, 4)], by decide +kernel⟩,
   ⟨1000000000000, 7, st [(poIdx 7 + 1, 1, 3), (poIdx 7 + 1, 6, 4)], by decide +kernel⟩,
   ⟨7, true, st [(poIdx 7 + 1, 1, 1), (poIdx 7 + 1, 7, 1)], by decide +kernel⟩,
   ⟨0, (st [(poIdx 0 + 1, 1, 2), (poIdx 0 + 1, 7, 1)]).putLinkRun ⟨0, ⟨true, 4, 8100, false, true, []⟩, 4, 8100, 0, false,
          0, [], none, false, 0, 0, false, [], []⟩, by decide +kernel⟩,
   ⟨7, st [(poIdx 7 + 1, 1, 3)], by decide +kernel⟩,
   ⟨21, by decide +kernel⟩,
   ⟨1000000000000, 0, 7, (planned1a (st [])).putLinkRun ⟨0, ⟨true, 4, 8100, false, true, []⟩, 4, 8100, 0, false, 0, [],
          some 7, false, 0, 0, false, [], []⟩, by decide +kernel⟩,
   ⟨7, (up [(poIdx 7 + 1, 6, 1)]).post 5 7, by decide +kernel⟩⟩

/-- States and operands that meet the premises of VideoInputsCapture, clause by clause. -/
theorem wit_VideoInputsCapture :
    (∃ (input : Nat) (k : Nat) (s : State), s.inReset = false ∧ s.noLock 7 = false ∧ s.inputOn input = true ∧ (s.ring
          input).entries.any (fun e => e.st == 1) = false ∧ (s.ring input).pick = some k) ∧
    (∃ (r : VideoRing) (k : Nat), r.pick = some k) ∧
    (∃ (input : Nat) (ident : Nat) (s : State), s.inReset = false ∧ input < 8 ∧ ident / 64 ≠ s.get (viIdx input) 2) ∧
    (∃ (input : Nat) (x : Nat) (y : Nat) (ident : Nat) (s : State), s.inReset = false ∧ s.noLock 7 = false ∧ s.inputOn
          input = true ∧ (s.ring input).entries.any (fun e => e.st == 1) = true ∧ (input < 8 → ident / 64 = s.get (viIdx
          input) 2) ∧ ident % 64 = s.get (viIdx input) 3 ∧ x = s.get (viIdx input) 4 ∧ y = s.get (viIdx input) 5) ∧
    (∃ (input : Nat) (x : Nat) (y : Nat) (ident : Nat) (err : Bool) (s : State), s.inReset = false ∧ s.noLock 7 = false ∧
          s.inputOn input = true ∧ (s.ring input).entries.any (fun e => e.st == 1) = true ∧ (input < 8 → ident / 64 =
          s.get (viIdx input) 2) ∧ (err = true ∨ ident % 64 ≠ s.get (viIdx input) 3 ∨ x ≠ s.get (viIdx input) 4 ∨ y ≠
          s.get (viIdx input) 5)) ∧
    (∃ (t : Nat) (input : Nat) (s : State), s.inReset = false ∧ s.inputOn input = true ∧ s.get (viIdx input + 1) 1 ≠ 0 ∧
          s.get (viIdx input + 1) 1 ≠ 4 ∧ (s.inputRun input).lastAt + s.get (viIdx input) 6 * 1000000 ≤ max s.now t) :=
  ⟨⟨9, 0, st [(viIdx 9, 1, 1), (viIdx 9 + 1, 1, 1)], by decide +kernel⟩,
   ⟨⟨9, [⟨2, false, false, 5, 0, 0, 0, [], 1⟩, ⟨2, false, false, 5, 0, 0, 0, [], 0⟩]⟩, 1, by decide +kernel⟩,
   ⟨3, 0x64, (st [(viIdx 3, 1, 1), (viIdx 3, 3, 0x24), (viIdx 3, 4, 64), (viIdx 3, 5, 32)]).putRing ⟨3, [⟨1, false, false,
          5, 0, 0, 0, [], 0⟩]⟩, by decide +kernel⟩,
   ⟨9, 64, 32, 0x24, (st [(viIdx 9, 1, 1), (viIdx 9, 3, 0x24), (viIdx 9, 4, 64), (viIdx 9, 5, 32)]).putRing ⟨9, [⟨1,
          false, false, 5, 0, 0, 0, [], 0⟩]⟩, by decide +kernel⟩,
   ⟨9, 64, 33, 0x24, false, (st [(viIdx 9, 1, 1), (viIdx 9, 3, 0x24), (viIdx 9, 4, 64), (viIdx 9, 5, 32)]).putRing ⟨9,
          [⟨1, false, false, 5, 0, 0, 0, [], 0⟩]⟩, by decide +kernel⟩,
   ⟨1000000000000, 9, st [(viIdx 9, 1, 1), (viIdx 9 + 1, 1, 3)], by decide +kernel⟩⟩

/-- States and operands that meet the premises of RegionsAreCompared, clause by clause. -/
theorem wit_RegionsAreCompared :
    (∃ (region : Nat) (p : Plan) (r : PlanRegion) (q : RegionRun) (c : RegionCap) (l : List RegionCap) (s : State),
          s.inReset = false ∧ region < 256 ∧ s.plan.active = some p ∧ s.region region = some r ∧ s.regionRun region = some
          q ∧ q.got = c :: l ∧ q.dead = false ∧ r.expect = 0 ∧ r.table = 0xFFFF ∧ q.pend = [] ∧ q.failing = false ∧
          c.value < 2 ^ 64 ∧ c.counter < 2 ^ 64 ∧ (p.cvuOf r).fold (regionPrefix r c.sub c.counter) c.len r.golden =
          c.value) ∧
    (∃ (region : Nat) (p : Plan) (r : PlanRegion) (q : RegionRun) (c : RegionCap) (l : List RegionCap) (s : State),
          s.inReset = false ∧ region < 256 ∧ s.plan.active = some p ∧ s.region region = some r ∧ s.regionRun region = some
          q ∧ q.got = c :: l ∧ q.dead = false ∧ r.expect = 0 ∧ r.table = 0xFFFF ∧ q.pend = [] ∧ q.failing = false ∧
          c.older = false ∧ c.value < 2 ^ 64 ∧ c.counter < 2 ^ 64 ∧ (p.cvuOf r).fold (regionPrefix r c.sub c.counter)
          c.len r.golden ≠ c.value ∧ q.fails + 1 < s.get (rcIdx region) 0xB) ∧
    (∃ (region : Nat) (p : Plan) (r : PlanRegion) (q : RegionRun) (c : RegionCap) (l : List RegionCap) (s : State),
          s.inReset = false ∧ region < 256 ∧ s.plan.active = some p ∧ s.region region = some r ∧ s.regionRun region = some
          q ∧ q.got = c :: l ∧ q.dead = false ∧ r.expect = 0 ∧ r.table = 0xFFFF ∧ q.pend = [] ∧ q.failing = false ∧
          c.older = false ∧ c.value < 2 ^ 64 ∧ c.counter < 2 ^ 64 ∧ (p.cvuOf r).fold (regionPrefix r c.sub c.counter)
          c.len r.golden ≠ c.value ∧ s.get (rcIdx region) 0xB ≤ q.fails + 1) ∧
    (∃ (region : Nat) (p : Plan) (r : PlanRegion) (q : RegionRun) (c : RegionCap) (l : List RegionCap) (s : State),
          s.inReset = false ∧ region < 256 ∧ s.plan.active = some p ∧ s.region region = some r ∧ s.regionRun region = some
          q ∧ q.got = c :: l ∧ q.dead = false ∧ r.expect = 3 ∧ c.value < 2 ^ 64 ∧ c.counter < 2 ^ 64) ∧
    (∃ (region : Nat) (q : RegionRun) (s : State), s.inReset = false ∧ s.regionRun region = some q ∧ q.got = []) :=
  ⟨⟨5, planR (region5 0 1), region5 0 1, run5 [cap5 0] 2 false, cap5 0, [], regioned (region5 0 1) (run5 [cap5 0] 2 false)
          (st []), by decide +kernel⟩,
   ⟨5, planR (region5 0 1), region5 0 1, run5 [cap5 1] 1 false, cap5 1, [], regioned (region5 0 1) (run5 [cap5 1] 1 false)
          (st [(0x6905, 0xB, 3)]), by decide +kernel⟩,
   ⟨5, planR (region5 0 1), region5 0 1, run5 [cap5 1] 2 false, cap5 1, [], regioned (region5 0 1) (run5 [cap5 1] 2 false)
          (st [(0x6905, 0xB, 3), (0x6905, 8, 0x7F)]), by decide +kernel⟩,
   ⟨5, planR (region5 3 1), region5 3 1, run5 [cap5 1] 2 false, cap5 1, [], regioned (region5 3 1) (run5 [cap5 1] 2 false)
          (st []), by decide +kernel⟩,
   ⟨5, run5 [] 2 false, regioned (region5 0 1) (run5 [] 2 false) (st []), by decide +kernel⟩⟩

/-- States and operands that meet the premises of SentinelServesRegions, clause by clause. -/
theorem wit_SentinelServesRegions :
    (∃ (region : Nat) (p : Plan) (r : PlanRegion) (h : PlanHead) (q : RegionRun) (s : State), s.inReset = false ∧ s.noLock
          4 = false ∧ s.plan.active = some p ∧ s.region region = some r ∧ s.regionRun region = some q ∧ p.headOf r.head =
          some h ∧ r.expect = 1 ∧ s.sentinelUp = true ∧ p.sentinelUnit r = true) ∧
    (∃ (t : Nat) (region : Nat) (p : Plan) (r : PlanRegion) (q : RegionRun) (c : RegionCap) (l : List RegionCap) (s :
          State), s.inReset = false ∧ region < 256 ∧ s.plan.active = some p ∧ s.region region = some r ∧ s.regionRun
          region = some q ∧ q.got = c :: l ∧ q.dead = false ∧ r.expect = 1 ∧ r.point = 1 ∧ r.table = 0xFFFF ∧ q.sentFor r
          c = none ∧ c.at_ + 200000 ≤ max s.now t ∧ c.value < 2 ^ 64 ∧ c.counter < 2 ^ 64 ∧ q.noVerdicts + 1 < s.get
          (rcIdx region) 0xD) ∧
    (∃ (ini : Ini) (v : Word) (w : Word) (r : PlanRegion) (q : RegionRun) (s : State), s.inReset = false ∧ s.takes ⟨ini,
          0, 0x6800, 1, v⟩ w ∧ s.region w.toNat = some r ∧ w.toNat < 256 ∧ s.get (rrIdx w.toNat) 1 = 1 ∧ s.regionRun
          w.toNat = some q ∧ q.failing = true ∧ q.dead = false ∧ s.get (rcIdx w.toNat) 0xC = 0) ∧
    (∃ (ini : Ini) (region : Nat) (v : Word) (w : Word) (s : State), s.inReset = false ∧ region < 256 ∧ s.takes ⟨ini, 0,
          rqIdx region, 1, v⟩ w ∧ s.requestRefusal ini region = none ∧ s.markhorUp = true) ∧
    (∃ (ini : Ini) (region : Nat) (v : Word) (w : Word) (s : State), s.inReset = false ∧ region < 256 ∧ s.takes ⟨ini, 0,
          rqIdx region, 1, v⟩ w ∧ s.requestRefusal ini region = none ∧ s.markhorUp = false) ∧
    (∃ (s : State), s.inReset = false ∧ s.noLock 0 = false ∧ s.markhorUp = true ∧ s.inSlot 2 256 = true) ∧
    (∃ (region : Nat) (p : Plan) (r : PlanRegion) (s : State), s.inReset = false ∧ s.noLock 0 = false ∧ s.markhorUp = true
          ∧ s.inSlot 2 region = true ∧ s.plan.active = some p ∧ s.region region = some r ∧ s.integ.reqs.all (fun x =>
          x.region != region || decide (x.state < p.stateCount r)) = true) :=
  ⟨⟨5, planR (region5 1 1), region5 1 1, head0, run5 [cap5 1] 2 false, regioned (region5 1 1) (run5 [cap5 1] 2 false) (up
          []), by decide +kernel⟩,
   ⟨300000, 5, planR (region5 1 1), region5 1 1, run5 [cap5 1] 2 false, cap5 1, [], regioned (region5 1 1) (run5 [cap5 1]
          2 false) (st [(0x6905, 0xD, 2)]), by decide +kernel⟩,
   ⟨win 0, 5, 5, region5 0 1, run5 [] 0 true, regioned (region5 0 1) (run5 [] 0 true) (st [(0x6A05, 1, 1), (0x6A05, 6, 1),
          (0x6905, 0xC, 0)]), by decide +kernel⟩,
   ⟨win 2, 5, 1, 1, regioned (region5 0 1) (run5 [] 0 true) (up []), by decide +kernel⟩,
   ⟨win 2, 5, 1, 1, regioned (region5 0 1) (run5 [] 0 true) (st [(0x2000, 1, 0)]), by decide +kernel⟩,
   ⟨
       (let s := up []; { s with dict := { s.dict with sets := [{ s.newSet 2 1 0 none 57 with markhor := true }] } }).post
          2 256, by decide +kernel⟩,
   ⟨5, planR (region5 0 1), region5 0 1,
       (let s := regioned (region5 0 1) (run5 [] 0 true) (up []);
          { s with integ := { s.integ with reqs := [⟨5, 0, 3, false⟩] } }).post 2 5, by decide +kernel⟩⟩

/-- States and operands that meet the premises of QueuesRun, clause by clause. -/
theorem wit_QueuesRun :
    (∃ (ini : Ini) (part : Nat) (queue : Nat) (v : Word) (w : Word) (s : State), s.inReset = false ∧ part < 16 ∧ queue < 8
          ∧ s.takes ⟨ini, 0, qIdx part queue, 1, v⟩ w ∧ s.get (qIdx part queue) 1 = 0 ∧ w.toNat = 1) ∧
    (∃ (ini : Ini) (part : Nat) (queue : Nat) (v : Word) (w : Word) (s : State), s.inReset = false ∧ part < 16 ∧ queue < 8
          ∧ s.takes ⟨ini, 0, qIdx part queue, 6, v⟩ w ∧ s.doorbellRefusal part queue w.toNat = none) ∧
    (∃ (ini : Ini) (part : Nat) (queue : Nat) (v : Word) (w : Word) (s : State), s.inReset = false ∧ part < 16 ∧ queue < 8
          ∧ s.takes ⟨ini, 0, qIdx part queue, 6, v⟩ w ∧ s.doorbellRefusal part queue w.toNat = some codeRingOverflow) ∧
    (∃ (ini : Ini) (part : Nat) (queue : Nat) (v : Word) (w : Word) (s : State), s.inReset = false ∧ part < 16 ∧ queue < 8
          ∧ s.takes ⟨ini, 0, qIdx part queue, 7, v⟩ w) ∧
    (∃ (part : Nat) (queue : Nat) (r : CqRec) (l : List CqRec) (s : State), s.inReset = false ∧ (s.queueSt part
          queue).waiting = r :: l ∧ s.cqFull part queue = false) ∧
    (∃ (t : Nat) (part : Nat) (queue : Nat) (a : Nat) (s : State), s.inReset = false ∧ (s.queueSt part queue).ready = some
          a ∧ a + s.get 0x7700 2 * 1000000 < max s.now t ∧ (s.queueSt part queue).promoted = false ∧ (s.queueSt part
          queue).engine = none ∧ s.queueReady part queue = true) ∧
    (∃ (ini : Ini) (part : Nat) (queue : Nat) (v : Word) (w : Word) (s : State), s.inReset = false ∧ part < 16 ∧ queue < 8
          ∧ s.takes ⟨ini, 0, qIdx part queue, 0xA, v⟩ w ∧ s.get (qIdx part queue) 1 = 1) ∧
    (∃ (ini : Ini) (part : Nat) (queue : Nat) (v : Word) (w : Word) (x : QHdr) (s : State), s.inReset = false ∧ part < 16
          ∧ queue < 8 ∧ s.takes ⟨ini, 0, qIdx part queue, 0xA, v⟩ w ∧ s.get (qIdx part queue) 1 = 1 ∧ (s.queueSt part
          queue).head = none ∧ (s.queueSt part queue).waiting = [] ∧ s.cqFull part queue = false ∧ s.producer part queue =
          (s.consumer part queue + 1) % 2 ^ 32 ∧ s.endedWait part = none ∧ bit x.flags 0 = false) :=
  ⟨⟨win 15, 15, 7, 1, 1, up [(qIdx 15 7, 2, 4096), (qIdx 15 7, 3, 8)], by decide +kernel⟩,
   ⟨win 2, 2, 3, 15, 15, queue1 [], by decide +kernel⟩,
   ⟨win 2, 2, 3, 16, 16, queue1 [], by decide +kernel⟩,
   ⟨win 2, 2, 3, 7, 7, queue1 [], by decide +kernel⟩,
   ⟨2, 3, ⟨1, 2, 3, 4, 5, true⟩, [], (queue1 []).putQueue ⟨2, 3, 4096, 4, 8192, none, none, 0, [⟨1, 2, 3, 4, 5, true⟩],
          none, 0, false, none⟩, by decide +kernel⟩,
   ⟨1000000000000, 2, 3, 7, (queue1 []).putQueue ⟨2, 3, 4096, 4, 8192, some ⟨cmd1 0, .fill 1 0 0 1 1 0, 0, false, 0, 0, 0,
          0, false, none⟩, none, 0, [], some 7, 0, false, none⟩, by decide +kernel⟩,
   ⟨win 2, 2, 3, 1, 1, queue1 [], by decide +kernel⟩,
   ⟨win 2, 2, 3, 1, 1, ⟨2, 3, 2, 0, 0, 77, 0⟩, queue1 [], by decide +kernel⟩⟩

/-- States and operands that meet the premises of PlannerCommandsComplete, clause by clause. -/
theorem wit_PlannerCommandsComplete :
    (∃ (h : QHdr) (s : State), s.inReset = false ∧ s.canTake h.part h.queue = true ∧ badHdr h 3 false = false ∧
          (List.range 8).all (fun q => (s.queueSt h.part q).head.isNone) = true) ∧
    (∃ (p : Nat) (k : Nat) (v : Nat) (status : Nat), p < 16 ∧ k < 255 ∧ v < 2 ^ 64 ∧ status < 2 ^ 64) ∧
    (∃ (h : QHdr) (s : State), s.inReset = false ∧ s.canTake h.part h.queue = true ∧ badHdr h 3 false = false) ∧
    (∃ (h : QHdr) (handle : Nat) (s : State), s.inReset = false ∧ s.canTake h.part h.queue = true ∧ badHdr h 3 false =
          false ∧ s.handle h.part handle = none) ∧
    (∃ (h : QHdr) (handle : Nat) (x : Handle) (s : State), s.inReset = false ∧ s.canTake h.part h.queue = true ∧ badHdr h
          3 false = false ∧ s.handle h.part handle = some x) ∧
    (∃ (h : QHdr) (handle : Nat) (grantee : Nat) (rights : Nat) (s : State), s.inReset = false ∧ s.canTake h.part h.queue
          = true ∧ badHdr h 3 false = false ∧ (s.share h.part handle grantee rights).2.status ≠ 0) ∧
    (∃ (h : QHdr) (handle : Nat) (grantee : Nat) (rights : Nat) (s : State), s.inReset = false ∧ s.canTake h.part h.queue
          = true ∧ badHdr h 3 false = false ∧ (s.share h.part handle grantee rights).2.status = 0) ∧
    (∃ (h : QHdr) (s : State), s.inReset = false ∧ s.canTake h.part h.queue = true ∧ (List.range 8).all (fun q =>
          (s.queueSt h.part q).head.isNone) = true) :=
  ⟨⟨cmd1 0, queue1 [], by decide +kernel⟩,
   ⟨15, 254, 7, 3, by decide +kernel⟩,
   ⟨cmd1 0, queue1 [], by decide +kernel⟩,
   ⟨cmd1 0, 7, queue1 [], by decide +kernel⟩,
   ⟨⟨2, 3, 3, 9, 0, 77, 5⟩, 4096, ⟨2, 0, 1, true, false, 1, 1, 4096⟩,
       (let s := surf1 (queue1 []); { s with place := { s.place with handles := [⟨2, 0, 1, true, false, 1, 1, 4096⟩] } }),
          by decide +kernel⟩,
   ⟨cmd1 0, 7, 5, 1, queue1 [], by decide +kernel⟩,
   ⟨cmd1 0, 4096, 5, 1, own2 (queue1 []), by decide +kernel⟩,
   ⟨cmd1 0, queue1 [], by decide +kernel⟩⟩

/-- States and operands that meet the premises of WaitsAndPresents, clause by clause. -/
theorem wit_WaitsAndPresents :
    (∃ (h : QHdr) (value : Nat) (s : State), s.inReset = false ∧ s.canTake h.part h.queue = true ∧ badHdr h 3 true = false
          ∧ h.arg < 255 ∧ s.fenceVal h.part h.arg < value ∧ s.endedWait h.part = none) ∧
    (∃ (h : QHdr) (value : Nat) (s : State), s.inReset = false ∧ s.canTake h.part h.queue = true ∧ badHdr h 3 true = false
          ∧ h.arg < 255 ∧ value ≤ s.fenceVal h.part h.arg ∧ bit h.flags 0 = false ∧ (List.range 8).all (fun q =>
          (s.queueSt h.part q).head.isNone) = true) ∧
    (∃ (t : Nat) (part : Nat) (queue : Nat) (c : HeadCmd) (k : Nat) (v : Nat) (d : Nat) (s : State), s.inReset = false ∧
          (s.queueSt part queue).head = some c ∧ c.op = .wait k v d ∧ d ≠ 0 ∧ d ≤ max s.now t ∧ c.hdr.part = part ∧
          c.hdr.queue = queue ∧ bit c.hdr.flags 0 = false ∧ s.cqFull part queue = false ∧ (s.queueSt part queue).waiting =
          [] ∧ s.endedWait part = none) ∧
    (∃ (ini : Ini) (part : Nat) (fence : Nat) (v : Word) (w : Word) (s : State), s.inReset = false ∧ part < 16 ∧ fence <
          255 ∧ s.takes ⟨ini, 0, 0x7600 + part, fence + 1, v⟩ w ∧ (List.range 8).all (fun q => (s.queueSt part
          q).head.isNone) = true) ∧
    (∃ (t : Nat) (h : QHdr) (handle : Nat) (slot : Nat) (region : Nat) (at0 : Nat) (rects : List Rect) (s : State),
          s.inReset = false ∧ s.canTake h.part h.queue = true ∧ s.renderPending h.part handle = false ∧ badHdr h 15 true =
          false ∧ h.arg ≤ 2 ∧ rects.length = h.arg ∧ rects.all (fun r => decide (1 ≤ r.w ∧ r.w ≤ 16384 ∧ 1 ≤ r.h ∧ r.h ≤
          16384)) = true ∧ (s.advance t).presentCode h handle slot region at0 = 0) ∧
    (∃ (h : QHdr) (handle : Nat) (s : State), s.inReset = false ∧ s.renderPending h.part handle = true) ∧
    (∃ (t : Nat) (h : QHdr) (handle : Nat) (slot : Nat) (region : Nat) (at0 : Nat) (rects : List Rect) (s : State),
          s.inReset = false ∧ s.canTake h.part h.queue = true ∧ s.renderPending h.part handle = false ∧ badHdr h 15 true =
          false ∧ h.arg ≤ 2 ∧ rects.length = h.arg ∧ rects.all (fun r => decide (1 ≤ r.w ∧ r.w ≤ 16384 ∧ 1 ≤ r.h ∧ r.h ≤
          16384)) = true ∧ (s.advance t).presentCode h handle slot region at0 ≠ 0) :=
  ⟨⟨cmd1 254, 8, queue1 [(0x7612, 255, 7), (0x7602, 255, 7)], by decide +kernel⟩,
   ⟨⟨2, 3, 2, 9, 254, 77, 5⟩, 7, queue1 [(0x7602, 255, 7)], by decide +kernel⟩,
   ⟨100, 2, 3, ⟨⟨2, 3, 2, 9, 254, 77, 5⟩, .wait 254 7 100, 0, false, 0, 0, 0, 0, false, none⟩, 254, 7, 100, (queue1
          []).putQueue ⟨2, 3, 4096, 4, 8192, some ⟨⟨2, 3, 2, 9, 254, 77, 5⟩, .wait 254 7 100, 0, false, 0, 0, 0, 0, false,
          none⟩, none, 0, [], none, 0, false, none⟩, by decide +kernel⟩,
   ⟨win 2, 2, 254, 7, 7, queue1 [(0x7602, 255, 8), (0x7612, 255, 9)], by decide +kernel⟩,
   ⟨100, cmd1 1, 4096, 3, 0, 0, [⟨0, 0, 16384, 1⟩], planned1k 0 (own2 (queue1 [])), by decide +kernel⟩,
   ⟨cmd1 1, 4096, own2 (two (.render [.clear 4096 0 0 5 5 9]) (some 2) fill1), by decide +kernel⟩,
   ⟨100, cmd1 0, 4096, 3, 0, 0, [], planned1k 1 (own2 (queue1 [])), by decide +kernel⟩⟩

/-- States and operands that meet the premises of EngineCommandsRun, clause by clause. -/
theorem wit_EngineCommandsRun :
    (∃ (h : QHdr) (w0 : Nat) (h0 : Nat) (s : State), s.inReset = false ∧ s.canTake h.part h.queue = true ∧ badHdr h 3
          false = false ∧ sidesOk w0 h0 = true) ∧
    (∃ (h : QHdr) (w0 : Nat) (h0 : Nat) (s : State), s.inReset = false ∧ s.canTake h.part h.queue = true ∧ badHdr h 3
          false = false ∧ sidesOk w0 h0 = true) ∧
    (∃ (h : QHdr) (w0 : Nat) (h0 : Nat) (s : State), s.inReset = false ∧ s.canTake h.part h.queue = true ∧ badHdr h 3 true
          = false ∧ sidesOk w0 h0 = true ∧ h.arg < 64 ∧ s.unitsHeld < 16) ∧
    (∃ (h : QHdr) (w0 : Nat) (h0 : Nat) (s : State), s.inReset = false ∧ s.canTake h.part h.queue = true ∧ h.part < 16 ∧
          badHdr h 3 true = false ∧ sidesOk w0 h0 = true ∧ h.arg < 64 ∧ 16 ≤ s.unitsHeld) ∧
    (∃ (h : QHdr) (s : State), s.inReset = false ∧ s.canTake h.part h.queue = true ∧ badHdr h 3 false = false) ∧
    (∃ (t : Nat) (engine : Nat) (x : QueueSt) (s : State), s.inReset = false ∧ engine < 3 ∧ s.onEngine engine = none ∧
          (engine = 2 → s.noLock 5 = false) ∧ ((s.advance t).choose (engineKind engine)).2 = some x ∧ ((s.advance
          t).choose (engineKind engine)).1.engineUp engine = true) ∧
    (∃ (t : Nat) (x : QueueSt) (c : HeadCmd) (s : State), s.inReset = false ∧ s.onEngine 2 = none ∧ s.noLock 5 = false ∧
          ((s.advance t).choose (engineKind 2)).2 = some x ∧ ((s.advance t).choose (engineKind 2)).1.engineUp 2 = false ∧
          x.head = some c) ∧
    (∃ (engine : Nat) (x : QueueSt) (c : HeadCmd) (s : State), s.inReset = false ∧ s.noLock 2 = false ∧ engine < 2 ∧
          s.onEngine engine = some x ∧ x.head = some c ∧ s.opStalled x.part c.op = false) ∧
    (∃ (engine : Nat) (x : QueueSt) (code : Nat), x.engine = some engine ∧ engine < 2 ∧ code ≠ codeStaleHandle) ∧
    (∃ (t : Nat) (engine : Nat) (x : QueueSt) (c : HeadCmd) (s : State), s.inReset = false ∧ engine < 2 ∧ s.onEngine
          engine = some x ∧ x.head = some c ∧ ((s.advance t).refillAll 0).opStalled x.part c.op = false ∧ ((s.advance
          t).refillAll 0).mustPreempt x 0 = true) ∧
    (∃ (x : QueueSt) (c : HeadCmd) (job : List RenderOp) (s : State), s.inReset = false ∧ s.noLock 5 = false ∧ s.rendering
          = some (x, c, job)) ∧
    (∃ (t : Nat) (x : QueueSt) (c : HeadCmd) (job : List RenderOp) (s : State), s.inReset = false ∧ s.rendering = some (x,
          c, job) ∧ ((s.advance t).refillAll 1).mustPreempt x 1 = true) ∧
    (∃ (t : Nat) (x : QueueSt) (c : HeadCmd) (job : List RenderOp) (s : State), s.inReset = false ∧ s.rendering = some (x,
          c, job) ∧ (s.advance t).overLimit x = true) ∧
    (∃ (part : Nat) (size : Nat) (kib : Nat) (valid : Bool) (supported : Bool) (sc : Bool) (code : Nat) (s : State),
          s.inReset = false ∧ code ≠ 0 ∧ s.translation (part % s.cfg.parts) size kib valid supported sc = code) ∧
    (∃ (part : Nat) (size : Nat) (kib : Nat) (valid : Bool) (supported : Bool) (sc : Bool) (s : State), s.inReset = false
          ∧ s.translation (part % s.cfg.parts) size kib valid supported sc = 0) :=
  ⟨⟨cmd1 0, 16384, 1, queue1 [], by decide +kernel⟩,
   ⟨cmd1 0, 1, 16384, queue1 [], by decide +kernel⟩,
   ⟨cmd1 63, 1, 16384, queue1 [], by decide +kernel⟩,
   ⟨cmd1 63, 1, 16384, foldS (fun s k => s.putQueue ⟨5, k, 4096, 4, 8192, some ⟨cmd1 0, .check 1 2 0 1 1, 0, true, 0, 0,
          0, 0, true, none⟩, some (3 + k), 0, [], some 7, 10, false, none⟩) (queue1 []) (List.range 16),
          by decide +kernel⟩,
   ⟨cmd1 0, queue1 [(0x7022, 5, 1)], by decide +kernel⟩,
   ⟨100, 1, onQ 4 fill1 none true, two fill1 (some 0) fill1, by decide +kernel⟩,
   ⟨100, onQ 4 (.render []) none true, ⟨cmd1 0, .render [], 0, false, 0, 0, 0, 0, false, none⟩,
       (let s := two fill1 (some 0) (.render []);
          { s with place := { s.place with lost := (List.range 16).map (fun k => (.cluster, k)) } }), by decide +kernel⟩,
   ⟨1, onQ 3 fill1 (some 1) false, ⟨cmd1 0, fill1, 0, false, 0, 0, 0, 0, false, none⟩, two fill1 (some 1) fill1,
          by decide +kernel⟩,
   ⟨1, onQ 3 fill1 (some 1) false, 0, by decide +kernel⟩,
   ⟨100, 1, onQ 3 (.fill 4096 0 0 1 1 0) (some 1) false, ⟨cmd1 0, .fill 4096 0 0 1 1 0, 0, false, 0, 0, 0, 0, false,
          none⟩, own2 (two (.fill 4096 0 0 1 1 0) (some 1) fill1), by decide +kernel⟩,
   ⟨onQ 3 (.render []) (some 2) false, ⟨cmd1 0, .render [], 0, false, 0, 0, 0, 0, false, none⟩, [], two (.render []) (some
          2) fill1, by decide +kernel⟩,
   ⟨100, onQ 3 (.render []) (some 2) false, ⟨cmd1 0, .render [], 0, false, 0, 0, 0, 0, false, none⟩, [], two (.render [])
          (some 2) (.render []), by decide +kernel⟩,
   ⟨10000000000, onQ 3 (.render []) (some 2) false, ⟨cmd1 0, .render [], 0, false, 0, 0, 0, 0, false, none⟩, [], two
          (.render []) (some 2) fill1, by decide +kernel⟩,
   ⟨18, 5, 6, false, true, false, codeSpirvInvalid, up [], by decide +kernel⟩,
   ⟨18, 5, 6, true, true, true, up [], by decide +kernel⟩⟩

/-- States and operands that meet the premises of MarkhorTripsAndRestarts, clause by clause. -/
theorem wit_MarkhorTripsAndRestarts :
    (∃ (t : Nat) (tries : List FwTry) (m : FwTry) (s : State), s.inReset = false ∧ s.sys.booted = false ∧ (s.advance
          t).bootFrom tries 1 = some m) ∧
    (∃ (t : Nat) (s : State), s.inReset = false ∧ s.markhorUp = true ∧ (s.sec.trips.filter (fun x => decide (max s.now t <
          x + 600000000000))).length < 3) ∧
    (∃ (t : Nat) (s : State), s.inReset = false ∧ s.markhorUp = true ∧ 3 ≤ (s.sec.trips.filter (fun x => decide (max s.now
          t < x + 600000000000))).length) ∧
    (∃ (t : Nat) (d : Nat) (s : State), s.inReset = false ∧ s.get 0x2000 1 = 0 ∧ s.sec.releaseAt = some d ∧ d ≤ max s.now t) ∧
    (∃ (ini : Ini) (v : Word) (w : Word) (s : State), s.inReset = false ∧ s.takes ⟨ini, 0, 0x2002, 2, v⟩ w ∧ s.get 0x2000
          1 ≠ 3 ∧ s.sys.booted = true) ∧
    (∃ (s : State), s.inReset = false ∧ s.get 0x2000 1 = 2) ∧
    (∃ (t : Nat) (d : Nat) (s : State), s.inReset = false ∧ s.edgeUp = true ∧ s.markhorUp = true ∧ s.sec.fullSince = some
          d ∧ d + 600000000000 ≤ max s.now t ∧ s.fwLevel < s.sec.fwVersion) :=
  ⟨⟨100, [⟨2, fw1 1, true⟩, ⟨2, fw1 2, true⟩], ⟨2, fw1 1, true⟩,
          { fused State.reset with sys := { State.reset.sys with booted := false } }, by decide +kernel⟩,
   ⟨700000000000, { up [] with sec := { State.reset.sec with trips := [1, 2, 3] } }, by decide +kernel⟩,
   ⟨600000000000, { up [] with sec := { State.reset.sec with trips := [1, 2, 3] } }, by decide +kernel⟩,
   ⟨100, 100, { st [(0x2000, 1, 0)] with sec := { State.reset.sec with releaseAt := some 100 } }, by decide +kernel⟩,
   ⟨win 0, 1, 1, up [], by decide +kernel⟩,
   ⟨up [(0x2000, 1, 2), (0x2000, 6, 2 ^ 32 - 1)], by decide +kernel⟩,
   ⟨600000000007, 7, { up [] with sec := { State.reset.sec with fullSince := some 7, fwVersion := 65 } }, by decide +kernel⟩⟩

/-- States and operands that meet the premises of KeysAndFusesServe, clause by clause. -/
theorem wit_KeysAndFusesServe :
    (∃ (ini : Ini) (f : FuseField) (signed : Bool) (s : State), s.inReset = false ∧ s.writeRefusal ⟨ini, 0, 0x2081, 0, 0⟩
          true = none ∧ s.fuseRefusal f signed = none) ∧
    (∃ (ini : Ini) (f : FuseField) (code : Nat) (signed : Bool) (s : State), s.inReset = false ∧ s.writeRefusal ⟨ini, 0,
          0x2081, 0, 0⟩ true = none ∧ s.fuseRefusal f signed = some code) ∧
    (∃ (bad : Nat) (r : FuseReq) (l : List FuseReq) (s : State), s.inReset = false ∧ s.edgeUp = true ∧ s.markhorUp = true
          ∧ s.sec.fuseReqs = r :: l ∧ s.inSlot 4 0 = true ∧ s.sec.challenges = [] ∧ s.fuseNeedsRng r = false ∧ r.value &&&
          bad = 0 ∧ s.til.reqs = []) ∧
    (∃ (ini : Ini) (data : List Byte) (s : State), s.inReset = false ∧ s.writeRefusal ⟨ini, 0, 0x2100, 0, 0⟩ true = none ∧
          data.length ≤ 261 ∧ s.markhorUp = true) ∧
    (∃ (ok : Bool) (x : SecWrite) (l : List SecWrite) (s : State), s.inReset = false ∧ s.noLock 0 = false ∧ s.sec.bundles
          = x :: l ∧ s.inSlot 3 64 = true ∧ s.bundleCode x.data ok = codeKeyBundleInvalid) ∧
    (∃ (ok : Bool) (x : SecWrite) (l : List SecWrite) (s : State), s.inReset = false ∧ s.noLock 0 = false ∧ s.sec.bundles
          = x :: l ∧ s.inSlot 3 64 = true ∧ s.bundleCode x.data ok = 0) ∧
    (∃ (ini : Ini) (data : List Byte) (s : State), s.inReset = false ∧ s.writeRefusal ⟨ini, 0, 0x2120, 0, 0⟩ true = none ∧
          data.length ≤ 64 + 4194304 + 3416 ∧ s.markhorUp = true) ∧
    (∃ (ini : Ini) (v : Word) (w : Word) (s : State), s.inReset = false ∧ s.takes ⟨ini, 0, 0x2110, 1, v⟩ w ∧ s.markhorUp =
          true ∧ s.sec.challenges = [] ∧ s.slotMail 6 = none) ∧
    (∃ (ini : Ini) (data : List Byte) (s : State), s.inReset = false ∧ s.writeRefusal ⟨ini, 0, 0x2111, 0, 0⟩ true = none ∧
          s.markhorUp = true ∧ data.length = 3462) ∧
    (∃ (t : Nat) (ok : Bool) (x : SecWrite) (l : List SecWrite) (s : State), s.inReset = false ∧ s.noLock 0 = false ∧
          s.sec.tokens = x :: l ∧ s.inSlot 6 0 = true ∧ (s.advance t).tokenCode x.data ok = 0 ∧ s.til.reqs = [] ∧
          s.sec.challenges = []) ∧
    (∃ (t : Nat) (s : State), s.inReset = false ∧ s.sec.authUntil ≤ max s.now t ∧ s.get 0x2110 3 ≠ 0) ∧
    (∃ (ini : Ini) (v : Word) (w : Word) (s : State), s.inReset = false ∧ s.takes ⟨ini, 0, 0x2110, 6, v⟩ w ∧ s.get 0x2110
          3 ≠ 0) :=
  ⟨⟨win 0, .debugLock, false, up [], by decide +kernel⟩,
   ⟨win 0, .debugLock, codeKeyServiceUnavailable, false, st [(0x2000, 1, 0)], by decide +kernel⟩,
   ⟨0, ⟨win 0, 88, 2, 3, 0⟩, [], ({ up [] with sec := { State.reset.sec with fuseReqs := [⟨win 0, 88, 2, 3, 0⟩] } } :
          State).post 4 0, by decide +kernel⟩,
   ⟨win 0, [1, 2], up [], by decide +kernel⟩,
   ⟨false, ⟨win 0, [1, 2]⟩, [], ({ up [] with sec := { State.reset.sec with bundles := [⟨win 0, [1, 2]⟩] } } : State).post
          3 64, by decide +kernel⟩,
   ⟨true, ⟨win 0, bundle1⟩, [],
          ({ (blank (up [])).blow 5120 1 with sec := { State.reset.sec with bundles := [⟨win 0, bundle1⟩] } } :
          State).post 3 64, by decide +kernel⟩,
   ⟨win 0, fw1 2, fused (up []), by decide +kernel⟩,
   ⟨win 0, 1, 1, up [(0x9180, 1, 1)], by decide +kernel⟩,
   ⟨win 0, List.replicate 3462 0, up [], by decide +kernel⟩,
   ⟨100, true, ⟨win 0, token1⟩, [],
          ({ (blank (up [])).putBlk (okey 0 0x2110 2) (List.replicate 32 0) with sec := { State.reset.sec with tokens := [⟨win 0, token1⟩], nonceUntil := some 100 } }
          : State).post 6 0, by decide +kernel⟩,
   ⟨100, st [(0x2110, 3, 1)], by decide +kernel⟩,
   ⟨win 0, 1, 1, st [(0x2110, 3, 1), (0x2110, 5, 7)], by decide +kernel⟩⟩

/-- States and operands that meet the premises of RandomNumbersServe, clause by clause. -/
theorem wit_RandomNumbersServe :
    (∃ (s : State), s.inReset = false ∧ s.edgeUp = true ∧ s.get 0x9180 1 ≠ 1 ∧ s.get 0x9180 3 ≠ 1 ∧ s.sec.challenges = []) ∧
    (∃ (s : State), s.inReset = false ∧ s.get 0x9180 3 ≠ 1) ∧
    (∃ (t : Nat) (s : State), s.inReset = false ∧ s.edgeUp = true ∧ s.get 0x9180 1 = 1 ∧ (2 ^ 20 ≤ s.sec.requests ∨
          s.sec.seeded + 1000000000 ≤ max s.now t)) ∧
    (∃ (t : Nat) (lost : Bool) (s : State), s.inReset = false ∧ s.edgeUp = true ∧ s.get 0x9180 1 = 1 ∧ (lost = true ∨
          s.sec.seedAt + 3600000000000 ≤ max s.now t)) ∧
    (∃ (ini : Ini) (s : State), s.inReset = false ∧ (ini.secure = true ∨ s.narrowed ini.part 0x9181 false = false)) :=
  ⟨⟨(let s := st [(0x9180, 1, 0)]; { s with sec := { s.sec with failedReady := true } }), by decide +kernel⟩,
   ⟨(let s := st [(0x9180, 1, 1)]; { s with sec := { s.sec with healthFails := [8, 7] } }), by decide +kernel⟩,
   ⟨100, (let s := st [(0x9180, 1, 1)]; { s with sec := { s.sec with requests := 2 ^ 20 } }), by decide +kernel⟩,
   ⟨100, true, st [(0x9180, 1, 1)], by decide +kernel⟩,
   ⟨win 3, st [(0x9180, 1, 1)], by decide +kernel⟩⟩

/-- States and operands that meet the premises of TransactionsAreChecked, clause by clause. -/
theorem wit_TransactionsAreChecked :
    (∃ (t : Nat) (port : Nat) (init : Nat) (part : Nat) (q : Nat) (sec : Bool) (z : Bool) (write : Bool) (addr : Nat) (len
          : Nat) (data : List Byte) (x : Nat) (tgt : Nat) (s : State), s.inReset = false ∧ s.targetOf addr ≠ 2 ∧ init ≠ 11
          ∧ ¬(init = 1 ∧ write = true) ∧ (s.advance t).stamp init port part sec = some (q, z) ∧ s.accessFails q z write
          addr (if write then data.length else len) = some (x, tgt)) ∧
    (∃ (addr : Nat) (s : State), s.inReset = false ∧ s.targetOf addr ≠ 2) ∧
    (∃ (t : Nat) (port : Nat) (init : Nat) (part : Nat) (sec : Bool) (s : State), s.inReset = false ∧ init ≠ 11 ∧
          (s.advance t).stamp init port part sec = none) ∧
    (∃ (t : Nat) (port : Nat) (init : Nat) (part : Nat) (q : Nat) (sec : Bool) (z : Bool) (addr : Nat) (data : List Byte)
          (s : State), s.inReset = false ∧ s.targetOf addr = 1 ∧ init ≠ 11 ∧ init ≠ 1 ∧ (s.advance t).stamp init port part
          sec = some (q, z) ∧ s.accessFails q z true addr data.length = none ∧ 0 < data.length ∧ s.surfAt addr = none ∧
          s.memc.waiting.any (fun y => y.port == port) = false ∧ (List.range 8).any (fun r => s.get (trIdx r) 1 == 1 &&
          s.get (trIdx r) 2 == 5) = false) ∧
    (∃ (t : Nat) (port : Nat) (init : Nat) (part : Nat) (q : Nat) (sec : Bool) (z : Bool) (addr : Nat) (len : Nat) (s :
          State), s.inReset = false ∧ s.targetOf addr = 1 ∧ init ≠ 11 ∧ (s.advance t).stamp init port part sec = some (q,
          z) ∧ s.accessFails q z false addr len = none ∧ 0 < len ∧ s.surfAt addr = none ∧ s.firstBroken addr len = none ∧
          s.memc.waiting.any (fun y => y.port == port) = false ∧ (List.range 8).any (fun r => s.get (trIdx r) 1 == 1 &&
          s.get (trIdx r) 2 == 5) = false) ∧
    (∃ (t : Nat) (id : Nat) (port : Nat) (init : Nat) (part : Nat) (q : Nat) (sec : Bool) (z : Bool) (cls : Nat) (addr :
          Nat) (data : List Byte) (e : Bool) (s : State), s.inReset = false ∧ s.targetOf addr = 0 ∧ init ≠ 11 ∧ init ≠ 1 ∧
          (s.advance t).stamp init port part sec = some (q, z) ∧ s.accessFails q z true addr data.length = none ∧ 0 <
          data.length ∧ s.surfAt addr = none ∧ s.dramHeld addr = false ∧ s.memc.waiting.any (fun y => y.port == port) =
          false ∧ (List.range 8).any (fun r => s.get (trIdx r) 1 == 1 && s.get (trIdx r) 2 == 5) = false ∧ s.entryFor ⟨id,
          port, init, q, z, sourceClass init cls, true, addr, data.length, data, 0, max s.now t, false, none⟩ = some e) ∧
    (∃ (port : Nat) (s : State), s.inReset = false ∧ (s.sec.dmaOn.any (fun x => x.1 == port % 64)) = false) ∧
    (∃ (s : State), s.inReset = false ∧ s.memc.waiting = []) ∧
    (∃ (t : Nat) (id : Nat) (r : MemReq) (s : State), s.inReset = false ∧ s.memc.inflight = [r] ∧ r.id = id ∧ 2 ≤ r.cls ∧
          r.since + s.get 0x3010 3 * 1000 ≤ max s.now t) ∧
    (∃ (ini : Ini) (off : Nat) (len : Nat) (s : State), s.inReset = false ∧ (ini.path = .pf ∨ ini.path = .vf) ∧ 0 < len ∧
          len ≤ 256 ∧ s.aperAt ini.part off = none) ∧
    (∃ (ini : Ini) (off : Nat) (len : Nat) (s : State), s.inReset = false ∧ (ini.path = .pf ∨ ini.path = .vf) ∧ 0 < len ∧
          len ≤ 256 ∧ (List.range len).findSome? (fun i => s.aperFails ini.part false (off + i)) = none ∧ (s.aperAt
          ini.part off).elim false (fun x => decide (off + len ≤ x.1.aper + x.2.size)) = true) :=
  ⟨⟨100, 2, 0, 4, 4, true, false, true, 0x70000000, 0, [1, 2], 0x70000000, 4, st [], by decide +kernel⟩,
   ⟨tsBase, st [], by decide +kernel⟩,
   ⟨100, 2, 12, 4, true, (blank (st [])).blow 88 1, by decide +kernel⟩,
   ⟨100, 2, 4, 4, 0, true, true, tsBase + 5, [1, 2], st [], by decide +kernel⟩,
   ⟨100, 2, 4, 4, 0, true, true, tsBase + 5, 2, (st []).wrByte (tsBase + 6) 9, by decide +kernel⟩,
   ⟨100, 1, 2, 4, 0, 0, true, true, 0, dramBase, [1, 2], true, dram (st []), by decide +kernel⟩,
   ⟨66, st [], by decide +kernel⟩,
⟨{ State.reset with memc := { State.reset.memc with inflight := [⟨1, 0, 0, 0, true, 2, true, 5, 1, [1], 0, 5, true, none⟩, ⟨2, 0, 0, 0, true, 2, true, 5, 1, [1], 0, 5, true, none⟩] } },
          by decide +kernel⟩,
   ⟨100000000000, 1, ⟨1, 0, 0, 3, true, 2, true, 5, 1, [1], 0, 5, true, none⟩,
          { State.reset with memc := { State.reset.memc with inflight := [⟨1, 0, 0, 3, true, 2, true, 5, 1, [1], 0, 5, true, none⟩] } },
          by decide +kernel⟩,
   ⟨⟨3, false, .vf⟩, 77, 256, st [], by decide +kernel⟩,
   ⟨⟨3, false, .vf⟩, 4096, 256, surf1 (st []), by decide +kernel⟩⟩

/-- States and operands that meet the premises of DramIsKept, clause by clause. -/
theorem wit_DramIsKept :
    (∃ (chan : Nat) (s : State), s.inReset = false ∧ s.chanUsable chan = true ∧ s.memc.freqRun = none ∧ s.isUnderPanic
          chan = true) ∧
    (∃ (chan : Nat) (s : State), s.inReset = false ∧ s.chanUsable chan = true ∧ s.memc.freqRun = none ∧ s.isUnderPanic
          chan = false ∧ s.memc.inflight = [] ∧ -4 ≤ s.owed chan ∧ s.owed chan ≤ 4) ∧
    (∃ (c : Nat) (s : State), s.inReset = false ∧ c < 32 ∧ s.chanUsable c = true) ∧
    (∃ (op : Nat) (at0 : Nat) (s : State), s.inReset = false ∧ s.memc.freqReq = some (op, at0) ∧ s.memc.freqRun = none ∧
          s.scan.heads = [] ∧ s.memc.panicSince = [] ∧ (List.range 32).all (fun c => decide (s.owed c < 4)) = true ∧ s.get
          (0x3064 + op) 2 = 1) ∧
    (∃ (op : Nat) (at0 : Nat) (s : State), s.inReset = false ∧ s.memc.freqRun = some (op, at0) ∧ op < 4) ∧
    (∃ (t : Nat) (op : Nat) (at0 : Nat) (s : State), s.inReset = false ∧ s.memc.freqReq = some (op, at0) ∧ at0 + s.get
          0x3060 2 * 1000000 ≤ max s.now t) ∧
    (∃ (s : State), s.inReset = false ∧ (List.range 32).any (fun c => s.get (0x3040 + c) 1 == 3) = true) ∧
    (∃ (c : Nat) (s : State), c < (if s.cfg.dramGen = 4 then s.cfg.groups * 2 else s.cfg.groups * 4) ∧ s.get (0x3040 + c)
          1 = 3) ∧
    (∃ (s : State), s.inReset = false ∧ s.sys.eccDue = true ∧ (List.range 32).any s.chanUsable = true ∧ 4 ≤ s.get 0x4000 7) ∧
    (∃ (group : Nat) (s : State), s.inReset = false ∧ group < s.cfg.groups) ∧
    (∃ (group : Nat) (x : Nat) (s : State), s.inReset = false ∧ group < s.cfg.groups ∧ s.targetOf x = 0 ∧ s.eccCovers x =
          true ∧ (x - dramBase) / groupSpan = group) :=
  ⟨⟨31,
       (let s := st [(0x3040 + 31, 1, 1), (0x3040 + 31, 3, 3)];
          { s with memc := { s.memc with panicSince := [(31, 5)] } }), by decide +kernel⟩,
   ⟨31, (st [(0x3040 + 31, 1, 1)]).putI (0x3040 + 31) 3 (-4), by decide +kernel⟩,
   ⟨2, st [(0x3042, 1, 1)], by decide +kernel⟩,
   ⟨3, 5, (let s := st [(0x3067, 2, 1)]; { s with memc := { s.memc with freqReq := some (3, 5) } }), by decide +kernel⟩,
   ⟨3, 5, (let s := st []; { s with memc := { s.memc with freqRun := some (3, 5) } }), by decide +kernel⟩,
   ⟨1000000000000, 3, 5, (let s := st []; { s with memc := { s.memc with freqReq := some (3, 5) } }), by decide +kernel⟩,
   ⟨st [(0x3041, 1, 3)], by decide +kernel⟩,
   ⟨31, st [(0x3040 + 31, 1, 3)], by decide +kernel⟩,
   ⟨(let s := st [(0x3041, 1, 1), (0x4000, 7, 255)]; { s with sys := { s.sys with eccDue := true } }), by decide +kernel⟩,
   ⟨7, st [], by decide +kernel⟩,
   ⟨0, dramBase, dram (st [(0x3080, 1, 8)]), by decide +kernel⟩⟩

/-- States and operands that meet the premises of StoresAreKept, clause by clause. -/
theorem wit_StoresAreKept :
    (∃ (t : Nat) (bank : Nat) (x : Nat) (s : State), s.inReset = false ∧ bank < s.cfg.banks ∧ s.get (0x30A0 + bank) 1 = 1
          ∧ s.bankHolds bank = true ∧ (s.memc.bankAt.find? (fun y => y.1 == bank)) = some (bank, x) ∧ x + s.get 0x30C0 1 *
          1000 ≤ max s.now t) ∧
    (∃ (t : Nat) (counter : Nat) (x : Wear) (s : State), s.inReset = false ∧ counter < 256 ∧ s.memc.wear.find? (fun y =>
          y.key == okey 0 (0xC000 + counter) 0) = some x ∧ x.pend = true ∧ x.last + 100000000 ≤ max s.now t) ∧
    (∃ (t : Nat) (index : Nat) (x : Wear) (s : State), s.inReset = false ∧ 0xC100 ≤ index ∧ index < 0xFF80 ∧
          s.memc.wear.find? (fun y => y.key == okey 0 index 0) = some x ∧ x.pend = true ∧ x.last + 10000000000 ≤ max s.now
          t) ∧
    (∃ (ini : Ini) (s : State), s.inReset = false ∧ s.writeRefusal ⟨ini, 0, 0x30D8, 1, 0⟩ true = none) ∧
    (∃ (ini : Ini) (v : Word) (w : Word) (s : State), s.inReset = false ∧ s.takes ⟨ini, 0, 0x30D8, 2, v⟩ w) :=
  ⟨⟨100000000000, 0, 5,
       (let s := surf1 (st [(0x30A0, 1, 1)]); { s with memc := { s.memc with bankAt := [(0, 5)] } }), by decide +kernel⟩,
   ⟨100000005, 255, ⟨okey 0 0xC0FF 0, 5, true, 3⟩,
       (let s := st [(0xC0FF, 0, 77)]; { s with memc := { s.memc with wear := [⟨okey 0 0xC0FF 0, 5, true, 3⟩] } }),
          by decide +kernel⟩,
   ⟨10000000005, 0xFF7F, ⟨okey 0 0xFF7F 0, 5, true, 3⟩,
       (let s := (st []).putBlk (okey 0 0xFF7F 0) [7];
          { s with memc := { s.memc with wear := [⟨okey 0 0xFF7F 0, 5, true, 3⟩] } }), by decide +kernel⟩,
   ⟨win 0, up [], by decide +kernel⟩,
   ⟨win 0, 7, 7,
       (let s := st []; { s with memc := { s.memc with library := [⟨7, 0, 8, 8, [], 9, false⟩] } }), by decide +kernel⟩⟩

/-- States and operands that meet the premises of FlitsAreTaken, clause by clause. -/
theorem wit_FlitsAreTaken :
    (∃ (port : Nat) (bytes : List Byte) (s : State), s.inReset = false ∧ s.linkRuns port = true ∧ s.get (chIdx port + 3) 1
          = 0 ∧ (s.link port).foxHeld = none ∧ flitCrcOk bytes = true ∧ (Flit.ofBytes bytes).ty = 1) ∧
    (∃ (port : Nat) (bytes : List Byte) (s : State), s.inReset = false ∧ s.linkRuns port = true ∧ s.get (chIdx port + 3) 1
          = 0 ∧ flitCrcOk bytes = false) ∧
    (∃ (port : Nat) (s : State), s.inReset = false ∧ s.linkRuns port = true ∧ s.get (chIdx port + 3) 1 = 0) ∧
    (∃ (port : Nat) (bytes : List Byte) (s : State), s.inReset = false ∧ s.linkRuns port = true ∧ s.get (chIdx port + 3) 1
          = 0 ∧ flitCrcOk bytes = true ∧ (Flit.ofBytes bytes).ty = 2) ∧
    (∃ (port : Nat) (bytes : List Byte) (s : State), s.inReset = false ∧ s.linkRuns port = true ∧ s.get (chIdx port + 3) 1
          = 0 ∧ flitCrcOk bytes = true ∧ (Flit.ofBytes bytes).ty = 0 ∧ (s.link port).txq = []) ∧
    (∃ (t : Nat) (port : Nat) (s : State), s.inReset = false ∧ s.linkRuns port = true ∧ (s.link port).sentAt + 1000 ≤ max
          s.now t) ∧
    (∃ (t : Nat) (port : Nat) (f : TxFlit) (s : State), s.inReset = false ∧ s.linkRuns port = true ∧ (s.link
          port).unacked.head? = some f ∧ (s.link port).ackAt + 10000 ≤ max s.now t) :=
  ⟨⟨3, (Flit.bytes ⟨1, 0, 0, 0, 1, 0, 0, true, true, 0, [1, 2]⟩), st [(0x781D, 1, 2)], by decide +kernel⟩,
   ⟨3, [1], st [(0x781D, 1, 3), (0x781E, 3, 2 ^ 32 - 1)], by decide +kernel⟩,
   ⟨3, st [(0x781D, 1, 2)], by decide +kernel⟩,
   ⟨3, (Flit.bytes ⟨2, 5, 0, 0, 1, 0, 0, true, true, 0, []⟩), st [(0x781D, 1, 2)], by decide +kernel⟩,
   ⟨3, (Flit.bytes ⟨0, 0, 6, 0, 1, 0, 0, true, true, 0, []⟩), (st [(0x781D, 1, 2)]).putLink
          { (st []).link 3 with unacked := [⟨5, []⟩, ⟨6, []⟩, ⟨7, []⟩] }, by decide +kernel⟩,
   ⟨1000, 3, st [(0x781D, 1, 2)], by decide +kernel⟩,
   ⟨10000, 3, ⟨5, []⟩, (st [(0x781D, 1, 2)]).putLink { (st []).link 3 with unacked := [⟨5, []⟩] }, by decide +kernel⟩⟩

/-- States and operands that meet the premises of PortsTrainAndRetry, clause by clause. -/
theorem wit_PortsTrainAndRetry :
    (∃ (port : Nat) (lanes : Nat) (n : Nat) (s : State), s.inReset = false ∧ port < s.cfg.chamois ∧ s.get (chIdx port + 1)
          1 = 1 ∧ s.pdOn 13 = true ∧ n = (if 4 ≤ min lanes (s.get (chIdx port) 3) then 4 else if 2 ≤ min lanes (s.get
          (chIdx port) 3) then 2 else min lanes (s.get (chIdx port) 3)) ∧ n ≠ 0) ∧
    (∃ (port : Nat) (lanes : Nat) (s : State), s.inReset = false ∧ port < s.cfg.chamois ∧ s.get (chIdx port + 1) 1 = 1 ∧
          s.pdOn 13 = true ∧ min lanes (s.get (chIdx port) 3) = 0) ∧
    (∃ (t : Nat) (port : Nat) (s : State), s.inReset = false ∧ port < s.cfg.chamois ∧ s.pdOn 13 = true ∧ s.get (chIdx
          port) 1 = 1 ∧ s.get (chIdx port + 1) 1 = 4 ∧ s.isLost .chamois port = false ∧ (s.link port).downAt + 1000000000
          ≤ max s.now t) ∧
    (∃ (src : Nat) (cls : Nat) (seq : Nat) (s : State), s.inReset = false ∧ (s.e2eTx src cls).held = [] ∧ ((s.e2eTx src
          cls).msgs.filter (fun m => serialLater 16 m.1 seq)).length < (s.e2eTx src cls).msgs.length) ∧
    (∃ (t : Nat) (dest : Nat) (cls : Nat) (s : State), s.inReset = false ∧ (s.e2eTx dest cls).msgs ≠ [] ∧ (s.e2eTx dest
          cls).tries < 3 ∧ (s.e2eTx dest cls).at_ + s.get 0x7800 7 * 1000 ≤ max s.now t) ∧
    (∃ (t : Nat) (dest : Nat) (cls : Nat) (m : Nat × Nat × List Byte) (l : List (Nat × Nat × List Byte)) (s : State),
          s.inReset = false ∧ (s.e2eTx dest cls).msgs = m :: l ∧ 3 ≤ (s.e2eTx dest cls).tries ∧ (s.e2eTx dest cls).at_ +
          s.get 0x7800 7 * 1000 ≤ max s.now t ∧ (s.e2eTx dest cls).held = [] ∧ numAt m.2.2 2 1 ≠ 1) :=
  ⟨⟨3, 3, 2, st [(0x781D, 1, 1)], by decide +kernel⟩,
   ⟨3, 0, st [(0x781D, 1, 1)], by decide +kernel⟩,
   ⟨1000000100, 3, (st [(0x781C, 1, 1), (0x781D, 1, 4)]).putLink { (st []).link 3 with downAt := 100 }, by decide +kernel⟩,
   ⟨2, 1, 7, (st []).putE2eTx ⟨2, 1, 9, [(7, 0, []), (8, 0, [])], 0, 2, []⟩, by decide +kernel⟩,
   ⟨100000000, 2, 1, (st []).putE2eTx ⟨2, 1, 9, [(7, 0, []), (8, 0, [])], 0, 2, []⟩, by decide +kernel⟩,
   ⟨100000000, 2, 1, (7, 0, []), [(8, 0, [])], (st []).putE2eTx ⟨2, 1, 9, [(7, 0, []), (8, 0, [])], 0, 3, []⟩,
          by decide +kernel⟩⟩

/-- States and operands that meet the premises of MessagesAreTaken, clause by clause. -/
theorem wit_MessagesAreTaken :
    (∃ (src : Nat) (s : State), s.inReset = false ∧ s.get (0x7940 + src) 1 = 1) ∧
    (∃ (t : Nat) (src : Nat) (part : Nat) (addr : Nat) (data : List Byte) (s : State), s.inReset = false ∧ s.get (0x7940 +
          src) 1 = 1 ∧ (s.advance t).bulkCheck part false true addr data.length = none ∧ (s.advance t).surfAt addr = none)
          ∧
    (∃ (t : Nat) (src : Nat) (part : Nat) (addr : Nat) (len : Nat) (s : State), s.inReset = false ∧ s.get (0x7940 + src) 1
          = 1 ∧ 0 < len ∧ len ≤ 65536 ∧ (s.advance t).bulkCheck part false false addr len = none) ∧
    (∃ (src : Nat) (addr : Nat) (r : RemoteRead) (s : State), s.inReset = false ∧ s.fabric.reads.find? (fun r => r.node ==
          src && r.addr == addr) = some r) ∧
    (∃ (src : Nat) (s : State), s.inReset = false ∧ s.get (0x7940 + src) 1 ≠ 1) :=
  ⟨⟨3, st [(0x7943, 1, 1)], by decide +kernel⟩,
   ⟨100, 3, 0, tsBase, [1, 2], st [(0x7943, 1, 1)], by decide +kernel⟩,
   ⟨100, 3, 0, tsBase, 16, st [(0x7943, 1, 1)], by decide +kernel⟩,
   ⟨3, 64, { node := 3, addr := 64, len := 2, part := 5 },
          { State.reset with fabric := { State.reset.fabric with reads := [{ node := 3, addr := 64, len := 2, part := 5 }] } },
          by decide +kernel⟩,
   ⟨3, st [], by decide +kernel⟩⟩

/-- States and operands that meet the premises of MembersComeAndGo, clause by clause. -/
theorem wit_MembersComeAndGo :
    (∃ (port : Nat) (serial : Nat) (config : Nat) (node : Nat) (nport : Nat) (s : State), s.inReset = false ∧ s.linkUp
          port = true ∧ node < 64 ∧ node ≠ s.selfNode ∧ (s.neighbourOf port).elim (nport == port) (fun x => x.1 == node &&
          x.2 == nport) = true ∧ s.get (0x7940 + node) 1 ≠ 1 ∧ s.fabric.topology ≠ 0 ∧ s.configBars config = false ∧
          serial < 2 ^ 64 ∧ config < 2 ^ 64 ∧ nport < 2 ^ 64) ∧
    (∃ (port : Nat) (serial : Nat) (config : Nat) (node : Nat) (s : State), s.inReset = false ∧ s.linkUp port = true ∧
          node < 64 ∧ s.get (0x7940 + node) 1 = 1 ∧ s.get (0x7940 + node) 2 ≠ serial ∧ s.fabric.topology ≠ 0 ∧
          s.configBars config = false) ∧
    (∃ (port : Nat) (config : Nat) (node : Nat) (s : State), s.inReset = false ∧ s.linkUp port = true ∧ node < 64 ∧
          s.fabric.topology ≠ 0 ∧ s.get (0x7940 + node) 1 ≠ 2 ∧ s.configBars config = true) ∧
    (∃ (port : Nat) (node : Nat) (s : State), s.inReset = false ∧ s.linkUp port = true ∧ node < 64 ∧ s.fabric.topology = 0) ∧
    (∃ (node : Nat) (s : State), s.inReset = false ∧ node < 64 ∧ (s.get (0x7940 + node) 1 = 1 ∨ s.get (0x7940 + node) 1 ≠
          2 ∧ s.farNode node = false)) ∧
    (∃ (node : Nat) (s : State), s.inReset = false ∧ node < 64 ∧ s.get (0x7940 + node) 1 ≠ 1 ∧ s.get (0x7940 + node) 1 ≠ 2
          ∧ s.farNode node = true) ∧
    (∃ (k : Nat) (n : Nat) (s : State), s.inReset = false ∧ 2 ≤ s.fabric.topology ∧ s.carryPorts = [k] ∧ n = s.get (chIdx
          k + 1) 4 ∧ n < 64 ∧ s.get (0x7940 + n) 1 = 1) ∧
    (∃ (node : Nat) (s : State), s.inReset = false ∧ node < 64 ∧ s.get (0x7940 + node) 1 = 1 ∧ s.nodeReach node = false ∧
          s.place.surfs.any (fun f => f.loc == 2 && f.group == node && !f.homeless) = false) :=
  ⟨⟨3, 77, 0x46, 63, 3, { st [(0x781D, 1, 2)] with fabric := { State.reset.fabric with topology := 1 } }, by decide +kernel⟩,
   ⟨3, 77, 0x46, 63,
          { st [(0x781D, 1, 2), (0x797F, 1, 1), (0x797F, 2, 76)] with fabric := { State.reset.fabric with topology := 1 } },
          by decide +kernel⟩,
   ⟨3, 0x43, 63, { st [(0x781D, 1, 2)] with fabric := { State.reset.fabric with topology := 1 } }, by decide +kernel⟩,
   ⟨3, 63, st [(0x781D, 1, 2)], by decide +kernel⟩,
   ⟨63, st [], by decide +kernel⟩,
   ⟨3, { st [] with fabric := { State.reset.fabric with topology := 2, ringSize := 6 } }, by decide +kernel⟩,
   ⟨3, 1,
          { st [(0x781D, 1, 2), (0x781D, 4, 1), (0x7941, 1, 1)] with fabric := { State.reset.fabric with topology := 2, ringSize := 2 } },
          by decide +kernel⟩,
   ⟨63, st [(0x797F, 1, 1), (0x7820, 7, 63)], by decide +kernel⟩⟩

/-- States and operands that meet the premises of TimeIsDistributed, clause by clause. -/
theorem wit_TimeIsDistributed :
    (∃ (port : Nat) (s : State), s.inReset = false ∧ s.linkRuns port = true) ∧
    (∃ (port : Nat) (got : Nat) (s : State), s.inReset = false ∧ s.linkRuns port = true ∧ ((s.link port).timeSent = 0 ∨
          got = 0)) ∧
    (∃ (port : Nat) (got : Nat) (master : Nat) (s : State), s.inReset = false ∧ s.linkRuns port = true ∧ (s.link
          port).timeSent ≠ 0 ∧ got ≠ 0 ∧ 64 ≤ master) ∧
    (∃ (s : State), s.inReset = false ∧ (s.get 0x7820 1 = 1 ∨ s.get 0x7820 1 = 2) ∧ s.get 0x7820 6 = 4) ∧
    (∃ (t : Nat) (ini : Ini) (v : Word) (w : Word) (s : State), s.inReset = false ∧ s.get 0x7820 1 = 3 ∧ s.takes ⟨ini, 0,
          0x7820, 5, v⟩ w ∧ (s.advance t).wallSetRefusal w.toNat = none) ∧
    (∃ (mac : Nat) (s : State), s.inReset = false ∧ mac < 2 ∧ s.get (ethIdx mac + 1) 1 = 1 ∧ s.pdOn 18 = true ∧ s.edgeUp =
          true ∧ s.noLock 33 = false ∧ s.get 0x7820 1 ≠ mac + 1) ∧
    (∃ (mac : Nat) (s : State), s.inReset = false ∧ mac < 2 ∧ s.get (ethIdx mac + 1) 1 = 1 ∧ s.pdOn 18 = true ∧ s.edgeUp =
          true ∧ s.noLock 33 = false ∧ s.get 0x7820 1 = mac + 1 ∧ s.fabric.topology = 0) :=
  ⟨⟨3, st [(0x781D, 1, 2)], by decide +kernel⟩,
   ⟨3, 0, st [(0x781D, 1, 2)], by decide +kernel⟩,
   ⟨3, 950, 64, (st [(0x781D, 1, 2)]).putLink { (st []).link 3 with timeSent := 9000 }, by decide +kernel⟩,
   ⟨st [(0x7820, 1, 2), (0x7820, 6, 4)], by decide +kernel⟩,
   ⟨100, win 0, 5000, 5000, st [(0x7820, 1, 3)], by decide +kernel⟩,
   ⟨1, st [(ethIdx 1 + 1, 1, 1)], by decide +kernel⟩,
   ⟨1, st [(ethIdx 1 + 1, 1, 1), (0x7820, 1, 2)], by decide +kernel⟩⟩

/-- States and operands that meet the premises of TwinIsSupervised, clause by clause. -/
theorem wit_TwinIsSupervised :
    (∃ (port : Nat) (s : State), s.inReset = false ∧ s.fabric.topology = 1 ∧ s.linkUp port = true) ∧
    (∃ (k : Nat) (n : Nat) (s : State), s.inReset = false ∧ s.planRuns = true ∧ s.fabric.topology = 1 ∧ s.carryPorts = [k]
          ∧ n = s.get (chIdx k + 1) 4 ∧ n < 64) ∧
    (∃ (s : State), s.inReset = false ∧ s.plan.active.isSome = true ∧ s.plannerUp = true) ∧
    (∃ (s : State), s.inReset = false) ∧
    (∃ (transport : Nat) (f : TilFrame) (h : TilHead) (s : State), s.inReset = false ∧ s.get 0x7840 1 ≠ 0 ∧ transport + 1
          = s.get 0x7840 1 ∧ h = { f.head with via := transport } ∧ s.heard { f with head := h } = true ∧ h.op = 0x8D ∧
          h.client = 0 ∧ f.mac = tagOf (followKey h.tag ((numAt f.payload 20 1 + 256 - s.fabric.twin.gen) % 256)
          s.fabric.twin.gen s.fabric.twin.key) h.tag h f.len f.payload) ∧
    (∃ (t : Nat) (lost : Bool × Bool × Bool) (s : State), s.inReset = false ∧ s.fabric.topology = 1 ∧ s.fabric.twin.formed
          = true ∧ (s.advance t).channelsLost = lost) ∧
    (∃ (s : State), s.inReset = false ∧ s.fabric.topology = 1 ∧ s.get 0x7840 6 = 1) ∧
    (∃ (ini : Ini) (port : Nat) (sub : Nat) (v : Word) (w : Word) (s : State), s.inReset = false ∧ port < 4 ∧ sub ≠ 0 ∧
          s.takes ⟨ini, 0, chIdx port + 3, sub, v⟩ w ∧ s.foxRefusal port = none) :=
  ⟨⟨3, { st [(0x781D, 1, 2), (0x7841, 1, 2)] with fabric := { State.reset.fabric with topology := 1 } }, by decide +kernel⟩,
   ⟨3, 1, { st [(0x781D, 1, 2), (0x781D, 4, 1)] with fabric := { State.reset.fabric with topology := 1 } },
          by decide +kernel⟩,
   ⟨planned1 (up []), by decide +kernel⟩,
   ⟨st [(0x9700, 1, 4)], by decide +kernel⟩,
   ⟨2, witFrame, witFrame.head, st [(0x7840, 1, 3), (ethIdx 1, 1, 1), (ethIdx 1 + 1, 1, 1), (0x1040, 4, 5)],
          by decide +kernel⟩,
   ⟨1000000000, (true, true, true),
          { st [(0x7841, 1, 1), (0x7840, 1, 1)] with fabric := { State.reset.fabric with topology := 1, twin := { State.reset.fabric.twin with formed := true } } },
          by decide +kernel⟩,
   ⟨{ st [(0x7840, 6, 1)] with fabric := { State.reset.fabric with topology := 1 } }, by decide +kernel⟩,
   ⟨win 0, 3, 3, 8, 8, (st [(0x2110, 3, 1), (0x2110, 4, 8), (0x781F, 1, 1)]), by decide +kernel⟩⟩

/-- States and operands that meet the premises of TouchFramesRun, clause by clause. -/
theorem wit_TouchFramesRun :
    (∃ (port : Nat) (s : State), s.inReset = false ∧ s.noLock 6 = false ∧ port < s.cfg.touchPorts ∧ s.get (tpIdx port) 1 ≠
          0 ∧ s.pdOn 16 = true ∧ s.gangLost port = false ∧ s.portState port = 2 ∧ (s.touchPort port).nextMode = s.get
          (tpIdx port + 1) 2) ∧
    (∃ (port : Nat) (s : State), s.inReset = false ∧ s.noLock 6 = false ∧ port < s.cfg.touchPorts ∧ s.get (tpIdx port) 1 ≠
          0 ∧ s.pdOn 16 = true ∧ s.gangLost port = false ∧ s.portState port = 3) ∧
    (∃ (t : Nat) (port : Nat) (s : State), s.inReset = false ∧ s.edgeUp = true ∧ s.get (tpIdx port) 4 = 0 ∧ (s.touchPort
          port).nextMode = 2 ∧ (s.touchPort port).gloveAt + s.get (tpIdx port) 0x14 * 1000000 ≤ max s.now t) ∧
    (∃ (part : Nat) (r : TouchRec) (l : List TouchRec) (s : State), s.inReset = false ∧ s.get (0x8080 + part) 1 ≠ 0 ∧
          s.touch.held = [] ∧ s.touch.recs = r :: l ∧ r.part = part ∧ s.touchRoom part = true) ∧
    (∃ (part : Nat) (r : TouchRec) (l : List TouchRec) (s : State), s.inReset = false ∧ s.get (0x8080 + part) 1 ≠ 0 ∧
          s.touch.held = [] ∧ s.touch.recs = r :: l ∧ r.part = part ∧ s.touchRoom part = false) :=
  ⟨⟨3, st [(tpIdx 3, 1, 1), (tpIdx 3 + 1, 1, 2), (tpIdx 3 + 1, 2, 1), (tpIdx 3 + 1, 4, 2 ^ 32 - 1)], by decide +kernel⟩,
   ⟨3, (st [(tpIdx 3, 1, 1), (tpIdx 3 + 1, 1, 3)]).putTouchPort { (State.reset.touchPort 3) with baseline := [7, 7] },
          by decide +kernel⟩,
   ⟨100000000000, 3, (st []).putTouchPort { (State.reset.touchPort 3) with nextMode := 2 }, by decide +kernel⟩,
   ⟨15, ⟨15, 1, 2, 0, 0, 0, 3, 256, -256, 7, 1, 4, []⟩, [],
       (let s := st [(0x7A00, 1, 4), (0x808F, 1, 1), (0x808F, 3, 6), (0x808F, 4, 2 ^ 32 - 1), (0x808F, 5, 2 ^ 32 - 64)];
          { s with touch := { s.touch with recs := [⟨15, 1, 2, 0, 0, 0, 3, 256, -256, 7, 1, 4, []⟩] } }),
          by decide +kernel⟩,
   ⟨15, ⟨15, 1, 2, 0, 0, 0, 3, 256, -256, 7, 1, 4, []⟩, [],
       (let s := st [(0x7A00, 1, 4), (0x808F, 1, 1), (0x808F, 3, 6), (0x808F, 4, 2 ^ 32 - 1), (0x808F, 5, 2 ^ 32 - 65)];
          { s with touch := { s.touch with recs := [⟨15, 1, 2, 0, 0, 0, 3, 256, -256, 7, 1, 4, []⟩] } }),
          by decide +kernel⟩⟩

/-- States and operands that meet the premises of TouchTestsAndMasks, clause by clause. -/
theorem wit_TouchTestsAndMasks :
    (∃ (ini : Ini) (port : Nat) (v : Word) (w : Word) (s : State), s.inReset = false ∧ port < 4 ∧ s.takes ⟨ini, 0, tpIdx
          port + 3, 1, v⟩ w ∧ w.toNat = 1 ∧ s.pdOn 16 = true ∧ s.portState port ≠ 1) ∧
    (∃ (port : Nat) (m : SelfMeas) (s : State), s.inReset = false ∧ s.edgeUp = true ∧ s.portState port = 1 ∧ s.gangLost
          port = false ∧ s.planKeys = [] ∧ s.selfFaults port m = []) ∧
    (∃ (port : Nat) (m : SelfMeas) (k : Nat) (a : Nat) (e : Nat) (y : Nat) (g : Nat) (s : State), s.inReset = false ∧
          s.edgeUp = true ∧ s.portState port = 1 ∧ s.gangLost port = false ∧ s.planKeys = [] ∧ s.selfFaults port m = [(k,
          a, e, y, g)]) ∧
    (∃ (ini : Ini) (slot : Nat) (data : List Byte) (m : Nat) (s : State), s.inReset = false ∧ slot < 512 ∧ s.writeRefusal
          ⟨ini, 0, 0x8100 + slot, 3, 0⟩ true = none ∧ s.maskRefusal slot data = none ∧ data.length ≤ m ∧ (findObj s.cfg
          (0x8100 + slot) 3).map (fun o => o.row.ty) = some (.domain m)) ∧
    (∃ (slot : Nat) (s : State), s.inReset = false ∧ s.get (0x7200 + slot) 4 = 1 ∧ bvhValid (s.getBlk (okey 0 (0x7200 +
          slot) 1)).data = false) ∧
    (∃ (slot : Nat) (s : State), s.inReset = false ∧ s.get (0x7200 + slot) 4 = 1 ∧ bvhValid (s.getBlk (okey 0 (0x7200 +
          slot) 1)).data = true ∧ s.pickStore slot + (s.getBlk (okey 0 (0x7200 + slot) 1)).data.length ≤ (if s.cfg.compact
          then 8 else 16) * 2 ^ 20) ∧
    (∃ (ray : Nat) (j : PickJob) (l : List PickJob) (s : State), s.inReset = false ∧ s.touch.picks = j :: l ∧
          s.hasFunction j.record.part = true ∧ s.rayUp ray = true) :=
  ⟨⟨win 0, 3, 1, 1, st [(tpIdx 3, 1, 1), (tpIdx 3 + 1, 1, 3)], by decide +kernel⟩,
   ⟨3, goodMeas, st [(tpIdx 3, 1, 1), (tpIdx 3 + 1, 1, 1)], by decide +kernel⟩,
   ⟨3, { goodMeas with selfTx := [32767] }, 5, 0, 0, 65535, 100, st [(tpIdx 3, 1, 1), (tpIdx 3 + 1, 1, 1)],
          by decide +kernel⟩,
   ⟨win 0, 3, [], 8388608, planned1 (st []), by decide +kernel⟩,
   ⟨511, (st [(0x7200 + 511, 4, 1)]).putBlk (okey 0 (0x7200 + 511) 1) [1], by decide +kernel⟩,
   ⟨511, (st [(0x7200 + 511, 4, 1)]).putBlk (okey 0 (0x7200 + 511) 1) bvh1, by decide +kernel⟩,
   ⟨7, ⟨⟨15, 1, 2, 0, 0, 0, 3, 256, -256, 7, 1, 4, []⟩, 3, 4, 5, [], [], 0, 64, 48⟩, [],
       (let s := st [(0x7A00, 1, 4), (0x7A00, 4, 16)];
          { s with touch := { s.touch with picks := [⟨⟨15, 1, 2, 0, 0, 0, 3, 256, -256, 7, 1, 4, []⟩, 3, 4, 5, [], [], 0, 64, 48⟩] } }),
          by decide +kernel⟩⟩

/-- States and operands that meet the premises of HapticsRun, clause by clause. -/
theorem wit_HapticsRun :
    (∃ (t : Nat) (ini : Ini) (chan : Nat) (v : Word) (w : Word) (s : State), s.inReset = false ∧ chan < 8 ∧ s.takes ⟨ini,
          0, hapIdx chan + 1, 1, v⟩ w ∧ s.hapticRefuses chan = false ∧ s.effectEmpty w.toNat = false ∧ w.toNat ≠ 0 ∧
          (s.haptic chan).startPeriod ≠ some (max s.now t * 384 / 1000000)) ∧
    (∃ (t : Nat) (n : Nat) (rising : Bool) (s : State), s.inReset = false ∧ s.edgeUp = true ∧ n < 8 ∧ s.get (0x8330 + n) 1
          ≠ 0xFF ∧ (s.get (0x8330 + n) 3 = 2 ∨ s.get (0x8330 + n) 3 = (if rising then 0 else 1)) ∧ s.hapticRefuses (s.get
          (0x8330 + n) 1) = false ∧ s.effectEmpty (s.get (0x8330 + n) 2) = false ∧ s.get (0x8330 + n) 2 ≠ 0 ∧ (s.haptic
          (s.get (0x8330 + n) 1)).startPeriod ≠ some (max s.now t * 384 / 1000000)) ∧
    (∃ (chan : Nat) (s : State), s.inReset = false ∧ s.noLock 6 = false ∧ s.hapticRefuses chan = false ∧ (s.haptic
          chan).effect = none ∧ (s.haptic chan).braking = false) ∧
    (∃ (t : Nat) (chan : Nat) (r : List Byte) (s : State), s.inReset = false ∧ s.noLock 6 = false ∧ s.hapticRefuses chan =
          false ∧ (s.haptic chan).effect = some r ∧ (s.haptic chan).braking = false ∧ (s.haptic chan).seg < segCount r ∧
          max s.now t < (s.haptic chan).segAt + segNs r (s.haptic chan).seg ∧ segShape r (s.haptic chan).seg = 3) ∧
    (∃ (chan : Nat) (mv : Int) (ma : Int) (s : State), s.inReset = false ∧ s.noLock 6 = false ∧ s.hapticRefuses chan =
          false ∧ (s.haptic chan).effect = none ∧ (s.haptic chan).braking = true ∧ 1 ≤ (s.haptic chan).small ∧
          (s.backEmfOf chan (s.haptic chan) mv ma).natAbs < s.get (hapIdx chan) 0xB * 1000000) ∧
    (∃ (t : Nat) (chan : Nat) (s : State), s.inReset = false ∧ s.edgeUp = true ∧ s.hapticRefuses chan = false ∧ 1920 ≤
          ((s.haptic chan).ended.filter (fun x => max s.now t < x + 10000000)).length) ∧
    (∃ (t : Nat) (chan : Nat) (s : State), s.inReset = false ∧ s.edgeUp = true ∧ s.hapticRefuses chan = false ∧ ((s.haptic
          chan).ended.filter (fun x => max s.now t < x + 10000000)).length < 1920) ∧
    (∃ (t : Nat) (chan : Nat) (s : State), s.inReset = false ∧ (s.haptic chan).braking = true ∧ (s.haptic chan).brakeAt +
          s.get (hapIdx chan) 0xC * 1000000 ≤ max s.now t) ∧
    (∃ (ini : Ini) (chan : Nat) (v : Word) (w : Word) (s : State), s.inReset = false ∧ chan < 8 ∧ s.takes ⟨ini, 0, hapIdx
          chan + 3, 0, v⟩ w ∧ w.toNat = 1 ∧ s.hapticState chan = 4 ∧ s.isLost .haptic chan = false ∧ s.get (hapIdx chan) 1
          = 1) :=
  ⟨⟨100, win 0, 7, 5, 5, st [(hapIdx 7, 1, 1)], by decide +kernel⟩,
   ⟨100, 7, true, st [(hapIdx 5, 1, 1), (0x8337, 1, 5), (0x8337, 2, 127)], by decide +kernel⟩,
   ⟨7, st [(hapIdx 7, 1, 1)], by decide +kernel⟩,
   ⟨100, 7, [0, 1, 0, 0, 0, 0, 0, 0, 3, 0, 255, 255, 200, 0, 10, 0], (st [(hapIdx 7, 1, 1), (hapIdx 7, 3, 65535), (hapIdx
          7 + 1, 2, 65535)]).putHaptic
          { HapticRun.new 7 with effect := some [0, 1, 0, 0, 0, 0, 0, 0, 3, 0, 255, 255, 200, 0, 10, 0], phase := 24000 },
          by decide +kernel⟩,
   ⟨7, 0, 0, (st [(hapIdx 7, 1, 1), (hapIdx 7, 0xB, 10)]).putHaptic { HapticRun.new 7 with braking := true, small := 1 },
          by decide +kernel⟩,
   ⟨100, 7, (st [(hapIdx 7, 1, 1)]).putHaptic { HapticRun.new 7 with ended := List.replicate 1920 50 }, by decide +kernel⟩,
   ⟨100, 7, (st [(hapIdx 7, 1, 1)]).putHaptic { HapticRun.new 7 with ended := List.replicate 1919 50 }, by decide +kernel⟩,
   ⟨100000000, 7, (st [(hapIdx 7, 1, 1), (hapIdx 7, 0xC, 100)]).putHaptic { HapticRun.new 7 with braking := true },
          by decide +kernel⟩,
   ⟨win 0, 7, 1, 1, st [(hapIdx 7, 1, 1), (hapIdx 7 + 2, 1, 4)], by decide +kernel⟩⟩

/-- States and operands that meet the premises of AxesUpdateAndStop, clause by clause. -/
theorem wit_AxesUpdateAndStop :
    (∃ (axis : Nat) (s : State), s.inReset = false ∧ s.noLock 6 = false ∧ s.axisOn axis = true ∧ s.axState axis ≠ 0 ∧ 8 ≤
          s.get (axIdx axis) 4 ∧ s.axKind axis ≠ 2) ∧
    (∃ (axis : Nat) (s : State), s.inReset = false ∧ s.noLock 6 = false ∧ s.axisOn axis = true ∧ s.axState axis = 4 ∧
          s.axMode axis = 2 ∧ 8 ≤ s.get (axIdx axis) 4 ∧ s.axKind axis = 0) ∧
    (∃ (axis : Nat) (input : Nat) (s : State), s.inReset = false ∧ s.edgeUp = true ∧ s.axisOn axis = true ∧ input < 3) ∧
    (∃ (t : Nat) (axis : Nat) (input : Nat) (s : State), s.inReset = false ∧ s.axisOn axis = true ∧ input < 2 ∧ ((s.axis
          axis).input input).on = true ∧ ((s.axis axis).input input).ignored = false ∧ ((s.axis axis).input input).wait =
          false ∧ ((s.axis axis).input input).since + s.get (axIdx axis) 0x12 * 1000 ≤ max s.now t ∧ s.axState axis ≠ 3 ∧
          s.axState axis ≠ 0 ∧ s.limitBit axis (1 - input) = true) ∧
    (∃ (t : Nat) (axis : Nat) (input : Nat) (s : State), s.inReset = false ∧ s.axisOn axis = true ∧ input < 2 ∧ ((s.axis
          axis).input input).on = true ∧ ((s.axis axis).input input).ignored = false ∧ ((s.axis axis).input input).wait =
          false ∧ ((s.axis axis).input input).since + s.get (axIdx axis) 0x12 * 1000 ≤ max s.now t ∧ s.axState axis ≠ 3 ∧
          s.limitBit axis (1 - input) = false) ∧
    (∃ (ini : Ini) (axis : Nat) (v : Word) (w : Word) (s : State), s.inReset = false ∧ axis < 6 ∧ s.takes ⟨ini, 0, axIdx
          axis + 2, 2, v⟩ w ∧ w.toNat = 1 ∧ s.homeRefusal axis = none ∧ s.encFaulty axis = false) ∧
    (∃ (t : Nat) (axis : Nat) (s : State), s.inReset = false ∧ s.axState axis = 3 ∧ (s.axis axis).home.on = true ∧ (s.axis
          axis).home.since + s.get (axIdx axis) 0x12 * 1000 ≤ max s.now t) ∧
    (∃ (t : Nat) (axis : Nat) (s : State), s.inReset = false ∧ s.axState axis = 3 ∧ (s.axis axis).homingAt + s.get (axIdx
          axis) 0x13 * 1000000 ≤ max s.now t) ∧
    (∃ (t : Nat) (axis : Nat) (e : Nat) (s : State), s.inReset = false ∧ (s.axis axis).handEnd = some e ∧ e ≤ max s.now t
          ∧ s.axState axis = 5) ∧
    (∃ (ini : Ini) (axis : Nat) (v : Word) (w : Word) (s : State), s.inReset = false ∧ axis < 6 ∧ s.takes ⟨ini, 0, axIdx
          axis + 2, 3, v⟩ w ∧ w.toNat = 1 ∧ s.axState axis = 0 ∧ s.axFault axis ≠ 0 ∧ s.axMode axis ≠ 0 ∧ s.stoCause axis
          = 0) :=
  ⟨⟨5, st [(axIdx 5, 1, 1), (axIdx 5, 4, 255), (axIdx 5 + 3, 1, 1)], by decide +kernel⟩,
   ⟨5, st [(axIdx 5, 1, 2), (axIdx 5, 4, 255), (axIdx 5 + 3, 1, 4)], by decide +kernel⟩,
   ⟨5, 2, st [], by decide +kernel⟩,
   ⟨100000000, 5, 1, (st [(axIdx 5, 1, 1), (axIdx 5 + 3, 1, 1), (axIdx 5 + 3, 6, 1)]).putAxis
          { AxisRun.new 5 with hi := { LimitIn.new with on := true } }, by decide +kernel⟩,
   ⟨100000000, 5, 0, (st [(axIdx 5, 1, 1), (axIdx 5 + 3, 1, 1), (axIdx 5 + 3, 2, 77)]).putAxis
          { AxisRun.new 5 with lo := { LimitIn.new with on := true } }, by decide +kernel⟩,
   ⟨win 0, 5, 1, 1, st [(axIdx 5, 1, 1), (axIdx 5 + 3, 1, 1)], by decide +kernel⟩,
   ⟨100000000, 5, ((st [(axIdx 5, 1, 1), (axIdx 5 + 3, 1, 3)]).putI (axIdx 5) 0x10 (-7)).putAxis
          { AxisRun.new 5 with home := { LimitIn.new with on := true, edgePos := 2147483647 } }, by decide +kernel⟩,
   ⟨100000000000, 5, st [(axIdx 5, 1, 1), (axIdx 5 + 3, 1, 3)], by decide +kernel⟩,
   ⟨100, 5, 100, (st [(axIdx 5 + 3, 1, 5), (axIdx 5 + 3, 8, 3)]).putAxis
          { AxisRun.new 5 with handEnd := some 100, after := 4 }, by decide +kernel⟩,
   ⟨win 0, 5, 1, 1, st [(axIdx 5, 1, 2), (axIdx 5 + 3, 7, 1)], by decide +kernel⟩⟩

/-- States and operands that meet the premises of EncodersCount, clause by clause. -/
theorem wit_EncodersCount :
    (∃ (enc : Nat) (a : Bool) (b : Bool) (s : State), s.inReset = false ∧ s.edgeUp = true ∧ enc < 8 ∧ s.pdOn 17 = true ∧
          (s.encoder enc).clearing = false ∧ bit (s.get (0x8580 + enc * 4) 2) 0 = false ∧ ((s.encoder enc).a != a) ≠
          ((s.encoder enc).b != b) ∧ s.axesOf enc = []) ∧
    (∃ (enc : Nat) (s : State), s.inReset = false ∧ s.edgeUp = true ∧ enc < 8 ∧ s.pdOn 17 = true ∧ (s.encoder
          enc).clearing = false ∧ bit (s.get (0x8580 + enc * 4) 2) 0 = false ∧ s.get (0x8581 + enc * 4) 3 = 1) ∧
    (∃ (enc : Nat) (s : State), s.inReset = false ∧ s.edgeUp = true ∧ enc < 8 ∧ s.pdOn 17 = true ∧ (s.encoder
          enc).clearing = false ∧ bit (s.get (0x8580 + enc * 4) 2) 0 = false) ∧
    (∃ (enc : Nat) (rising : Bool) (s : State), s.inReset = false ∧ s.edgeUp = true ∧ enc < 8 ∧ s.pdOn 17 = true ∧
          (s.encoder enc).a = true ∧ (s.encoder enc).b = true ∧ rising ≠ bit (s.get (0x8580 + enc * 4) 2) 1) ∧
    (∃ (t : Nat) (ini : Ini) (enc : Nat) (v : Word) (w : Word) (s : State), s.inReset = false ∧ enc < 8 ∧ s.takes ⟨ini, 0,
          0x8580 + enc * 4, 3, v⟩ w ∧ w.toNat = 1 ∧ s.get (0x8581 + enc * 4) 3 = 1 ∧ (s.encoder enc).lastIllegal.elim true
          (fun x => decide (x + 100000000 ≤ max s.now t)) = true) :=
  ⟨⟨7, true, false, (st []).putI (0x8581 + 28) 1 2147483647, by decide +kernel⟩,
   ⟨7, st [(0x8581 + 28, 3, 1), (0x8581 + 28, 1, 9)], by decide +kernel⟩,
   ⟨7, st [], by decide +kernel⟩,
   ⟨7, true, ((st []).putI (0x8581 + 28) 1 (-5)).putEncoder ⟨7, true, true, [], none, false⟩, by decide +kernel⟩,
   ⟨100000100, win 0, 7, 1, 1, (st [(0x8581 + 28, 3, 1)]).putEncoder ⟨7, true, true, [], some 100, false⟩, by decide +kernel⟩⟩

/-- States and operands that meet the premises of AudioRuns, clause by clause. -/
theorem wit_AudioRuns :
    (∃ (t : Nat) (s : State), s.inReset = false ∧ s.pdOn 17 = true ∧ s.isLost .audio 0 = false ∧ s.noLock 31 = false ∧
          (s.advance t).blockDue = true) ∧
    (∃ (s : State), s.inReset = false ∧ (s.pdOn 17 = false ∨ s.isLost .audio 0 = true ∨ s.noLock 31 = true)) ∧
    (∃ (t : Nat) (s : State), s.inReset = false ∧ s.pdOn 17 = true ∧ s.isLost .audio 0 = false ∧ s.noLock 31 = false ∧
          (s.advance t).blockDue = false) ∧
    (∃ (n : Nat) (s : State), s.inReset = false ∧ n < 8 ∧ s.ampHigh n = true ∧ s.ampWanted n = false) ∧
    (∃ (stream : Nat) (s : State), s.inReset = false ∧ 8 ≤ stream ∧ stream < 16 ∧ s.get (0x8820 + stream) 1 ≠ 0 ∧ s.edgeUp
          = true ∧ s.noLock 33 = false ∧ s.pdOn 17 = true) ∧
    (∃ (input : Nat) (s : State), s.inReset = false ∧ s.edgeUp = true ∧ input < 64 ∧ s.converted (s.get (inIdx input) 1)
          (s.get (inIdx input) 2) = true) :=
  ⟨⟨1000000, st [], by decide +kernel⟩,
   ⟨{ st [] with place := { State.reset.place with lost := [(.audio, 0)] } }, by decide +kernel⟩,
   ⟨1000001, st [], by decide +kernel⟩,
   ⟨7, st [(0x89A0, 0xA, 255), (0x8880, 9, 1)], by decide +kernel⟩,
   ⟨15, st [(0x8820 + 15, 1, 1)], by decide +kernel⟩,
   ⟨63, st [(inIdx 63, 1, 1), (0x8810, 3, 44100)], by decide +kernel⟩⟩

/-- States and operands that meet the premises of EventRecordsMove, clause by clause. -/
theorem wit_EventRecordsMove :
    (∃ (t : Nat) (part : Nat) (r : EvRec) (s : State), s.inReset = false ∧ s.planRuns = true ∧ s.evRingReady part = true ∧
          (s.advance t).summaryDue (.ring part) = none ∧ s.nextRecord (.ring part) = some r) ∧
    (∃ (t : Nat) (source : Nat) (code : Nat) (part : Nat) (z : EvSlot) (s : State), s.inReset = false ∧ s.planRuns = true
          ∧ s.ev.slots.find? (fun z => z.source == source && z.code == code && z.part == part) = some z ∧ z.ends ≤ max
          s.now t ∧ z.count = 0) ∧
    (∃ (t : Nat) (source : Nat) (code : Nat) (part : Nat) (z : EvSlot) (s : State), s.inReset = false ∧ s.planRuns = true
          ∧ s.ev.slots.find? (fun z => z.source == source && z.code == code && z.part == part) = some z ∧ z.ends ≤ max
          s.now t) ∧
    (∃ (s : State), s.inReset = false ∧ s.plannerUp = true) :=
  ⟨⟨100, 15, ⟨5, 3, 1, 15, false, false, 9, 0, [1, 2], 1, 5, [.ring 15], false⟩,
          { st [(evIdx 15, 1, 1), (0x7A00, 1, 4), (evIdx 15, 4, 2 ^ 32 - 1), (evIdx 15, 5, 2 ^ 32 - 3)] with ev := { State.reset.ev with store := [⟨5, 3, 1, 15, false, false, 9, 0, [1, 2], 1, 5, [.ring 15], false⟩] } },
          by decide +kernel⟩,
   ⟨100, 3, 4, 0, ⟨3, 4, 0, 2, 100, 0, 0, 0, []⟩,
          { State.reset with ev := { State.reset.ev with slots := [⟨3, 4, 1, 2, 100, 0, 0, 0, []⟩, ⟨3, 4, 0, 2, 100, 0, 0, 0, []⟩] } },
          by decide +kernel⟩,
   ⟨100, 3, 4, 0, ⟨3, 4, 0, 2, 100, 6, 0, 0, []⟩,
          { State.reset with ev := { State.reset.ev with slots := [⟨3, 4, 0, 2, 100, 6, 0, 0, []⟩] } },
          by decide +kernel⟩,
   ⟨up [], by decide +kernel⟩⟩

/-- States and operands that meet the premises of CountersAndTraceRun, clause by clause. -/
theorem wit_CountersAndTraceRun :
    (∃ (k : Nat) (s : State), s.inReset = false ∧ k < 1024 ∧ s.counts k = true) ∧
    (∃ (t : Nat) (s : State), s.inReset = false ∧ s.get 0x8D20 1 ≠ 0 ∧ s.trace.dumpAt ≤ max s.now t) ∧
    (∃ (t : Nat) (ring : Nat) (a : Nat) (s : State), s.inReset = false ∧ ring < 8 ∧ (s.traceRun ring).first = some a ∧
          s.get (trIdx ring) 1 = 1 ∧ s.get 0x7A00 1 ≠ 0 ∧ a + s.get (trIdx ring) 8 * 1000000 ≤ max s.now t ∧ (s.traceLast
          (s.traceRun ring) = false ∨ (s.traceRun ring).policy ≠ 0)) ∧
    (∃ (ini : Ini) (ring : Nat) (v : Word) (w : Word) (s : State), s.inReset = false ∧ ring < 8 ∧ s.takes ⟨ini, 0, trIdx
          ring, 7, v⟩ w) ∧
    (∃ (head : Nat) (lag : Nat) (p : Plan) (h : PlanHead) (s : State), s.inReset = false ∧ s.plan.active = some p ∧
          p.headOf head = some h ∧ (s.capRun head).active = true ∧ (65536 < lag ∨ s.get 0x7A00 1 = 0)) ∧
    (∃ (head : Nat) (lag : Nat) (p : Plan) (h : PlanHead) (s : State), s.inReset = false ∧ s.plan.active = some p ∧
          p.headOf head = some h ∧ (s.capRun head).active = true ∧ (s.capRun head).point = 0 ∧ lag ≤ 65536 ∧ s.get 0x7A00
          1 ≠ 0 ∧ (p.ownerHead h).hActive * (p.ownerHead h).vActive * 4 ≤ (s.capRun head).data.length) :=
  ⟨⟨1023, st [(pcIdx 1023, pcConfig 1023, 2 ^ 17 + 2 ^ 18 + 0x1000), (pcIdx 1023, pcConfig 1023 + 1, 77)], by decide +kernel⟩,
   ⟨100, st [(0x8D20, 1, 1), (0x8D20, 2, 10)], by decide +kernel⟩,
   ⟨1000000, 7, 0,
          { st [(0x7A00, 1, 4), (trIdx 7, 1, 1), (trIdx 7, 8, 1)] with trace := { State.reset.trace with rings := [⟨7, 0, 2, 0, [1], 1, some 0, 0, 0, false, [], 0⟩] } },
          by decide +kernel⟩,
   ⟨win 0, 7, 4, 4,
          { st [(trIdx 7, 7, 6)] with trace := { State.reset.trace with rings := [⟨7, 0, 2, 1, [1], 1, some 0, 0, 0, false, [], 0⟩] } },
          by decide +kernel⟩,
   ⟨0, 65537, plan1, head0,
          { planned1 (st [(0x7A00, 1, 4)]) with trace := { State.reset.trace with caps := [⟨0, 0, true, 1, 1, 0, 8, []⟩] } },
          by decide +kernel⟩,
   ⟨0, 65536, plan1, head0,
          { planned1 (st [(0x7A00, 1, 4), (fcIdx 0, 7, 2 ^ 32 - 1)]) with trace := { State.reset.trace with caps := [⟨0, 0, true, 1, 1, 0, 8, List.replicate 8192 7⟩] } },
          by decide +kernel⟩⟩

/-- States and operands that meet the premises of PcieFunctionsFollow, clause by clause. -/
theorem wit_PcieFunctionsFollow :
    (∃ (gen : Nat) (s : State), s.inReset = false ∧ s.pdOn 14 = true ∧ s.isLost .pcie 0 = false ∧ s.get 0x7A00 1 = 0 ∧ 0 <
          gen ∧ gen ≤ 6) ∧
    (∃ (s : State), s.inReset = false ∧ s.get 0x7A00 1 ≠ 0) ∧
    (∃ (part : Nat) (s : State), s.inReset = false ∧ part < 16) ∧
    (∃ (s : State), s.inReset = false) :=
  ⟨⟨6, st [], by decide +kernel⟩,
   ⟨st [(0x7A00, 1, 6), (0x7A00, 2, 16), (0x7A00, 4, 2)], by decide +kernel⟩,
   ⟨3, st [(evIdx 3, 1, 1)], by decide +kernel⟩,
   ⟨st [], by decide +kernel⟩⟩

/-- States and operands that meet the premises of ResetsHoldAndStart, clause by clause. -/
theorem wit_ResetsHoldAndStart :
    (∃ (a : Nat), (a < emramBase ∨ emramBase + 32 * mib ≤ a)) ∧
    (∃ (d : Nat) (s : State), s.sys.held = [(0, d)]) ∧
    (∃ (ini : Ini) (v : Word) (w : Word) (s : State), s.inReset = false ∧ s.takes ⟨ini, 0, 0x9020, 2, v⟩ w) ∧
    (∃ (ini : Ini) (v : Word) (w : Word) (s : State), s.inReset = false ∧ s.takes ⟨ini, 0, 0x9020, 1, v⟩ w ∧ s.get (0x9000
          + w.toNat) 3 = 1 ∧ s.planUse w.toNat = false ∧ s.pdOn w.toNat = true) ∧
    (∃ (s : State), s.inReset = true) :=
  ⟨⟨dramBase, by decide +kernel⟩,
   ⟨5, { State.reset with sys := { State.reset.sys with held := [(0, 5)] } }, by decide +kernel⟩,
   ⟨win 0, 1, 1, st [], by decide +kernel⟩,
   ⟨win 0, 18, 18, st [], by decide +kernel⟩,
   ⟨{ State.reset with sys := { State.reset.sys with held := [(0, 5)] } }, by decide +kernel⟩⟩

/-- States and operands that meet the premises of DomainsAndTestsComplete, clause by clause. -/
theorem wit_DomainsAndTestsComplete :
    (∃ (domain : Nat) (s : State), s.inReset = false ∧ domain < 20 ∧ s.get (0x9000 + domain) 1 = 1 ∧ (s.pdOn 15 = true ∨
          (domain ≠ 9 ∧ domain ≠ 10))) ∧
    (∃ (ini : Ini) (mask : Word) (w : Word) (s : State), s.inReset = false ∧ s.takes ⟨ini, 0, 0x9100, 1, mask⟩ w ∧
          s.bistRefusal w.toNat = none) ∧
    (∃ (s : State), s.inReset = false ∧ s.sys.tested = true ∧ s.sys.bist ≠ 0) ∧
    (∃ (s : State), s.inReset = false ∧ s.sys.tested = false) :=
  ⟨⟨18, st [(0x9012, 1, 1)], by decide +kernel⟩,
   ⟨win 0, 0x10000, 0x10000, st [], by decide +kernel⟩,
   ⟨{ State.reset with sys := { State.reset.sys with tested := true, bist := 0x10000 } }, by decide +kernel⟩,
   ⟨{ State.reset with sys := { State.reset.sys with tested := false } }, by decide +kernel⟩⟩

/-- States and operands that meet the premises of PlannerRestarts, clause by clause. -/
theorem wit_PlannerRestarts :
    (∃ (silent : List Nat) (s : State), s.inReset = false ∧ s.plannerUp = true ∧ ((List.range 4).filter (fun n =>
          !s.isLost .planner n)).any (fun n => silent.contains n) = true ∧ ((List.range 4).filter (fun n => !s.isLost
          .planner n)).all (fun n => silent.contains n) = false) ∧
    (∃ (silent : List Nat) (s : State), s.inReset = false ∧ s.plannerUp = true ∧ ((List.range 4).filter (fun n =>
          !s.isLost .planner n)).any (fun n => silent.contains n) = true ∧ ((List.range 4).filter (fun n => !s.isLost
          .planner n)).all (fun n => silent.contains n) = true) ∧
    (∃ (s : State), s.inReset = false ∧ s.get 0x9002 1 = 5 ∧ s.sys.plannerDead = false ∧ s.markhorUp = true ∧
          s.sys.cancelled = []) ∧
    (∃ (ini : Ini) (part : Nat) (v : Word) (w : Word) (s : State), s.inReset = false ∧ 0 < part ∧ part < 16 ∧ s.takes
          ⟨ini, 0, 0x9050 + part, 1, v⟩ w ∧ s.get (0x9050 + part) 2 ≠ 1) ∧
    (∃ (part : Nat) (s : State), s.inReset = false ∧ 0 < part ∧ part < 16 ∧ s.get (0x9050 + part) 2 = 1) :=
  ⟨⟨[3], { up [] with place := { State.reset.place with lost := [(.planner, 0)] } }, by decide +kernel⟩,
   ⟨[0, 1, 2, 3], up [], by decide +kernel⟩,
   ⟨st [(0x9002, 1, 5), (0x2000, 1, 1)], by decide +kernel⟩,
   ⟨win 0, 15, 1, 1, st [], by decide +kernel⟩,
   ⟨15, st [(0x905F, 2, 1), (0x905F, 3, 2 ^ 32 - 1)], by decide +kernel⟩⟩

/-- States and operands that meet the premises of LowSpeedTransfersRun, clause by clause. -/
theorem wit_LowSpeedTransfersRun :
    (∃ (ini : Ini) (bus : Nat) (v : Word) (w : Word) (s : State), s.inReset = false ∧ bus < 16 ∧ s.get (i2cIdx bus + 1) 8
          = 1 ∧ s.takes ⟨ini, 0, i2cIdx bus + 1, 5, v⟩ w) ∧
    (∃ (bus : Nat) (s : State), s.inReset = false ∧ s.edgeUp = true ∧ bus < 16 ∧ (s.i2cRun bus).phase = 1) ∧
    (∃ (ini : Ini) (unit : Nat) (v : Word) (w : Word) (s : State), s.inReset = false ∧ unit < 4 ∧ s.lowRuns = true ∧ s.get
          (spiIdx unit) 1 = 1 ∧ unit ∉ s.low.spi ∧ s.takes ⟨ini, 0, spiIdx unit + 1, 3, v⟩ w) ∧
    (∃ (unit : Nat) (s : State), s.inReset = false ∧ s.edgeUp = true ∧ unit < 4 ∧ unit ∈ s.low.spi) ∧
    (∃ (ini : Ini) (uart : Nat) (v : Word) (w : Word) (s : State), s.inReset = false ∧ uart < 4 ∧ s.lowRuns = true ∧ s.get
          (uartIdx uart) 1 = 1 ∧ uart ∉ s.low.uart ∧ s.takes ⟨ini, 0, uartIdx uart + 1, 2, v⟩ w) ∧
    (∃ (s : State), s.inReset = false ∧ s.edgeUp = true) ∧
    (∃ (uart : Nat) (s : State), s.inReset = false ∧ s.edgeUp = true ∧ uart < 4 ∧ s.get (uartIdx uart) 1 ≠ 0 ∧ s.pdOn 18 =
          true) ∧
    (∃ (ini : Ini) (uart : Nat) (s : State), s.inReset = false ∧ s.edgeUp = true ∧ uart < 4 ∧ s.mayRead ini (uartIdx uart
          + 1) 3 = true) :=
  ⟨⟨win 0, 15, 1, 1, st [(i2cIdx 15 + 1, 8, 1), (i2cIdx 15 + 1, 2, 3)], by decide +kernel⟩,
   ⟨15, (st [(i2cIdx 15 + 1, 3, 2)]).putI2c ⟨15, 1, false, false, false⟩, by decide +kernel⟩,
   ⟨win 0, 3, 1, 1, st [(spiIdx 3, 1, 1), (spiIdx 3 + 1, 2, 3)], by decide +kernel⟩,
   ⟨3, (let s := st [(spiIdx 3 + 1, 2, 2)]; { s with low := { s.low with spi := [3] } }), by decide +kernel⟩,
   ⟨win 0, 3, 64, 64, st [(uartIdx 3, 1, 1)], by decide +kernel⟩,
   ⟨{ State.reset with low := { State.reset.low with uart := [3] } }, by decide +kernel⟩,
   ⟨3, st [(uartIdx 3, 1, 1)], by decide +kernel⟩,
   ⟨win 0, 3, State.reset.putBlk (rxKey 3) [1, 2, 3], by decide +kernel⟩⟩

/-- States and operands that meet the premises of BusRecoveryRuns, clause by clause. -/
theorem wit_BusRecoveryRuns :
    (∃ (bus : Nat) (s : State), s.inReset = false ∧ bus < 16 ∧ (s.i2cRun bus).phase = 1 ∧ s.bankOk (2 * bus) = true) ∧
    (∃ (ini : Ini) (bus : Nat) (v : Word) (w : Word) (s : State), s.inReset = false ∧ bus < 16 ∧ (s.get (i2cIdx bus + 1) 8
          = 1 ∨ s.get (i2cIdx bus + 1) 8 = 3) ∧ (s.i2cRun bus).phase = 0 ∧ (s.i2cRun bus).waits = false ∧ s.bankOk (2 *
          bus) = true ∧ s.takes ⟨ini, 0, i2cIdx bus + 1, 6, v⟩ w) ∧
    (∃ (bus : Nat) (pulses : Nat) (s : State), s.inReset = false ∧ s.edgeUp = true ∧ bus < 16 ∧ (s.i2cRun bus).phase = 2 ∧
          pulses ≤ 9) ∧
    (∃ (bus : Nat) (scl : Bool) (pulses : Nat) (s : State), s.inReset = false ∧ s.edgeUp = true ∧ bus < 16 ∧ (s.i2cRun
          bus).phase = 2 ∧ (scl = false ∨ 9 < pulses) ∧ s.get (i2cIdx bus) 5 ≠ 0xFF ∧ (s.i2cRun bus).tried = false) ∧
    (∃ (bus : Nat) (scl : Bool) (pulses : Nat) (s : State), s.inReset = false ∧ s.edgeUp = true ∧ bus < 16 ∧ (s.i2cRun
          bus).phase = 2 ∧ (scl = false ∨ 9 < pulses) ∧ (s.get (i2cIdx bus) 5 = 0xFF ∨ (s.i2cRun bus).tried = true)) :=
  ⟨⟨15, State.reset.putI2c ⟨15, 1, false, false, false⟩, by decide +kernel⟩,
   ⟨win 0, 15, 1, 1, st [(i2cIdx 15 + 1, 8, 3)], by decide +kernel⟩,
   ⟨15, 9, State.reset.putI2c ⟨15, 2, false, false, false⟩, by decide +kernel⟩,
   ⟨15, true, 10, (st [(i2cIdx 15, 5, 99)]).putI2c ⟨15, 2, false, false, false⟩, by decide +kernel⟩,
   ⟨15, false, 0, State.reset.putI2c ⟨15, 2, false, false, false⟩, by decide +kernel⟩⟩

/-- States and operands that meet the premises of PinsAndLinksFollow, clause by clause. -/
theorem wit_PinsAndLinksFollow :
    (∃ (pin : Nat) (level : Bool) (s : State), s.inReset = false ∧ s.edgeUp = true ∧ pin < 128 ∧ s.low.high.contains pin ≠
          level) ∧
    (∃ (ini : Ini) (bank : Nat) (gw : Nat) (v : Word) (w : Word) (s : State), s.inReset = false ∧ bank < 8 ∧ s.takes ⟨ini,
          gw, 0x9500 + bank, 1, v⟩ w) ∧
    (∃ (bank : Nat) (mv : Nat) (s : State), s.inReset = false ∧ s.edgeUp = true ∧ bank < 8 ∧ s.get (0x9500 + bank) 4 ≠ 1 ∧
          mv < 1620) ∧
    (∃ (bank : Nat) (mv : Nat) (s : State), s.inReset = false ∧ s.edgeUp = true ∧ bank < 8 ∧ s.get (0x9500 + bank) 4 ≠ 0 ∧
          1650 < mv) ∧
    (∃ (bank : Nat) (mv : Nat) (s : State), s.inReset = false ∧ s.edgeUp = true ∧ bank < 8 ∧ s.get (0x9500 + bank) 4 ≠ 1 ∧
          1620 ≤ mv) ∧
    (∃ (can : Nat) (tec : Nat) (s : State), s.inReset = false ∧ s.edgeUp = true ∧ s.noLock 6 = false ∧ can < 4 ∧ (s.get
          (canIdx can + 1) 1 = 1 ∨ s.get (canIdx can + 1) 1 = 2) ∧ 256 ≤ tec) ∧
    (∃ (can : Nat) (tec : Nat) (rec : Nat) (s : State), s.inReset = false ∧ s.edgeUp = true ∧ s.noLock 6 = false ∧ can < 4
          ∧ (s.get (canIdx can + 1) 1 = 1 ∨ s.get (canIdx can + 1) 1 = 2) ∧ tec < 128 ∧ rec < 128) ∧
    (∃ (can : Nat) (s : State), s.inReset = false ∧ s.edgeUp = true ∧ s.noLock 6 = false ∧ can < 4 ∧ s.get (canIdx can +
          1) 1 = 3) ∧
    (∃ (mac : Nat) (speed : Nat) (s : State), s.inReset = false ∧ s.edgeUp = true ∧ mac < 2 ∧ s.get (ethIdx mac) 1 ≠ 0 ∧
          s.pdOn 18 = true ∧ speed < 2 ^ 32) ∧
    (∃ (mac : Nat) (s : State), s.inReset = false ∧ s.edgeUp = true ∧ s.noLock 33 = false ∧ s.pdOn 18 = true ∧ mac < 2 ∧
          s.get (ethIdx mac) 1 ≠ 0) :=
  ⟨⟨127, true, st [(pinIdx 127, 1, 1)], by decide +kernel⟩,
   ⟨win 0, 7, 0, 0x55, 0x55, st [(0x9507, 1, 0xF0)], by decide +kernel⟩,
   ⟨7, 1619, State.reset.putI2c ⟨15, 1, false, false, false⟩, by decide +kernel⟩,
   ⟨7, 1800, (st [(0x9507, 4, 1)]), by decide +kernel⟩,
   ⟨7, 1620, st [], by decide +kernel⟩,
   ⟨3, 256, st [(canIdx 3 + 1, 1, 2)], by decide +kernel⟩,
   ⟨3, 127, 127, st [(canIdx 3 + 1, 1, 2)], by decide +kernel⟩,
   ⟨3, st [(canIdx 3 + 1, 1, 3), (canIdx 3 + 1, 2, 255), (canIdx 3 + 1, 3, 4)], by decide +kernel⟩,
   ⟨1, 1000, st [(ethIdx 1, 1, 1)], by decide +kernel⟩,
   ⟨1, st [(ethIdx 1, 1, 1)], by decide +kernel⟩⟩

/-- States and operands that meet the premises of ThermalLimitsAct, clause by clause. -/
theorem wit_ThermalLimitsAct :
    (∃ (temps : List Int) (s : State), s.inReset = false ∧ s.sys.hot = false ∧ (s.sense temps).throttleAt ≤ (s.sense
          temps).tj) ∧
    (∃ (temps : List Int) (s : State), s.inReset = false ∧ s.sys.stopped = false ∧ s.cfg.tjMax ≤ (s.sense temps).tj) ∧
    (∃ (temps : List Int) (s : State), s.inReset = false ∧ s.cfg.tjMax + 40 ≤ (s.sense temps).tj) ∧
    (∃ (temps : List Int) (s : State), s.inReset = false ∧ s.sys.stopped = true ∧ (s.sense temps).tj < s.cfg.tjMax - 20 ∧
          (s.sense temps).tj < s.throttleAt - 20 ∧ s.sys.overMa = false) ∧
    (∃ (t : Nat) (d : Nat) (temps : List Int) (s : State), s.sys.held = [(1, d)] ∧ (s.sense temps).tj < s.cfg.tjMax ∧ d +
          10000000000 ≤ max s.now t) :=
  ⟨⟨[480], st [], by decide +kernel⟩,
   ⟨[500], st [], by decide +kernel⟩,
   ⟨[540], st [], by decide +kernel⟩,
   ⟨[100], { State.reset with sys := { State.reset.sys with stopped := true, hot := true } }, by decide +kernel⟩,
   ⟨10000000100, 100, [499], { State.reset with sys := { State.reset.sys with held := [(1, 100)] } }, by decide +kernel⟩⟩

/-- States and operands that meet the premises of SupplyMonitorsAct, clause by clause. -/
theorem wit_SupplyMonitorsAct :
    (∃ (ma : Nat) (s : State), s.inReset = false ∧ s.sys.overMa = false ∧ 42000 ≤ ma) ∧
    (∃ (ma : Nat) (s : State), s.inReset = false ∧ 46000 ≤ ma) ∧
    (∃ (mv : Nat) (s : State), mv < 1620 ∧ (s.heldSince 3).isSome = false) ∧
    (∃ (mv : Nat) (s : State), 3750 < mv ∧ (s.heldSince 4).isSome = false) ∧
    (∃ (ma : Nat) (s : State), s.inReset = false ∧ s.sys.overMa = true ∧ ma < 38000) ∧
    (∃ (t : Nat) (d : Nat) (e : Nat) (s : State), s.sys.held = [(2, d), (1, e)] ∧ d + 100000000 ≤ max s.now t) ∧
    (∃ (t : Nat) (mv : Nat) (d : Nat) (s : State), s.sys.held = [(3, d)] ∧ d + 1000000 ≤ max s.now t ∧ 1680 < mv) :=
  ⟨⟨42000, st [], by decide +kernel⟩,
   ⟨46000, st [], by decide +kernel⟩,
   ⟨1619, st [], by decide +kernel⟩,
   ⟨3751, st [], by decide +kernel⟩,
   ⟨37999, { State.reset with sys := { State.reset.sys with overMa := true } }, by decide +kernel⟩,
   ⟨100000000, 0, 5, { State.reset with sys := { State.reset.sys with held := [(2, 0), (1, 5)] } }, by decide +kernel⟩,
   ⟨1000000, 1681, 0, { State.reset with sys := { State.reset.sys with held := [(3, 0)] } }, by decide +kernel⟩⟩

/-- States and operands that meet the premises of ClocksAreFollowed, clause by clause. -/
theorem wit_ClocksAreFollowed :
    (∃ (pll : Nat) (s : State), s.inReset = false ∧ s.noLock pll = false ∧ (pll < 10 ∨ 26 ≤ pll ∧ pll < 34)) ∧
    (∃ (pll : Nat) (s : State), s.inReset = false ∧ s.sys.unlocked.any (fun x => x.1 == pll) = true ∧ (pll < 8 ∨ 30 ≤ pll)
          ∧ s.sys.faulty.contains pll = false) ∧
    (∃ (pll : Nat) (s : State), s.inReset = false ∧ s.sys.unlocked.any (fun x => x.1 == pll) = true ∧ 8 ≤ pll ∧ (pll < 10
          ∨ 26 ≤ pll) ∧ pll < 30) ∧
    (∃ (t : Nat) (pll : Nat) (s : State), s.inReset = false ∧ pll ≠ 0 ∧ s.sys.unlocked.any (fun x => x.1 == pll && decide
          (x.2 + 1000000 ≤ max s.now t)) = true) ∧
    (∃ (t : Nat) (s : State), s.inReset = false ∧ s.sys.unlocked.any (fun x => x.1 == 0 && decide (x.2 + 1000000 ≤ max
          s.now t)) = true) ∧
    (∃ (s : State), s.inReset = false) :=
  ⟨⟨9, st [], by decide +kernel⟩,
   ⟨30, { State.reset with sys := { State.reset.sys with unlocked := [(30, 0), (3, 7)] } }, by decide +kernel⟩,
   ⟨26, { State.reset with sys := { State.reset.sys with unlocked := [(26, 0), (3, 7)] } }, by decide +kernel⟩,
   ⟨1000000, 4, { State.reset with sys := { State.reset.sys with unlocked := [(4, 0)] } }, by decide +kernel⟩,
   ⟨1000000, { State.reset with sys := { State.reset.sys with unlocked := [(0, 0)] } }, by decide +kernel⟩,
   ⟨st [], by decide +kernel⟩⟩

/-- States and operands that meet the premises of RefusedWritesAreRecorded, clause by clause. -/
theorem wit_RefusedWritesAreRecorded :
    (∃ (q : Wr) (code : Nat) (s : State), s.writeRefusal q false = some code) ∧
    (∃ (q : Wr) (own : State → Nat → Option Nat) (code : Nat) (o : Obj) (s : State), s.writeRefusal q false = none ∧
          findObj s.cfg (canonIdx q.idx) q.sub = some o ∧ o.row.status.isNone = true ∧ own s (s.newValue q o (s.targetKey
          q.ini q.idx q.sub)).1.toNat = some code) ∧
    (∃ (ini : Ini) (idx : Nat) (sub : Nat) (code : Nat) (s : State), s.writeRefusal ⟨ini, 0, idx, sub, 0⟩ true = some code) ∧
    (∃ (ini : Ini) (idx : Nat) (sub : Nat) (code : Nat) (s : State), ini.part < 16 ∧ idx < 2 ^ 16 ∧ sub < 2 ^ 8 ∧ code < 2
          ^ 32 ∧ s.now < 2 ^ 64 ∧ code ≠ codeStatusSeqStale) ∧
    (∃ (ini : Ini), ini.part < 16) ∧
    (∃ (ini : Ini) (idx : Nat) (sub : Nat) (v : Word) (code : Nat) (s : State), s.inReset = false ∧ s.writeRefusal ⟨ini,
          0, idx, sub, v⟩ false = some code ∧ (canonIdx idx, sub) ≠ (0x1130, 4) ∧ canonIdx idx ≠ 0x2110 ∧ canonIdx idx ≠
          0x7820 ∧ s.til.mailbox.all (fun m => m.taken) = true) ∧
    (∃ (ini : Ini) (f : TilFrame) (o : Obj) (code : Nat) (s : State), findObj s.cfg (canonIdx f.head.index) f.head.sub =
          some o ∧ o.row.ty.isBlock = false ∧ f.payload.length = natSize o ∧ (canonIdx f.head.index, f.head.sub) ≠
          (0x1130, 4) ∧ canonIdx f.head.index ≠ 0x2110 ∧ canonIdx f.head.index ≠ 0x7820 ∧ isRefusal code = true ∧
          s.writeRefusal ⟨ini, windowOf f.head, f.head.index, f.head.sub, natValue o f.payload⟩ false = some code) :=
  ⟨⟨⟨win 3, 0, 0x4403, 5, 7⟩, codeNoWriteAccess, planned1 (st []), by decide +kernel⟩,
   ⟨⟨win 2, 0, 0x4403, 5, 7⟩, (fun _ _ => some codePlanState), codePlanState, obj1 0x4403 5, planned1 (st []),
          by decide +kernel⟩,
   ⟨win 3, 0x4403, 5, codeNoWriteAccess, planned1 (st []), by decide +kernel⟩,
   ⟨win 15, 0xFFFF, 255, codeLocked, up [(0x11B0, 16, 2 ^ 32 - 1)], by decide +kernel⟩,
   ⟨win 15, by decide +kernel⟩,
   ⟨win 3, 0x4403, 5, 7, codeNoWriteAccess, planned1 (st []), by decide +kernel⟩,
   ⟨win 3, ask 2 0x4403 5 [7, 0], obj1 0x4403 5, codeNoWriteAccess, planned1 (st []), by decide +kernel⟩⟩

/-- States and operands that meet the premises of StatusObjectsKeepTheirFlags, clause by clause. -/
theorem wit_StatusObjectsKeepTheirFlags :
    (∃ (idx : Nat) (sub : Nat) (o : Obj) (s : State), findObj s.cfg idx sub = some o ∧ o.row.status.isSome = true) ∧
    (∃ (k : Nat) (n : Nat) (s : State), n < 40 ∧ s.statusMeta k = none) ∧
    (∃ (k : Nat) (n : Nat) (m : StatusMeta) (w : Nat) (s : State), n < 40 ∧ s.statusMeta k = some m ∧ statusRate s.cfg k =
          .interval w ∧ m.pend = false ∧ m.last + max w 1000 ≤ s.now) ∧
    (∃ (k : Nat) (n : Nat) (m : StatusMeta) (w : Nat) (s : State), n < 40 ∧ s.statusMeta k = some m ∧ statusRate s.cfg k =
          .interval w ∧ s.now < m.last + max w 1000) ∧
    (∃ (idx : Nat) (sub : Nat) (o : Obj) (s : State), findObj s.cfg (canonIdx idx) sub = some o ∧ o.row.status.isSome =
          true) ∧
    (∃ (ini : Ini) (skip : Bool) (idx : Nat) (sub : Nat) (v : Word) (o : Obj) (s : State), s.inReset = false ∧ findObj
          s.cfg (canonIdx idx) sub = some o ∧ o.row.status.isSome = true ∧ s.writeRefusal ⟨ini, if skip then 2 else 0,
          idx, sub, v⟩ false = none ∧ (s.statusMeta (s.targetKey ini idx sub)).elim true (fun m => !m.pend && m.pendFlags
          == 0) = true ∧ statusSeq v.toNat = statusSeq (s.getK (s.targetKey ini idx sub)).toNat) ∧
    (∃ (ini : Ini) (skip : Bool) (idx : Nat) (sub : Nat) (v : Word) (o : Obj) (s : State), s.inReset = false ∧ findObj
          s.cfg (canonIdx idx) sub = some o ∧ o.row.status.isSome = true ∧ s.writeRefusal ⟨ini, if skip then 2 else 0,
          idx, sub, v⟩ false = none ∧ (s.statusMeta (s.targetKey ini idx sub)).elim true (fun m => !m.pend && m.pendFlags
          == 0) = true ∧ statusSeq v.toNat ≠ statusSeq (s.getK (s.targetKey ini idx sub)).toNat) ∧
    (∃ (k : Nat) (n : Nat) (v : Word) (s : State), n < 40 ∧ statusSeq v.toNat = statusSeq (s.getK k).toNat) ∧
    (∃ (ini : Ini) (n : Nat) (idx : Nat) (sub : Nat) (o : Obj) (s : State), findObj s.cfg (canonIdx idx) sub = some o ∧
          o.row.status.isSome = true ∧ ((n = 1 ∨ n = 3)) ∧ ini.path ≠ .monitor ∧ s.hasRight ini true o (canonIdx idx) sub
          = true) ∧
    (∃ (ini : Ini) (n : Nat) (idx : Nat) (sub : Nat) (o : Obj) (s : State), findObj s.cfg (canonIdx idx) sub = some o ∧
          o.row.status.isSome = true ∧ ((n = 0 ∨ n = 2)) ∧ ini.path ≠ .monitor ∧ s.hasRight ini true o (canonIdx idx) sub
          = true) :=
  ⟨⟨0x6801, 0, obj1 0x6801 0, st [], by decide +kernel⟩,
   ⟨okey 0 0x6801 0, 3, st [], by decide +kernel⟩,
   ⟨okey 0 0x3430 0, 3, ⟨okey 0 0x3430 0, 0, false, 4, 0⟩, 10000000,
          { ((st []).setFlag (okey 0 0x3430 0) 2) with now := 10000000 }, by decide +kernel⟩,
   ⟨okey 0 0x3430 0, 3, ⟨okey 0 0x3430 0, 0, false, 4, 0⟩, 10000000,
          { ((st []).setFlag (okey 0 0x3430 0) 2) with now := 9999999 }, by decide +kernel⟩,
   ⟨0x6801, 0, obj1 0x6801 0, st [], by decide +kernel⟩,
   ⟨win 0, false, 0x6801, 0, 2 ^ 40 + 5, obj1 0x6801 0, (st []).setFlag (okey 0 0x6801 0) 2, by decide +kernel⟩,
   ⟨win 0, true, 0x6801, 0, 5, obj1 0x6801 0, (st []).setFlag (okey 0 0x6801 0) 2, by decide +kernel⟩,
   ⟨okey 0 0x6801 0, 3, 0, st [], by decide +kernel⟩,
   ⟨win 0, 3, 0x6801, 0, obj1 0x6801 0, st [], by decide +kernel⟩,
   ⟨win 0, 0, 0x6801, 0, obj1 0x6801 0, st [], by decide +kernel⟩⟩

/-- States and operands that meet the premises of FailedChecksRejectGroups, clause by clause. -/
theorem wit_FailedChecksRejectGroups :
    (∃ (l : List PendingSet) (r : RuleFail) (s : State), l.findSome? (s.checkSet l) = some r) ∧
    (∃ (part : Nat) (at0 : Nat) (g : Nat) (r : RuleFail) (s : State), part < 16 ∧ g < 61 ∧ g ≠ 0 ∧ g ≠ 57 ∧
          s.dict.sets.all (fun x => x.group != g) = true ∧ r.1 < 2 ^ 16 ∧ r.2 < 2 ^ 32 ∧
          ({ s with dict := { s.dict with nextCommit := s.dict.nextCommit + 1 } } : State).checkSet [s.newSet part 0 at0
          none g] (s.newSet part 0 at0 none g) = some r) ∧
    (∃ (part : Nat) (v : Nat) (at0 : Nat) (r : RuleFail) (s : State), part < 16 ∧ v % 2 = 0 ∧ v < 2 ^ 61 ∧ bit v 57 =
          false ∧ s.dict.sets.all (fun x => !bit v x.group) = true ∧ r.1 < 2 ^ 16 ∧ r.2 < 2 ^ 32 ∧ ((maskGroups v).map
          (s.newSet part 1 at0 none)).findSome? (({ s with dict := { s.dict with nextCommit := s.dict.nextCommit + 1 } } :
          State).checkSet ((maskGroups v).map (s.newSet part 1 at0 none))) = some r) ∧
    (∃ (l : List PendingSet) (r : RuleFail) (s : State), l.findSome? (s.checkSet l) = some r) ∧
    (∃ (l : List PendingSet) (x : PendingSet) (rule : Nat) (obj : Nat), x ∈ l ∧ x.part < 16 ∧ rule < 2 ^ 16 ∧ obj < 2 ^ 32
          ∧ l.all (fun y => y.part == x.part && y.client.isNone) = true) ∧
    (∃ (l : List (List PendingSet)) (u : List PendingSet) (x : PendingSet) (s : State), u ∈ (s.finalCheck l.length l).1 ∧
          x ∈ u) :=
  ⟨⟨
       (let s := ((st []).putShadow (okey 0 0x7800 1) 3).putShadow (okey 0 0x7800 4) 1; [s.newSet 2 1 0 none 55]),
          (0x0E02, 0x780001), ((st []).putShadow (okey 0 0x7800 1) 3).putShadow (okey 0 0x7800 4) 1, by decide +kernel⟩,
   ⟨2, 0, 55, (0x0E02, 0x780001), ((st []).putShadow (okey 0 0x7800 1) 3).putShadow (okey 0 0x7800 4) 1, by decide +kernel⟩,
   ⟨2, 2 ^ 55 + 2 ^ 20, 0, (0x0E02, 0x780001), planned1 (((st []).putShadow (okey 0 0x7800 1) 3).putShadow (okey 0 0x7800
          4) 1), by decide +kernel⟩,
   ⟨
       (let s := ((st []).putShadow (okey 0 0x7800 1) 3).putShadow (okey 0 0x7800 4) 1; [s.newSet 2 1 0 none 55]),
          (0x0E02, 0x780001), ((st []).putShadow (okey 0 0x7800 1) 3).putShadow (okey 0 0x7800 4) 1, by decide +kernel⟩,
   ⟨[(st []).newSet 2 1 0 none 55], (st []).newSet 2 1 0 none 55, 0x0E02, 0x780001, by decide +kernel⟩,
   ⟨[[(st []).newSet 2 1 0 none 55]], [(st []).newSet 2 1 0 none 55], (st []).newSet 2 1 0 none 55, st [], by decide +kernel⟩⟩

/-- States and operands that meet the premises of DetentTorqueInterpolates, clause by clause. -/
theorem wit_DetentTorqueInterpolates :
    (∃ (a : Nat) (s : State), a < s.cfg.axes) ∧
    (∃ (a : Nat) (p : Int) (q : Int) (i : Int) (f : Int) (cpr : Int) (s : State), 0 < s.get (axIdx a) 6 ∧ cpr = s.get
          (axIdx a) 6 ∧ q = Int.fmod p cpr ∧ i = Int.fdiv (q * 1024) cpr ∧ f = Int.fmod (q * 1024) cpr) :=
  ⟨⟨3, st [], by decide +kernel⟩,
   ⟨1, -5, 19, 810, 16, 24, (st [(axIdx 1, 6, 24)]).putLive (okey 0 (axIdx 1 + 6) 0) ⟨1, (List.range 2048).map (fun n =>
          byteOf (n * n % 251))⟩, by decide +kernel⟩⟩

/-- States and operands that meet the premises of StepRunsTheFrontCommand, clause by clause. -/
theorem wit_StepRunsTheFrontCommand :
    (∃ (s : State), s.pending = []) :=
  ⟨st [], by decide +kernel⟩

/-- States and operands that meet the premises of ResetState, clause by clause. -/
theorem wit_ResetState :
    (∃ (s : State), s = State.reset) :=
  ⟨State.reset, by decide +kernel⟩

/-- States and operands that meet the premises of EveryCommandAnswers, clause by clause. -/
theorem wit_EveryCommandAnswers :
    (∃ (s : State), s.inReset = true) :=
  ⟨{ State.reset with sys := { State.reset.sys with held := [(0, 5)] } }, by decide +kernel⟩

end Sys2Proof.Tests
end

/-!
SUPPORT. Proofs of the statements about the architecture (chapter 01): steps and commands, the reset state, the loss of units,
the binding of engines and the resets, with the rules about commands, folds and events on which they rest.
-/
namespace Sys2Proof.Machine

/-! ## One step -/

/-- A step takes the front command out of the queue. -/
theorem step_cons (c : Instr) (s : State) : step { s with pending := c :: s.pending } = exec c s := rfl

theorem step_of_pending_eq_cons {s : State} {c : Instr} {rest : List Instr} (h : s.pending = c :: rest) :
    step s = exec c { s with pending := rest } := by
  simp only [step, h]

theorem step_of_pending_eq_nil {s : State} (h : s.pending = []) : step s = .next s := by
  simp only [step, h]

theorem State.withFetchWord_eq (s : State) (nbits w : Nat) : s.withFetchWord nbits w = s := rfl

/-- Settles O57: by the two branches of `step`, and because no row of the command table has bits. -/
theorem stepRunsTheFrontCommand : Obligations.StepRunsTheFrontCommand := by
  unfold Obligations.StepRunsTheFrontCommand
  exact ⟨step_cons, fun _ => step_of_pending_eq_nil, fun nbits w s => ⟨rfl, s.withFetchWord_eq nbits w⟩⟩

/-! ## The form of every command -/

/-- RESET_N and the monitors of supply and temperature have their effect while the device is held in reset (R447, R477). -/
def ActsInReset (c : Instr) : Prop :=
  (∃ t low node senior mode, c = .resetN t low node senior mode) ∨ (∃ t temps, c = .thermalRelease t temps) ∨
    (∃ t mv, c = .vinBrownout t mv) ∨ (∃ t mv, c = .vinHighTrip t mv) ∨ ∃ t mv ma, c = .tripRelease t mv ma

/-- Every command is an effect at its instant: one that waits for the end of a reset, one that acts in reset too, or the
power-on reset. -/
theorem exec_form (c : Instr) (s : State) :
    (∃ t f, exec c s = at_ t s f) ∨ (ActsInReset c ∧ ∃ t f, exec c s = always t s f) ∨ ∃ t, c = .powerOnReset t := by
  cases c with
  | powerOnReset t => exact .inr (.inr ⟨t, rfl⟩)
  | resetN t low node senior mode => exact .inr (.inl ⟨.inl ⟨t, low, node, senior, mode, rfl⟩, _, _, rfl⟩)
  | thermalRelease t temps => exact .inr (.inl ⟨.inr (.inl ⟨t, temps, rfl⟩), _, _, rfl⟩)
  | vinBrownout t mv => exact .inr (.inl ⟨.inr (.inr (.inl ⟨t, mv, rfl⟩)), _, _, rfl⟩)
  | vinHighTrip t mv => exact .inr (.inl ⟨.inr (.inr (.inr (.inl ⟨t, mv, rfl⟩))), _, _, rfl⟩)
  | tripRelease t mv ma => exact .inr (.inl ⟨.inr (.inr (.inr (.inr ⟨t, mv, ma, rfl⟩))), _, _, rfl⟩)
  | _ => exact .inl ⟨_, _, rfl⟩

/-- A power-on reset alone clears device time; it leaves the configuration and the queue like every command. -/
theorem execPowerOnReset_spec (t : Nat) (s : State) :
    ∃ s', exec (.powerOnReset t) s = .next s' ∧ s'.cfg = s.cfg ∧ s'.pending = s.pending ∧ s'.now = 0 :=
  ⟨_, rfl, rfl, rfl, rfl⟩

/-- Every command answers a next state with the configuration and the queue as they were. -/
theorem exec_next (c : Instr) (s : State) :
    ∃ s', exec c s = .next s' ∧ s'.cfg = s.cfg ∧ s'.pending = s.pending ∧ (s.now ≤ s'.now ∨ ∃ t, c = .powerOnReset t) := by
  obtain ⟨t, f, h⟩ | ⟨-, t, f, h⟩ | ⟨t, rfl⟩ := exec_form c s
  · obtain ⟨s', hs, hcfg, hpending, hnow⟩ := at_spec t s f
    exact ⟨s', h.trans hs, hcfg, hpending, .inl (by omega)⟩
  · obtain ⟨s', hs, hcfg, hpending, hnow⟩ := always_spec t s f
    exact ⟨s', h.trans hs, hcfg, hpending, .inl (by omega)⟩
  · obtain ⟨s', hs, hcfg, hpending, -⟩ := execPowerOnReset_spec t s
    exact ⟨s', hs, hcfg, hpending, .inr ⟨t, rfl⟩⟩

/-- While the device is held in reset, a command that does not act in reset lets only time pass (R447). -/
theorem exec_held (c : Instr) {s : State} (hr : s.inReset = true) :
    (∃ t, exec c s = .next (s.advance t)) ∨ ActsInReset c ∨ ∃ t, c = .powerOnReset t := by
  obtain ⟨t, f, h⟩ | ⟨hc, -⟩ | hc := exec_form c s
  · exact .inl ⟨t, h.trans (at_reset t s f hr)⟩
  · exact .inr (.inl hc)
  · exact .inr (.inr hc)

/-- A step answers a next state with the configuration as it was and the queue without its front command. -/
theorem step_next (s : State) : ∃ s', step s = .next s' ∧ s'.cfg = s.cfg ∧ s'.pending = s.pending.tail := by
  cases h : s.pending with
  | nil => exact ⟨s, step_of_pending_eq_nil h, rfl, h⟩
  | cons c rest =>
    obtain ⟨s', hs, hcfg, hpending, -⟩ := exec_next c { s with pending := rest }
    exact ⟨s', (step_of_pending_eq_cons h).trans hs, hcfg, hpending⟩

/-- Settles O59: by the three forms that a command can have. -/
theorem everyCommandAnswers : Obligations.EveryCommandAnswers := by
  unfold Obligations.EveryCommandAnswers
  refine ⟨exec_next, fun c s hr => ?_, step_next⟩
  obtain h | (h | h) | h := exec_held c hr
  · exact .inl h
  · exact .inr (.inl h)
  · exact .inr (.inr (.inr h))
  · exact .inr (.inr (.inl h))

/-! ## The state at reset -/

/-- With empty maps and an empty memory every key reads as its default. -/
theorem State.reset_reads_default (k : Nat) :
    State.reset.getK k = objDefault State.reset.cfg k ∧ State.reset.getShadow k = objDefault State.reset.cfg k ∧
      State.reset.getBlk k = blockDefault State.reset.cfg k ∧ State.reset.getLive k = blockDefault State.reset.cfg k ∧
      State.reset.rdByte k = 0 := ⟨rfl, rfl, rfl, rfl, rfl⟩

theorem State.reset_period : State.reset.period = 16666667 := by decide +kernel

/-- SAFE_OK is low, and hold bit 5 alone is set: Markhor has not started (R432). -/
theorem State.reset_safeOk : State.reset.get 0x8C60 2 = 0 ∧ State.reset.get 0x8C60 1 = 32 := by decide +kernel

theorem State.reset_inv : State.reset.Inv := ⟨rfl, by decide, by intro c h; cases h⟩

/-- Settles O58: the maps of the reset state are empty, so that every read gives a default; the named registers are evaluated. -/
theorem resetState : Obligations.ResetState := by
  unfold Obligations.ResetState
  refine ⟨?_, State.reset_inv⟩
  rintro k s rfl
  obtain ⟨hobj, hshadow, hblk, hlive, hmem⟩ := State.reset_reads_default k
  obtain ⟨hlevel, hhold⟩ := State.reset_safeOk
  exact ⟨hobj, hshadow, hblk, hlive, hmem, rfl, rfl, rfl, rfl, State.reset_period, hlevel, hhold, rfl, State.reset_wf⟩

/-! ## Effects that run -/

/-- What a command leaves follows from what its effect leaves at its instant. -/
theorem State.ran_congr {s : State} {t : Nat} {f g : State → State} (h : f (s.advance t) = g (s.advance t)) :
    s.ran t f = s.ran t g := by
  unfold State.ran
  rw [h]

/-- A flag after a command is what the effect left of it. -/
theorem State.ran_flag {s : State} {t : Nat} {f : State → State} (h : (f (s.advance t)).cfg = s.cfg) (k n : Nat) :
    (s.ran t f).flag k n = (f (s.advance t)).flag k n := State.flag_congr n (State.ran_getK h k)

@[simp] theorem State.planRuns_advance (s : State) (t : Nat) : (s.advance t).planRuns = s.planRuns := rfl

/-- A command of the planner has its effect while the planner runs. -/
theorem planned_run {t : Nat} {s : State} (f : State → State) (h : s.inReset = false) (hp : s.planRuns = true) :
    planned t s f = .next (s.ran t f) := by
  unfold planned
  rw [at_run t s _ h]
  refine congrArg _ (State.ran_congr ?_)
  simp [hp]

/-- A command of the planner that changes nothing lets only time pass. -/
theorem planned_idle {t : Nat} {s : State} {f : State → State} (hr : s.inReset = false) (hf : f (s.advance t) = s.advance t) :
    planned t s f = .next (s.ran t fun s => s) := by
  refine (at_run t s _ hr).trans (congrArg _ (State.ran_congr ?_))
  simp only [hf, ite_self]

/-! ## Folds -/

/-- A fold over a list that is not empty leaves what its last step leaves. -/
theorem foldS_last {α : Type} {f : State → α → State} {P : State → Prop} (h : ∀ s x, P (f s x)) {l : List α} (hl : l ≠ [])
    (s : State) : P (foldS f s l) := by
  obtain rfl | ⟨r, x, rfl⟩ := List.eq_nil_or_concat l
  · exact absurd rfl hl
  · simp only [foldS, List.concat_eq_append, List.foldl_append, List.foldl_cons, List.foldl_nil]
    exact h _ x

theorem foldS_range_succ (f : State → Nat → State) (s : State) (n : Nat) :
    foldS f s (List.range (n + 1)) = f (foldS f s (List.range n)) n := by
  simp only [foldS, List.range_succ, List.foldl_append, List.foldl_cons, List.foldl_nil]

/-- A projection that every step of a fold keeps is kept by the fold. -/
theorem foldS_proj {α β : Type} {f : State → α → State} (g : State → β) (h : ∀ s x, g (f s x) = g s) (l : List α)
    (s : State) : g (foldS f s l) = g s := by
  induction l generalizing s with
  | nil => rfl
  | cons x r ih => exact (ih (f s x)).trans (h s x)

/-! ## What an event occurrence can do (R421 to R431) -/

/-- The indices of the registers that event records and trace rings write: EventCounters, EventStore, the rings' LOST and
the trace rings. -/
def eventIdx (i : Nat) : Prop := i = 0x8C02 ∨ i = 0x8C03 ∨ 0x8C40 ≤ i ∧ i < 0x8C50 ∨ 0x8F00 ≤ i ∧ i < 0x8F08

/-- A relation of states that holds across every update of which an event occurrence is made. -/
structure EventClosed (R : State → State → Prop) : Prop where
  refl : ∀ s, R s s
  trans : ∀ {a b c}, R a b → R b c → R a c
  put : ∀ (s : State) {i u : Nat} (v : Nat), eventIdx i → u < 256 → R s (s.put i u v)
  flag : ∀ (s : State) (n : Nat), R s (s.setFlag (okey 0 0x8C01 0) n)
  events : ∀ (s : State) (e : EvState), R s { s with ev := e }
  traces : ∀ (s : State) (x : TraceRun), R s (s.putTrace x)
  emit : ∀ (s : State) (o : Out), R s (s.emit o)

namespace EventClosed

section
variable {R : State → State → Prop} (hR : EventClosed R)
include hR

/-- `trans` with the later half first. -/
theorem after {a b c : State} (h' : R b c) (h : R a b) : R a c := hR.trans h h'

theorem bump (s : State) {i u : Nat} (hi : eventIdx i) (hu : u < 256) : R s (s.bump i u) := hR.put s _ hi hu

theorem fold {α : Type} {f : State → α → State} (l : List α) (h : ∀ s x, x ∈ l → R s (f s x)) (s : State) :
    R s (foldS f s l) := by
  induction l generalizing s with
  | nil => exact hR.refl s
  | cons x r ih => exact hR.trans (h s x (by simp)) (ih (fun s y hy => h s y (by simp [hy])) (f s x))

theorem handPage (s : State) (x : TraceRun) (a b : Nat) (hx : x.ring < 8) : R s (s.handPage x a b) := by
  unfold State.handPage
  exact hR.trans (hR.trans (hR.emit s _) (hR.put _ _ (by unfold eventIdx trIdx; omega) (by decide))) (hR.traces _ _)

theorem traceLost (s : State) (x : TraceRun) (hx : x.ring < 8) : R s (s.traceLost x) := by
  unfold State.traceLost
  exact hR.trans (hR.trans (hR.traces s _) (hR.bump _ (by unfold eventIdx trIdx; omega) (by decide))) (hR.flag _ 3)

theorem turnPage (s : State) (x : TraceRun) (a : Nat) (hx : x.ring < 8) : R s (s.turnPage x a) := by
  have hi : eventIdx (trIdx x.ring) := by unfold eventIdx trIdx; omega
  unfold State.turnPage
  dsimp only
  split
  · exact hR.handPage s x _ _ hx
  · refine hR.trans (hR.handPage s x (x.flags + a) x.before hx) (hR.trans ?_ (hR.flag _ 3))
    exact hR.trans (hR.trans (hR.traces _ _) (hR.put _ _ hi (by decide))) (hR.bump _ hi (by decide))

theorem tracePut (s : State) (r : Nat) (d : List Byte) (hr : r < 8) : R s (s.tracePut r d) := by
  have hx : (s.traceRun r).ring < 8 := by rw [State.traceRun_ring]; exact hr
  unfold State.tracePut
  dsimp only
  split
  · exact hR.traceLost s _ hx
  · split
    · exact hR.traces s _
    · split
      · exact hR.traceLost s _ hx
      · exact hR.trans (hR.turnPage s _ 0 hx) (hR.traces _ _)

theorem traceSource (s : State) (n : Nat) (d : List Byte) : R s (s.traceSource n d) := by
  refine hR.fold _ (fun s r hr => ?_) s
  split
  · exact hR.tracePut s r d (List.mem_range.mp hr)
  · exact hR.refl s

theorem loseOnRing (s : State) (q : Nat) : R s (s.when (q < 16) (fun s => s.bump (0x8C40 + q) 8)) := by
  by_cases hq : q < 16
  · simp only [hq, decide_true, State.when_true]
    exact hR.bump s (by unfold eventIdx; omega) (by decide)
  · simp only [hq, decide_false, State.when_false]
    exact hR.refl s

theorem lose (s : State) (sev : Nat) (p : EvPath) : R s (s.lose sev p) := by
  unfold State.lose
  cases p with
  | ring q => exact hR.after (hR.loseOnRing _ q) (hR.events s _)
  | sub i => exact hR.events s _
  | emcy t => exact hR.events s _

theorem loseAll (s : State) (sev : Nat) (l : List EvPath) : R s (foldS (fun s p => s.lose sev p) s l) :=
  hR.fold l (fun s p _ => hR.lose s sev p) s

theorem countDrop (s : State) (sev : Nat) : R s (s.countDrop sev) :=
  hR.trans (hR.bump s (.inl rfl) (by omega)) (hR.flag _ 0)

theorem setStore (s : State) (l : List EvRec) : R s (s.setStore l) := by
  have hi : eventIdx 0x8C03 := .inr (.inl rfl)
  unfold State.setStore State.countStore
  refine hR.after (hR.put _ _ hi (by decide)) ?_
  refine hR.after (hR.put _ _ hi (by decide)) ?_
  exact hR.after (hR.put _ _ hi (by decide)) (hR.events s _)

theorem makeShared {s s' : State} {sev : Nat} (h : s.makeShared sev = some s') : R s s' := by
  unfold State.makeShared at h
  split at h
  · cases h; exact hR.refl s
  · dsimp only at h
    split at h
    · split at h
      · cases h; exact hR.trans (hR.trans (hR.loseAll s _ _) (hR.setStore _ _)) (hR.countDrop _ _)
      · cases h; exact hR.refl s
    · cases h

theorem makePath (s : State) (sev : Nat) (p : EvPath) : R s (s.makePath sev p).1 := by
  unfold State.makePath
  dsimp only
  split
  · exact hR.refl s
  · split
    · exact hR.trans (hR.trans (hR.setStore s _) (hR.lose _ _ _)) (hR.countDrop _ _)
    · exact hR.trans (hR.lose s _ _) (hR.countDrop _ _)

theorem roomFor (sev : Nat) (l : List EvPath) (s : State) (kept : List EvPath) : R s (s.roomFor sev kept l).1 := by
  induction l generalizing s kept with
  | nil => exact hR.refl s
  | cons p r ih => exact hR.trans (hR.makePath s sev p) (ih _ _)

theorem takeToken (s : State) (n : Nat) : R s (s.takeToken n).1 := by
  unfold State.takeToken
  extract_lets
  split <;> exact hR.events s _

theorem storeCritical (s : State) (r : EvRec) : R s (s.storeCritical r) := by
  unfold State.storeCritical
  split
  · exact hR.setStore s _
  · dsimp only
    refine hR.after (hR.flag _ 1) ?_
    refine hR.after (hR.bump _ (.inl rfl) (by decide)) ?_
    exact hR.after (hR.fold _ (fun s p _ => hR.events s _) _) (hR.setStore s _)

theorem fileCritical (s : State) (r : EvRec) : R s (s.fileCritical r) := by
  unfold State.fileCritical
  extract_lets s1
  have hstore : R s s1 := hR.storeCritical s r
  split
  · exact hR.trans (hR.trans hstore (hR.events _ _)) (hR.trans (hR.events _ _) (hR.storeCritical _ _))
  · exact hstore

theorem fileShared (s : State) (r : EvRec) : R s (s.fileShared r) := by
  unfold State.fileShared
  refine hR.trans (hR.takeToken s r.source) ?_
  generalize s.takeToken r.source = a
  extract_lets
  split
  · exact hR.trans (hR.trans (hR.bump _ (.inl rfl) (by decide)) (hR.countDrop _ _)) (hR.loseAll _ _ _)
  · split
    · exact hR.refl _
    · split
      · exact hR.trans (hR.countDrop _ _) (hR.loseAll _ _ _)
      · next s4 h4 =>
        refine hR.trans (hR.makeShared h4) (hR.trans (hR.roomFor r.sev r.paths s4 []) ?_)
        extract_lets
        split
        · exact hR.refl _
        · exact hR.setStore _ _

theorem createRecord (s : State) (o : Occ) (time count last : Nat) (c : Bool) : R s (s.createRecord o time count last c) := by
  unfold State.createRecord
  extract_lets a r s1
  refine hR.trans (hR.trans (hR.events s _) (hR.traceSource a.1 2 r.bytes)) ?_
  split
  · exact hR.fileCritical _ _
  · exact hR.fileShared _ _

theorem closeSlot (s : State) (z : EvSlot) : R s (s.closeSlot z) := by
  unfold State.closeSlot
  dsimp only
  split
  · exact hR.events s _
  · exact hR.trans (hR.events s _) (hR.createRecord _ _ _ _ _ _)

/-- An event occurrence is made of writes of the event registers, of the records of events and traces, and of what is sent. -/
theorem occur (s : State) (o : Occ) : R s (s.occur o) := by
  unfold State.occur
  split
  · exact hR.refl s
  · extract_lets s1 here s2 s3 _ s4 _
    have hclosed : R s1 s2 := by
      show R s1 (match s1.ev.slots.find? here with
        | some z => if z.ends ≤ s1.now then s1.closeSlot z else s1
        | none => s1)
      split
      · split
        · exact hR.closeSlot _ _
        · exact hR.refl _
      · exact hR.refl _
    refine hR.trans (hR.trans (hR.put s _ (.inl rfl) (by decide)) hclosed) ?_
    split
    · have hrecord : R s2 s3 := hR.createRecord s2 _ _ _ _ _
      refine hR.after ?_ hrecord
      split
      · exact hR.events _ _
      · exact hR.after (hR.flag _ 2) (hR.bump _ (.inl rfl) (by decide))
    · have hcount : R s2 s4 := hR.bump s2 (.inl rfl) (by decide)
      refine hR.after ?_ hcount
      split
      · exact hR.setStore _ _
      · exact hR.events _ _

end

end EventClosed

/-! ## SAFE_OK (R432) -/

/-- No event writes the objects of SafeOkState. -/
theorem EventClosed.safeOkState : EventClosed (fun s s' => ∀ u, u < 256 → s'.get 0x8C60 u = s.get 0x8C60 u) where
  refl _ _ _ := rfl
  trans h h' u hu := (h' u hu).trans (h u hu)
  put s i u v hi hu x hx := by
    refine s.get_put_ne ?_ v
    unfold okey
    unfold eventIdx at hi
    omega
  flag s n u hu := s.get_setFlag_ne (by unfold okey; omega) n
  events _ _ _ _ := rfl
  traces _ _ _ _ := rfl
  emit _ _ _ _ := rfl

theorem State.get_occur_safeOkState (s : State) (o : Occ) {u : Nat} (hu : u < 256) : (s.occur o).get 0x8C60 u = s.get 0x8C60 u :=
  EventClosed.safeOkState.occur s o u hu

/-- The pin follows the hold bits and leaves them alone. -/
theorem State.get_safeOkUpdate_hold (s : State) : s.safeOkUpdate.get 0x8C60 1 = s.get 0x8C60 1 := by
  unfold State.safeOkUpdate
  extract_lets high s1
  split
  · have h : (s1.occur ⟨0, 2, 0, 0, [byteOf (s1.get 0x8C60 1)]⟩).get 0x8C60 1 = s1.get 0x8C60 1 :=
      s1.get_occur_safeOkState _ (by decide)
    rw [State.get_emit, h]
    simp [s1, State.get_put, State.get_bump, okey]
  · split
    · simp [State.get_put, okey]
    · rfl

/-- A hold bit that is set stands in SafeOkState. -/
theorem State.bit_hold (s : State) {b : Nat} (hb : b < 64) : bit ((s.hold b true).get 0x8C60 1) b = true := by
  unfold State.hold
  rw [State.get_safeOkUpdate_hold, State.get_put_same, bit_mod _ _ _ hb, bit_setBit_true]

/-- With a hold bit set the pin's update leaves SAFE_OK low, where the object of its level holds a level. -/
theorem State.get_safeOkUpdate_level {s : State} (hhold : s.get 0x8C60 1 ≠ 0) (hlevel : s.get 0x8C60 2 ≤ 1) :
    s.safeOkUpdate.get 0x8C60 2 = 0 := by
  unfold State.safeOkUpdate
  extract_lets high s1
  split
  · have h : (s1.occur ⟨0, 2, 0, 0, [byteOf (s1.get 0x8C60 1)]⟩).get 0x8C60 2 = s1.get 0x8C60 2 :=
      s1.get_occur_safeOkState _ (by decide)
    rw [State.get_emit, h]
    simp [s1, State.get_put, State.get_bump, okey]
  · next hfall =>
    have hlow : s.get 0x8C60 2 = 0 := by
      simp only [high, hhold, decide_false, Bool.not_false, and_true] at hfall
      omega
    simp only [high, hhold, and_false, if_false, hlow]

/-- A hold bit that is set takes SAFE_OK low. -/
theorem State.get_hold_level (s : State) {b : Nat} (hb : b < 64) (hlevel : s.get 0x8C60 2 ≤ 1) :
    (s.hold b true).get 0x8C60 2 = 0 := by
  unfold State.hold
  refine State.get_safeOkUpdate_level ?_ ?_
  · rw [State.get_put_same]
    intro h0
    have hset : bit (setBit (s.get 0x8C60 1) b true % 2 ^ 64) b = true := by rw [bit_mod _ _ _ hb, bit_setBit_true]
    rw [h0] at hset
    simp [bit] at hset
  · rw [State.get_put_ne s (by decide)]
    exact hlevel

/-! ## The loss of Markhor (R27) -/

/-- The loss of Markhor clears its STATE and sets hold bit 5. -/
theorem State.loseUnit_markhor {s : State} (hlost : s.isLost .markhor 0 = false) :
    s.loseUnit .markhor 0 =
      (({ s with place := { s.place with lost := s.place.lost ++ [(.markhor, 0)] } } : State).put 0x2000 1 0).hold 5 true := by
  simp [State.loseUnit, Cfg.unitParts, foldS, State.loseOne, Cfg.unitCount, hlost, State.unitEffect]

/-- UNIT_LOST of Markhor takes SAFE_OK low in every state whose level object holds a level. -/
theorem exec_unitLost_markhor (t : Nat) {s : State} (hr : s.inReset = false) (hlost : s.isLost .markhor 0 = false)
    (hlevel : s.get 0x8C60 2 ≤ 1) :
    ∃ s', exec (.unitLost t .markhor 0) s = .next s' ∧ s'.get 0x2000 1 = 0 ∧ bit (s'.get 0x8C60 1) 5 = true ∧
      s'.get 0x8C60 2 = 0 := by
  have heff := State.loseUnit_markhor (s := s.advance t) hlost
  have hcfg : ((s.advance t).loseUnit .markhor 0).cfg = s.cfg := by rw [heff, State.hold_cfg, State.put_cfg]; rfl
  refine ⟨_, at_run t s _ hr, ?_, ?_, ?_⟩
  · rw [State.ran_get hcfg, heff, State.get_hold_ne _ _ _ (not_evKey_okey (by decide) (by decide) (by decide)),
      State.get_put_same, Nat.zero_mod]
  · rw [State.ran_get hcfg, heff]
    exact State.bit_hold _ (by decide)
  · rw [State.ran_get hcfg, heff]
    refine State.get_hold_level _ (by decide) ?_
    rw [State.get_put_ne _ (by decide)]
    exact hlevel

/-- The state at reset, but with a level in SafeOkState (0x8C60:02) that is neither low nor high. -/
def safeOkLevelTwo : State := State.reset.put 0x8C60 2 2

/-- The loss of Markhor sets hold bit 5, and leaves such a level. -/
theorem safeOkLevelTwo_loseMarkhor :
    (safeOkLevelTwo.ran 0 (fun s => s.loseUnit .markhor 0)).get 0x8C60 2 = 2 := by decide +kernel

/-- Refutes O1: the claim that SAFE_OK reads low after the loss of Markhor is made of every state, also of one whose level
object holds 2, and the pin's update acts on the levels 0 and 1 alone (`exec_unitLost_markhor` is the claim for these). -/
theorem not_deviceRuns : ¬ Obligations.DeviceRuns := by
  unfold Obligations.DeviceRuns
  rintro ⟨-, -, -, -, -, -, -, -, -, -, -, hmarkhor, -⟩
  obtain ⟨s', hs, -, -, hlevel⟩ := hmarkhor 0 safeOkLevelTwo (by decide) (by decide)
  have hran : exec (.unitLost 0 .markhor 0) safeOkLevelTwo = .next (safeOkLevelTwo.ran 0 (fun s => s.loseUnit .markhor 0)) :=
    at_run 0 safeOkLevelTwo _ (by decide)
  obtain rfl : safeOkLevelTwo.ran 0 (fun s => s.loseUnit .markhor 0) = s' := by
    rw [hran] at hs
    exact Host.Outcome.next.inj hs
  rw [safeOkLevelTwo_loseMarkhor] at hlevel
  exact absurd hlevel (by decide)

/-! ## The binding after a unit loss (R134 to R136) -/

/-- The state in which a binding is computed: the units lost since the last one are taken out. -/
def State.tookLost (s : State) : State := { s with place := { s.place with rebinding := [] } }

/-- The shedding looks at the state only through what carries the plan. -/
theorem State.shedUntil_congr {s s' : State} {p : Plan} (h : ∀ shed, s'.carries p shed = s.carries p shed)
    (rest shed : List Nat) : s'.shedUntil p rest shed = s.shedUntil p rest shed := by
  induction rest generalizing shed with
  | nil => simp only [State.shedUntil, h]
  | cons x r ih => simp only [State.shedUntil, h, ih]

/-- Neither time nor the list of lost units bears on what the plan needs. -/
theorem State.carries_tookLost (s : State) (t : Nat) (p : Plan) (shed : List Nat) :
    (s.advance t).tookLost.carries p shed = s.carries p shed := rfl

theorem State.dropB_tookLost (s : State) (t : Nat) (p : Plan) : (s.advance t).tookLost.dropB p = s.dropB p := rfl

/-- The layers that a computation has not shed yet, in the shedding order. -/
def State.toShed (s : State) (p : Plan) : List Nat := p.shedOrder.filter (fun n => !s.place.shed.contains n)

/-- The state with a binding that waits for the frame epoch. -/
def State.setBinding (s : State) (b : List Nat × List Nat × List Nat) : State :=
  { s with place := { s.place with binding := some b } }

/-- The events of a re-binding, one for each unit lost since the last one. -/
def State.rebindEvents (s : State) (p : Plan) (new : List Nat) (ab : Bool) (units : List (UnitKind × Nat)) : State :=
  foldS (fun s u => s.rebindEvent p u new ab) s units

/-- What BINDING_COMPUTED leaves where shedding carries the plan. -/
def State.bindingCarried (s : State) (p : Plan) (m shed : List Nat) : State :=
  let new := shed.filter (fun n => !s.place.shed.contains n)
  let s' := s.tookLost.shedEvents new
  (s'.setBinding (m, shed, s'.place.dropped)).rebindEvents p new false s.place.rebinding

/-- What BINDING_COMPUTED leaves where class B layers are dropped. -/
def State.bindingDropped (s : State) (p : Plan) (m dropped : List Nat) : State :=
  let s' := s.tookLost.shedEvents (s.toShed p)
  let s' := s'.setBinding (m, s'.place.shed ++ s.toShed p, dropped)
  let s' := s'.rebindEvents p (s.toShed p ++ dropped) true s.place.rebinding
  (s'.occur ⟨3 * 256, 4 * 4096 + 0x430, 0, sevCritical,
    leBytes 2 (s.place.rebinding.getLast?.elim 0 unitCode) ++ leBytes 2 dropped.length⟩).hold 3 true

/-- The effect of BINDING_COMPUTED by its cases. -/
def State.computeBinding (s : State) : State :=
  if s.place.rebinding.isEmpty then s
  else
    match s.plan.active with
    | none => s.tookLost
    | some p =>
      match s.tookLost.shedUntil p (s.toShed p) s.place.shed with
      | some (m, shed) => s.bindingCarried p m shed
      | none => s.bindingDropped p (s.tookLost.dropB p).1 (s.tookLost.dropB p).2

theorem exec_bindingComputed (t : Nat) (s : State) : exec (.bindingComputed t) s = planned t s State.computeBinding := rfl

theorem State.shedUntil_tookLost (s : State) (t : Nat) (p : Plan) (rest shed : List Nat) :
    (s.advance t).tookLost.shedUntil p rest shed = s.shedUntil p rest shed :=
  State.shedUntil_congr (s.carries_tookLost t p) rest shed

section
variable {t : Nat} {s : State} {p : Plan} (hl : s.place.rebinding ≠ []) (ha : s.plan.active = some p)
include hl ha

/-- Where shedding carries the plan, the binding that it gives is taken. -/
theorem State.computeBinding_carried {m shed : List Nat} (hc : s.shedUntil p (s.toShed p) s.place.shed = some (m, shed)) :
    (s.advance t).computeBinding = (s.advance t).bindingCarried p m shed := by
  have hempty : (s.advance t).place.rebinding.isEmpty = false := by simpa using hl
  have hactive : (s.advance t).plan.active = some p := ha
  have hcarried : (s.advance t).tookLost.shedUntil p ((s.advance t).toShed p) (s.advance t).place.shed = some (m, shed) :=
    (s.shedUntil_tookLost t p _ _).trans hc
  simp only [State.computeBinding, hempty, Bool.false_eq_true, if_false, hactive, hcarried]

/-- Where no shedding carries the plan, class B layers are dropped. -/
theorem State.computeBinding_dropped (hc : s.shedUntil p (s.toShed p) s.place.shed = none) :
    (s.advance t).computeBinding = (s.advance t).bindingDropped p (s.dropB p).1 (s.dropB p).2 := by
  have hempty : (s.advance t).place.rebinding.isEmpty = false := by simpa using hl
  have hactive : (s.advance t).plan.active = some p := ha
  have hcarried : (s.advance t).tookLost.shedUntil p ((s.advance t).toShed p) (s.advance t).place.shed = none :=
    (s.shedUntil_tookLost t p _ _).trans hc
  simp only [State.computeBinding, hempty, Bool.false_eq_true, if_false, hactive, hcarried, s.dropB_tookLost t p]

end

/-- Without a unit lost since the last computation nothing changes. -/
theorem State.computeBinding_none {s : State} (hl : s.place.rebinding = []) : s.computeBinding = s := by
  simp [State.computeBinding, hl]

/-! ## What a re-binding leaves -/

theorem Aside.shedEvents (s : State) (l : List Nat) : Aside s (s.shedEvents l) :=
  Aside.fold l (fun _ _ => Aside.raise _ _ _ _ _ _ _) s

theorem Aside.rebindEvents (s : State) (p : Plan) (new : List Nat) (ab : Bool) (l : List (UnitKind × Nat)) :
    Aside s (s.rebindEvents p new ab l) :=
  Aside.fold l (fun _ _ => Aside.raise _ _ _ _ _ _ _) s

/-- The events of a re-binding set flag 4 of the placement status. -/
theorem State.flag_rebindEvents (s : State) (p : Plan) (new : List Nat) (ab : Bool) {l : List (UnitKind × Nat)} (hl : l ≠ []) :
    (s.rebindEvents p new ab l).flag (okey 0 0x3430 0) 4 = true :=
  foldS_last (P := fun s => s.flag (okey 0 0x3430 0) 4 = true)
    (fun s u => s.flag_raise 0x3430 0 4 _ _ _ (by decide) (not_evKey_okey (by decide) (by decide) (by decide))) hl s

theorem State.bindingCarried_rebinding (s : State) (p : Plan) (m shed : List Nat) :
    (s.bindingCarried p m shed).place.rebinding = [] := by
  simp only [State.bindingCarried, (Aside.rebindEvents _ _ _ _ _).place]
  exact congrArg PlaceState.rebinding (Aside.shedEvents s.tookLost _).place

theorem State.bindingCarried_binding (s : State) (p : Plan) (m shed : List Nat) :
    (s.bindingCarried p m shed).place.binding = some (m, shed, s.place.dropped) := by
  simp only [State.bindingCarried, (Aside.rebindEvents _ _ _ _ _).place, (Aside.shedEvents _ _).place]
  rfl

theorem State.bindingCarried_cfg (s : State) (p : Plan) (m shed : List Nat) : (s.bindingCarried p m shed).cfg = s.cfg := by
  simp only [State.bindingCarried, (Aside.rebindEvents _ _ _ _ _).cfg]
  exact (Aside.shedEvents s.tookLost _).cfg

theorem State.bindingCarried_flag (s : State) (p : Plan) (m shed : List Nat) (hl : s.place.rebinding ≠ []) :
    (s.bindingCarried p m shed).flag (okey 0 0x3430 0) 4 = true := State.flag_rebindEvents _ _ _ _ hl

theorem State.bindingDropped_binding (s : State) (p : Plan) (m dropped : List Nat) :
    (s.bindingDropped p m dropped).place.binding = some (m, s.place.shed ++ s.toShed p, dropped) := by
  simp only [State.bindingDropped, (Aside.hold _ _ _).place, (Aside.occur _ _).place, (Aside.rebindEvents _ _ _ _ _).place,
    (Aside.shedEvents _ _).place]
  rfl

theorem State.bindingDropped_cfg (s : State) (p : Plan) (m dropped : List Nat) : (s.bindingDropped p m dropped).cfg = s.cfg := by
  simp only [State.bindingDropped, (Aside.hold _ _ _).cfg, (Aside.occur _ _).cfg, (Aside.rebindEvents _ _ _ _ _).cfg]
  exact (Aside.shedEvents s.tookLost _).cfg

/-- The hold and its event leave the placement status alone. -/
theorem State.bindingDropped_flag (s : State) (p : Plan) (m dropped : List Nat) (hl : s.place.rebinding ≠ []) :
    (s.bindingDropped p m dropped).flag (okey 0 0x3430 0) 4 = true := by
  have hev : ¬ evKey (okey 0 0x3430 0) := not_evKey_okey (by decide) (by decide) (by decide)
  simp only [State.bindingDropped]
  rw [State.flag_congr 4 (((Keeps.occur _ _).trans (Keeps.hold _ 3 true)).regs _ hev)]
  exact State.flag_rebindEvents _ _ _ _ hl

theorem State.bindingDropped_hold (s : State) (p : Plan) (m dropped : List Nat) :
    bit ((s.bindingDropped p m dropped).get 0x8C60 1) 3 = true := State.bit_hold _ (by decide)

/-! ## The binding at the frame epoch (R136) -/

/-- Consecutive sub-indices written in turn hold what was written. -/
theorem State.get_foldS_put_sub (s : State) (i : Nat) (v : Nat → Nat) {k n : Nat} (hk : k < n) :
    (foldS (fun s j => s.put i (j + 1) (v j)) s (List.range n)).get i (k + 1) = v k % 2 ^ 64 := by
  induction n with
  | zero => omega
  | succ n ih =>
    rw [foldS_range_succ]
    by_cases hkn : k = n
    · subst hkn
      exact State.get_put_same _ _ _ _
    · rw [State.get_put_ne _ (by unfold okey; omega)]
      exact ih (by omega)

theorem Aside.putBinding (s : State) (m : List Nat) : Aside s (s.putBinding m) :=
  Aside.fold _ (fun s _ => Aside.put s _ _ _) s

theorem State.get_putBinding (s : State) (m : List Nat) {k : Nat} (hk : k < s.cfg.engines) :
    (s.putBinding m).get 0x3470 (k + 1) = nth 0xFF m k % 2 ^ 64 := s.get_foldS_put_sub 0x3470 (nth 0xFF m) hk

/-- ShedState is no object of the binding. -/
theorem State.get_putShed_binding (s : State) (shed dropped : List Nat) (u : Nat) (hu : u < 256) :
    (s.putShed shed dropped).get 0x3470 u = s.get 0x3470 u := by
  unfold State.putShed
  extract_lets cls s1 s2
  have hne : ∀ w, w < 256 → okey 0 0x3470 u ≠ okey 0 0x3478 w := by
    intro w hw
    unfold okey
    omega
  rw [State.get_putBlk, State.get_put_ne _ (hne 3 (by decide)), State.get_put_ne _ (hne 2 (by decide)),
    State.get_put_ne _ (hne 1 (by decide))]
  rfl

theorem State.putShed_place (s : State) (shed dropped : List Nat) :
    (s.putShed shed dropped).place.binding = s.place.binding ∧ (s.putShed shed dropped).place.shed = shed ∧
      (s.putShed shed dropped).place.dropped = dropped := ⟨rfl, rfl, rfl⟩

theorem nth_lt_of_all {d n : Nat} (hd : d < n) {l : List Nat} (hl : l.all (fun j => decide (j < n)) = true) (k : Nat) :
    nth d l k < n := by
  induction l generalizing k with
  | nil => exact hd
  | cons x r ih =>
    simp only [List.all_cons, Bool.and_eq_true, decide_eq_true_eq] at hl
    cases k with
    | zero => exact hl.1
    | succ k => exact ih hl.2 k

/-- The state in which a binding takes effect: none waits any more. -/
def State.noBinding (s : State) : State := { s with place := { s.place with binding := none } }

/-- A binding that waits takes effect at the frame epoch. -/
theorem State.applyBinding_some {s : State} {m shed dropped : List Nat} (hb : s.place.binding = some (m, shed, dropped)) :
    s.applyBinding = (s.noBinding.putBinding m).putShed shed dropped := by
  simp only [State.applyBinding, hb, State.noBinding]

/-- The objects of the binding show it, and none waits. -/
theorem State.applyBinding_spec {s : State} {m shed dropped : List Nat} (hb : s.place.binding = some (m, shed, dropped)) {k : Nat}
    (hk : k < s.cfg.engines) (he : s.cfg.engines ≤ 8) (hm : m.all (fun j => decide (j < 256)) = true) :
    s.applyBinding.get 0x3470 (k + 1) = nth 0xFF m k ∧ s.applyBinding.place.binding = none ∧
      s.applyBinding.place.shed = shed ∧ s.applyBinding.place.dropped = dropped := by
  have hlt : nth 0xFF m k < 256 := nth_lt_of_all (by decide) hm k
  rw [State.applyBinding_some hb]
  obtain ⟨hbinding, hshed, hdropped⟩ := State.putShed_place (s.noBinding.putBinding m) shed dropped
  refine ⟨?_, ?_, hshed, hdropped⟩
  · rw [State.get_putShed_binding _ _ _ _ (by omega), s.noBinding.get_putBinding m hk, Nat.mod_eq_of_lt (by omega)]
  · rw [hbinding, (Aside.putBinding _ m).place]
    rfl

/-- Settles O12: by the cases of a binding's computation, and by what each leaves of the placement state. -/
theorem enginesAreRebound : Obligations.EnginesAreRebound := by
  unfold Obligations.EnginesAreRebound
  refine ⟨?_, ?_, ?_, ?_⟩
  · intro t p m shed s hr hp hl ha hc
    have heff := State.computeBinding_carried (t := t) hl ha hc
    refine ⟨_, (exec_bindingComputed t s).trans (planned_run _ hr hp), ?_, ?_, ?_⟩
    · rw [State.ran_place, heff, State.bindingCarried_rebinding]
    · rw [State.ran_place, heff, State.bindingCarried_binding]
      rfl
    · rw [State.ran_flag (by rw [heff, State.bindingCarried_cfg]; rfl), heff]
      exact State.bindingCarried_flag _ p m shed hl
  · intro t p s hr hp hl ha hc
    have heff := State.computeBinding_dropped (t := t) hl ha hc
    have hcfg : ((s.advance t).computeBinding).cfg = s.cfg := by rw [heff, State.bindingDropped_cfg]; rfl
    refine ⟨_, (exec_bindingComputed t s).trans (planned_run _ hr hp), ?_, ?_, ?_⟩
    · rw [State.ran_place, heff, State.bindingDropped_binding]
      rfl
    · rw [State.ran_get hcfg, heff]
      exact State.bindingDropped_hold _ p _ _
    · rw [State.ran_flag hcfg, heff]
      exact State.bindingDropped_flag _ p _ _ hl
  · intro t s hr hl
    exact (exec_bindingComputed t s).trans (planned_idle hr (State.computeBinding_none hl))
  · intro m shed dropped k s hb hk he hm
    exact State.applyBinding_spec hb hk he hm

/-! ## What a reset of PD0 leaves (R21, R447) -/

theorem State.endSub_mem (s : State) (u : TilSub) : (s.endSub u).mem = s.mem := by
  simp only [State.endSub, State.dropPath, (Aside.setStore _ _).mem]

theorem State.endPushes_mem (s : State) (k : Nat) : (s.endPushes k).mem = s.mem :=
  ((Aside.raise _ _ _ _ _ _ _).mem).trans (foldS_proj State.mem State.endSub_mem _ s)

theorem State.restartBinding_mem (s : State) (k : Nat) : (s.restartBinding k).mem = s.mem := by
  unfold State.restartBinding
  dsimp only
  split
  · rfl
  · split <;> split <;> simp [State.endPushes_mem]

theorem State.bcastLimit_mem (s : State) : s.bcastLimit.mem = s.mem := by
  unfold State.bcastLimit
  split
  · rfl
  · split
    · rfl
    · exact (Aside.raise _ _ _ _ _ _ _).mem

theorem State.restartSessions_mem (s : State) : s.restartSessions.mem = s.mem := by
  unfold State.restartSessions
  rw [← foldS_proj State.mem State.restartBinding_mem (List.range 64) s]
  generalize foldS State.restartBinding s (List.range 64) = r
  dsimp only
  split
  · exact State.bcastLimit_mem r
  · rfl

theorem State.showFuses_mem (s : State) : s.showFuses.mem = s.mem := by
  simp only [State.showFuses, State.put_mem]

theorem State.blow_mem (s : State) (lo v : Nat) : (s.blow lo v).mem = s.mem := by
  unfold State.blow
  extract_lets data m n new
  rw [State.showFuses_mem, State.putBlk_mem]

theorem State.rereadFuses_mem (s : State) : s.rereadFuses.mem = s.mem := by
  unfold State.rereadFuses
  rw [State.showFuses_mem]
  dsimp only
  have hblow : ∀ (s : State) (x : Nat × Nat), (s.blow x.1 x.2).mem = s.mem := fun s x => s.blow_mem x.1 x.2
  exact foldS_proj State.mem hblow _ s

theorem State.countPending_mem (s : State) : s.countPending.mem = s.mem := rfl

theorem State.wiped_mem (s : State) (power : Bool) :
    (s.wiped power).mem = s.mem.filter (fun e => decide (emramBase ≤ e.1 ∧ e.1 < emramBase + 32 * mib)) := by
  simp only [State.wiped]

/-- Of the memory a reset of PD0 leaves the eMRAM alone. -/
theorem State.resetDevice_mem (s : State) (cause : Nat) :
    (s.resetDevice cause).mem =
      s.resetPins.mem.filter (fun e => decide (emramBase ≤ e.1 ∧ e.1 < emramBase + 32 * mib)) := by
  unfold State.resetDevice
  rw [← s.resetPins.wiped_mem (cause == 0)]
  have hkept : (s.resetPins.wiped (cause == 0)).restartSessions.rereadFuses.countPending.mem =
      (s.resetPins.wiped (cause == 0)).mem := by
    rw [State.countPending_mem, State.rereadFuses_mem, State.restartSessions_mem]
  rw [← hkept]
  dsimp only
  generalize (s.resetPins.wiped (cause == 0)).restartSessions.rereadFuses.countPending = r
  rw [State.put_mem, State.put_mem]
  split
  · rfl
  · exact State.bump_mem r _ _

/-- A key that no entry of a map passes the filter with reads as its default. -/
theorem mget_filter_none {α : Type} (d : α) {k : Nat} {q : Nat × α → Bool} (hq : ∀ v, q (k, v) = false)
    (m : List (Nat × α)) : mget d k (m.filter q) = d := by
  induction m with
  | nil => rfl
  | cons e r ih =>
    obtain ⟨j, v⟩ := e
    rw [List.filter_cons]
    split
    · next hqe =>
      have hj : j ≠ k := by
        rintro rfl
        rw [hq v] at hqe
        cases hqe
      simp [mget, hj, ih]
    · exact ih

/-- After a reset every byte outside eMRAM reads 0 (DESIGN CHOICE, log entry 10). -/
theorem State.resetDevice_rdByte (s : State) (cause : Nat) {a : Nat} (ha : a < emramBase ∨ emramBase + 32 * mib ≤ a) :
    (s.resetDevice cause).rdByte a = 0 := by
  unfold State.rdByte
  rw [State.resetDevice_mem]
  refine mget_filter_none _ (fun v => ?_) _
  simp only [decide_eq_false_iff_not]
  omega

theorem State.resetDevice_cause (s : State) (cause : Nat) : (s.resetDevice cause).get 0x9021 1 = cause % 2 ^ 64 := by
  unfold State.resetDevice
  dsimp only
  rw [State.get_put_ne _ (by decide), State.get_put_same]

/-- LAST_CAUSE has the Default 0 in every configuration. -/
theorem objDefault_lastCause (c : Cfg) : objDefault c (okey 0 0x9021 1) = 0 := by
  obtain ⟨compact, _, _, _, _⟩ := c
  cases compact <;> rfl

/-- A register reads alike in two states with the same active values and the same Default of it. -/
theorem State.get_of_objs_eq {s s' : State} (ho : s'.objs = s.objs) {i u : Nat}
    (hd : objDefault s'.cfg (okey 0 i u) = objDefault s.cfg (okey 0 i u)) : s'.get i u = s.get i u := by
  simp only [State.get, State.getK, ho, hd]

/-! ## Power-on, RESET_N and written resets (R447, R448) -/

/-- The reset of a power-on, before RESET_N holds the device. -/
def State.powerReset (s : State) (t : Nat) : State :=
  ({ s.advance t with sys := { (s.advance t).sys with tripFlags := [] } } : State).resetDevice 0

/-- `r` at device time 0, held by RESET_N (R448), with the configuration and the queue of `s`. -/
def State.heldAtZero (s r : State) : State := s.kept { r with now := 0, sys := { r.sys with held := [(0, 0)] } }

theorem exec_powerOnReset (t : Nat) (s : State) :
    exec (.powerOnReset t) s = .next (s.heldAtZero (s.powerReset t)) := by
  show execPowerOnReset t s = _
  unfold execPowerOnReset State.powerReset State.heldAtZero
  dsimp only

theorem State.heldAtZero_held (s r : State) :
    (s.heldAtZero r).now = 0 ∧ (s.heldAtZero r).sys.held = [(0, 0)] ∧ (s.heldAtZero r).inReset = true := ⟨rfl, rfl, rfl⟩

theorem State.heldAtZero_get (s r : State) {i u : Nat} (hd : ∀ c, objDefault c (okey 0 i u) = 0) :
    (s.heldAtZero r).get i u = r.get i u :=
  State.get_of_objs_eq (s := r) (s' := s.heldAtZero r) rfl ((hd _).trans (hd _).symm)

theorem State.heldAtZero_rdByte (s r : State) (a : Nat) : (s.heldAtZero r).rdByte a = r.rdByte a := rfl

/-- The device held for a reason is in reset, and the reason is noted. -/
theorem State.holdReset_held (s : State) (reason : Nat) :
    (s.holdReset reason).inReset = true ∧ (s.holdReset reason).sys.held.any (fun x => x.1 == reason) = true := by
  unfold State.holdReset State.inReset
  simp

/-- With its last reason gone the device starts up. -/
theorem State.releaseReset_last {s : State} {reason d : Nat} (h : s.sys.held = [(reason, d)]) :
    s.releaseReset reason = ({ s with sys := { s.sys with held := [] } } : State).startUp := by
  unfold State.releaseReset State.inReset
  simp [h]

/-- The straps as RESET_N samples them. -/
def State.withStraps (s : State) (node senior mode : Nat) : State :=
  { s with sys := { s.sys with straps := (node, senior, mode) } }

/-- RESET_N low holds the device, in reset or not. -/
theorem exec_resetN_low (t node senior mode : Nat) (s : State) :
    exec (.resetN t true node senior mode) s = .next (s.ran t fun s => (s.withStraps node senior mode).holdReset 0) := rfl

/-- The rise of RESET_N takes its reason away. -/
theorem exec_resetN_high (t node senior mode : Nat) (s : State) :
    exec (.resetN t false node senior mode) s = .next (s.ran t fun s => (s.withStraps node senior mode).releaseReset 0) := rfl

/-- A write that is taken stores its value and has its effect, in the form of a named register write. -/
theorem State.takes_writeAt {s : State} {ini : Ini} {idx sub : Nat} {v w : Word} (own : State → Nat → Option Nat)
    (eff : State → Nat → State) (h : s.takes ⟨ini, 0, idx, sub, v⟩ w) (t : Nat) (ho : own (s.advance t) w.toNat = none) :
    ∃ o, s.accepts ⟨ini, 0, idx, sub, v⟩ = some (o, w) ∧
      (s.advance t).writeAt ini idx sub v own eff = eff ((s.advance t).took ⟨ini, 0, idx, sub, v⟩ o w) w.toNat := by
  obtain ⟨o, ha⟩ := (s.takes_iff _ _).mp h
  exact ⟨o, ha, State.writeAt_took _ ini idx sub v o w own eff (by rw [State.accepts_advance]; exact ha) ho⟩

/-- The object of a write that is taken is the one that the write names. -/
theorem State.findObj_of_accepts {s : State} {q : Wr} {o : Obj} {w : Word} (h : s.accepts q = some (o, w)) :
    findObj s.cfg (canonIdx q.idx) q.sub = some o := by
  unfold State.accepts at h
  split at h
  · next o' _ hfind =>
    dsimp only at h
    split at h
    · simp only [Option.some.injEq, Prod.mk.injEq] at h
      rw [hfind, h.1]
    · cases h
  · cases h

/-- A write-only object holds nothing. -/
theorem State.took_wo (s : State) (q : Wr) {o : Obj} (w : Word) (h : o.row.acc = .wo) : s.took q o w = s := by
  unfold State.took State.storeValue
  simp [h]

/-- DOMAIN_RESET is write-only in every configuration. -/
theorem findObj_domainReset (c : Cfg) : (findObj c 0x9020 1).map (fun o => o.row.acc) = some .wo := by
  obtain ⟨compact, _, _, _, _⟩ := c
  cases compact <;> rfl

/-- A write of DOMAIN_RESET that is taken leaves the state as it is, but for its effect. -/
theorem State.took_domainReset {s : State} {ini : Ini} {v w : Word} {o : Obj}
    (h : s.accepts ⟨ini, 0, 0x9020, 1, v⟩ = some (o, w)) (t : Nat) :
    (s.advance t).took ⟨ini, 0, 0x9020, 1, v⟩ o w = s.advance t := by
  have hfind : findObj s.cfg 0x9020 1 = some o := by
    simpa [canonIdx_own (i := 0x9020) (.inr (by decide))] using State.findObj_of_accepts h
  have hacc := findObj_domainReset s.cfg
  rw [hfind] at hacc
  exact State.took_wo _ _ _ (Option.some.inj hacc)

/-- Nothing refuses the reset of a switchable domain that the plan does not use (R447). -/
theorem State.domainResetRefusal_none {s : State} {d : Nat} (hs : s.get (0x9000 + d) 3 = 1) (hp : s.planUse d = false) :
    s.domainResetRefusal d = none := by
  simp [State.domainResetRefusal, hs, hp]

/-- Settles O44: by what a reset of PD0 leaves, and by what holds and releases the device. -/
theorem resetsHoldAndStart : Obligations.ResetsHoldAndStart := by
  unfold Obligations.ResetsHoldAndStart
  refine ⟨?_, ?_, ?_, ?_, ?_, ?_, ?_⟩
  · intro t s
    obtain ⟨hnow, hheld, hreset⟩ := s.heldAtZero_held (s.powerReset t)
    refine ⟨_, exec_powerOnReset t s, hnow, hheld, hreset, ?_⟩
    rw [State.heldAtZero_get _ _ objDefault_lastCause, State.powerReset, State.resetDevice_cause, Nat.zero_mod]
  · intro t s a ha
    refine ⟨_, exec_powerOnReset t s, ?_⟩
    rw [State.heldAtZero_rdByte, State.powerReset, State.resetDevice_rdByte _ _ ha]
  · intro t node senior mode s
    obtain ⟨hreset, hheld⟩ := State.holdReset_held ((s.advance t).withStraps node senior mode) 0
    exact ⟨_, exec_resetN_low t node senior mode s, hreset, hheld⟩
  · intro t node senior mode d s hheld
    rw [exec_resetN_high]
    refine congrArg _ (State.ran_congr ?_)
    have hstraps : ((s.advance t).withStraps node senior mode).sys.held = [(0, d)] := hheld
    rw [State.releaseReset_last hstraps]
    rfl
  · intro t ini v w s hr ht
    obtain ⟨o, ha, hw⟩ := State.takes_writeAt noOwn (fun s _ => s.resetAndStart 2) ht t rfl
    exact ⟨o, ha, (at_run t s _ hr).trans (congrArg _ (State.ran_congr hw))⟩
  · intro t ini v w s hr ht hswitch huse hon
    obtain ⟨o, ha, hw⟩ := State.takes_writeAt State.domainResetRefusal State.domainResetEffect ht t
      (State.domainResetRefusal_none (s := s.advance t) hswitch huse)
    refine ⟨o, ha, (at_run t s _ hr).trans (congrArg _ (State.ran_congr (hw.trans ?_)))⟩
    have hpd : ((s.advance t).took ⟨ini, 0, 0x9020, 1, v⟩ o w).pdOn w.toNat = true := by
      rw [State.took_domainReset ha]
      exact hon
    simp only [State.domainResetEffect, hpd, if_true]
  · intro t node port s hr
    exact ⟨at_reset t s _ hr, at_reset t s _ hr⟩

end Sys2Proof.Machine

/-!
SUPPORT. Proofs of the statements about plans (chapter 04): the actions of PlanControl, staging, validation, preparation and
the early plan, with the rules about what leaves the plan handling alone.
-/
namespace Sys2Proof.Machine

/-! ## What leaves the plan handling alone -/

/-- The keys of the objects of plan handling, 0x4000 to 0x400F. -/
def planKey (k : Nat) : Prop := 0x400000 ≤ k ∧ k < 0x401000

theorem planKey_okey {i u : Nat} (hi : 0x4000 ≤ i ∧ i < 0x4010) (hu : u < 256) : planKey (okey 0 i u) := by
  unfold planKey okey
  omega

theorem not_planKey_okey {b i u : Nat} (hi : i < 0x4000 ∨ 0x4010 ≤ i) (hu : u < 256) : ¬ planKey (okey b i u) := by
  unfold planKey okey
  omega

theorem planKey.keyIdx_range {k : Nat} (h : planKey k) : 0x4000 ≤ keyIdx k ∧ keyIdx k < 0x4010 := by
  unfold planKey at h
  unfold keyIdx
  omega

theorem planKey.not_evKey {k : Nat} (h : planKey k) : ¬ evKey k := by
  have hrange := h.keyIdx_range
  unfold evKey
  omega

theorem planKey.not_recKey {k : Nat} (h : planKey k) : ¬ recKey k := by
  have hrange := h.keyIdx_range
  unfold recKey logKey evKey
  omega

/-- Between the two states the configuration, device time, the plan handling and its objects stay. -/
structure KeepsPlan (s s' : State) : Prop where
  cfg : s'.cfg = s.cfg
  now : s'.now = s.now
  plan : s'.plan = s.plan
  regs : ∀ k, planKey k → s'.getK k = s.getK k
  blks : ∀ k, planKey k → s'.getBlk k = s.getBlk k

namespace KeepsPlan

theorem refl (s : State) : KeepsPlan s s := ⟨rfl, rfl, rfl, fun _ _ => rfl, fun _ _ => rfl⟩

theorem trans {a b c : State} (h : KeepsPlan a b) (h' : KeepsPlan b c) : KeepsPlan a c :=
  ⟨h'.cfg.trans h.cfg, h'.now.trans h.now, h'.plan.trans h.plan, fun k hk => (h'.regs k hk).trans (h.regs k hk),
   fun k hk => (h'.blks k hk).trans (h.blks k hk)⟩

/-- `trans` with the later half first. -/
theorem after {a b c : State} (h' : KeepsPlan b c) (h : KeepsPlan a b) : KeepsPlan a c := h.trans h'

theorem fold {α : Type} {f : State → α → State} (l : List α) (h : ∀ s x, x ∈ l → KeepsPlan s (f s x)) (s : State) :
    KeepsPlan s (foldS f s l) := by
  induction l generalizing s with
  | nil => exact refl s
  | cons x r ih => exact (h s x (by simp)).trans (ih (fun s y hy => h s y (by simp [hy])) (f s x))

/-- An update of other fields than those of which it speaks. -/
theorem ofEq {s s' : State} (hcfg : s'.cfg = s.cfg) (hnow : s'.now = s.now) (hplan : s'.plan = s.plan) (hobjs : s'.objs = s.objs)
    (hblocks : s'.blocks = s.blocks) : KeepsPlan s s' :=
  ⟨hcfg, hnow, hplan, fun k _ => State.getK_congr hcfg hobjs k, fun k _ => by simp only [State.getBlk, hcfg, hblocks]⟩

/-- An update of registers, flags and events that changes no object of plan handling. -/
theorem ofKeeps {P : Nat → Prop} {s s' : State} (h : Keeps P s s') (ha : Aside s s') (hP : ∀ k, planKey k → ¬ P k) : KeepsPlan s s' :=
  ⟨h.cfg, ha.now, ha.plan, fun k hk => h.regs k (hP k hk), fun k hk => h.blks k (hP k hk)⟩

section
variable {s s' : State} (h : KeepsPlan s s')
include h

theorem get {i u : Nat} (hi : 0x4000 ≤ i ∧ i < 0x4010) (hu : u < 256) : s'.get i u = s.get i u := by
  simp only [State.get, h.regs _ (planKey_okey hi hu)]

theorem planState : s'.planState = s.planState := h.get (by decide) (by decide)

theorem stagedImage : s'.stagedImage = s.stagedImage := by
  have hk : planKey (okey 0 0x4001 0) := planKey_okey (by decide) (by decide)
  simp only [State.stagedImage, h.blks _ hk]

theorem flag {i n : Nat} (hi : 0x4000 ≤ i ∧ i < 0x4010) : s'.flag (okey 0 i 0) n = s.flag (okey 0 i 0) n :=
  State.flag_congr n (h.regs _ (planKey_okey hi (by decide)))

end

/-! Registers, flags and events -/

section
variable (s : State) {i u : Nat} (hi : i < 0x4000 ∨ 0x4010 ≤ i) (hu : u < 256)
include hi hu

theorem put (v : Nat) : KeepsPlan s (s.put i u v) :=
  ofKeeps (Keeps.put s i u v) (Aside.put s i u v) (fun _ hk h => not_planKey_okey hi hu (h ▸ hk))

theorem bumpW (w n : Nat) : KeepsPlan s (s.bumpW w 0 i u n) :=
  ofKeeps (Keeps.bumpW s w 0 i u n) (Aside.bumpW s w 0 i u n) (fun _ hk h => not_planKey_okey hi hu (h ▸ hk))

theorem bump : KeepsPlan s (s.bump i u) := KeepsPlan.bumpW s hi hu 32 1

theorem setFlag (n : Nat) : KeepsPlan s (s.setFlag (okey 0 i u) n) :=
  ofKeeps (Keeps.setFlag s _ n) (Aside.setFlag s _ n) (fun _ hk h => not_planKey_okey hi hu (h ▸ hk))

end

theorem raise (s : State) {i : Nat} (hi : i < 0x4000 ∨ 0x4010 ≤ i) (unit flag sev part : Nat) (d : List Byte) :
    KeepsPlan s (s.raise i unit flag sev part d) :=
  ofKeeps (Keeps.raise s i unit flag sev part d) (Aside.raise s i unit flag sev part d) (fun _ hk h =>
    h.elim (fun h => not_planKey_okey hi (by decide) (h ▸ hk)) hk.not_evKey)

theorem occur (s : State) (o : Occ) : KeepsPlan s (s.occur o) :=
  ofKeeps (Keeps.occur s o) (Aside.occur s o) (fun _ hk => hk.not_evKey)

theorem emit (s : State) (o : Out) : KeepsPlan s (s.emit o) := ofEq rfl rfl rfl rfl rfl

theorem useFree (s : State) : KeepsPlan s s.useFree := ofEq rfl rfl rfl rfl rfl

theorem traceSource (s : State) (n : Nat) (d : List Byte) : KeepsPlan s (s.traceSource n d) :=
  ofKeeps (Keeps.traceSource s n d) (Aside.traceSource s n d) (fun _ hk => hk.not_evKey)

/-! Answers on their transports (R340 to R345, R467) -/

theorem putLink (s : State) (r : PortLinkRun) : KeepsPlan s (s.putLink r) := ofEq rfl rfl rfl rfl rfl

theorem putE2eTx (s : State) (r : E2eTx) : KeepsPlan s (s.putE2eTx r) := ofEq rfl rfl rfl rfl rfl

theorem sendFlit (s : State) (k : Nat) (f : Flit) : KeepsPlan s (s.sendFlit k f) := by
  unfold State.sendFlit State.sendBytes
  exact (putLink s _).trans ((emit _ _).trans (traceSource _ _ _))

theorem drainTx (k n : Nat) (s : State) : KeepsPlan s (s.drainTx k n) := by
  induction n generalizing s with
  | zero => exact refl s
  | succ n ih =>
    unfold State.drainTx
    dsimp only
    split
    · exact refl s
    · split
      · exact refl s
      · exact ((putLink s _).trans (sendFlit _ _ _)).trans (ih _)

theorem portSend (s : State) (k : Nat) (fs : List Flit) : KeepsPlan s (s.portSend k fs) := (putLink s _).trans (drainTx _ _ _)

theorem noRoute (s : State) (cls : Nat) : KeepsPlan s (s.noRoute cls) := by
  unfold State.noRoute
  split
  · exact (bump s (by decide) (by decide)).trans (setFlag _ (by decide) (by decide) 8)
  · exact setFlag s (by decide) (by decide) 6

theorem sendFlits (s : State) (dest cls flow : Nat) (m : List Byte) : KeepsPlan s (s.sendFlits dest cls flow m) := by
  unfold State.sendFlits
  split
  · exact noRoute s cls
  · dsimp only
    split
    · exact (portSend _ _ _).after (ofEq rfl rfl rfl rfl rfl)
    · exact portSend _ _ _

theorem freeFlow (s : State) (dest cls flow : Nat) : KeepsPlan s (s.freeFlow dest cls flow) := by
  unfold State.freeFlow
  split
  · exact refl s
  · exact ofEq rfl rfl rfl rfl rfl

theorem drainE2e (dest cls n : Nat) (s : State) : KeepsPlan s (s.drainE2e dest cls n) := by
  induction n generalizing s with
  | zero => exact refl s
  | succ n ih =>
    unfold State.drainE2e
    dsimp only
    split
    · exact refl s
    · split
      · exact refl s
      · exact (((freeFlow s _ _ _).trans (putE2eTx _ _)).trans (sendFlits _ _ _ _ _)).trans (ih _)

theorem sendMsg (s : State) (dest cls kind attr target flow : Nat) (d : List Byte) :
    KeepsPlan s (s.sendMsg dest cls kind attr target flow d) := by
  unfold State.sendMsg
  dsimp only
  split
  · exact noRoute s cls
  · split
    · exact (putE2eTx s _).trans (drainE2e _ _ _ _)
    · refine ((freeFlow _ _ _ _).trans (sendFlits _ _ _ _ _)).after ?_
      split
      · exact refl s
      · exact putE2eTx s _

theorem canSend (s : State) (c cls : Nat) (hb : Bool) (o : Out) : KeepsPlan s (s.canSend c cls hb o) := by
  unfold State.canSend
  split
  · exact refl s
  · split
    · exact emit s o
    · dsimp only
      split
      · exact ofEq rfl rfl rfl rfl rfl
      · have hlost : KeepsPlan s (if (s.low.can.find? (fun f => f.can == c && f.cls == cls)).elim false (fun f => f.hb) then
            s.bump (canIdx c + 1) 5 else s) := by
          split
          · exact bump s (i := canIdx c + 1) (by unfold canIdx; omega) (by decide)
          · exact refl s
        exact hlost.trans (ofEq rfl rfl rfl rfl rfl)

theorem sendEth (s : State) (m : Nat) (o : EthSend → Out) : KeepsPlan s (s.sendEth m o) := by
  unfold State.sendEth
  split
  · exact (bump s (i := ethIdx m + 1) (by unfold ethIdx; omega) (by decide)).trans (emit _ _)
  · exact refl s

theorem sendFrame (s : State) (h : TilHead) (cls : Nat) (hb : Bool) (d mac : List Byte) :
    KeepsPlan s (s.sendFrame h cls hb d mac) := by
  unfold State.sendFrame
  dsimp only
  split
  · exact refl s
  · split
    · exact canSend s _ _ _ _
    · exact canSend s _ _ _ _
    · exact sendEth s _ _
    · exact (emit s _).trans (emit _ _)
    · exact sendMsg s _ _ _ _ _ _ _

theorem respond (s : State) (h : TilHead) (status : Nat) (d : List Byte) : KeepsPlan s (s.respond h status d) := by
  have hmail : ∀ m, KeepsPlan s (if h.via = 3 then { s with til := { s.til with mailbox := m } } else s) := by
    intro m
    split
    · exact ofEq rfl rfl rfl rfl rfl
    · exact refl s
  unfold State.respond
  dsimp only
  split
  · exact (hmail _).trans (sendFrame _ _ _ _ _ _)
  · exact (hmail _).trans ((useFree _).trans (sendFrame _ _ _ _ _ _))

theorem tilAnswer (s : State) (r : TilReq) (status : Nat) (d : List Byte) : KeepsPlan s (s.tilAnswer r status d) := by
  unfold State.tilAnswer
  exact (respond _ _ _ _).after (ofEq rfl rfl rfl rfl rfl)

theorem answerAll (s : State) (key status : Nat) : KeepsPlan s (s.answerAll key status) :=
  fold _ (fun s r _ => tilAnswer s r status _) s

theorem answerPlan (s : State) (code : Nat) : KeepsPlan s (s.answerPlan code) := answerAll s _ code

/-! Banks, spaces and homes (R107, R138, R331) -/

theorem settleBanks (s : State) : KeepsPlan s s.settleBanks := by
  refine fold _ (fun s b hb => ?_) s
  have hbank : b < 32 := by
    have hlt := List.mem_range.mp hb
    unfold Cfg.banks at hlt
    split at hlt <;> omega
  have hput : ∀ (s : State) (u v : Nat), u < 256 → KeepsPlan s (s.put (0x30A0 + b) u v) :=
    fun s u v hu => put s (by omega) hu v
  refine (hput s 2 (s.bankKib b) (by decide)).trans ?_
  dsimp only
  split
  · exact refl _
  · split
    · exact hput _ 1 _ (by decide)
    · split
      · unfold State.touchBank
        dsimp only
        split
        · exact ofEq rfl rfl rfl rfl rfl
        · exact (hput _ 1 1 (by decide)).trans (ofEq rfl rfl rfl rfl rfl)
      · exact refl _

theorem wrBytes (d : List Byte) (s : State) (a : Nat) : KeepsPlan s (s.wrBytes a d) := by
  induction d generalizing s a with
  | nil => exact refl s
  | cons x r ih => exact (ofEq rfl rfl rfl rfl rfl : KeepsPlan s (s.wrByte a x)).trans (ih _ _)

theorem wrMem (s : State) (a : Nat) (d : List Byte) : KeepsPlan s (s.wrMem a d) :=
  (wrBytes d s a).trans (ofEq rfl rfl rfl rfl rfl)

theorem loadImage (s : State) (p : Plan) (f : Surf) (n : Nat) : KeepsPlan s (s.loadImage p f n) := by
  unfold State.loadImage
  split
  · exact refl s
  · exact fold _ (fun s _ _ => (wrMem s _ _).trans (wrMem _ _ _)) s

theorem placeSpace {s : State} {early : Bool} {w h format cls size hdr : Nat} {image : Option Nat} {x : State × Nat}
    (hx : s.placeSpace early w h format cls size hdr image = some x) : KeepsPlan s x.1 := by
  obtain ⟨a, -, rfl⟩ := Option.map_eq_some_iff.mp hx
  exact ofEq rfl rfl rfl rfl rfl

/-- A fold that stops at the first step that fails keeps what each of its steps keeps. -/
theorem foldBind {α β : Type} {g : State × β → α → Option (State × β)} (hg : ∀ a x b, g a x = some b → KeepsPlan a.1 b.1)
    {l : List α} {a b : State × β} (h : l.foldl (fun (o : Option (State × β)) x => o.bind (fun a => g a x)) (some a) = some b) :
    KeepsPlan a.1 b.1 := by
  induction l generalizing a with
  | nil =>
    obtain rfl := Option.some.inj h
    exact refl _
  | cons x r ih =>
    cases hc : g a x with
    | none =>
      have hnone : ∀ r : List α, r.foldl (fun (o : Option (State × β)) x => o.bind (fun a => g a x)) none = none := by
        intro r
        induction r with
        | nil => rfl
        | cons y r ih => exact ih
      rw [List.foldl_cons, Option.bind_some, hc, hnone] at h
      cases h
    | some c =>
      rw [List.foldl_cons, Option.bind_some, hc] at h
      exact (hg a x c hc).trans (ih h)

theorem placePlan {s : State} {p : Plan} {early : Bool} {x : State × List (Nat × Nat) × List Nat}
    (hx : s.placePlan p early = some x) : KeepsPlan s x.1 := by
  unfold State.placePlan at hx
  obtain ⟨st, hst, hx⟩ := Option.bind_eq_some_iff.mp hx
  obtain ⟨im, him, rfl⟩ := Option.map_eq_some_iff.mp hx
  refine (foldBind (fun a h b hb => ?_) hst).trans (foldBind (fun a i b hb => ?_) him)
  · obtain ⟨y, hy, rfl⟩ := Option.map_eq_some_iff.mp hb
    exact placeSpace hy
  · split at hb
    · cases hb
    · obtain ⟨y, hy, rfl⟩ := Option.map_eq_some_iff.mp hb
      refine (placeSpace hy).trans ?_
      dsimp only
      split
      · exact loadImage _ _ _ _
      · exact refl _

/-- A preparation that fits places spaces and settles the banks. -/
theorem prepare {s u : State} {p : Plan} {early : Bool} {x : Prepared} (h : s.prepare p early = some (u, x)) : KeepsPlan s u := by
  obtain ⟨b, -, h⟩ := Option.bind_eq_some_iff.mp h
  obtain ⟨y, hy, h⟩ := Option.map_eq_some_iff.mp h
  obtain ⟨rfl, rfl⟩ := Prod.mk.inj h
  exact (placePlan hy).trans (settleBanks _)

theorem preparedShed (s : State) (p : Plan) (shed : List Nat) : KeepsPlan s (s.preparedShed p shed) :=
  fold _ (fun s _ _ => raise s (by decide) _ _ _ _ _) s

theorem checkHome (s : State) (p : Plan) (f : Surf) : KeepsPlan s (s.checkHome p f) := by
  unfold State.checkHome
  split
  · exact refl s
  · split
    · exact refl s
    · exact ofEq rfl rfl rfl rfl rfl

theorem checkHomes (s : State) (p : Plan) : KeepsPlan s (s.checkHomes p) := fold _ (fun s f _ => checkHome s p f) s

/-! Words of eMRAM, Markhor's mailbox and refused writes (R44, R294, R333) -/

theorem emramWrote (s : State) (n top : Nat) : KeepsPlan s (s.emramWrote n top) := by
  unfold State.emramWrote
  extract_lets s1
  have hcount : KeepsPlan s s1 := (bumpW s (by decide) (by decide) 64 n).trans (put _ (by decide) (by decide) _)
  split
  · exact hcount.trans (raise _ (by decide) _ _ _ _ _)
  · exact hcount

theorem post (s : State) (service ref : Nat) : KeepsPlan s (s.post service ref) := ofEq rfl rfl rfl rfl rfl

theorem unpost (s : State) (service ref : Nat) : KeepsPlan s (s.unpost service ref) := ofEq rfl rfl rfl rfl rfl

end KeepsPlan

theorem Aside.refuse (s : State) (ini : Ini) (idx sub code : Nat) : Aside s (s.refuse ini idx sub code) := by
  unfold State.refuse
  split
  · exact Aside.bumpW s _ _ _ _ _
  · refine Aside.trans ?_ (Aside.raiseB _ _ _ _ _ _ _ _ _)
    refine Aside.trans ?_ (Aside.putB _ _ _ _ _)
    refine Aside.trans ?_ (Aside.putB _ _ _ _ _)
    refine Aside.trans ?_ (Aside.putB _ _ _ _ _)
    exact Aside.bump s 0x11B0 (ini.part + 1)

/-- A refused write by a partition that exists leaves the plan handling alone. -/
theorem KeepsPlan.refuse (s : State) {ini : Ini} (idx sub code : Nat) (hp : ini.part < 255) :
    KeepsPlan s (s.refuse ini idx sub code) :=
  KeepsPlan.ofKeeps (Keeps.refuse s ini idx sub code hp) (Aside.refuse s ini idx sub code) (fun _ hk => hk.not_recKey)

/-! ## The registers of PlanControl -/

/-- The state with another plan handling. -/
def State.withPlan (s : State) (x : PlanState) : State := { s with plan := x }

section
variable (s : State) (n : Nat) (x : PlanState) (k : Nat)

@[simp] theorem State.withPlan_plan : (s.withPlan x).plan = x := rfl
@[simp] theorem State.withPlan_cfg : (s.withPlan x).cfg = s.cfg := rfl
@[simp] theorem State.withPlan_now : (s.withPlan x).now = s.now := rfl
@[simp] theorem State.getK_withPlan : (s.withPlan x).getK k = s.getK k := rfl
@[simp] theorem State.get_withPlan (i u : Nat) : (s.withPlan x).get i u = s.get i u := rfl
@[simp] theorem State.getBlk_withPlan : (s.withPlan x).getBlk k = s.getBlk k := rfl
@[simp] theorem State.planState_withPlan : (s.withPlan x).planState = s.planState := rfl
@[simp] theorem State.stagedImage_put (i u v : Nat) : (s.put i u v).stagedImage = s.stagedImage := rfl
@[simp] theorem State.stagedImage_putLive (b : Block) : (s.putLive k b).stagedImage = s.stagedImage := rfl
@[simp] theorem State.stagedImage_withPlan : (s.withPlan x).stagedImage = s.stagedImage := rfl

@[simp] theorem State.setPlanState_cfg : (s.setPlanState n).cfg = s.cfg := rfl
@[simp] theorem State.setPlanState_plan : (s.setPlanState n).plan = s.plan := rfl
@[simp] theorem State.stagedImage_setPlanState : (s.setPlanState n).stagedImage = s.stagedImage := rfl

@[simp] theorem State.planState_setPlanState : (s.setPlanState n).planState = n % 2 ^ 64 := State.get_put_same _ _ _ _

theorem State.get_setPlanState_ne {i u : Nat} (h : okey 0 i u ≠ okey 0 0x4000 4) : (s.setPlanState n).get i u = s.get i u :=
  State.get_put_ne _ h _

@[simp] theorem State.setPlanResult_cfg : (s.setPlanResult n).cfg = s.cfg := rfl
@[simp] theorem State.setPlanResult_plan : (s.setPlanResult n).plan = s.plan := rfl
@[simp] theorem State.stagedImage_setPlanResult : (s.setPlanResult n).stagedImage = s.stagedImage := rfl

@[simp] theorem State.result_setPlanResult : (s.setPlanResult n).get 0x4000 5 = n % 2 ^ 64 := State.get_put_same _ _ _ _

theorem State.get_setPlanResult_ne {i u : Nat} (h : okey 0 i u ≠ okey 0 0x4000 5) : (s.setPlanResult n).get i u = s.get i u :=
  State.get_put_ne _ h _

@[simp] theorem State.planState_setPlanResult : (s.setPlanResult n).planState = s.planState :=
  State.get_setPlanResult_ne _ _ (by decide)

theorem State.planState_put_ne {i u : Nat} (h : okey 0 0x4000 4 ≠ okey 0 i u) : (s.put i u n).planState = s.planState :=
  State.get_put_ne s h n

@[simp] theorem State.targetSlot_setPlanResult : (s.setPlanResult n).targetSlot = s.targetSlot :=
  State.get_setPlanResult_ne _ _ (by decide)

@[simp] theorem State.result_setPlanState : (s.setPlanState n).get 0x4000 5 = s.get 0x4000 5 :=
  State.get_setPlanState_ne _ _ (by decide)

@[simp] theorem State.planFlag_cfg : (s.planFlag n).cfg = s.cfg := State.setFlag_cfg _ _ _
@[simp] theorem State.planFlag_plan : (s.planFlag n).plan = s.plan := (Aside.setFlag s _ n).plan

theorem State.getK_planFlag_ne (h : k ≠ okey 0 0x4008 0) : (s.planFlag n).getK k = s.getK k := State.getK_setFlag_ne s h n

theorem State.get_planFlag_ne {i u : Nat} (h : okey 0 i u ≠ okey 0 0x4008 0) : (s.planFlag n).get i u = s.get i u :=
  State.get_setFlag_ne s h n

@[simp] theorem State.planState_planFlag : (s.planFlag n).planState = s.planState := State.get_planFlag_ne _ _ (by decide)

@[simp] theorem State.result_planFlag : (s.planFlag n).get 0x4000 5 = s.get 0x4000 5 := State.get_planFlag_ne _ _ (by decide)

theorem State.flag_planFlag (h : n < 40) : (s.planFlag n).flag (okey 0 0x4008 0) n = true := State.flag_setFlag _ _ _ h

end

/-! ## What a command leaves of plan handling -/

/-- The second state has the plan handling of the first, and reads like it in every register and block. -/
structure ReadsAs (e s' : State) : Prop where
  plan : s'.plan = e.plan
  regs : ∀ k, s'.getK k = e.getK k
  blks : ∀ k, s'.getBlk k = e.getBlk k

section
variable {e s' : State} (h : ReadsAs e s')
include h

theorem ReadsAs.get (i u : Nat) : s'.get i u = e.get i u := by simp only [State.get, h.regs]

theorem ReadsAs.planState : s'.planState = e.planState := h.get _ _

theorem ReadsAs.flag (k n : Nat) : s'.flag k n = e.flag k n := State.flag_congr n (h.regs k)

theorem ReadsAs.stagedImage : s'.stagedImage = e.stagedImage := by simp only [State.stagedImage, h.blks]

theorem ReadsAs.slotImage (k : Nat) : s'.slotImage k = e.slotImage k := by simp only [State.slotImage, h.plan]

end

section
variable {s e : State} {t : Nat} {f : State → State} (he : f (s.advance t) = e) (hcfg : e.cfg = s.cfg)
include he hcfg

/-- A command leaves what its effect leaves. -/
theorem ReadsAs.ran : ReadsAs e (s.ran t f) := by
  subst he
  refine ⟨rfl, State.ran_getK hcfg, fun k => ?_⟩
  simp only [State.getBlk, State.ran_blocks, State.ran_cfg, hcfg]

theorem at_readsAs (hr : s.inReset = false) : ∃ s', at_ t s f = .next s' ∧ ReadsAs e s' :=
  ⟨_, at_run t s f hr, ReadsAs.ran he hcfg⟩

theorem planned_readsAs (hr : s.inReset = false) (hp : s.planRuns = true) : ∃ s', planned t s f = .next s' ∧ ReadsAs e s' :=
  ⟨_, planned_run f hr hp, ReadsAs.ran he hcfg⟩

end

/-! ## A staged image and its validation (R112) -/

section
variable (s : State) (d : List Byte) (k : Nat)

@[simp] theorem State.get_post (service ref i u : Nat) : (s.post service ref).get i u = s.get i u := rfl

theorem State.beginValidation_eq : s.beginValidation =
    (((s.put 0x4000 9 (u64 s.stagedImage 0x10)).post 1 0).withPlan { s.plan with valid := none }).setPlanState 2 := rfl

@[simp] theorem State.beginValidation_cfg : s.beginValidation.cfg = s.cfg := by
  rw [State.beginValidation_eq, State.setPlanState_cfg, State.withPlan_cfg]
  rfl

@[simp] theorem State.beginValidation_plan : s.beginValidation.plan = { s.plan with valid := none } := by
  rw [State.beginValidation_eq, State.setPlanState_plan, State.withPlan_plan]

@[simp] theorem State.stagedImage_beginValidation : s.beginValidation.stagedImage = s.stagedImage := by
  rw [State.beginValidation_eq, State.stagedImage_setPlanState, State.stagedImage_withPlan]
  rfl

@[simp] theorem State.planState_beginValidation : s.beginValidation.planState = 2 := by
  rw [State.beginValidation_eq, State.planState_setPlanState, Nat.mod_eq_of_lt (by decide)]

@[simp] theorem State.result_beginValidation : s.beginValidation.get 0x4000 5 = s.get 0x4000 5 := by
  rw [State.beginValidation_eq, State.result_setPlanState, State.get_withPlan, State.get_post, State.get_put_ne s (by decide)]

theorem State.stageImage_eq : s.stageImage d =
    ((s.putBlk (okey 0 0x4001 0) d).putLive (okey 0 0x4001 0) ((s.putBlk (okey 0 0x4001 0) d).getBlk (okey 0 0x4001 0))).beginValidation :=
  rfl

@[simp] theorem State.stageImage_cfg : (s.stageImage d).cfg = s.cfg := by
  rw [State.stageImage_eq, State.beginValidation_cfg, State.putLive_cfg, State.putBlk_cfg]

@[simp] theorem State.stageImage_plan : (s.stageImage d).plan = { s.plan with valid := none } := by
  rw [State.stageImage_eq, State.beginValidation_plan, State.putLive_plan, State.putBlk_plan]

@[simp] theorem State.stagedImage_stageImage : (s.stageImage d).stagedImage = d := by
  rw [State.stageImage_eq, State.stagedImage_beginValidation]
  exact congrArg Block.data (State.getBlk_putBlk_same s (okey 0 0x4001 0) d)

@[simp] theorem State.planState_stageImage : (s.stageImage d).planState = 2 := by
  rw [State.stageImage_eq, State.planState_beginValidation]

@[simp] theorem State.result_stageImage : (s.stageImage d).get 0x4000 5 = s.get 0x4000 5 := by
  rw [State.stageImage_eq, State.result_beginValidation]
  rfl

end

/-! ## The end of a preparation (R114, R117) -/

/-- What preparation has placed, and the swap, are no longer held. -/
theorem State.dropPrep_keeps (s : State) : KeepsPlan (s.withPlan { s.plan with prep := none, swapAt := none }) s.dropPrep :=
  (KeepsPlan.settleBanks _).after (KeepsPlan.ofEq rfl rfl rfl rfl rfl)

@[simp] theorem State.dropPrep_plan (s : State) : s.dropPrep.plan = { s.plan with prep := none, swapAt := none } :=
  s.dropPrep_keeps.plan

@[simp] theorem State.dropPrep_cfg (s : State) : s.dropPrep.cfg = s.cfg := s.dropPrep_keeps.cfg

theorem State.dropPrep_get (s : State) {i u : Nat} (hi : 0x4000 ≤ i ∧ i < 0x4010) (hu : u < 256) : s.dropPrep.get i u = s.get i u :=
  s.dropPrep_keeps.get hi hu

/-! ## A write of ACTION (R112, R117) -/

/-- ACTION is write-only, for partition 0, in every configuration. -/
theorem findObj_action (c : Cfg) : (findObj c 0x4000 1).map (fun o => (o.row.acc, o.row.wr)) = some (.wo, .p0) := by
  obtain ⟨compact, _, _, _, _⟩ := c
  cases compact <;> rfl

theorem findObj_action_row {c : Cfg} {o : Obj} (h : findObj c 0x4000 1 = some o) : o.row.acc = .wo ∧ o.row.wr = .p0 := by
  have hrow := findObj_action c
  rw [h] at hrow
  exact Prod.mk.inj (Option.some.inj hrow)

/-- A write that is accepted is refused by no step of R494. -/
theorem State.writeRefusal_of_accepts {s : State} {q : Wr} {o : Obj} {w : Word} (h : s.accepts q = some (o, w)) :
    s.writeRefusal q false = none := by
  unfold State.accepts at h
  split at h
  · assumption
  · cases h

/-- The initiator of a write that is accepted has the write right. -/
theorem State.hasRight_of_accepts {s : State} {q : Wr} {o : Obj} {w : Word} (h : s.accepts q = some (o, w)) :
    s.hasRight q.ini true o (canonIdx q.idx) q.sub = true := by
  have hrefusal := State.writeRefusal_of_accepts h
  unfold State.writeRefusal at hrefusal
  simp only [State.findObj_of_accepts h] at hrefusal
  split at hrefusal
  · cases hrefusal
  · next hright =>
    simp only [Bool.or_eq_true, decide_eq_true_eq, Bool.not_eq_true', not_or, Bool.not_eq_false] at hright
    exact hright.2

/-- A write that the owning chapter refuses is answered with its code. -/
theorem State.write_refused {s : State} {q : Wr} {o : Obj} {w : Word} {own : State → Nat → Option Nat} {c : Nat}
    (eff : State → Nat → State) (h : s.accepts q = some (o, w)) (ho : own s w.toNat = some c) :
    s.write q own eff = (s.refuse q.ini q.idx q.sub c, c) := by
  have hfind := State.findObj_of_accepts h
  have hkey : okey (o.bankFor q.ini.part) (canonIdx q.idx) q.sub = s.targetKey q.ini q.idx q.sub := by
    simp only [State.targetKey, hfind]
  have hvalue : o.row.status.isSome = false ∧ (s.newValue q o (s.targetKey q.ini q.idx q.sub)).1 = w := by
    simp only [State.accepts, State.writeRefusal_of_accepts h, hfind] at h
    split at h
    · next hplain =>
      simp only [Bool.and_eq_true, Option.isNone_iff_eq_none] at hplain
      simp only [Option.some.injEq, Prod.mk.injEq, true_and] at h
      exact ⟨by rw [hplain.1]; rfl, h⟩
    · cases h
  simp only [State.write, State.writeRefusal_of_accepts h, hfind, hkey, hvalue.1, hvalue.2, ho, Bool.false_eq_true, if_false]

section
variable {s : State} {ini : Ini} {raw w : Word} {n : Nat} (ht : s.takes ⟨ini, 0, 0x4000, 1, raw⟩ w)
include ht

/-- An accepted write of ACTION has the effect of its action, and stores nothing. -/
theorem State.planAction_accepted (hw : w.toNat = n) (hn : s.actionRefusal n = none) : (s.planAction ini 0 raw).1 = s.actionEffect n := by
  subst hw
  obtain ⟨o, ha⟩ := (s.takes_iff _ _).mp ht
  have hwrite := State.write_took s _ o w State.actionRefusal State.actionEffect ha hn
  have hwo : o.row.acc = .wo := (findObj_action_row (State.findObj_of_accepts ha)).1
  rw [State.took_wo _ _ _ hwo] at hwrite
  simp [State.planAction, hwrite, codePlanState, codeSwapPending, codeTimeInvalid, codeKeyServiceUnavailable]

/-- Only partition 0 writes ACTION. -/
theorem State.part_of_takes_action : ini.part = 0 := by
  obtain ⟨o, ha⟩ := (s.takes_iff _ _).mp ht
  have hp0 : o.row.wr = .p0 := (findObj_action_row (State.findObj_of_accepts ha)).2
  have hright := State.hasRight_of_accepts ha
  simp only [State.hasRight, hp0, State.whoRight, Bool.and_eq_true] at hright
  simpa using hright.1.1.1.1

end

/-- The codes with which an action is refused. -/
theorem State.actionRefusal_code {s : State} {n c : Nat} (h : s.actionRefusal n = some c) :
    c = codePlanState ∨ c = codeSwapPending ∨ c = codeTimeInvalid ∨ c = codeKeyServiceUnavailable := by
  unfold State.actionRefusal State.markhorDown at h
  grind

/-! ## What each action starts (R112 to R118) -/

/-- A long action begun: RESULT is 0, and the slot is that of TARGET_SLOT. -/
def State.longAction (s : State) (boot : Bool) (n : Nat) : State :=
  (s.setPlanResult 0).withPlan { s.plan with boot := boot, action := n, actionSlot := (s.setPlanResult 0).targetSlot }

/-- A preparation begun, with or without the swap that follows. -/
def State.beginPrepare (s : State) (swap : Bool) : State :=
  ((s.setPlanResult 0).withPlan { s.plan with boot := false, swapWhenReady := swap }).setPlanState 4

/-- The time of the swap of a ready plan set to SWAP_AT_TIME. -/
def State.setSwapTime (s : State) : State :=
  ((s.setPlanResult 0).withPlan { s.plan with boot := false, swapAt := some ((s.setPlanResult 0).get 0x4000 3) }).setPlanState 6

section
variable (s : State)

theorem State.actionEffect_revalidate : s.actionEffect 1 = (s.longAction false 1).beginValidation := by
  unfold State.actionEffect State.longAction
  rfl

theorem State.actionEffect_store : s.actionEffect 2 = (s.longAction false 2).setPlanState 8 := by
  unfold State.actionEffect State.longAction
  rfl

theorem State.actionEffect_load : s.actionEffect 3 = s.longAction false 3 := by
  unfold State.actionEffect State.longAction
  rfl

theorem State.actionEffect_swapWhenReady : s.actionEffect 4 = s.beginPrepare true := by
  unfold State.actionEffect State.beginPrepare
  rfl

theorem State.actionEffect_swapAtTime : s.actionEffect 5 = s.setSwapTime := by
  unfold State.actionEffect State.setSwapTime
  rfl

theorem State.actionEffect_erase : s.actionEffect 7 = s.longAction s.plan.boot 7 := by
  unfold State.actionEffect State.longAction
  rfl

theorem State.actionEffect_prepare : s.actionEffect 8 = s.beginPrepare false := by
  unfold State.actionEffect State.beginPrepare
  rfl

@[simp] theorem State.longAction_cfg (boot : Bool) (n : Nat) : (s.longAction boot n).cfg = s.cfg := by
  rw [State.longAction, State.withPlan_cfg, State.setPlanResult_cfg]

theorem State.longAction_spec (boot : Bool) (n : Nat) :
    (s.longAction boot n).planState = s.planState ∧ (s.longAction boot n).get 0x4000 5 = 0 ∧ (s.longAction boot n).plan.action = n ∧
      (s.longAction boot n).plan.actionSlot = s.get 0x4000 2 := by
  refine ⟨?_, ?_, rfl, ?_⟩
  · rw [State.longAction, State.planState_withPlan, State.planState_setPlanResult]
  · rw [State.longAction, State.get_withPlan, State.result_setPlanResult, Nat.zero_mod]
  · exact State.targetSlot_setPlanResult s 0

@[simp] theorem State.beginPrepare_cfg (swap : Bool) : (s.beginPrepare swap).cfg = s.cfg := by
  rw [State.beginPrepare, State.setPlanState_cfg, State.withPlan_cfg, State.setPlanResult_cfg]

theorem State.beginPrepare_spec (swap : Bool) :
    (s.beginPrepare swap).planState = 4 ∧ (s.beginPrepare swap).get 0x4000 5 = 0 ∧
      (s.beginPrepare swap).plan.swapWhenReady = swap ∧ (s.beginPrepare swap).plan.valid = s.plan.valid := by
  refine ⟨?_, ?_, rfl, rfl⟩
  · rw [State.beginPrepare, State.planState_setPlanState, Nat.mod_eq_of_lt (by decide)]
  · rw [State.beginPrepare, State.result_setPlanState, State.get_withPlan, State.result_setPlanResult, Nat.zero_mod]

@[simp] theorem State.setSwapTime_cfg : s.setSwapTime.cfg = s.cfg := by
  rw [State.setSwapTime, State.setPlanState_cfg, State.withPlan_cfg, State.setPlanResult_cfg]

theorem State.setSwapTime_spec :
    s.setSwapTime.planState = 6 ∧ s.setSwapTime.get 0x4000 5 = 0 ∧ s.setSwapTime.plan.swapAt = some (s.get 0x4000 3) := by
  refine ⟨?_, ?_, ?_⟩
  · rw [State.setSwapTime, State.planState_setPlanState, Nat.mod_eq_of_lt (by decide)]
  · rw [State.setSwapTime, State.result_setPlanState, State.get_withPlan, State.result_setPlanResult, Nat.zero_mod]
  · exact congrArg some (State.get_setPlanResult_ne s 0 (by decide))

/-- The staging area emptied, and who waited for it answered. -/
def State.emptyStaging : State := (s.putBlk (okey 0 0x4001 0) []).answerPlan codeAborted

/-- The discard of the staged image: what preparation has placed goes first, then the image and its validity. -/
def State.discarded : State :=
  let r := ((s.setPlanResult 0).withPlan { s.plan with boot := false }).dropPrep.emptyStaging
  (((r.putLive (okey 0 0x4001 0) (r.getBlk (okey 0 0x4001 0))).withPlan { r.plan with valid := none, action := 0 }).put
    0x4000 9 0).setPlanState 0

theorem State.actionEffect_discard : s.actionEffect 6 = s.discarded := by
  unfold State.actionEffect State.discarded
  rfl

theorem State.emptyStaging_keeps : KeepsPlan (s.putBlk (okey 0 0x4001 0) []) s.emptyStaging := KeepsPlan.answerPlan _ _

theorem State.emptyStaging_plan : s.emptyStaging.plan = s.plan := s.emptyStaging_keeps.plan

theorem State.emptyStaging_cfg : s.emptyStaging.cfg = s.cfg := s.emptyStaging_keeps.cfg

theorem State.emptyStaging_stagedImage : s.emptyStaging.stagedImage = [] :=
  s.emptyStaging_keeps.stagedImage.trans (congrArg Block.data (State.getBlk_putBlk_same s (okey 0 0x4001 0) []))

theorem State.emptyStaging_result : s.emptyStaging.get 0x4000 5 = s.get 0x4000 5 :=
  s.emptyStaging_keeps.get (by decide) (by decide)

theorem State.discarded_cfg : s.discarded.cfg = s.cfg := by
  rw [State.discarded, State.setPlanState_cfg, State.put_cfg, State.withPlan_cfg, State.putLive_cfg, State.emptyStaging_cfg,
    State.dropPrep_cfg, State.withPlan_cfg, State.setPlanResult_cfg]

theorem State.discarded_plan : s.discarded.plan =
    { s.plan with boot := false, prep := none, swapAt := none, valid := none, action := 0 } := by
  rw [State.discarded, State.setPlanState_plan, State.put_plan, State.withPlan_plan, State.emptyStaging_plan, State.dropPrep_plan,
    State.withPlan_plan]

theorem State.discarded_planState : s.discarded.planState = 0 := by
  rw [State.discarded, State.planState_setPlanState, Nat.zero_mod]

theorem State.discarded_result : s.discarded.get 0x4000 5 = 0 := by
  rw [State.discarded, State.result_setPlanState, State.get_put_ne _ (by decide), State.get_withPlan]
  refine (State.emptyStaging_result _).trans ((State.dropPrep_get _ (by decide) (by decide)).trans ?_)
  rw [State.get_withPlan, State.result_setPlanResult, Nat.zero_mod]

theorem State.discarded_stagedImage : s.discarded.stagedImage = [] := by
  rw [State.discarded, State.stagedImage_setPlanState, State.stagedImage_put, State.stagedImage_withPlan, State.stagedImage_putLive,
    State.emptyStaging_stagedImage]

end

theorem State.takes_advance {s : State} {q : Wr} {w : Word} (h : s.takes q w) (t : Nat) : (s.advance t).takes q w := by
  rw [State.takes, State.accepts_advance]
  exact h

section
variable (s : State) (t : Nat)

@[simp] theorem State.planState_advance : (s.advance t).planState = s.planState := rfl
@[simp] theorem State.swapBusy_advance : (s.advance t).swapBusy = s.swapBusy := rfl
@[simp] theorem State.planBusy_advance : (s.advance t).planBusy = s.planBusy := rfl
@[simp] theorem State.stagedImage_advance : (s.advance t).stagedImage = s.stagedImage := rfl
@[simp] theorem State.targetSlot_advance : (s.advance t).targetSlot = s.targetSlot := rfl
@[simp] theorem State.slotImage_advance (k : Nat) : (s.advance t).slotImage k = s.slotImage k := rfl
@[simp] theorem State.markhorUp_advance : (s.advance t).markhorUp = s.markhorUp := rfl
@[simp] theorem State.markhorDown_advance : (s.advance t).markhorDown = s.markhorDown := rfl

end

/-- Of the actions only the swap at a time looks at the time. -/
theorem State.actionRefusal_advance (s : State) (t : Nat) {n : Nat} (h : n ≠ 5) :
    (s.advance t).actionRefusal n = s.actionRefusal n := by
  simp only [State.actionRefusal, State.planState_advance, State.planBusy_advance, State.swapBusy_advance, State.stagedImage_advance,
    State.targetSlot_advance, State.slotImage_advance, State.markhorDown_advance, State.advance_plan]
  congr 2
  split
  · rfl
  · rfl
  · rfl
  · exact absurd rfl h
  · rfl
  · rfl

/-- An accepted write of ACTION leaves what its action starts. -/
theorem planAction_outcome {t n : Nat} {ini : Ini} {raw w : Word} {s e : State} (he : (s.advance t).actionEffect n = e)
    (hcfg : e.cfg = s.cfg) (hr : s.inReset = false) (ht : s.takes ⟨ini, 0, 0x4000, 1, raw⟩ w) (hw : w.toNat = n)
    (hn : (s.advance t).actionRefusal n = none) :
    ∃ s', at_ t s (fun s => (s.planAction ini 0 raw).1) = .next s' ∧ ReadsAs e s' :=
  at_readsAs ((State.planAction_accepted (State.takes_advance ht t) hw hn).trans he) hcfg hr

/-- A refused write of ACTION leaves its code in RESULT, and the plan handling as it was. -/
theorem planAction_refused {t n code : Nat} {ini : Ini} {raw w : Word} {s : State} (hr : s.inReset = false)
    (ht : s.takes ⟨ini, 0, 0x4000, 1, raw⟩ w) (hw : w.toNat = n) (hn : (s.advance t).actionRefusal n = some code) :
    ∃ s', at_ t s (fun s => (s.planAction ini 0 raw).1) = .next s' ∧ s'.get 0x4000 5 = code ∧ s'.planState = s.planState ∧
      s'.plan = s.plan := by
  subst hw
  obtain ⟨o, ha⟩ := (State.takes_iff _ _ _).mp (State.takes_advance ht t)
  have hcode := State.actionRefusal_code hn
  have heff : ((s.advance t).planAction ini 0 raw).1 = ((s.advance t).refuse ini 0x4000 1 code).setPlanResult code := by
    rw [State.planAction, State.write_refused _ ha hn, if_pos hcode]
  have hkeeps : KeepsPlan (s.advance t) ((s.advance t).refuse ini 0x4000 1 code) :=
    KeepsPlan.refuse _ _ _ _ (by rw [State.part_of_takes_action ht]; decide)
  have hlt : code < 2 ^ 64 := by
    rcases hcode with rfl | rfl | rfl | rfl <;> decide
  obtain ⟨s', hs, h⟩ := at_readsAs (f := fun s => (s.planAction ini 0 raw).1) heff hkeeps.cfg hr
  refine ⟨s', hs, ?_, ?_, h.plan.trans hkeeps.plan⟩
  · rw [h.get, State.result_setPlanResult, Nat.mod_eq_of_lt hlt]
  · rw [h.planState, State.planState_setPlanResult]
    exact hkeeps.planState

/-- Settles O9: by what each action starts, since ACTION itself stores nothing, and because the record of a refused write
leaves the plan handling alone. -/
theorem planActionsBegin : Obligations.PlanActionsBegin := by
  unfold Obligations.PlanActionsBegin
  refine ⟨?_, ?_, ?_, ?_, ?_, ?_, ?_, ?_, ?_⟩
  · intro t ini w s hr ht hw hn
    rw [← State.actionRefusal_advance s t (by decide)] at hn
    obtain ⟨s', hs, h⟩ := planAction_outcome (State.actionEffect_revalidate _) (State.beginValidation_cfg _) hr ht hw hn
    obtain ⟨-, hresult, haction, -⟩ := (s.advance t).longAction_spec false 1
    refine ⟨s', hs, h.planState.trans (State.planState_beginValidation _), ?_, ?_, ?_⟩
    · rw [h.get, State.result_beginValidation, hresult]
    · rw [h.plan, State.beginValidation_plan, haction]
    · rw [h.plan, State.beginValidation_plan]
  · intro t ini w s hr ht hw hn
    rw [← State.actionRefusal_advance s t (by decide)] at hn
    obtain ⟨s', hs, h⟩ := planAction_outcome (State.actionEffect_store _) rfl hr ht hw hn
    obtain ⟨-, hresult, haction, hslot⟩ := (s.advance t).longAction_spec false 2
    refine ⟨s', hs, ?_, ?_, ?_, ?_⟩
    · rw [h.planState, State.planState_setPlanState, Nat.mod_eq_of_lt (by decide)]
    · rw [h.get, State.result_setPlanState, hresult]
    · rw [h.plan, State.setPlanState_plan, haction]
    · rw [h.plan, State.setPlanState_plan, hslot, State.get_advance]
  · intro t ini w s hr ht hw hn
    rw [← State.actionRefusal_advance s t (by decide)] at hn
    obtain ⟨s', hs, h⟩ := planAction_outcome (State.actionEffect_load _) rfl hr ht hw hn
    obtain ⟨hstate, hresult, haction, hslot⟩ := (s.advance t).longAction_spec false 3
    exact ⟨s', hs, h.planState.trans hstate, (h.get _ _).trans hresult, by rw [h.plan, haction], by rw [h.plan, hslot]; rfl⟩
  · intro t ini w s hr ht hw hn
    rw [← State.actionRefusal_advance s t (by decide)] at hn
    obtain ⟨s', hs, h⟩ := planAction_outcome (State.actionEffect_swapWhenReady _) rfl hr ht hw hn
    obtain ⟨hstate, hresult, hswap, hvalid⟩ := (s.advance t).beginPrepare_spec true
    exact ⟨s', hs, h.planState.trans hstate, (h.get _ _).trans hresult, by rw [h.plan, hswap], by rw [h.plan, hvalid]; rfl⟩
  · intro t ini w s hr ht hw hn
    obtain ⟨s', hs, h⟩ := planAction_outcome (State.actionEffect_swapAtTime _) rfl hr ht hw hn
    obtain ⟨hstate, hresult, hat⟩ := (s.advance t).setSwapTime_spec
    exact ⟨s', hs, h.planState.trans hstate, (h.get _ _).trans hresult, by rw [h.plan, hat]; rfl⟩
  · intro t ini w s hr ht hw hn
    rw [← State.actionRefusal_advance s t (by decide)] at hn
    obtain ⟨s', hs, h⟩ := planAction_outcome (State.actionEffect_discard _) (State.discarded_cfg _) hr ht hw hn
    have hplan := h.plan.trans (State.discarded_plan _)
    exact ⟨s', hs, h.planState.trans (State.discarded_planState _), (h.get _ _).trans (State.discarded_result _), by rw [hplan],
      by rw [hplan], by rw [hplan], h.stagedImage.trans (State.discarded_stagedImage _), by rw [hplan]; rfl⟩
  · intro t ini w s hr ht hw hn
    rw [← State.actionRefusal_advance s t (by decide)] at hn
    obtain ⟨s', hs, h⟩ := planAction_outcome (State.actionEffect_erase _) rfl hr ht hw hn
    obtain ⟨hstate, hresult, haction, hslot⟩ := (s.advance t).longAction_spec (s.advance t).plan.boot 7
    exact ⟨s', hs, h.planState.trans hstate, (h.get _ _).trans hresult, by rw [h.plan, haction], by rw [h.plan, hslot]; rfl⟩
  · intro t ini w s hr ht hw hn
    rw [← State.actionRefusal_advance s t (by decide)] at hn
    obtain ⟨s', hs, h⟩ := planAction_outcome (State.actionEffect_prepare _) rfl hr ht hw hn
    obtain ⟨hstate, hresult, hswap, hvalid⟩ := (s.advance t).beginPrepare_spec false
    exact ⟨s', hs, h.planState.trans hstate, (h.get _ _).trans hresult, by rw [h.plan, hswap], by rw [h.plan, hvalid]; rfl⟩
  · intro t ini w code s hr ht hw hn
    exact planAction_refused hr ht hw hn

/-! ## PlanFieldReport and the flags of validation (R113) -/

/-- The keys of PlanFieldReport, 0x4009. -/
def reportKey (k : Nat) : Prop := 0x400900 ≤ k ∧ k < 0x400A00

theorem reportKey_okey {u : Nat} (hu : u < 256) : reportKey (okey 0 0x4009 u) := by
  unfold reportKey okey
  omega

theorem not_reportKey_okey {i u : Nat} (hi : i ≠ 0x4009) (hu : u < 256) : ¬ reportKey (okey 0 i u) := by
  unfold reportKey okey
  omega

theorem Keeps.fieldReport (s : State) (l : List FieldClamp) : Keeps reportKey s (s.fieldReport l) := by
  have hput : ∀ (s : State) (u v : Nat), u < 256 → Keeps reportKey s (s.put 0x4009 u v) :=
    fun s u v hu => (Keeps.put s 0x4009 u v).mono (fun k hk => hk ▸ reportKey_okey hu)
  refine (hput s 1 l.length (by decide)).trans (Keeps.fold _ (fun s k hk => hput s _ _ ?_) _)
  have hlt := List.mem_range.mp hk
  omega

theorem Aside.fieldReport (s : State) (l : List FieldClamp) : Aside s (s.fieldReport l) :=
  (Aside.put s _ _ _).trans (Aside.fold _ (fun s _ => Aside.put s _ _ _) _)

/-- The report counts the fields that were clamped. -/
theorem State.getK_fieldReport_count (s : State) (l : List FieldClamp) : (s.fieldReport l).getK (okey 0 0x4009 1) = w64 l.length := by
  have hkeep : ∀ (s : State) (k : Nat),
      (s.put 0x4009 (2 + k) (((l[k]?).map FieldClamp.word).getD 0)).getK (okey 0 0x4009 1) = s.getK (okey 0 0x4009 1) :=
    fun s k => s.getK_putK_ne (by unfold okey; omega) _
  exact (foldS_proj (fun s => s.getK (okey 0 0x4009 1)) hkeep _ _).trans (s.getK_putK_same _ _)

/-- The fields that validation clamps are reported, with flag 1. -/
def State.reportClamps (s : State) (l : List FieldClamp) : State := (s.fieldReport l).when (!l.isEmpty) (fun s => s.planFlag 1)

theorem Aside.reportClamps (s : State) (l : List FieldClamp) : Aside s (s.reportClamps l) :=
  (Aside.fieldReport s l).trans (Aside.when _ _ (Aside.setFlag _ _ _))

theorem State.getK_reportClamps_count (s : State) (l : List FieldClamp) :
    (s.reportClamps l).getK (okey 0 0x4009 1) = w64 l.length := by
  unfold State.reportClamps State.when
  split
  · rw [State.getK_planFlag_ne _ _ _ (by decide), State.getK_fieldReport_count]
  · exact s.getK_fieldReport_count l

/-! ## What the stages of validation look at -/

section
variable {s s' : State} (h : Keeps reportKey s s')
include h

theorem State.markhorUp_congr : s'.markhorUp = s.markhorUp := by
  have hget : s'.get 0x2000 1 = s.get 0x2000 1 := h.get (not_reportKey_okey (by decide) (by decide))
  simp only [State.markhorUp, hget]

theorem State.selfNode_congr : s'.selfNode = s.selfNode := h.get (not_reportKey_okey (by decide) (by decide))

/-- The structure of an image is checked against the fabric and the ports. -/
theorem State.planFault_congr (hf : s'.fabric = s.fabric) (m : List Byte) : s'.planFault m = s.planFault m := by
  have hports : s'.isDpPort = s.isDpPort := by
    funext q
    have hget : s'.get (0x5800 + q * 0x10) 1 = s.get (0x5800 + q * 0x10) 1 := h.get (not_reportKey_okey (by omega) (by decide))
    simp only [State.isDpPort, hget]
  have hshape : s'.fabricShape = s.fabricShape := by simp only [State.fabricShape, hf]
  simp only [State.planFault, h.cfg, hports, hshape, State.selfNode_congr h]

/-- Markhor checks an image against the fuses. -/
theorem State.planVerify_congr (m : List Byte) (ok : Bool) : s'.planVerify m ok = s.planVerify m ok := by
  have hfuse : s'.fuse = s.fuse := by
    funext lo n
    have hblk := h.blks (okey 0 0x2080 0) (not_reportKey_okey (by decide) (by decide))
    simp only [State.fuse, hblk]
  have hkey : s'.planKeyOk = s.planKeyOk := by
    funext hash
    simp only [State.planKeyOk, State.planKeyHash, hfuse]
  have hlevel : s'.planLevel = s.planLevel := by simp only [State.planLevel, hfuse]
  unfold State.planVerify
  rw [hkey, hlevel]

end

theorem Keeps.advance {P : Nat → Prop} (s : State) (t : Nat) : Keeps P s (s.advance t) := Keeps.ofEq rfl rfl rfl rfl rfl rfl

@[simp] theorem State.planFault_advance (s : State) (t : Nat) (m : List Byte) : (s.advance t).planFault m = s.planFault m :=
  State.planFault_congr (Keeps.advance s t) rfl m

@[simp] theorem State.planVerify_advance (s : State) (t : Nat) (m : List Byte) (ok : Bool) :
    (s.advance t).planVerify m ok = s.planVerify m ok := State.planVerify_congr (Keeps.advance s t) m ok

@[simp] theorem State.noLock_advance (s : State) (t n : Nat) : (s.advance t).noLock n = s.noLock n := rfl
@[simp] theorem State.selfNode_advance (s : State) (t : Nat) : (s.advance t).selfNode = s.selfNode := rfl

@[simp] theorem State.inSlot_advance (s : State) (t service ref : Nat) : (s.advance t).inSlot service ref = s.inSlot service ref := by
  have hlive : (s.advance t).mailLive = s.mailLive := rfl
  simp only [State.inSlot, State.slotMail, hlive, State.advance_sec]

/-! ## The ends of a validation -/

/-- The state in which the stages of a validation are taken: Markhor's request is answered, no action runs, and no clamp is
reported. -/
def State.inValidation (s : State) : State := ((s.unpost 1 0).withPlan { s.plan with action := 0 }).fieldReport []

section
variable (s : State)

theorem Keeps.inValidation : Keeps reportKey s s.inValidation :=
  (Keeps.fieldReport _ []).after (Keeps.ofEq rfl rfl rfl rfl rfl rfl)

theorem State.inValidation_aside : Aside ((s.unpost 1 0).withPlan { s.plan with action := 0 }) s.inValidation := Aside.fieldReport _ []

@[simp] theorem State.inValidation_cfg : s.inValidation.cfg = s.cfg := (Keeps.inValidation s).cfg

@[simp] theorem State.inValidation_plan : s.inValidation.plan = { s.plan with action := 0 } := s.inValidation_aside.plan

@[simp] theorem State.planFault_inValidation (m : List Byte) : s.inValidation.planFault m = s.planFault m :=
  State.planFault_congr (Keeps.inValidation s) s.inValidation_aside.fabric m

@[simp] theorem State.planVerify_inValidation (m : List Byte) (ok : Bool) : s.inValidation.planVerify m ok = s.planVerify m ok :=
  State.planVerify_congr (Keeps.inValidation s) m ok

@[simp] theorem State.markhorUp_inValidation : s.inValidation.markhorUp = s.markhorUp := State.markhorUp_congr (Keeps.inValidation s)

@[simp] theorem State.selfNode_inValidation : s.inValidation.selfNode = s.selfNode := State.selfNode_congr (Keeps.inValidation s)

end

/-- What a rejection shows, before it is answered. -/
def State.showReject (s : State) (code off : Nat) : State :=
  ((((s.withPlan { s.plan with valid := none, boot := false }).setPlanState 7).setPlanResult code).put 0x4000 6 off).planFlag 0

theorem KeepsPlan.rejectPlan (s : State) (code off : Nat) : KeepsPlan (s.showReject code off) (s.rejectPlan code off) :=
  KeepsPlan.answerPlan _ _

theorem State.rejectPlan_cfg (s : State) (code off : Nat) : (s.rejectPlan code off).cfg = s.cfg :=
  (KeepsPlan.rejectPlan s code off).cfg.trans (State.planFlag_cfg _ _)

/-- A rejected image is INVALID, with the code and the offset of the fault and flag 0. -/
theorem State.rejectPlan_spec (s : State) {code off : Nat} (hcode : code < 2 ^ 64) (hoff : off < 2 ^ 64) :
    (s.rejectPlan code off).planState = 7 ∧ (s.rejectPlan code off).get 0x4000 5 = code ∧ (s.rejectPlan code off).get 0x4000 6 = off ∧
      (s.rejectPlan code off).flag (okey 0 0x4008 0) 0 = true ∧ (s.rejectPlan code off).plan.valid = none := by
  have hkeeps := KeepsPlan.rejectPlan s code off
  refine ⟨?_, ?_, ?_, ?_, ?_⟩
  · rw [hkeeps.planState, State.showReject, State.planState_planFlag, State.planState_put_ne _ _ (by decide), State.planState_setPlanResult,
      State.planState_setPlanState, Nat.mod_eq_of_lt (by decide)]
  · rw [hkeeps.get (by decide) (by decide), State.showReject, State.result_planFlag, State.get_put_ne _ (by decide),
      State.result_setPlanResult, Nat.mod_eq_of_lt hcode]
  · rw [hkeeps.get (by decide) (by decide), State.showReject, State.get_planFlag_ne _ _ (by decide), State.get_put_same,
      Nat.mod_eq_of_lt hoff]
  · rw [hkeeps.flag (by decide), State.showReject, State.flag_planFlag _ _ (by decide)]
  · rw [hkeeps.plan, State.showReject, State.planFlag_plan, State.put_plan, State.setPlanResult_plan, State.setPlanState_plan,
      State.withPlan_plan]

/-- What a valid plan shows, before it is answered. -/
def State.showValid (s : State) (p : Plan) (l : List FieldClamp) : State :=
  ((((s.reportClamps l).withPlan { (s.reportClamps l).plan with valid := some p }).setPlanState 3).setPlanResult 0).put 0x4000 6 0

/-- A valid plan taken, and who waits for it answered. -/
def State.takeValid (s : State) (p : Plan) (l : List FieldClamp) : State := (s.showValid p l).answerPlan codeOk

section
variable (s : State) (p : Plan) (l : List FieldClamp)

theorem KeepsPlan.takeValid : KeepsPlan (s.showValid p l) (s.takeValid p l) := KeepsPlan.answerPlan _ _

theorem State.takeValid_cfg : (s.takeValid p l).cfg = s.cfg := by
  rw [(KeepsPlan.takeValid s p l).cfg, State.showValid, State.put_cfg, State.setPlanResult_cfg, State.setPlanState_cfg,
    State.withPlan_cfg, (Aside.reportClamps s l).cfg]

theorem State.takeValid_plan : (s.takeValid p l).plan = { s.plan with valid := some p } := by
  rw [(KeepsPlan.takeValid s p l).plan, State.showValid, State.put_plan, State.setPlanResult_plan, State.setPlanState_plan,
    State.withPlan_plan, (Aside.reportClamps s l).plan]

/-- A valid plan has RESULT 0 and its clamped fields counted. -/
theorem State.takeValid_spec :
    (s.takeValid p l).planState = 3 ∧ (s.takeValid p l).get 0x4000 5 = 0 ∧ (s.takeValid p l).get 0x4000 6 = 0 ∧
      (s.takeValid p l).getK (okey 0 0x4009 1) = w64 l.length := by
  have hkeeps := KeepsPlan.takeValid s p l
  refine ⟨?_, ?_, ?_, ?_⟩
  · rw [hkeeps.planState, State.showValid, State.planState_put_ne _ _ (by decide), State.planState_setPlanResult,
      State.planState_setPlanState, Nat.mod_eq_of_lt (by decide)]
  · rw [hkeeps.get (by decide) (by decide), State.showValid, State.get_put_ne _ (by decide), State.result_setPlanResult, Nat.zero_mod]
  · rw [hkeeps.get (by decide) (by decide), State.showValid, State.get_put_same, Nat.zero_mod]
  · have hput : ∀ (s : State) (u v : Nat), u < 256 → (s.put 0x4000 u v).getK (okey 0 0x4009 1) = s.getK (okey 0 0x4009 1) :=
      fun s u v hu => s.getK_putK_ne (by unfold okey; omega) _
    rw [hkeeps.regs _ (planKey_okey (by decide) (by decide)), State.showValid, hput _ 6 0 (by decide), State.setPlanResult,
      hput _ 5 0 (by decide), State.setPlanState, hput _ 4 3 (by decide), State.getK_withPlan, State.getK_reportClamps_count]

end

/-! ## PLAN_VALIDATED -/

/-- A validation that is due ends: the plan handling validates, and Markhor's request is in its slot where a stage is Markhor's. -/
theorem State.validation_due {s : State} (hstate : s.planState = 2) (hlock : s.noLock 0 = false)
    (hslot : (s.planFault s.stagedImage).isNone = false ∨ s.inSlot 1 0 = true) :
    (s.planState != 2 || s.noLock 0 || s.markhorUp && !s.inSlot 1 0 && (s.planFault s.stagedImage).isNone) = false := by
  rcases hslot with h | h <;> simp [hstate, hlock, h]

section
variable {t : Nat} {ok : Bool} {s : State} (hr : s.inReset = false) (hp : s.planRuns = true) (hstate : s.planState = 2)
  (hlock : s.noLock 0 = false)
include hr hp hstate hlock

/-- The first structural fault ends a validation. -/
theorem planValidated_fault {code off : Nat} (hf : s.planFault s.stagedImage = some (code, off)) :
    ∃ s', exec (.planValidated t ok) s = .next s' ∧ ReadsAs ((s.advance t).inValidation.rejectPlan code off) s' := by
  refine planned_readsAs ?_ ((State.rejectPlan_cfg _ _ _).trans (State.inValidation_cfg _)) hr hp
  have hdue := State.validation_due (s := s.advance t) hstate hlock (.inl (by simp [hf]))
  rw [if_neg (by rw [hdue]; decide)]
  extract_lets m s1 x s2
  have hs2 : s2 = (s.advance t).inValidation := rfl
  have hfault : s2.planFault m = some (code, off) := by simpa [hs2, m] using hf
  rw [← hs2]
  simp only [hfault]

variable (hf : s.planFault s.stagedImage = none) (hup : s.markhorUp = true) (hslot : s.inSlot 1 0 = true)
include hf hup hslot

/-- Markhor's fault ends a validation. -/
theorem planValidated_unverified {code : Nat} (hv : s.planVerify s.stagedImage ok = some code) :
    ∃ s', exec (.planValidated t ok) s = .next s' ∧ ReadsAs ((s.advance t).inValidation.rejectPlan code 0) s' := by
  refine planned_readsAs ?_ ((State.rejectPlan_cfg _ _ _).trans (State.inValidation_cfg _)) hr hp
  have hdue := State.validation_due (s := s.advance t) hstate hlock (.inr (by simp [hslot]))
  rw [if_neg (by rw [hdue]; decide)]
  extract_lets m s1 x s2
  have hs2 : s2 = (s.advance t).inValidation := rfl
  have hfault : s2.planFault m = none := by simpa [hs2, m] using hf
  have hverify : s2.planVerify m ok = some code := by simpa [hs2, m] using hv
  have hmarkhor : s2.markhorUp = true := by simpa [hs2] using hup
  rw [← hs2]
  simp only [hfault, hmarkhor, hverify, Bool.not_true, Bool.false_eq_true, if_false]

/-- A plan in which no stage finds a fault is valid. -/
theorem planValidated_valid (hv : s.planVerify s.stagedImage ok = none) (hboot : s.plan.boot = false) :
    ∃ s', exec (.planValidated t ok) s = .next s' ∧
      ReadsAs ((s.advance t).inValidation.takeValid (readPlan s.stagedImage s.selfNode).fieldStage.1
        (readPlan s.stagedImage s.selfNode).fieldStage.2) s' := by
  refine planned_readsAs ?_ ((State.takeValid_cfg _ _ _).trans (State.inValidation_cfg _)) hr hp
  have hdue := State.validation_due (s := s.advance t) hstate hlock (.inr (by simp [hslot]))
  rw [if_neg (by rw [hdue]; decide)]
  extract_lets m s1 x s2
  have hs2 : s2 = (s.advance t).inValidation := rfl
  have hfault : s2.planFault m = none := by simpa [hs2, m] using hf
  have hverify : s2.planVerify m ok = none := by simpa [hs2, m] using hv
  have hmarkhor : s2.markhorUp = true := by simpa [hs2] using hup
  have hplan : readPlan m s2.selfNode = readPlan s.stagedImage s.selfNode := by simp [hs2, m]
  rw [← hs2, ← hplan]
  split
  · next h => rw [hfault] at h; cases h
  · split
    · next h => rw [hmarkhor] at h; cases h
    · split
      · next h => rw [hverify] at h; cases h
      · split
        next p l hpl =>
        rw [hpl]
        extract_lets s3 s4 y s5 s6
        have hs6 : s6 = s2.takeValid p l := rfl
        have hnoboot : s6.plan.boot = false := by
          rw [hs6, State.takeValid_plan, hs2, State.inValidation_plan]
          exact hboot
        simp only [hnoboot, Bool.false_and, Bool.false_eq_true, if_false]
        exact hs6

end

/-! ## The ends of the long actions (R112, R114) -/

/-- No long action runs. -/
def State.actionOver (s : State) : State := s.withPlan { s.plan with action := 0 }

@[simp] theorem State.actionOver_plan (s : State) : s.actionOver.plan = { s.plan with action := 0 } := rfl
@[simp] theorem State.actionOver_cfg (s : State) : s.actionOver.cfg = s.cfg := rfl
@[simp] theorem State.stagedImage_actionOver (s : State) : s.actionOver.stagedImage = s.stagedImage := rfl

theorem State.putSlot_eq (s : State) (k : Nat) (m : List Byte) :
    s.putSlot k m = (s.withPlan { s.plan with slots := mput [] k m s.plan.slots }).showSlot k := rfl

section
variable (s : State) (k : Nat) (m : List Byte)

theorem Aside.showSlot : Aside s (s.showSlot k) := by
  unfold State.showSlot
  exact (((Aside.put s _ _ _).trans (Aside.put _ _ _ _)).trans (Aside.put _ _ _ _)).trans (Aside.put _ _ _ _)

@[simp] theorem State.putSlot_cfg : (s.putSlot k m).cfg = s.cfg := by rw [State.putSlot_eq, (Aside.showSlot _ k).cfg, State.withPlan_cfg]

@[simp] theorem State.putSlot_plan : (s.putSlot k m).plan = { s.plan with slots := mput [] k m s.plan.slots } := by
  rw [State.putSlot_eq, (Aside.showSlot _ k).plan, State.withPlan_plan]

@[simp] theorem State.stagedImage_putSlot : (s.putSlot k m).stagedImage = s.stagedImage := by
  rw [State.putSlot_eq, State.stagedImage, (Aside.showSlot _ k).getBlk, State.getBlk_withPlan, State.stagedImage]

@[simp] theorem State.slotImage_putSlot : (s.putSlot k m).slotImage k = m := by
  rw [State.slotImage, State.putSlot_plan]
  exact mget_mput_same [] k m s.plan.slots

/-- PlanSlot shows a slot's plan in its sub-indices 1 to 4. -/
theorem State.get_showSlot_ne {i u : Nat} (h : ∀ w, 1 ≤ w → w ≤ 4 → okey 0 i u ≠ okey 0 (0x4004 + k) w) :
    (s.showSlot k).get i u = s.get i u := by
  unfold State.showSlot
  dsimp only
  rw [State.get_put_ne _ (h 4 (by decide) (by decide)), State.get_put_ne _ (h 3 (by decide) (by decide)),
    State.get_put_ne _ (h 2 (by decide) (by decide)), State.get_put_ne _ (h 1 (by decide) (by decide))]

theorem State.get_putSlot_ne {i u : Nat} (h : ∀ w, 1 ≤ w → w ≤ 4 → okey 0 i u ≠ okey 0 (0x4004 + k) w) :
    (s.putSlot k m).get i u = s.get i u := by
  rw [State.putSlot_eq, State.get_showSlot_ne _ _ h, State.get_withPlan]

/-- The objects of PlanControl are not among those of a slot. -/
theorem State.get_putSlot_control {u : Nat} (hu : u < 256) : (s.putSlot k m).get 0x4000 u = s.get 0x4000 u :=
  s.get_putSlot_ne k m (fun w _ _ => by unfold okey; omega)

/-- PlanSlot shows the length of a slot's image. -/
theorem State.get_putSlot_length : (s.putSlot k m).get (0x4004 + k) 2 = m.length % 2 ^ 64 := by
  have himage : (s.withPlan { s.plan with slots := mput [] k m s.plan.slots }).slotImage k = m :=
    mget_mput_same [] k m s.plan.slots
  rw [State.putSlot_eq, State.showSlot]
  dsimp only
  rw [State.get_put_ne _ (by unfold okey; omega), State.get_put_ne _ (by unfold okey; omega), State.get_put_same, himage]

/-- The end of an erasure: the slot is empty and reads so. -/
def State.endErase : State := (s.putSlot k []).setPlanResult 0

theorem State.endErase_cfg : (s.endErase k).cfg = s.cfg := by rw [State.endErase, State.setPlanResult_cfg, State.putSlot_cfg]

theorem State.endErase_plan : (s.endErase k).plan = { s.plan with slots := mput [] k [] s.plan.slots } := by
  rw [State.endErase, State.setPlanResult_plan, State.putSlot_plan]

theorem State.endErase_spec (hk : k < 4) :
    (s.endErase k).slotImage k = [] ∧ (s.endErase k).get (0x4004 + k) 2 = 0 ∧ (s.endErase k).get 0x4000 5 = 0 ∧
      (s.endErase k).planState = s.planState := by
  refine ⟨?_, ?_, ?_, ?_⟩
  · rw [State.slotImage, State.endErase_plan]
    exact mget_mput_same ([] : List Byte) k [] s.plan.slots
  · rw [State.endErase, State.get_setPlanResult_ne _ _ (by unfold okey; omega), State.get_putSlot_length, List.length_nil, Nat.zero_mod]
  · rw [State.endErase, State.result_setPlanResult, Nat.zero_mod]
  · rw [State.endErase, State.planState_setPlanResult, State.planState, State.get_putSlot_control _ _ _ (by decide), State.planState]

/-- The staged image stored in a slot, with its count of writes. -/
def State.storeImage : State := (s.putSlot k s.stagedImage).bump (0x4004 + k) 5

/-- The end of a store: eMRAM has been written, and STATE, RESULT and flag 5 say so. -/
def State.endStore : State :=
  ((((s.storeImage k).emramWrote (((s.storeImage k).stagedImage.length + 7) / 8) ((s.storeImage k).get (0x4004 + k) 5)).setPlanState
    3).setPlanResult 0).planFlag 5

theorem State.storeImage_plan : (s.storeImage k).plan = { s.plan with slots := mput [] k s.stagedImage s.plan.slots } :=
  ((Aside.bump _ _ _).plan).trans (s.putSlot_plan k _)

theorem State.get_storeImage_count :
    (s.storeImage k).get (0x4004 + k) 5 = min (s.get (0x4004 + k) 5 + 1) (2 ^ 32 - 1) := by
  rw [State.storeImage, State.get_bump_same, State.get_putSlot_ne _ _ _ (fun w _ hw => by unfold okey; omega)]

theorem KeepsPlan.endStore : KeepsPlan (s.storeImage k)
    ((s.storeImage k).emramWrote (((s.storeImage k).stagedImage.length + 7) / 8) ((s.storeImage k).get (0x4004 + k) 5)) :=
  KeepsPlan.emramWrote _ _ _

theorem State.endStore_cfg : (s.endStore k).cfg = s.cfg := by
  rw [State.endStore, State.planFlag_cfg, State.setPlanResult_cfg, State.setPlanState_cfg, (KeepsPlan.endStore s k).cfg,
    State.storeImage, State.bump_cfg, State.putSlot_cfg]

theorem State.endStore_plan : (s.endStore k).plan = { s.plan with slots := mput [] k s.stagedImage s.plan.slots } := by
  rw [State.endStore, State.planFlag_plan, State.setPlanResult_plan, State.setPlanState_plan, (KeepsPlan.endStore s k).plan,
    State.storeImage_plan]

theorem State.endStore_spec (hk : k < 4) :
    (s.endStore k).slotImage k = s.stagedImage ∧ (s.endStore k).get (0x4004 + k) 5 = min (s.get (0x4004 + k) 5 + 1) (2 ^ 32 - 1) ∧
      (s.endStore k).planState = 3 ∧ (s.endStore k).get 0x4000 5 = 0 ∧ (s.endStore k).flag (okey 0 0x4008 0) 5 = true := by
  refine ⟨?_, ?_, ?_, ?_, State.flag_planFlag _ _ (by decide)⟩
  · rw [State.slotImage, State.endStore_plan]
    exact mget_mput_same [] k _ _
  · rw [State.endStore, State.get_planFlag_ne _ _ (by unfold okey; omega), State.get_setPlanResult_ne _ _ (by unfold okey; omega),
      State.get_setPlanState_ne _ _ (by unfold okey; omega), (KeepsPlan.endStore s k).get (by omega) (by decide),
      State.get_storeImage_count]
  · rw [State.endStore, State.planState_planFlag, State.planState_setPlanResult, State.planState_setPlanState,
      Nat.mod_eq_of_lt (by decide)]
  · rw [State.endStore, State.result_planFlag, State.result_setPlanResult, Nat.zero_mod]

end

section
variable {t : Nat} {s : State} (hr : s.inReset = false) (hp : s.planRuns = true)
include hr hp

/-- The end of a store. -/
theorem planActionDone_store (he : s.edgeUp = true) (ha : s.plan.action = 2) :
    ∃ s', exec (.planActionDone t) s = .next s' ∧ ReadsAs ((s.advance t).actionOver.endStore s.plan.actionSlot) s' := by
  refine planned_readsAs ?_ (State.endStore_cfg _ _) hr hp
  have hedge : (s.advance t).edgeUp = true := he
  simp only [State.advance_plan, ha, hedge, Bool.not_true, Bool.false_eq_true, and_false, if_false, if_true]
  rfl

/-- The end of a load. -/
theorem planActionDone_load (he : s.edgeUp = true) (ha : s.plan.action = 3) :
    ∃ s', exec (.planActionDone t) s = .next s' ∧
      ReadsAs (((s.advance t).actionOver.setPlanResult 0).stageImage (s.slotImage s.plan.actionSlot)) s' := by
  refine planned_readsAs ?_ ((State.stageImage_cfg _ _).trans (State.setPlanResult_cfg _ _)) hr hp
  have hedge : (s.advance t).edgeUp = true := he
  simp only [State.advance_plan, ha, hedge, Bool.not_true, Bool.false_eq_true, and_false, if_false, if_true, Nat.reduceEqDiff]
  rfl

/-- The end of an erasure. -/
theorem planActionDone_erase (he : s.edgeUp = true) (ha : s.plan.action = 7) :
    ∃ s', exec (.planActionDone t) s = .next s' ∧
      ReadsAs ((s.advance t).actionOver.endErase s.plan.actionSlot) s' := by
  refine planned_readsAs ?_ ((State.endErase_cfg _ _).trans (State.actionOver_cfg _)) hr hp
  have hedge : (s.advance t).edgeUp = true := he
  simp only [State.advance_plan, ha, hedge, Bool.not_true, Bool.false_eq_true, and_false, if_false, if_true, Nat.reduceEqDiff]
  rfl

/-- Without the edge die a long action fails, and changes RESULT alone. -/
theorem planActionDone_lost (he : s.edgeUp = false) (ha : s.plan.action = 2 ∨ s.plan.action = 3 ∨ s.plan.action = 7) :
    ∃ s', exec (.planActionDone t) s = .next s' ∧ ReadsAs ((s.advance t).actionOver.setPlanResult codeStoreFailed) s' ∧
      Keeps (fun k => k = okey 0 0x4000 5) s s' := by
  have heff : exec (.planActionDone t) s = .next (s.ran t fun s => s.actionOver.setPlanResult codeStoreFailed) := by
    refine (planned_run _ hr hp).trans (congrArg _ (State.ran_congr ?_))
    have hedge : (s.advance t).edgeUp = false := he
    simp only [State.advance_plan, ha, hedge, Bool.not_false, and_true, if_true]
    rfl
  have hkeeps : Keeps (fun k => k = okey 0 0x4000 5) (s.advance t) ((s.advance t).actionOver.setPlanResult codeStoreFailed) :=
    (Keeps.put _ 0x4000 5 codeStoreFailed).after (Keeps.ofEq rfl rfl rfl rfl rfl rfl)
  exact ⟨_, heff, ReadsAs.ran (f := fun s => s.actionOver.setPlanResult codeStoreFailed) rfl hkeeps.cfg,
    Keeps.ran (f := fun s => s.actionOver.setPlanResult codeStoreFailed) hkeeps⟩

end

/-! ## PREPARATION_DONE and READY_EXPIRED (R114) -/

/-- The plan that start-up loads is prepared like any other from here on. -/
def State.afterBoot (s : State) : State := s.withPlan { s.plan with boot := false }

/-- What a preparation that fits leaves: it is announced, and the plan is ready or its swap pending. -/
def State.endPrepare (s : State) (p : Plan) (x : Prepared) (rejoin : Bool) : State :=
  let r := (s.preparedShed p x.shed).checkHomes p
  ((r.withPlan { r.plan with prep := some x, swapAt := if rejoin then some (r.wallNow + 50000000) else none,
                             readyUntil := r.now + 10000000000 }).setPlanState (if r.plan.swapWhenReady then 6 else 5)).setPlanResult 0

theorem KeepsPlan.announced (s : State) (p : Plan) (x : Prepared) : KeepsPlan s ((s.preparedShed p x.shed).checkHomes p) :=
  (KeepsPlan.preparedShed s p _).trans (KeepsPlan.checkHomes _ p)

section
variable (s : State) (p : Plan) (x : Prepared) (rejoin : Bool)

theorem State.endPrepare_cfg : (s.endPrepare p x rejoin).cfg = s.cfg := by
  rw [State.endPrepare, State.setPlanResult_cfg, State.setPlanState_cfg, State.withPlan_cfg, (KeepsPlan.announced s p x).cfg]

theorem State.endPrepare_spec :
    (s.endPrepare p x rejoin).planState = (if s.plan.swapWhenReady then 6 else 5) ∧ (s.endPrepare p x rejoin).get 0x4000 5 = 0 ∧
      (s.endPrepare p x rejoin).plan.prep = some x ∧ (s.endPrepare p x rejoin).plan.readyUntil = s.now + 10000000000 := by
  have hkeeps := KeepsPlan.announced s p x
  refine ⟨?_, ?_, rfl, ?_⟩
  · rw [State.endPrepare, State.planState_setPlanResult, State.planState_setPlanState, hkeeps.plan]
    split <;> rfl
  · rw [State.endPrepare, State.result_setPlanResult, Nat.zero_mod]
  · exact congrArg (· + 10000000000) hkeeps.now

theorem State.abandonSwap_cfg (code : Nat) : (s.abandonSwap code).cfg = s.cfg := by
  rw [State.abandonSwap, State.planFlag_cfg, State.setPlanResult_cfg, State.setPlanState_cfg, State.dropPrep_cfg]

/-- A preparation or a swap that ends leaves the plan valid, with its code and flag 3. -/
theorem State.abandonSwap_spec {code : Nat} (hcode : code < 2 ^ 64) :
    (s.abandonSwap code).planState = 3 ∧ (s.abandonSwap code).get 0x4000 5 = code ∧
      (s.abandonSwap code).flag (okey 0 0x4008 0) 3 = true ∧
      (s.abandonSwap code).plan = { s.plan with prep := none, swapAt := none } := by
  refine ⟨?_, ?_, State.flag_planFlag _ _ (by decide), ?_⟩
  · rw [State.abandonSwap, State.planState_planFlag, State.planState_setPlanResult, State.planState_setPlanState,
      Nat.mod_eq_of_lt (by decide)]
  · rw [State.abandonSwap, State.result_planFlag, State.result_setPlanResult, Nat.mod_eq_of_lt hcode]
  · rw [State.abandonSwap, State.planFlag_plan, State.setPlanResult_plan, State.setPlanState_plan, State.dropPrep_plan]

/-- A ready plan whose time is over. -/
def State.expireReady : State := (s.dropPrep.setPlanState 3).raise 0x4008 0 4 sevNotice 0 []

theorem State.expireReady_cfg : s.expireReady.cfg = s.cfg := by
  rw [State.expireReady, State.raise_cfg, State.setPlanState_cfg, State.dropPrep_cfg]

theorem State.expireReady_plan : s.expireReady.plan = { s.plan with prep := none, swapAt := none } := by
  rw [State.expireReady, State.raise_plan, State.setPlanState_plan, State.dropPrep_plan]

theorem State.expireReady_planState : s.expireReady.planState = 3 := by
  rw [State.expireReady, State.planState, State.get_raise_ne _ _ _ _ _ _ _ (by decide) (not_evKey_okey (by decide) (by decide) (by decide))]
  exact (State.planState_setPlanState _ 3).trans (Nat.mod_eq_of_lt (by decide))

theorem State.expireReady_flag : s.expireReady.flag (okey 0 0x4008 0) 4 = true :=
  State.flag_raise _ 0x4008 0 4 sevNotice 0 [] (by decide) (not_evKey_okey (by decide) (by decide) (by decide))

end

section
variable {t : Nat} {s : State} (hr : s.inReset = false) (hp : s.planRuns = true)
include hr hp

section
variable {p : Plan} (hvalid : s.plan.valid = some p) (hstate : s.planState = 4)
include hvalid hstate

/-- A preparation that does not fit. -/
theorem preparationDone_none (h : (s.advance t).afterBoot.prepare p false = none) :
    ∃ s', exec (.preparationDone t) s = .next s' ∧ ReadsAs ((s.advance t).afterBoot.abandonSwap codePlanCapacity) s' := by
  refine planned_readsAs ?_ (State.abandonSwap_cfg _ _) hr hp
  split
  · next hnone => rw [State.advance_plan, hvalid] at hnone; cases hnone
  · next p' hp' =>
    obtain rfl : p = p' := Option.some.inj (hvalid.symm.trans hp')
    rw [if_neg (by simp [hstate])]
    extract_lets rejoin x s1
    have hs1 : s1 = (s.advance t).afterBoot := rfl
    split
    · rfl
    · next u y hy => rw [hs1, h] at hy; cases hy

/-- A preparation that fits. -/
theorem preparationDone_some {u : State} {x : Prepared} (h : (s.advance t).afterBoot.prepare p false = some (u, x)) :
    ∃ rejoin s', exec (.preparationDone t) s = .next s' ∧ ReadsAs (u.endPrepare p x rejoin) s' := by
  have hcfg : (u.endPrepare p x ((s.advance t).plan.boot && (s.advance t).wallMember && (s.advance t).get 0x9060 3 == 1)).cfg = s.cfg :=
    (u.endPrepare_cfg p x _).trans (KeepsPlan.prepare h).cfg
  refine ⟨_, planned_readsAs ?_ hcfg hr hp⟩
  split
  · next hnone => rw [State.advance_plan, hvalid] at hnone; cases hnone
  · next p' hp' =>
    obtain rfl : p = p' := Option.some.inj (hvalid.symm.trans hp')
    rw [if_neg (by simp [hstate])]
    extract_lets rejoin x s1
    have hs1 : s1 = (s.advance t).afterBoot := rfl
    split
    · next hnone => rw [hs1, h] at hnone; cases hnone
    · next v y hy =>
      rw [hs1, h] at hy
      obtain ⟨rfl, rfl⟩ := Prod.mk.inj (Option.some.inj hy)
      rfl

end

/-- A ready plan whose time is over is dropped. -/
theorem readyExpired_due (hstate : s.planState = 5) (hdue : s.plan.readyUntil ≤ max s.now t) :
    ∃ s', exec (.readyExpired t) s = .next s' ∧ ReadsAs (s.advance t).expireReady s' := by
  refine planned_readsAs ?_ (State.expireReady_cfg _) hr hp
  rw [if_pos (by simp [hstate, hdue])]
  rfl

end

/-! ## The early plan (R453, R454) -/

@[simp] theorem State.earlyPlan_advance (s : State) (t : Nat) (m : List Byte) (ok : Bool) :
    (s.advance t).earlyPlan m ok = s.earlyPlan m ok := by
  unfold State.earlyPlan
  rw [State.planFault_advance, State.planVerify_advance, State.markhorUp_advance, State.selfNode_advance]

@[simp] theorem State.plannerUp_advance (s : State) (t : Nat) : (s.advance t).plannerUp = s.plannerUp := rfl

section
variable {t : Nat} {ok : Bool} {s : State} (hup : s.plannerUp = true) (hactive : s.plan.active = none)
  (hdram : s.get 0x9030 5 = 0) (hslot : s.get 0x4000 8 < 4) (himage : s.slotImage (s.get 0x4000 8) ≠ [])
include hup hactive hdram hslot himage

/-- The image of EARLY_SLOT is looked at when the planner runs without a plan and DRAM is not ready. -/
theorem State.earlyPlan_due : (!(s.advance t).plannerUp || (s.advance t).plan.active.isSome || (s.advance t).get 0x9030 5 != 0 ||
    decide (4 ≤ (s.advance t).get 0x4000 8) || ((s.advance t).slotImage ((s.advance t).get 0x4000 8)).isEmpty) = false := by
  simp [hup, hactive, hdram, Nat.not_le.mpr hslot, himage]

variable (hr : s.inReset = false)
include hr

/-- An early plan that validates and fits is swapped in. -/
theorem earlyPlanLoaded_some {p : Plan} {l : List FieldClamp} {u : State} {x : Prepared}
    (hplan : s.earlyPlan (s.slotImage (s.get 0x4000 8)) ok = some (p, l))
    (hprep : ((s.advance t).reportClamps l).stageEarly.bind (fun y => y.prepare p true) = some (u, x)) :
    exec (.earlyPlanLoaded t ok) s = .next (s.ran t fun _ =>
      let v := u.preparedShed p x.shed
      ({ v with plan := { u.plan with earlyImage := s.slotImage (s.get 0x4000 8) } }).runEpoch (fun y => y.swapPlan p x true)) := by
  refine (at_run t s _ hr).trans (congrArg _ (State.ran_congr ?_))
  have hdue := State.earlyPlan_due (t := t) hup hactive hdram hslot himage
  refine (if_neg (by rw [hdue]; decide)).trans ?_
  split
  · next hnone => rw [State.earlyPlan_advance, State.slotImage_advance, State.get_advance, hplan] at hnone; cases hnone
  · next p' l' hpl =>
    rw [State.earlyPlan_advance, State.slotImage_advance, State.get_advance, hplan] at hpl
    obtain ⟨rfl, rfl⟩ := Prod.mk.inj (Option.some.inj hpl)
    extract_lets s1 y z
    have hs1 : s1 = (s.advance t).reportClamps l := rfl
    split
    · next hnone => rw [hs1, hprep] at hnone; cases hnone
    · next u' x' hux =>
      rw [hs1, hprep] at hux
      obtain ⟨rfl, rfl⟩ := Prod.mk.inj (Option.some.inj hux)
      rfl

/-- An image of EARLY_SLOT that does not validate. -/
theorem earlyPlanLoaded_none (hplan : s.earlyPlan (s.slotImage (s.get 0x4000 8)) ok = none) :
    ∃ s', exec (.earlyPlanLoaded t ok) s = .next s' ∧ ReadsAs (((s.advance t).fieldReport []).planFlag 0) s' := by
  refine at_readsAs ?_ ((State.planFlag_cfg _ _).trans (Aside.fieldReport _ _).cfg) hr
  have hdue := State.earlyPlan_due (t := t) hup hactive hdram hslot himage
  refine (if_neg (by rw [hdue]; decide)).trans ?_
  split
  · rfl
  · next p l hpl => rw [State.earlyPlan_advance, State.slotImage_advance, State.get_advance, hplan] at hpl; cases hpl

end

/-! ## Staging from host memory (R112) -/

/-- A GO that is taken puts LENGTH bytes of host memory into the staging area. -/
theorem planDmaGo_taken {t : Nat} {ini : Ini} {v w : Word} {data : List Byte} {s : State} (hr : s.inReset = false)
    (ht : s.takes ⟨ini, 0, 0x4002, 3, v⟩ w) (hn : s.stageRefusal = none) :
    ∃ o s', exec (.planDmaGo t ini v data) s = .next s' ∧
      ReadsAs (((s.advance t).took ⟨ini, 0, 0x4002, 3, v⟩ o w).stageImage (bytesAt data 0 (s.get 0x4002 2))) s' := by
  obtain ⟨o, -, hw⟩ := State.takes_writeAt (fun s _ => s.stageRefusal) (fun s _ => s.dmaRead data) ht t hn
  have hlength : ((s.advance t).took ⟨ini, 0, 0x4002, 3, v⟩ o w).get 0x4002 2 = s.get 0x4002 2 :=
    State.get_took _ ini 0 0x4002 3 v o w (.inl (by decide)) (by decide) (by decide) (by decide) (by decide) (.inr (by decide))
  rw [State.dmaRead, hlength] at hw
  exact ⟨o, at_readsAs hw ((State.stageImage_cfg _ _).trans (State.took_cfg _ _ _ _)) hr⟩

/-- Settles O10: by what each command leaves of the plan handling, in every case of a validation, of a long action, of a
preparation and of the early plan. -/
theorem plansAreValidatedAndPrepared : Obligations.PlansAreValidatedAndPrepared := by
  unfold Obligations.PlansAreValidatedAndPrepared
  refine ⟨?_, ?_, ?_, ?_, ?_, ?_, ?_, ?_, ?_, ?_, ?_, ?_, ?_⟩
  · intro t ini v w data s hr ht hn
    obtain ⟨o, s', hs, h⟩ := planDmaGo_taken (data := data) hr ht hn
    refine ⟨s', hs, h.planState.trans (State.planState_stageImage _ _), h.stagedImage.trans (State.stagedImage_stageImage _ _), ?_⟩
    rw [h.plan, State.stageImage_plan]
  · intro t ok code off s hr hp hstate hcode hoff hlock hf
    obtain ⟨s', hs, h⟩ := planValidated_fault (t := t) (ok := ok) hr hp hstate hlock hf
    obtain ⟨hst, hres, hat, hflag, hvalid⟩ := (s.advance t).inValidation.rejectPlan_spec hcode hoff
    exact ⟨s', hs, h.planState.trans hst, (h.get _ _).trans hres, (h.get _ _).trans hat, (h.flag _ _).trans hflag, by rw [h.plan, hvalid]⟩
  · intro t ok code s hr hp hstate hcode hlock hf hup hslot hv
    obtain ⟨s', hs, h⟩ := planValidated_unverified (t := t) hr hp hstate hlock hf hup hslot hv
    obtain ⟨hst, hres, hat, hflag, hvalid⟩ := (s.advance t).inValidation.rejectPlan_spec hcode (off := 0) (by decide)
    exact ⟨s', hs, h.planState.trans hst, (h.get _ _).trans hres, (h.get _ _).trans hat, (h.flag _ _).trans hflag, by rw [h.plan, hvalid]⟩
  · intro t ok s hr hp hstate hf hup hlock hslot hv hboot
    obtain ⟨s', hs, h⟩ := planValidated_valid (t := t) hr hp hstate hlock hf hup hslot hv hboot
    obtain ⟨hst, hres, hat, hcount⟩ := (s.advance t).inValidation.takeValid_spec (readPlan s.stagedImage s.selfNode).fieldStage.1
      (readPlan s.stagedImage s.selfNode).fieldStage.2
    refine ⟨s', hs, h.planState.trans hst, (h.get _ _).trans hres, (h.get _ _).trans hat, ?_, (h.regs _).trans hcount⟩
    rw [h.plan, State.takeValid_plan]
  · intro t s hr hp he ha hk
    obtain ⟨s', hs, h⟩ := planActionDone_store (t := t) hr hp he ha
    obtain ⟨himage, hcount, hst, hres, hflag⟩ := (s.advance t).actionOver.endStore_spec s.plan.actionSlot hk
    refine ⟨s', hs, ?_, (h.slotImage _).trans himage, (h.get _ _).trans hcount, h.planState.trans hst, (h.get _ _).trans hres,
      (h.flag _ _).trans hflag⟩
    rw [h.plan, State.endStore_plan, State.actionOver_plan]
  · intro t s hr hp he ha
    obtain ⟨s', hs, h⟩ := planActionDone_load (t := t) hr hp he ha
    refine ⟨s', hs, ?_, h.stagedImage.trans (State.stagedImage_stageImage _ _), h.planState.trans (State.planState_stageImage _ _), ?_⟩
    · rw [h.plan, State.stageImage_plan, State.setPlanResult_plan, State.actionOver_plan]
    · rw [h.get, State.result_stageImage, State.result_setPlanResult, Nat.zero_mod]
  · intro t s hr hp he ha hk
    obtain ⟨s', hs, h⟩ := planActionDone_erase (t := t) hr hp he ha
    obtain ⟨himage, hlength, hres, hst⟩ := (s.advance t).actionOver.endErase_spec s.plan.actionSlot hk
    refine ⟨s', hs, ?_, (h.slotImage _).trans himage, (h.get _ _).trans hlength, (h.get _ _).trans hres, h.planState.trans hst⟩
    rw [h.plan, State.endErase_plan, State.actionOver_plan]
  · intro t s hr hp he ha
    obtain ⟨s', hs, h, hkeeps⟩ := planActionDone_lost (t := t) hr hp he ha
    have hplan := h.plan.trans ((State.setPlanResult_plan _ _).trans (State.actionOver_plan _))
    refine ⟨s', hs, by rw [hplan], ?_, by rw [hplan]; rfl, ?_, hkeeps⟩
    · rw [h.get, State.result_setPlanResult, Nat.mod_eq_of_lt (by decide)]
    · rw [h.stagedImage, State.stagedImage_setPlanResult, State.stagedImage_actionOver, State.stagedImage_advance]
  · intro t p s hr hp hvalid hstate h
    obtain ⟨s', hs, h⟩ := preparationDone_none hr hp hvalid hstate h
    obtain ⟨hst, hres, hflag, hplan⟩ := (s.advance t).afterBoot.abandonSwap_spec (code := codePlanCapacity) (by decide)
    refine ⟨s', hs, h.planState.trans hst, (h.get _ _).trans hres, (h.flag _ _).trans hflag, ?_, ?_⟩
    · rw [h.plan, hplan]
    · rw [h.plan, hplan]
      exact hvalid
  · intro t p u x s hr hp hvalid hstate hprep
    obtain ⟨rejoin, s', hs, h⟩ := preparationDone_some hr hp hvalid hstate hprep
    obtain ⟨hst, hres, hx, huntil⟩ := u.endPrepare_spec p x rejoin
    have hkeeps := KeepsPlan.prepare hprep
    refine ⟨s', hs, ?_, (h.get _ _).trans hres, by rw [h.plan, hx], ?_⟩
    · rw [h.planState, hst, hkeeps.plan]
      rfl
    · rw [h.plan, huntil, hkeeps.now]
      rfl
  · intro t s hr hp hstate hdue
    obtain ⟨s', hs, h⟩ := readyExpired_due hr hp hstate hdue
    refine ⟨s', hs, h.planState.trans (State.expireReady_planState _), (h.flag _ _).trans (State.expireReady_flag _), ?_, ?_⟩
    · rw [h.plan, State.expireReady_plan]
    · rw [h.plan, State.expireReady_plan]
      rfl
  · intro t ok p l u x s hr hup hactive hdram hslot himage hplan hprep
    exact earlyPlanLoaded_some hup hactive hdram hslot himage hr hplan hprep
  · intro t ok s hr hup hactive hdram hslot himage hplan
    obtain ⟨s', hs, h⟩ := earlyPlanLoaded_none (t := t) hup hactive hdram hslot himage hr hplan
    refine ⟨s', hs, ?_, ?_, ?_⟩
    · exact (h.flag _ _).trans (State.flag_planFlag _ _ (by decide))
    · rw [h.plan, State.planFlag_plan, (Aside.fieldReport _ _).plan, State.advance_plan]
    · rw [h.get, State.get, State.getK_planFlag_ne _ _ _ (by decide), State.getK_fieldReport_count]
      rfl

end Sys2Proof.Machine

/-!
SUPPORT. Proofs of the statements about composition (chapter 06): batches, tiles, writeback and deadlines, with the rules about
frame stores and engines on which they rest.
-/
namespace Sys2Proof.Machine

/-! ## Frame stores and engines -/

theorem nth_setNth_same {α : Type} (d v : α) (l : List α) (n : Nat) : nth d (setNth d l n v) n = v := by
  induction n generalizing l with
  | zero => cases l <;> rfl
  | succ n ih =>
    cases l with
    | nil => exact ih []
    | cons x r => exact ih r

@[simp] theorem FStore.tile_setTile (x : FStore) (n : Nat) (f : FTile) : (x.setTile n f).tile n = f := nth_setNth_same _ _ _ _

theorem Plan.headOf_head {p : Plan} {n : Nat} {h : PlanHead} (hh : p.headOf n = some h) : h.head = n := by
  simpa using List.find?_some hh

theorem State.store_head {s : State} {n : Nat} {x : FStore} (hs : s.store n = some x) : x.head = n := by
  simpa using List.find?_some hs

/-- A frame store reads as it was put, under the number of its head. -/
theorem State.store_putStore (s : State) {x : FStore} {n : Nat} (hx : x.head = n) : (s.putStore x).store n = some x := by
  subst hx
  simp [State.store, State.putStore]

@[simp] theorem State.engine_engine (s : State) (e : Nat) : (s.engine e).engine = e := by
  unfold State.engine
  cases h : s.comp.engines.find? (fun x => x.engine == e) with
  | none => rfl
  | some x => simpa using List.find?_some h

/-- An engine reads as it was put, under its number. -/
theorem State.engine_putEngine (s : State) {x : Engine} {e : Nat} (hx : x.engine = e) : (s.putEngine x).engine e = x := by
  subst hx
  simp [State.engine, State.putEngine]

theorem State.store_congr {s s' : State} (h : s'.comp.stores = s.comp.stores) (n : Nat) : s'.store n = s.store n := by
  simp only [State.store, h]

theorem State.engine_congr {s s' : State} (h : s'.comp.engines = s.comp.engines) (e : Nat) : s'.engine e = s.engine e := by
  simp only [State.engine, h]

@[simp] theorem State.engine_advance (s : State) (t e : Nat) : (s.advance t).engine e = s.engine e := rfl
@[simp] theorem State.store_putEngine (s : State) (x : Engine) (n : Nat) : (s.putEngine x).store n = s.store n := rfl
@[simp] theorem State.putStore_cfg (s : State) (x : FStore) : (s.putStore x).cfg = s.cfg := rfl
@[simp] theorem State.putEngine_cfg (s : State) (x : Engine) : (s.putEngine x).cfg = s.cfg := rfl

theorem Keeps.putStore {P : Nat → Prop} (s : State) (x : FStore) : Keeps P s (s.putStore x) := Keeps.ofEq rfl rfl rfl rfl rfl rfl
theorem Keeps.putEngine {P : Nat → Prop} (s : State) (x : Engine) : Keeps P s (s.putEngine x) := Keeps.ofEq rfl rfl rfl rfl rfl rfl

@[simp] theorem State.bump64_cfg (s : State) (i u n : Nat) : (s.bump64 i u n).cfg = s.cfg := (Aside.bump64 s i u n).cfg

@[simp] theorem State.store_bump64 (s : State) (i u n k : Nat) : (s.bump64 i u n).store k = s.store k :=
  State.store_congr (by rw [State.bump64_comp]) k

@[simp] theorem State.engine_bump64 (s : State) (i u n e : Nat) : (s.bump64 i u n).engine e = s.engine e :=
  State.engine_congr (by rw [State.bump64_comp]) e

theorem State.get_bump64_same (s : State) (i u n : Nat) : (s.bump64 i u n).get i u = min (s.get i u + n) (2 ^ 64 - 1) :=
  s.getB_bumpW_same 64 0 i u n (by decide)

theorem State.get_bump64_ne (s : State) {i u j w : Nat} (n : Nat) (h : okey 0 j w ≠ okey 0 i u) :
    (s.bump64 i u n).get j w = s.get j w := s.getB_putB_ne h _

/-! ## What a command leaves of composition -/

/-- The second state has the frame stores and engines of the first, and reads like it in every object and byte. -/
structure ComposesAs (e s' : State) : Prop where
  comp : s'.comp = e.comp
  keeps : ∀ P, Keeps P e s'

section
variable {e s' : State} (h : ComposesAs e s')
include h

theorem ComposesAs.store (n : Nat) : s'.store n = e.store n := State.store_congr (by rw [h.comp]) n

theorem ComposesAs.engine (n : Nat) : s'.engine n = e.engine n := State.engine_congr (by rw [h.comp]) n

theorem ComposesAs.getK (k : Nat) : s'.getK k = e.getK k := (h.keeps fun _ => False).regs k not_false

theorem ComposesAs.get (i u : Nat) : s'.get i u = e.get i u := by simp only [State.get, h.getK]

end

section
variable {s e : State} {t : Nat} {f : State → State} (he : f (s.advance t) = e) (hcfg : e.cfg = s.cfg) (hr : s.inReset = false)
include he hcfg hr

theorem at_composesAs : ∃ s', at_ t s f = .next s' ∧ ComposesAs e s' := by
  subst he
  exact ⟨_, at_run t s f hr, rfl, fun P => Keeps.ofEq hcfg.symm rfl rfl rfl rfl rfl⟩

/-- A command of a composer has its effect while the composers' PLL has its lock. -/
theorem clocked_composesAs {pll : Nat} (hl : s.noLock pll = false) : ∃ s', clocked t pll s f = .next s' ∧ ComposesAs e s' :=
  at_composesAs ((if_neg (by rw [show (s.advance t).noLock pll = false from hl]; decide)).trans he) hcfg hr

end

/-! ## The start of a batch (R143) -/

/-- The deadline of a batch at the instant of a command. -/
theorem State.pastDeadline_advance (s : State) (t : Nat) (p : Plan) (b : PlanBatch) :
    (s.advance t).pastDeadline p b = decide (s.slotStart p (b.endSlot + 1) ≤ max s.now t) := rfl

/-- An engine begins a batch. -/
def State.beginBatch (s : State) (e batch : Nat) : State :=
  s.putEngine { s.engine e with batch := some batch, next := 0, waits := [], stuck := false, frame := s.epoch }

theorem State.engine_beginBatch (s : State) (e batch : Nat) :
    (s.beginBatch e batch).engine e =
      { s.engine e with batch := some batch, next := 0, waits := [], stuck := false, frame := s.epoch } :=
  State.engine_putEngine _ (s.engine_engine e)

theorem State.beginBatch_cfg (s : State) (e batch : Nat) : (s.beginBatch e batch).cfg = s.cfg := rfl

theorem Keeps.beginBatch {P : Nat → Prop} (s : State) (e batch : Nat) : Keeps P s (s.beginBatch e batch) := Keeps.putEngine _ _

section
variable {t batch : Nat} {p : Plan} {b : PlanBatch} {s : State} (hr : s.inReset = false) (hl : s.noLock 3 = false)
  (hp : s.plan.active = some p) (hb : p.batches[batch]? = some b)
include hr hl hp hb

theorem exec_batchStart (hcount : s.engineOf b < s.cfg.engines) (husable : s.get (0x4080 + s.engineOf b) 1 = 0)
    (hfree : (s.engine (s.engineOf b)).batch = none) (hflight : (s.engine (s.engineOf b)).flight = [])
    (hlayout : b.layout = s.layoutOf b.head) (hslot : s.slotStart p b.startSlot ≤ max s.now t)
    (hdue : max s.now t < s.slotStart p (b.endSlot + 1)) (hran : batch ∉ s.comp.ran) (hturn : (s.advance t).batchTurn p b = true) :
    ∃ s', exec (.batchStart t batch) s = .next s' ∧ ComposesAs ((s.advance t).beginBatch (s.engineOf b) batch) s' := by
  refine clocked_composesAs (s := s) ?_ (State.beginBatch_cfg (s.advance t) _ _) hr hl
  have hpast : (s.advance t).pastDeadline p b = false := by
    rw [State.pastDeadline_advance]
    exact decide_eq_false (by omega)
  have hp' : (s.advance t).plan.active = some p := hp
  have hfree' : ((s.advance t).engine ((s.advance t).engineOf b)).batch.isNone = true := by
    rw [show ((s.advance t).engine ((s.advance t).engineOf b)).batch = none from hfree]
    rfl
  have hflight' : ((s.advance t).engine ((s.advance t).engineOf b)).flight.isEmpty = true := by
    rw [show ((s.advance t).engine ((s.advance t).engineOf b)).flight = [] from hflight]
    rfl
  simp only [hp', hb]
  exact if_pos ⟨hcount, husable, hfree', hflight', hlayout, hslot, by rw [hpast]; decide, hran, hturn⟩

end

/-! ## The end of a batch -/

/-- A batch that ends leaves the stores, the tiles in flight and every object alone. -/
theorem State.endBatch_spec (s : State) (e : Nat) :
    ((s.endBatch e).engine e).flight = (s.engine e).flight ∧ (s.endBatch e).comp.stores = s.comp.stores ∧
      ∀ P, Keeps P s (s.endBatch e) := by
  unfold State.endBatch
  dsimp only
  split
  · split
    · refine ⟨?_, rfl, fun P => Keeps.ofEq rfl rfl rfl rfl rfl rfl⟩
      rw [State.engine_putEngine]
      exact s.engine_engine e
    · exact ⟨rfl, rfl, fun P => Keeps.refl P s⟩
  · exact ⟨rfl, rfl, fun P => Keeps.refl P s⟩

/-! ## The turn of a tile (R144, R164, R184) -/

/-- A tile whose current content is that of frame `n`. -/
def FTile.shownIn (f : FTile) (n : Nat) : FTile := if f.cur then { f with frame1 := n } else { f with frame0 := n }

@[simp] theorem FTile.shownIn_pend (f : FTile) (n : Nat) : (f.shownIn n).pend = f.pend := by
  unfold FTile.shownIn
  split <;> rfl

/-- A clean tile is passed over. -/
def State.passClean (s : State) (e n : Nat) (x : FStore) : State :=
  let en := s.engine e
  ((s.putStore (x.setTile n ((x.tile n).shownIn s.epoch))).putEngine
    { en with next := en.next + 1, waits := [], busy := en.busy + 16 }).bump64 (0x4080 + e) 3 1

/-- The clone heads that read the copy to which a tile would be written. -/
def State.readingClones (s : State) (p : Plan) (h : PlanHead) (x : FStore) (n : Nat) : List Nat :=
  ((p.clonesOf h.head).filter (fun c => s.cloneReading h c n (!(x.tile n).cur))).map (fun c => c.head)

/-- An engine waits for clone heads. -/
def State.waitFor (s : State) (e : Nat) (l : List Nat) : State :=
  let en := s.engine e
  let new := l.filter (fun c => !en.waits.contains c)
  foldS (fun s c => (s.bump (0x5003 + c * 0x40) 10).setFlag (okey 0 (0x5002 + c * 0x40) 0) 5)
    (s.putEngine { en with waits := en.waits ++ new }) new

/-- What TILE_START does with the next tile of the batch that an engine runs. -/
def State.tileTurn (s : State) (p : Plan) (e : Nat) (b : PlanBatch) (h : PlanHead) (x : FStore) (ecc : List Nat) : State :=
  let n := b.firstTile + (s.engine e).next
  if s.isClean p h (s.dirEntry p h n) n (x.tile n) then (s.passClean e n x).endBatch e
  else if (s.readingClones p h x n).isEmpty then
    (foldS (fun s c => s.cloneTurn p h n (!(x.tile n).cur) c) s (p.clonesOf h.head)).composeNow p e h n x b.sub ecc
  else s.waitFor e (s.readingClones p h x n)

section
variable {t engine k : Nat} {p : Plan} {b : PlanBatch} {h : PlanHead} {x : FStore} {s : State} (hr : s.inReset = false)
  (hl : s.noLock 3 = false) (hp : s.plan.active = some p) (hk : (s.engine engine).batch = some k) (hb : p.batches[k]? = some b)
  (hh : p.headOf b.head = some h) (hx : s.store b.head = some x) (husable : s.get (0x4080 + engine) 1 = 0)
  (hstuck : (s.engine engine).stuck = false) (hdue : max s.now t < s.slotStart p (b.endSlot + 1))
  (hnext : (s.engine engine).next < b.tiles) (hroom : (s.engine engine).flight.length < 4)
include hr hl hp hk hb hh hx husable hstuck hdue hnext hroom

/-- An engine with room that runs a batch before its deadline turns to the next tile. -/
theorem exec_tileStart (ecc : List Nat) (hcfg : ((s.advance t).tileTurn p engine b h x ecc).cfg = s.cfg) :
    ∃ s', exec (.tileStart t engine ecc) s = .next s' ∧ ComposesAs ((s.advance t).tileTurn p engine b h x ecc) s' := by
  refine clocked_composesAs ?_ hcfg hr hl
  have hpast : (s.advance t).pastDeadline p b = false := by
    rw [State.pastDeadline_advance]
    exact decide_eq_false (by omega)
  extract_lets en
  split
  · next p' k' hp' hk' =>
    obtain rfl : p = p' := Option.some.inj (hp.symm.trans hp')
    obtain rfl : k = k' := Option.some.inj (hk.symm.trans hk')
    split
    · next hnone => cases hb.symm.trans hnone
    · next b' hb' =>
      obtain rfl : b = b' := Option.some.inj (hb.symm.trans hb')
      split
      · next h' x' hh' hx' =>
        obtain rfl : h = h' := Option.some.inj (hh.symm.trans hh')
        obtain rfl : x = x' := Option.some.inj (hx.symm.trans hx')
        refine if_neg ?_
        have hstuck' : en.stuck = false := hstuck
        have hnext' : en.next < b.tiles := hnext
        have hroom' : en.flight.length < 4 := hroom
        simp [husable, hpast, hstuck', hnext', hroom']
      · next hno => exact absurd hx (hno h x hh)
  · next hno => exact absurd hk (hno p k hp)

end

/-! ### A clean tile -/

theorem State.tileTurn_clean {s : State} {p : Plan} {e : Nat} {b : PlanBatch} {h : PlanHead} {x : FStore} (ecc : List Nat)
    (hc : s.isClean p h (s.dirEntry p h (b.firstTile + (s.engine e).next)) (b.firstTile + (s.engine e).next)
      (x.tile (b.firstTile + (s.engine e).next)) = true) :
    s.tileTurn p e b h x ecc = (s.passClean e (b.firstTile + (s.engine e).next) x).endBatch e := if_pos hc

theorem State.engine_passClean (s : State) (e n : Nat) (x : FStore) : (s.passClean e n x).engine e =
    { s.engine e with next := (s.engine e).next + 1, waits := [], busy := (s.engine e).busy + 16 } := by
  unfold State.passClean
  rw [State.engine_bump64]
  exact State.engine_putEngine _ (s.engine_engine e)

theorem State.store_passClean (s : State) (e n : Nat) {x : FStore} {k : Nat} (hx : x.head = k) :
    (s.passClean e n x).store k = some (x.setTile n ((x.tile n).shownIn s.epoch)) := by
  unfold State.passClean
  rw [State.store_bump64, State.store_putEngine]
  exact State.store_putStore _ hx

theorem State.get_passClean (s : State) (e n : Nat) (x : FStore) :
    (s.passClean e n x).get (0x4080 + e) 3 = min (s.get (0x4080 + e) 3 + 1) (2 ^ 64 - 1) := by
  unfold State.passClean
  rw [State.get_bump64_same]
  rfl

theorem Keeps.passClean (s : State) (e n : Nat) (x : FStore) :
    Keeps (fun j => j = okey 0 (0x4080 + e) 3) s (s.passClean e n x) :=
  ((Keeps.putStore s _).trans (Keeps.putEngine _ _)).trans (Keeps.bump64 _ _ _ _)

/-! ### A wait for clone heads -/

theorem State.tileTurn_waits {s : State} {p : Plan} {e : Nat} {b : PlanBatch} {h : PlanHead} {x : FStore} (ecc : List Nat)
    (hc : s.isClean p h (s.dirEntry p h (b.firstTile + (s.engine e).next)) (b.firstTile + (s.engine e).next)
      (x.tile (b.firstTile + (s.engine e).next)) = false)
    (hw : s.readingClones p h x (b.firstTile + (s.engine e).next) ≠ []) :
    s.tileTurn p e b h x ecc = s.waitFor e (s.readingClones p h x (b.firstTile + (s.engine e).next)) :=
  (if_neg (by rw [hc]; decide)).trans (if_neg (by rw [List.isEmpty_iff]; exact hw))

theorem Aside.waitCounts (s : State) (l : List Nat) :
    Aside s (foldS (fun s c => (s.bump (0x5003 + c * 0x40) 10).setFlag (okey 0 (0x5002 + c * 0x40) 0) 5) s l) :=
  Aside.fold l (fun s _ => (Aside.bump s _ _).trans (Aside.setFlag _ _ _)) s

/-- A wait changes of composition the list of the waits alone. -/
theorem State.waitFor_comp (s : State) (e : Nat) (l : List Nat) : (s.waitFor e l).comp =
    (s.putEngine { s.engine e with
      waits := (s.engine e).waits ++ l.filter (fun c => !(s.engine e).waits.contains c) }).comp := (Aside.waitCounts _ _).comp

theorem State.waitFor_cfg (s : State) (e : Nat) (l : List Nat) : (s.waitFor e l).cfg = s.cfg := (Aside.waitCounts _ _).cfg

theorem State.engine_waitFor (s : State) (e : Nat) (l : List Nat) : (s.waitFor e l).engine e =
    { s.engine e with waits := (s.engine e).waits ++ l.filter (fun c => !(s.engine e).waits.contains c) } :=
  (State.engine_congr (by rw [s.waitFor_comp]) e).trans (State.engine_putEngine _ (s.engine_engine e))

/-- Every head that is waited for is named. -/
theorem State.mem_waitFor (s : State) (e : Nat) {l : List Nat} {c : Nat} (hc : c ∈ l) : c ∈ ((s.waitFor e l).engine e).waits := by
  rw [State.engine_waitFor, List.mem_append, List.mem_filter]
  by_cases hw : c ∈ (s.engine e).waits
  · exact .inl hw
  · exact .inr ⟨hc, by simpa using hw⟩

/-! ### An access to a surface (R130, R331) -/

/-- The banks of the tile store that an access touches show their state, at sub-index 1. -/
theorem Keeps.touchTs (s : State) (a n : Nat) : Keeps (fun k => keySub k = 1) s (s.touchTs a n) := by
  unfold State.touchTs
  split
  · refine Keeps.fold _ (fun s b _ => ?_) s
    have hstate : Keeps (fun k => keySub k = 1) s (if s.get (0x30A0 + b) 1 = 3 then s else s.put (0x30A0 + b) 1 1) := by
      split
      · exact Keeps.refl _ s
      · exact (Keeps.put s _ 1 1).mono (fun _ hk => hk ▸ keySub_okey 0 _ (by decide))
    exact hstate.trans (Keeps.ofEq rfl rfl rfl rfl rfl rfl)
  · exact Keeps.refl _ s

theorem State.touchTs_comp (s : State) (a n : Nat) : (s.touchTs a n).comp = s.comp := by
  unfold State.touchTs
  split
  · refine foldS_proj State.comp (fun s b => ?_) _ s
    unfold State.touchBank
    dsimp only
    split <;> rfl
  · rfl

theorem Keeps.heat (s : State) (id off n : Nat) : Keeps (fun k => keySub k = 1) s (s.heat id off n) := by
  have htouch : Keeps (fun k => keySub k = 1) s
      ((s.surf id).elim s (fun f => if f.loc = 0 ∧ !f.homeless then s.touchTs (f.addr + off) n else s)) := by
    cases s.surf id with
    | none => exact Keeps.refl _ s
    | some f =>
      dsimp only [Option.elim]
      split
      · exact Keeps.touchTs s _ n
      · exact Keeps.refl _ s
  exact htouch.trans (Keeps.ofEq rfl rfl rfl rfl rfl rfl)

theorem State.heat_comp (s : State) (id off n : Nat) : (s.heat id off n).comp = s.comp := by
  show ((s.surf id).elim s (fun f => if f.loc = 0 ∧ !f.homeless then s.touchTs (f.addr + off) n else s)).comp = s.comp
  cases s.surf id with
  | none => rfl
  | some f =>
    dsimp only [Option.elim]
    split
    · exact s.touchTs_comp _ n
    · rfl

/-! ### The composition of a tile -/

/-- What the read of a layer's sources may write: objects of every sub-index but 2, the event range, and the objects below 0x4000,
among which are those of memory. The counts of tiles of the engines (0x4080 + e:02) are none of these. -/
def sourceKey (k : Nat) : Prop := keySub k ≠ 2 ∨ evKey k ∨ keyIdx k < 0x4000

theorem sourceKey_okey (b i : Nat) {u : Nat} (hu : u < 256) (h : u ≠ 2) : sourceKey (okey b i u) :=
  .inl (by rw [keySub_okey b i hu]; exact h)

/-- What the read of sources leaves: composition, memory, and every object that it may not write. -/
structure ReadsSources (s s' : State) : Prop where
  comp : s'.comp = s.comp
  keeps : Keeps sourceKey s s'

namespace ReadsSources

theorem refl (s : State) : ReadsSources s s := ⟨rfl, Keeps.refl _ s⟩

theorem trans {a b c : State} (h : ReadsSources a b) (h' : ReadsSources b c) : ReadsSources a c :=
  ⟨h'.comp.trans h.comp, h.keeps.trans h'.keeps⟩

theorem fold {α : Type} {f : State → α → State} (h : ∀ s x, ReadsSources s (f s x)) (l : List α) (s : State) :
    ReadsSources s (foldS f s l) :=
  ⟨foldS_proj State.comp (fun s x => (h s x).comp) l s, Keeps.fold l (fun s x _ => (h s x).keeps) s⟩

/-- An update of other fields than those of which it speaks. -/
theorem ofEq {s s' : State} (hcomp : s'.comp = s.comp) (h : Keeps (fun _ => False) s s') : ReadsSources s s' :=
  ⟨hcomp, h.mono (fun _ => False.elim)⟩

theorem put (s : State) (i v : Nat) {u : Nat} (hu : u < 256) (h : u ≠ 2) : ReadsSources s (s.put i u v) :=
  ⟨rfl, (Keeps.put s i u v).mono (fun _ hk => hk ▸ sourceKey_okey 0 i hu h)⟩

/-- A register of the memory chapter is put. -/
theorem putLow (s : State) (v : Nat) {i u : Nat} (hi : i < 0x4000) (hu : u < 256) : ReadsSources s (s.put i u v) :=
  ⟨rfl, (Keeps.put s i u v).mono (fun _ hk => .inr (.inr (by rw [hk, keyIdx_okey 0 (by omega) hu]; exact hi)))⟩

theorem bump (s : State) (i : Nat) {u : Nat} (hu : u < 256) (h : u ≠ 2) : ReadsSources s (s.bump i u) :=
  ⟨s.bump_comp i u, (Keeps.bump s i u).mono (fun _ hk => hk ▸ sourceKey_okey 0 i hu h)⟩

theorem occur (s : State) (o : Occ) : ReadsSources s (s.occur o) :=
  ⟨s.occur_comp o, (Keeps.occur s o).mono (fun _ hk => .inr (.inl hk))⟩

theorem raise (s : State) (i unit flag sev part : Nat) (d : List Byte) : ReadsSources s (s.raise i unit flag sev part d) := by
  refine ⟨s.raise_comp i unit flag sev part d, (Keeps.raise s i unit flag sev part d).mono (fun k hk => ?_)⟩
  rcases hk with rfl | hev
  · exact sourceKey_okey 0 i (by decide) (by decide)
  · exact .inr (.inl hev)

theorem breakWord (s : State) (a : Nat) : ReadsSources s (s.breakWord a) := ofEq rfl (Keeps.ofEq rfl rfl rfl rfl rfl rfl)

theorem breakSource (s : State) (slot tx ty : Nat) : ReadsSources s (s.breakSource slot tx ty) := by
  unfold State.breakSource
  split
  · next l id hl hsrc =>
    cases s.surf id with
    | none => exact refl s
    | some f =>
      dsimp only [Option.elim]
      split
      · split
        · exact breakWord s _
        · exact refl s
      · exact refl s
  · exact refl s

theorem decodeError (s : State) (head slot tile : Nat) : ReadsSources s (s.decodeError head slot tile) :=
  (bump s _ (by decide) (by decide)).trans (raise _ _ _ _ _ _ _)

theorem heat (s : State) (id off n : Nat) : ReadsSources s (s.heat id off n) :=
  ⟨s.heat_comp id off n, (Keeps.heat s id off n).mono (fun _ hk => .inl (by rw [hk]; decide))⟩

/-- The counters of errors lie at sub-indices 5 to 7, whatever the address. -/
theorem eccCount (s : State) (a : Nat) : ReadsSources s (s.eccCount a 1) := by
  unfold State.eccCount
  extract_lets s1
  have hstore : ReadsSources s s1 := by
    show ReadsSources s (match s.targetOf a with
      | 0 => (s.bump (0x3080 + (a - dramBase) / groupSpan) (5 + 1)).bump (0x3040 + s.channelOf a) (6 + 1)
      | 1 => s.bump (0x30A0 + (a - tsBase) / bankBytes) (3 + 1)
      | _ => s.bump 0x30D0 (3 + 1))
    split
    · exact (bump s _ (by decide) (by decide)).trans (bump _ _ (by decide) (by decide))
    · exact bump s _ (by decide) (by decide)
    · exact bump s _ (by decide) (by decide)
  split
  · exact hstore
  · exact hstore.trans (bump _ _ (by decide) (by decide))

theorem eccUncorrected (s : State) (a : Nat) : ReadsSources s (s.eccUncorrected a) := by
  unfold State.eccUncorrected
  extract_lets s1 target owner0 owner s2 flag s3
  have hcount : ReadsSources s s2 :=
    (((((breakWord s a).trans (eccCount _ a)).trans (putLow _ _ (by decide) (by decide))).trans
      (putLow _ _ (by decide) (by decide))).trans (putLow _ _ (by decide) (by decide))).trans (putLow _ _ (by decide) (by decide))
  have hraise : ReadsSources s s3 := hcount.trans (raise _ _ _ _ _ _ _)
  split
  · exact hraise
  · exact hraise.trans (occur _ _)

theorem readTileOf (s : State) (id n : Nat) : ReadsSources s (s.readTileOf id n) := by
  unfold State.readTileOf
  cases s.surf id with
  | none => exact refl s
  | some f =>
    dsimp only [Option.elim]
    generalize hs1 : s.heat id (n * rawTileBytes f.format) (rawTileBytes f.format) = s1
    have hheat : ReadsSources s s1 := hs1 ▸ heat s _ _ _
    cases s1.tileBroken f n with
    | none => exact hheat
    | some w => exact hheat.trans (eccUncorrected s1 w)

end ReadsSources

theorem State.composeTile_length (s : State) (p : Plan) (steps : List (CStep × Option PixSrc)) (tx ty : Nat) :
    (s.composeTile p steps tx ty).length = 2048 := by simp [State.composeTile]

/-- A tile composed to `words` goes into flight on an engine, pending in its store; `applied` and `passed` steps took their clocks. -/
def State.fly (s : State) (e : Nat) (h : PlanHead) (n : Nat) (x : FStore) (sub : Nat) (words : List Nat) (applied passed : Nat) :
    State :=
  let en := s.engine e
  (((s.putStore (x.setTile n { x.tile n with pend := 1, repl := s.comp.repls })).putEngine
    { en with next := en.next + 1, waits := [], flight := en.flight ++ [⟨h.head, n, words, en.frame, sub⟩],
              busy := en.busy + 64 + 256 * applied + 16 * passed }).bump64 (0x4080 + e) 2 1).bump64 (0x4080 + e) 4 passed

/-- A composition reads its sources, and the tile then goes into flight with its 2,048 words. -/
theorem State.composeNow_form (s : State) (p : Plan) (e : Nat) (h : PlanHead) (n : Nat) (x : FStore) (sub : Nat) (ecc : List Nat) :
    ∃ (r : State) (words : List Nat) (applied passed : Nat), ReadsSources s r ∧ words.length = 2048 ∧
      s.composeNow p e h n x sub ecc = r.fly e h n x sub words applied passed := by
  unfold State.composeNow
  extract_lets tx ty s1 onSurf steps app words bad s2 s3
  have hbreak : ReadsSources s s1 := ReadsSources.fold (fun s k => ReadsSources.breakSource s k tx ty) ecc s
  have herror : ReadsSources s1 s2 := ReadsSources.fold (fun s b => ReadsSources.decodeError s h.head b.1 b.2) bad s1
  have hread : ReadsSources s2 s3 := by
    refine ReadsSources.fold (fun s c => ?_) app s2
    split
    · split
      · exact ReadsSources.fold (fun s n => ReadsSources.readTileOf s _ n) _ s
      · exact ReadsSources.refl s
    · exact ReadsSources.refl s
  exact ⟨s3, words, app.length, steps.length - app.length, (hbreak.trans herror).trans hread,
    State.composeTile_length _ _ _ _ _, rfl⟩

section
variable (s : State) (e : Nat) (h : PlanHead) (n : Nat) (x : FStore) (sub : Nat) (words : List Nat) (applied passed : Nat)

@[simp] theorem State.fly_cfg : (s.fly e h n x sub words applied passed).cfg = s.cfg := by
  simp only [State.fly, State.bump64_cfg, State.putEngine_cfg, State.putStore_cfg]

theorem State.engine_fly : (s.fly e h n x sub words applied passed).engine e =
    { s.engine e with next := (s.engine e).next + 1, waits := [],
                      flight := (s.engine e).flight ++ [⟨h.head, n, words, (s.engine e).frame, sub⟩],
                      busy := (s.engine e).busy + 64 + 256 * applied + 16 * passed } := by
  unfold State.fly
  rw [State.engine_bump64, State.engine_bump64]
  exact State.engine_putEngine _ (s.engine_engine e)

theorem State.store_fly {k : Nat} (hx : x.head = k) : (s.fly e h n x sub words applied passed).store k =
    some (x.setTile n { x.tile n with pend := 1, repl := s.comp.repls }) := by
  unfold State.fly
  rw [State.store_bump64, State.store_bump64, State.store_putEngine]
  exact State.store_putStore _ hx

theorem State.get_fly : (s.fly e h n x sub words applied passed).get (0x4080 + e) 2 =
    min (s.get (0x4080 + e) 2 + 1) (2 ^ 64 - 1) := by
  unfold State.fly
  rw [State.get_bump64_ne _ _ (by unfold okey; omega), State.get_bump64_same]
  rfl

end

/-- What is composed of a tile is in flight, and the count of tiles has advanced. -/
theorem State.composeNow_spec (s : State) (p : Plan) {e : Nat} (he : e < 16) (h : PlanHead) (n : Nat) {x : FStore} (sub : Nat)
    (ecc : List Nat) {k : Nat} (hx : x.head = k) :
    (s.composeNow p e h n x sub ecc).cfg = s.cfg ∧ ((s.composeNow p e h n x sub ecc).engine e).next = (s.engine e).next + 1 ∧
      (∃ words : List Nat, words.length = 2048 ∧
        ((s.composeNow p e h n x sub ecc).engine e).flight =
          (s.engine e).flight ++ [⟨h.head, n, words, (s.engine e).frame, sub⟩]) ∧
      ((s.composeNow p e h n x sub ecc).store k).map (fun y => (y.tile n).pend) = some 1 ∧
      (s.composeNow p e h n x sub ecc).get (0x4080 + e) 2 = min (s.get (0x4080 + e) 2 + 1) (2 ^ 64 - 1) := by
  obtain ⟨r, words, applied, passed, hread, hwords, hform⟩ := s.composeNow_form p e h n x sub ecc
  have hengine : r.engine e = s.engine e := State.engine_congr (by rw [hread.comp]) e
  have hkey : ¬ sourceKey (okey 0 (0x4080 + e) 2) := by
    unfold sourceKey evKey
    rw [keySub_okey 0 _ (by decide), keyIdx_okey 0 (by omega) (by decide)]
    omega
  rw [hform, State.engine_fly, hengine]
  refine ⟨(r.fly_cfg e h n x sub words applied passed).trans hread.keeps.cfg, rfl, ⟨words, hwords, rfl⟩, ?_, ?_⟩
  · rw [State.store_fly r e h n x sub words applied passed hx]
    simp
  · rw [State.get_fly, hread.keeps.get hkey]

theorem State.tileTurn_composes {s : State} {p : Plan} {e : Nat} {b : PlanBatch} {h : PlanHead} {x : FStore} (ecc : List Nat)
    (hc : s.isClean p h (s.dirEntry p h (b.firstTile + (s.engine e).next)) (b.firstTile + (s.engine e).next)
      (x.tile (b.firstTile + (s.engine e).next)) = false)
    (hclones : p.clonesOf h.head = []) :
    s.tileTurn p e b h x ecc = s.composeNow p e h (b.firstTile + (s.engine e).next) x b.sub ecc := by
  refine (if_neg (by rw [hc]; decide)).trans ((if_pos ?_).trans ?_)
  · simp [State.readingClones, hclones]
  · rw [hclones]
    rfl

/-! ## Regions of a settled tile (R214) -/

/-- Only the records of content integrity differ. -/
def IntegOnly (s s' : State) : Prop := ∃ i, s' = { s with integ := i }

namespace IntegOnly

theorem refl (s : State) : IntegOnly s s := ⟨s.integ, rfl⟩

theorem trans {a b c : State} (h : IntegOnly a b) (h' : IntegOnly b c) : IntegOnly a c := by
  obtain ⟨_, rfl⟩ := h
  obtain ⟨_, rfl⟩ := h'
  exact ⟨_, rfl⟩

theorem fold {α : Type} {f : State → α → State} (h : ∀ s x, IntegOnly s (f s x)) (l : List α) (s : State) :
    IntegOnly s (foldS f s l) := by
  induction l generalizing s with
  | nil => exact refl s
  | cons x r ih => exact (h s x).trans (ih (f s x))

theorem comp {s s' : State} (h : IntegOnly s s') : s'.comp = s.comp := by
  obtain ⟨_, rfl⟩ := h
  rfl

theorem keeps {P : Nat → Prop} {s s' : State} (h : IntegOnly s s') : Keeps P s s' := by
  obtain ⟨_, rfl⟩ := h
  exact Keeps.ofEq rfl rfl rfl rfl rfl rfl

theorem putRegion (s : State) (x : RegionRun) : IntegOnly s (s.putRegion x) := ⟨_, rfl⟩

theorem captureStore (s : State) (p : Plan) (r : PlanRegion) (h : PlanHead) (x : RegionRun) :
    IntegOnly s (s.captureStore p r h x) := by
  unfold State.captureStore
  split
  · exact refl s
  · exact putRegion s _

theorem settleTile (s : State) (head n : Nat) (stamp : Option (Nat × Nat)) : IntegOnly s (s.settleTile head n stamp) := by
  unfold State.settleTile
  split
  · exact refl s
  · split
    · exact refl s
    · refine fold (fun s r => ?_) _ s
      split
      · exact refl s
      · split
        · exact refl s
        · dsimp only
          split
          · exact (putRegion s _).trans (captureStore _ _ _ _ _)
          · exact putRegion s _

end IntegOnly

/-! ## Writeback (R160) -/

/-- A tile with `words` in the copy that is not current, COMPLETE. -/
def FTile.written (f : FTile) (words : List Nat) (fr : Nat) : FTile :=
  let hdr := (encodeTile 4 words).1
  { (if f.cur then { f with hdr0 := hdr, px0 := words, frame0 := fr } else { f with hdr1 := hdr, px1 := words, frame1 := fr }) with
    pend := 2, overrun := false, composed := true }

theorem FTile.written_cur (f : FTile) (words : List Nat) (fr : Nat) : (f.written words fr).cur = f.cur := by
  unfold FTile.written
  dsimp only
  split <;> rfl

theorem FTile.written_words (f : FTile) (words : List Nat) (fr : Nat) :
    (if (f.written words fr).cur then (f.written words fr).px0 else (f.written words fr).px1) = words := by
  cases h : f.cur <;> simp [FTile.written, h]

/-- A frame store with a tile written back. -/
def FStore.landed (x : FStore) (n : Nat) (words : List Nat) (fr : Nat) : FStore :=
  { x.setTile n ((x.tile n).written words fr) with done := x.done + 1 }

theorem FStore.tile_landed (x : FStore) (n : Nat) (words : List Nat) (fr : Nat) :
    (x.landed n words fr).tile n = (x.tile n).written words fr := x.tile_setTile n _

/-- A writeback counts as an access to the surface of the store, and changes the store. -/
theorem State.writeBack_form (s : State) (x : FStore) (n : Nat) (words : List Nat) (fr : Nat) :
    ∃ r : State, ReadsSources s r ∧ s.writeBack x n words fr = r.putStore (x.landed n words fr) :=
  ⟨_, ReadsSources.heat s x.surf (storeOff x (!(x.tile n).cur) n) (hdrSectors (encodeTile 4 words).1 * 256), rfl⟩

/-- The oldest tile in flight of an engine is written back. -/
def State.landTile (s : State) (e : Nat) (g : Flight) (rest : List Flight) (x : FStore) : State :=
  (((s.putEngine { s.engine e with flight := rest }).writeBack x g.tile g.words g.frame).settleTile g.head g.tile
    (some (g.frame, g.sub))).endBatch e

theorem State.landTile_spec (s : State) (e : Nat) (g : Flight) (rest : List Flight) {x : FStore} (hx : x.head = g.head) :
    (s.landTile e g rest x).cfg = s.cfg ∧ ((s.landTile e g rest x).engine e).flight = rest ∧
      (s.landTile e g rest x).store g.head = some (x.landed g.tile g.words g.frame) := by
  obtain ⟨r, hread, hform⟩ := (s.putEngine { s.engine e with flight := rest }).writeBack_form x g.tile g.words g.frame
  unfold State.landTile
  rw [hform]
  generalize hw : (r.putStore (x.landed g.tile g.words g.frame)).settleTile g.head g.tile (some (g.frame, g.sub)) = w
  have hsettle : IntegOnly (r.putStore (x.landed g.tile g.words g.frame)) w := hw ▸ IntegOnly.settleTile _ _ _ _
  obtain ⟨hflight, hstores, hkeeps⟩ := w.endBatch_spec e
  have hengine : w.engine e = { s.engine e with flight := rest } := by
    refine (State.engine_congr (congrArg CompState.engines hsettle.comp) e).trans ?_
    refine (State.engine_congr (congrArg CompState.engines hread.comp) e).trans ?_
    exact State.engine_putEngine _ (s.engine_engine e)
  refine ⟨?_, by rw [hflight, hengine], ?_⟩
  · exact (hkeeps fun _ => False).cfg.trans (hsettle.keeps (P := fun _ => False).cfg.trans hread.keeps.cfg)
  · rw [State.store_congr hstores]
    exact (State.store_congr (congrArg CompState.stores hsettle.comp) g.head).trans (State.store_putStore _ hx)

theorem exec_tileWritebackDone {t engine : Nat} {g : Flight} {rest : List Flight} {x : FStore} {s : State}
    (hr : s.inReset = false) (hl : s.noLock 3 = false) (hstuck : (s.engine engine).stuck = false)
    (hflight : (s.engine engine).flight = g :: rest) (hx : s.store g.head = some x) :
    ∃ s', exec (.tileWritebackDone t engine) s = .next s' ∧ ComposesAs ((s.advance t).landTile engine g rest x) s' := by
  refine clocked_composesAs (s := s) ?_ ((s.advance t).landTile_spec engine g rest (State.store_head hx)).1 hr hl
  extract_lets en
  have hq : (if en.stuck then [] else en.flight) = g :: rest := (if_neg (by simp [show en.stuck = false from hstuck])).trans hflight
  split
  · next hnil => cases hq.symm.trans hnil
  · next g' rest' hcons =>
    obtain ⟨rfl, rfl⟩ := List.cons.inj (hq.symm.trans hcons)
    extract_lets s1
    split
    · next hnone => cases (show s1.store g.head = some x from hx).symm.trans hnone
    · next x' hx' =>
      obtain rfl : x = x' := Option.some.inj ((show s1.store g.head = some x from hx).symm.trans hx')
      rfl

/-! ## Deadlines (R145, R161) -/

/-- The tiles of a batch that its deadline finds unsettled: all of them where its engine does not run it, else those not begun or
still in flight. -/
def State.lateTiles (s : State) (batch : Nat) (b : PlanBatch) (h : PlanHead) : List Nat :=
  let en := s.engine (s.engineOf b)
  ((List.range b.tiles).filter (fun i => !(en.batch == some batch) || en.next ≤ i ||
    en.flight.any (fun g => g.head == h.head && g.tile == b.firstTile + i))).map (fun i => b.firstTile + i)

/-- The tiles are overrun, and an event tells of one of class A. -/
def State.overrunTiles (s : State) (p : Plan) (b : PlanBatch) (h : PlanHead) (l : List Nat) : State :=
  let s' := foldS (fun z n => z.overrunTile p (s.engineOf b) h n) s l
  s'.when (l.any (fun n => dirTop (s'.dirEntry p h n) == 0)) (fun z => z.overrunEvent b.head)

/-- A batch has run, and its engine is free. -/
def State.closeBatch (s : State) (batch : Nat) (en : Engine) : State :=
  let s' : State := { s with comp := { s.comp with ran := batch :: s.comp.ran } }
  if en.batch == some batch then s'.putEngine { en with batch := none, next := 0, waits := [], stuck := false, flight := [] } else s'

/-- What BATCH_DEADLINE leaves at the deadline of a batch that has not run. -/
def State.passDeadline (s : State) (p : Plan) (batch : Nat) (b : PlanBatch) (h : PlanHead) : State :=
  foldS (fun z n => z.settleTile h.head n none)
    ((s.overrunTiles p b h (s.lateTiles batch b h)).closeBatch batch (s.engine (s.engineOf b))) (s.lateTiles batch b h)

section
variable {t batch : Nat} {p : Plan} {b : PlanBatch} {h : PlanHead} {s : State} (hr : s.inReset = false)
  (hp : s.plan.active = some p) (hb : p.batches[batch]? = some b) (hh : p.headOf b.head = some h)
  (hlayout : b.layout = s.layoutOf b.head) (hdue : s.slotStart p (b.endSlot + 1) ≤ max s.now t) (hran : batch ∉ s.comp.ran)
include hr hp hb hh hlayout hdue hran

theorem exec_batchDeadline (hcfg : ((s.advance t).passDeadline p batch b h).cfg = s.cfg) :
    ∃ s', exec (.batchDeadline t batch) s = .next s' ∧ ComposesAs ((s.advance t).passDeadline p batch b h) s' := by
  refine at_composesAs ?_ hcfg hr
  have hpast : (s.advance t).pastDeadline p b = true := by
    rw [State.pastDeadline_advance]
    exact decide_eq_true hdue
  have hdeadline : (s.advance t).batchDeadline batch =
      (((s.advance t).overrunTiles p b h ((s.advance t).lateTiles batch b h)).closeBatch batch
        ((s.advance t).engine ((s.advance t).engineOf b)),
       ((s.advance t).lateTiles batch b h).map (fun n => (h.head, n))) := by
    unfold State.batchDeadline
    split
    · next hnone => cases hp.symm.trans hnone
    · next p' hp' =>
      obtain rfl : p = p' := Option.some.inj (hp.symm.trans hp')
      split
      · next hnone => cases hb.symm.trans hnone
      · next b' hb' =>
        obtain rfl : b = b' := Option.some.inj (hb.symm.trans hb')
        split
        · next hnone => cases hh.symm.trans hnone
        · next h' hh' =>
          obtain rfl : h = h' := Option.some.inj (hh.symm.trans hh')
          refine (if_neg ?_).trans rfl
          have hlayout' : b.layout = (s.advance t).layoutOf b.head := hlayout
          simp [hpast, hlayout', hran]
  rw [hdeadline]
  simp only [State.passDeadline, foldS, List.foldl_map]

end

/-- A batch that its engine runs and has settled has no late tile. -/
theorem State.lateTiles_settled {s : State} {batch : Nat} {b : PlanBatch} (h : PlanHead)
    (hmine : (s.engine (s.engineOf b)).batch = some batch) (hnext : b.tiles ≤ (s.engine (s.engineOf b)).next)
    (hflight : (s.engine (s.engineOf b)).flight = []) : s.lateTiles batch b h = [] := by
  simp only [State.lateTiles, hmine, hflight, List.any_nil, Bool.or_false, beq_self_eq_true, Bool.not_true, Bool.false_or,
    List.map_eq_nil_iff, List.filter_eq_nil_iff, List.mem_range, decide_eq_true_eq]
  omega

/-- The one tile of a batch that no engine runs is late. -/
theorem State.lateTiles_single {s : State} {batch : Nat} {b : PlanBatch} (h : PlanHead)
    (hmine : (s.engine (s.engineOf b)).batch ≠ some batch) (htiles : b.tiles = 1) : s.lateTiles batch b h = [b.firstTile] := by
  have hother : ((s.engine (s.engineOf b)).batch == some batch) = false := beq_false_of_ne hmine
  simp [State.lateTiles, hother, htiles, List.range_succ]

theorem State.closeBatch_stores (s : State) (batch : Nat) (en : Engine) :
    (s.closeBatch batch en).comp.stores = s.comp.stores ∧ batch ∈ (s.closeBatch batch en).comp.ran := by
  unfold State.closeBatch
  dsimp only
  split <;> exact ⟨rfl, List.mem_cons_self⟩

theorem Keeps.closeBatch {P : Nat → Prop} (s : State) (batch : Nat) (en : Engine) : Keeps P s (s.closeBatch batch en) := by
  unfold State.closeBatch
  dsimp only
  split <;> exact Keeps.ofEq rfl rfl rfl rfl rfl rfl

/-- The engine that runs a batch is free once the batch is closed. -/
theorem State.engine_closeBatch (s : State) {batch : Nat} {e : Nat} (hmine : (s.engine e).batch = some batch) :
    ((s.closeBatch batch (s.engine e)).engine e).batch = none := by
  unfold State.closeBatch
  rw [if_pos (by rw [hmine]; exact beq_self_eq_true _), State.engine_putEngine]
  exact s.engine_engine e

/-- The deadline of a batch without a late tile closes it. -/
theorem State.passDeadline_settled {s : State} (p : Plan) {batch : Nat} {b : PlanBatch} {h : PlanHead}
    (hlate : s.lateTiles batch b h = []) : s.passDeadline p batch b h = s.closeBatch batch (s.engine (s.engineOf b)) := by
  rw [State.passDeadline, hlate]
  rfl

/-! ### An overrun tile -/

theorem Cfg.engines_le (c : Cfg) : c.engines ≤ 8 := by
  unfold Cfg.engines
  split <;> decide

section
variable {c : Prop} [Decidable c] (s : State) (i u : Nat)

theorem State.get_ite_bump_ne {j w : Nat} (h : okey 0 j w ≠ okey 0 i u) : (if c then s.bump i u else s).get j w = s.get j w := by
  split
  · exact s.get_bump_ne h
  · rfl

theorem Aside.ite_bump : Aside s (if c then s.bump i u else s) := by
  split
  · exact Aside.bump s i u
  · exact Aside.refl s

end

/-- The counters of overruns: of the head, of the engine, of class A tiles, and of frames where the tile is the first. -/
def State.countOverrun (s : State) (e head : Nat) (classA : Bool) (late : Nat) : State :=
  let i := 0x4100 + head
  let s := s.bump i 1
  let s := if e < s.cfg.engines then s.bump (0x4080 + e) 5 else s
  let s := if classA then s.bump i 3 else s
  if late = 0 then s.bump i 2 else s

/-- A frame store with an overrun tile. -/
def FStore.overran (x : FStore) (n : Nat) : FStore :=
  { x.setTile n { x.tile n with pend := 0, overrun := true } with late := x.late + 1 }

theorem FStore.overran_head (x : FStore) (n : Nat) : (x.overran n).head = x.head := rfl

theorem FStore.tile_overran (x : FStore) (n : Nat) : (x.overran n).tile n = { x.tile n with pend := 0, overrun := true } :=
  x.tile_setTile n _

section
variable (s : State) (e head : Nat) (classA : Bool) (late : Nat)

theorem Aside.countOverrun : Aside s (s.countOverrun e head classA late) :=
  (((Aside.bump s _ _).trans (Aside.ite_bump _ _ _)).trans (Aside.ite_bump _ _ _)).trans (Aside.ite_bump _ _ _)

theorem State.get_countOverrun : (s.countOverrun e head classA late).get (0x4100 + head) 1 =
    min (s.get (0x4100 + head) 1 + 1) (2 ^ 32 - 1) := by
  unfold State.countOverrun
  dsimp only
  rw [State.get_ite_bump_ne _ _ _ (by unfold okey; omega), State.get_ite_bump_ne _ _ _ (by unfold okey; omega),
    State.get_ite_bump_ne _ _ _ (by unfold okey; omega), State.get_bump_same]

/-- The engine's counter of overruns is not the epoch's number, since there are at most 8 engines. -/
theorem State.epoch_countOverrun : (s.countOverrun e head classA late).epoch = s.epoch := by
  have hengine : ∀ r : State, (if e < r.cfg.engines then r.bump (0x4080 + e) 5 else r).get 0x9060 5 = r.get 0x9060 5 := by
    intro r
    split
    · have hle := r.cfg.engines_le
      exact r.get_bump_ne (by unfold okey; omega)
    · rfl
  unfold State.epoch State.countOverrun
  dsimp only
  rw [State.get_ite_bump_ne _ _ _ (by unfold okey; omega), State.get_ite_bump_ne _ _ _ (by unfold okey; omega), hengine,
    State.get_bump_ne _ (by unfold okey; omega)]

end

theorem State.overrunTile_eq {s : State} (p : Plan) (e : Nat) {h : PlanHead} (n : Nat) {x : FStore} (hx : s.store h.head = some x) :
    ∃ classA, s.overrunTile p e h n =
      ((((s.putStore (x.overran n)).countOverrun e h.head classA x.late).put (0x4100 + h.head) 4
        ((s.putStore (x.overran n)).countOverrun e h.head classA x.late).epoch)).put (0x4100 + h.head) 5 n := by
  unfold State.overrunTile
  split
  · next hnone => cases hx.symm.trans hnone
  · next x' hx' =>
    obtain rfl : x = x' := Option.some.inj (hx.symm.trans hx')
    exact ⟨_, rfl⟩

/-- Of a tile `n` of head `k`, whose store was `x`, the overrun is counted and recorded. -/
structure OverrunRecorded (k n : Nat) (x : FStore) (s z : State) : Prop where
  cfg : z.cfg = s.cfg
  store : (z.store k).map (fun y => (y.late, (y.tile n).overrun, (y.tile n).pend)) = some (x.late + 1, true, 0)
  count : z.get (0x4100 + k) 1 = min (s.get (0x4100 + k) 1 + 1) (2 ^ 32 - 1)
  frame : z.getK (okey 0 (0x4100 + k) 4) = w64 s.epoch
  tile : z.get (0x4100 + k) 5 = n % 2 ^ 64

theorem State.overrunTile_recorded {s : State} (p : Plan) (e : Nat) {h : PlanHead} (n : Nat) {x : FStore}
    (hx : s.store h.head = some x) : OverrunRecorded h.head n x s (s.overrunTile p e h n) := by
  obtain ⟨classA, heq⟩ := s.overrunTile_eq p e n hx
  rw [heq]
  generalize hr : (s.putStore (x.overran n)).countOverrun e h.head classA x.late = r
  have haside : Aside (s.putStore (x.overran n)) r := hr ▸ Aside.countOverrun _ _ _ _ _
  refine ⟨haside.cfg, ?_, ?_, ?_, State.get_put_same _ _ _ _⟩
  · have hstore : r.store h.head = some (x.overran n) :=
      (State.store_congr (congrArg CompState.stores haside.comp) h.head).trans
        (State.store_putStore s ((x.overran_head n).trans (State.store_head hx)))
    show (r.store h.head).map _ = _
    rw [hstore, Option.map_some, FStore.tile_overran]
    rfl
  · rw [State.get_put_ne _ (by unfold okey; omega), State.get_put_ne _ (by unfold okey; omega), ← hr, State.get_countOverrun]
    rfl
  · have hepoch : r.epoch = s.epoch := by
      rw [← hr, State.epoch_countOverrun]
      rfl
    rw [hepoch]
    exact ((r.put (0x4100 + h.head) 4 s.epoch).getK_putK_ne (by unfold okey; omega) _).trans (r.getK_putK_same _ _)

/-- A record of an overrun stays where the store keeps it and only the event's objects change. -/
theorem OverrunRecorded.trans {k n : Nat} {x : FStore} {s z z' : State} (h : OverrunRecorded k n x s z) (hk : k < 64)
    (hstore : (z'.store k).map (fun y => (y.late, (y.tile n).overrun, (y.tile n).pend)) =
      (z.store k).map (fun y => (y.late, (y.tile n).overrun, (y.tile n).pend)))
    (hkeeps : Keeps (flagKey (okey 0 0x4041 0)) z z') : OverrunRecorded k n x s z' := by
  have hkey : ∀ u, u < 256 → ¬ flagKey (okey 0 0x4041 0) (okey 0 (0x4100 + k) u) := by
    intro u hu
    unfold flagKey evKey
    rw [keyIdx_okey 0 (by omega) hu]
    unfold okey
    omega
  exact ⟨hkeeps.cfg.trans h.cfg, hstore.trans h.store, (hkeeps.get (hkey 1 (by decide))).trans h.count,
    (hkeeps.regs _ (hkey 4 (by decide))).trans h.frame, (hkeeps.get (hkey 5 (by decide))).trans h.tile⟩

/-- The overrun event marks the store and raises its flag. -/
theorem State.overrunEvent_spec (s : State) (k : Nat) : Keeps (flagKey (okey 0 0x4041 0)) s (s.overrunEvent k) ∧
    ∀ n, ((s.overrunEvent k).store k).map (fun y => (y.late, (y.tile n).overrun, (y.tile n).pend)) =
      (s.store k).map (fun y => (y.late, (y.tile n).overrun, (y.tile n).pend)) := by
  unfold State.overrunEvent
  split
  · exact ⟨Keeps.refl _ s, fun _ => rfl⟩
  · next x hx =>
    split
    · exact ⟨Keeps.refl _ s, fun _ => rfl⟩
    · refine ⟨(Keeps.putStore s _).trans (Keeps.raise _ _ _ _ _ _ _), fun n => ?_⟩
      rw [State.store_congr (congrArg CompState.stores (State.raise_comp _ _ _ _ _ _ _)),
        State.store_putStore s (x := { x with evented := true }) (State.store_head (x := x) hx), hx]
      rfl

/-- The deadline of a batch of one tile that no engine runs records the overrun of that tile. -/
theorem State.passDeadline_recorded {s : State} (p : Plan) {batch : Nat} {b : PlanBatch} {h : PlanHead} {x : FStore}
    (hh : h.head = b.head) (hk : b.head < 64) (hlate : s.lateTiles batch b h = [b.firstTile]) (hx : s.store b.head = some x) :
    OverrunRecorded b.head b.firstTile x s (s.passDeadline p batch b h) ∧ batch ∈ (s.passDeadline p batch b h).comp.ran := by
  rw [State.passDeadline, hlate]
  show OverrunRecorded b.head b.firstTile x s
      (((s.overrunTiles p b h [b.firstTile]).closeBatch batch _).settleTile h.head b.firstTile none) ∧
    batch ∈ (((s.overrunTiles p b h [b.firstTile]).closeBatch batch _).settleTile h.head b.firstTile none).comp.ran
  generalize s.engine (s.engineOf b) = en
  have hover : OverrunRecorded b.head b.firstTile x s (s.overrunTile p (s.engineOf b) h b.firstTile) :=
    hh ▸ State.overrunTile_recorded p _ _ (hh.symm ▸ hx)
  have hevent : OverrunRecorded b.head b.firstTile x s (s.overrunTiles p b h [b.firstTile]) := by
    obtain ⟨hkeeps, hstore⟩ := (s.overrunTile p (s.engineOf b) h b.firstTile).overrunEvent_spec b.head
    simp only [State.overrunTiles, foldS, List.foldl_cons, List.foldl_nil]
    generalize [b.firstTile].any _ = classA
    cases classA with
    | true => exact hover.trans hk (hstore _) hkeeps
    | false => exact hover
  generalize s.overrunTiles p b h [b.firstTile] = z at hevent ⊢
  obtain ⟨hstores, hran⟩ := z.closeBatch_stores batch en
  have hsettle := IntegOnly.settleTile (z.closeBatch batch en) h.head b.firstTile none
  refine ⟨(hevent.trans hk ?_ (Keeps.closeBatch z batch en)).trans hk ?_ hsettle.keeps, by rw [hsettle.comp]; exact hran⟩
  · rw [State.store_congr hstores]
  · rw [State.store_congr (congrArg CompState.stores hsettle.comp)]

/-- Settles O13: by what each command does at its instant, in every case of a batch's start, of a tile's turn, of a writeback and
of a deadline. -/
theorem compositionRuns : Obligations.CompositionRuns := by
  unfold Obligations.CompositionRuns
  refine ⟨?_, ?_, ?_, ?_, ?_, ?_, ?_⟩
  · intro t batch p b s hr hl hp hb hcount husable hfree hflight hlayout hslot hdue hran hturn
    obtain ⟨s', hs, h⟩ := exec_batchStart hr hl hp hb hcount husable hfree hflight hlayout hslot hdue hran hturn
    refine ⟨s', hs, ?_, ?_, ?_, ((Keeps.advance s t).trans (Keeps.beginBatch _ _ _)).trans (h.keeps _)⟩
    · rw [h.engine, State.engine_beginBatch]
    · rw [h.engine, State.engine_beginBatch]
    · rw [h.engine, State.engine_beginBatch]
      rfl
  · intro t engine p k b h x s hr hl he hp hk hb hh hx husable hstuck hdue hnext hroom hclean
    have hturn := State.tileTurn_clean (s := s.advance t) (p := p) (e := engine) (h := h) [] hclean
    obtain ⟨hflight, hstores, hkeeps⟩ :=
      ((s.advance t).passClean engine (b.firstTile + ((s.advance t).engine engine).next) x).endBatch_spec engine
    have hpass := Keeps.passClean (s.advance t) engine (b.firstTile + ((s.advance t).engine engine).next) x
    obtain ⟨s', hs, hs'⟩ := exec_tileStart hr hl hp hk hb hh hx husable hstuck hdue hnext hroom []
      (by rw [hturn]; exact (hkeeps fun _ => False).cfg.trans hpass.cfg)
    rw [hturn] at hs'
    refine ⟨s', hs, ?_, ?_, ?_, (((Keeps.advance s t).trans hpass).trans (hkeeps _)).trans (hs'.keeps _)⟩
    · exact (congrArg Engine.flight (hs'.engine engine)).trans (hflight.trans (by rw [State.engine_passClean]; rfl))
    · exact (hs'.get _ _).trans (((hkeeps fun _ => False).get not_false).trans (State.get_passClean _ _ _ _))
    · rw [hs'.store, State.store_congr hstores]
      refine (congrArg _ (State.store_passClean _ _ _ (State.store_head hx))).trans ?_
      simp
  · intro t engine p k b h x ecc s hr hl he hhead hp hk hb hh hx husable hstuck hdue hnext hroom hclean hclones
    have hturn := State.tileTurn_composes (s := s.advance t) (p := p) (e := engine) (h := h) ecc hclean hclones
    obtain ⟨hcfg, hcount, hflight, hpend, htiles⟩ := (s.advance t).composeNow_spec p he h (b.firstTile + (s.engine engine).next)
      b.sub ecc (State.store_head hx)
    obtain ⟨s', hs, hs'⟩ := exec_tileStart hr hl hp hk hb hh hx husable hstuck hdue hnext hroom ecc
      (by rw [hturn]; exact hcfg)
    rw [hturn] at hs'
    refine ⟨s', hs, ?_, ?_, ?_, (hs'.get _ _).trans htiles⟩
    · exact (congrArg Engine.next (hs'.engine engine)).trans hcount
    · obtain ⟨words, hwords, hflight⟩ := hflight
      exact ⟨words, hwords, (congrArg Engine.flight (hs'.engine engine)).trans hflight⟩
    · rw [hs'.store]
      exact hpend
  · intro t engine p k b h x ecc s hr hl hhead hp hk hb hh hx husable hstuck hdue hnext hroom hclean hreading
    have hturn := State.tileTurn_waits (s := s.advance t) (p := p) (e := engine) (h := h) (x := x) ecc hclean
      (fun hnil => hreading (List.map_eq_nil_iff.mp hnil))
    obtain ⟨s', hs, hs'⟩ := exec_tileStart hr hl hp hk hb hh hx husable hstuck hdue hnext hroom ecc
      (by rw [hturn]; exact State.waitFor_cfg _ _ _)
    rw [hturn] at hs'
    refine ⟨s', hs, ?_, ?_, ?_, ?_⟩
    · rw [hs'.engine, State.engine_waitFor]
      rfl
    · rw [hs'.engine, State.engine_waitFor]
      rfl
    · rw [hs'.comp, State.waitFor_comp]
      rfl
    · intro c hc hread
      rw [hs'.engine]
      exact State.mem_waitFor _ _ (List.mem_map_of_mem (List.mem_filter.mpr ⟨hc, hread⟩))
  · intro t engine g l x s hr hl hstuck hflight hx
    obtain ⟨s', hs, hs'⟩ := exec_tileWritebackDone (t := t) hr hl hstuck hflight hx
    obtain ⟨-, hrest, hstore⟩ := (s.advance t).landTile_spec engine g l (State.store_head hx)
    have hstore' : s'.store g.head = some (x.landed g.tile g.words g.frame) := (hs'.store _).trans hstore
    refine ⟨s', hs, (congrArg Engine.flight (hs'.engine engine)).trans hrest, ?_, ?_, ?_, ?_⟩
    · rw [hstore', Option.map_some, FStore.tile_landed]
      rfl
    · rw [hstore', Option.map_some, FStore.tile_landed, FTile.written_words]
    · rw [hstore', Option.map_some, FStore.tile_landed]
      rfl
    · rw [hstore', Option.map_some, FStore.tile_landed, FTile.written_cur]
  · intro t batch p b h s hr hp hb hh hlayout hdue hran hmine hnext hflight
    have hlate : (s.advance t).lateTiles batch b h = [] := State.lateTiles_settled h hmine hnext hflight
    have hpass := State.passDeadline_settled p hlate
    have hkeeps : ∀ P, Keeps P (s.advance t) ((s.advance t).passDeadline p batch b h) := fun P => hpass ▸ Keeps.closeBatch _ _ _
    obtain ⟨s', hs, hs'⟩ := exec_batchDeadline hr hp hb hh hlayout hdue hran (hkeeps fun _ => False).cfg
    obtain ⟨hstores, hmem⟩ := (s.advance t).closeBatch_stores batch ((s.advance t).engine ((s.advance t).engineOf b))
    refine ⟨s', hs, ?_, ?_, ?_, ((Keeps.advance s t).trans (hkeeps _)).trans (hs'.keeps _)⟩
    · rw [hs'.comp, hpass]
      exact hmem
    · rw [hs'.engine, hpass]
      exact State.engine_closeBatch (s.advance t) hmine
    · rw [hs'.comp, hpass]
      exact hstores
  · intro t batch p b h x s hr hp hb hh hhead hlayout hdue hran hmine htiles hfirst hx
    have hlate : (s.advance t).lateTiles batch b h = [b.firstTile] := State.lateTiles_single h hmine htiles
    obtain ⟨hover, hmem⟩ := State.passDeadline_recorded (s := s.advance t) p (Plan.headOf_head hh) hhead hlate hx
    obtain ⟨s', hs, hs'⟩ := exec_batchDeadline hr hp hb hh hlayout hdue hran hover.cfg
    refine ⟨s', hs, ?_, ?_, (hs'.get _ _).trans hover.count, (hs'.getK _).trans hover.frame, ?_⟩
    · rw [hs'.comp]
      exact hmem
    · rw [hs'.store]
      exact hover.store
    · rw [hs'.get, hover.tile, Nat.mod_eq_of_lt (by omega)]

end Sys2Proof.Machine

/-!
SUPPORT. Proofs of the statements about scan-out (chapter 07): what a counter beyond its width does to the claim about
returned fetch data.
-/
namespace Sys2Proof.Machine

/-! ## Counters at their width (R39) -/

/-- An advance by nothing holds a counter to its width all the same. -/
theorem State.get_bumpN_zero (s : State) (i u : Nat) : (s.bumpN i u 0).get i u = min (s.get i u) (2 ^ 32 - 1) :=
  s.getB_bumpW_same 32 0 i u 0 (by decide)

/-! ## Returned data (R179 to R181) -/

/-- Objects that the return of data to head `n` may write, beside its counter of decode errors: of sub-index 8 only BLACKOUT_SAFE. -/
def fetchKey (n k : Nat) : Prop := keySub k ≠ 8 ∨ k = okey 0 (headIdx n + 1) 8

theorem fetchKey_okey (n b i : Nat) {u : Nat} (hu : u < 256) (h : u ≠ 8) : fetchKey n (okey b i u) :=
  .inl (by rw [keySub_okey b i hu]; exact h)

theorem Keeps.fetchPut (n : Nat) (s : State) (i v : Nat) {u : Nat} (hu : u < 256) (h : u ≠ 8) :
    Keeps (fetchKey n) s (s.put i u v) :=
  (Keeps.put s i u v).mono (fun _ hk => hk ▸ fetchKey_okey n 0 i hu h)

theorem Keeps.fetchBump (n : Nat) (s : State) (i : Nat) {u : Nat} (hu : u < 256) (h : u ≠ 8) : Keeps (fetchKey n) s (s.bump i u) :=
  (Keeps.bump s i u).mono (fun _ hk => hk ▸ fetchKey_okey n 0 i hu h)

theorem Keeps.putRun {P : Nat → Prop} (s : State) (x : HeadRun) : Keeps P s (s.putRun x) := Keeps.ofEq rfl rfl rfl rfl rfl rfl

theorem Keeps.heatStore (n : Nat) (s : State) (owner : Nat) (view : List Bool) (tiles : List Nat) :
    Keeps (fetchKey n) s (s.heatStore owner view tiles) := by
  unfold State.heatStore
  cases s.store owner with
  | none => exact Keeps.refl _ s
  | some x =>
    exact Keeps.fold tiles (fun s _ _ => (Keeps.heat s _ _ _).mono (fun _ hk => .inl (by rw [hk]; decide))) s

theorem Keeps.setPanic (n : Nat) (s : State) (c : Nat) (on : Bool) : Keeps (fetchKey n) s (s.setPanic c on) := by
  unfold State.setPanic
  split
  · split
    · exact Keeps.ofEq rfl rfl rfl rfl rfl rfl
    · exact Keeps.refl _ s
  · split
    · exact Keeps.refl _ s
    · refine Keeps.after ((Keeps.bump64 _ _ 5 _).mono (fun _ hk => hk ▸ fetchKey_okey n 0 _ (by decide) (by decide))) ?_
      exact Keeps.ofEq rfl rfl rfl rfl rfl rfl

theorem Keeps.syncPanic (n : Nat) (s : State) (p : Plan) : Keeps (fetchKey n) s (s.syncPanic p) :=
  Keeps.fold _ (fun s c _ => Keeps.setPanic n s c _) s

/-- FILL_PX and what follows from it are objects of the head, and the panic of the channels is counted at sub-index 5. -/
theorem Keeps.updateFill (s : State) (p : Plan) (h : PlanHead) : Keeps (fetchKey h.head) s (s.updateFill p h) := by
  unfold State.updateFill
  split
  · exact Keeps.refl _ s
  · extract_lets i fill v up beyond urgent panic s1 s2 s3 safe s4
    have hurgent : Keeps (fetchKey h.head) s s1 := by
      show Keeps _ s (if urgent ∧ !_ then s.bump (i + 3) 4 else s)
      split
      · exact Keeps.fetchBump _ s _ (by decide) (by decide)
      · exact Keeps.refl _ s
    have hpanic : Keeps (fetchKey h.head) s1 s2 := by
      show Keeps _ s1 (if panic ∧ !_ then (s1.bump (i + 3) 5).setFlag (okey 0 (i + 2) 0) 1 else s1)
      split
      · refine (Keeps.fetchBump _ s1 _ (by decide) (by decide)).trans ((Keeps.setFlag _ _ _).mono (fun _ hk => ?_))
        exact hk ▸ fetchKey_okey _ 0 _ (by decide) (by decide)
      · exact Keeps.refl _ s1
    have hrun : Keeps (fetchKey h.head) s2 s3 := Keeps.putRun s2 _
    have hshown : Keeps (fetchKey h.head) s3 s4 :=
      ((Keeps.fetchPut _ s3 _ _ (by decide) (by decide)).trans (Keeps.fetchPut _ _ _ _ (by decide) (by decide))).trans
        ((Keeps.put _ _ _ _).mono (fun _ hk => .inr hk))
    have hfill := ((hurgent.trans hpanic).trans hrun).trans hshown
    split
    · exact hfill
    · exact hfill.trans (Keeps.syncPanic _ _ _)

/-- A command keeps what its effect keeps of a state with the configuration of the one before it. -/
theorem at_keeps {P : Nat → Prop} {s e : State} {t : Nat} {f : State → State} (hr : s.inReset = false)
    (h : Keeps P e (f (s.advance t))) (hcfg : e.cfg = s.cfg) : ∃ s', at_ t s f = .next s' ∧ Keeps P e s' :=
  ⟨_, at_run t s f hr, h.trans (Keeps.ofEq (hcfg.symm.trans h.cfg.symm) rfl rfl rfl rfl rfl)⟩

section
variable {t head : Nat} (n slot : Nat) {p : Plan} {h : PlanHead} {r : HeadRun} {s : State} (hr : s.inReset = false)
  (hp : s.plan.active = some p) (hh : p.headOf head = some h) (hrun : s.headRun head = some r)
include hr hp hh hrun

/-- Data without a decode error advances the counter of decode errors by nothing, and is then taken into the line buffer. -/
theorem exec_fetchDataReturn_keeps : ∃ s', exec (.fetchDataReturn t head n slot []) s = .next s' ∧
    Keeps (fetchKey head) ((s.advance t).bumpN (0x4100 + head) 8 0) s' := by
  obtain rfl := Plan.headOf_head hh
  refine at_keeps hr ?_ (State.bumpN_cfg (s.advance t) _ _ _)
  split
  · next p' r' hp' hrun' =>
    obtain rfl : p = p' := Option.some.inj (hp.symm.trans hp')
    obtain rfl : r = r' := Option.some.inj (hrun.symm.trans hrun')
    split
    · next hnone => cases hh.symm.trans hnone
    · next h' hh' =>
      obtain rfl : h = h' := Option.some.inj (hh.symm.trans hh')
      exact ((Keeps.heatStore _ _ _ _ _).trans (Keeps.putRun _ _)).trans (Keeps.updateFill _ p h)
  · next hno => exact absurd hrun (hno p r hp)

/-- Data without a decode error leaves a counter of decode errors that holds 32 bits as it is. -/
theorem exec_fetchDataReturn_count (hcount : s.get (0x4100 + head) 8 < 2 ^ 32) :
    ∃ s', exec (.fetchDataReturn t head n slot []) s = .next s' ∧ s'.get (0x4100 + head) 8 = s.get (0x4100 + head) 8 := by
  obtain ⟨s', hs, hkeeps⟩ := exec_fetchDataReturn_keeps (t := t) n slot hr hp hh hrun
  have hkey : ¬ fetchKey head (okey 0 (0x4100 + head) 8) := by
    unfold fetchKey headIdx
    rw [keySub_okey 0 _ (by decide)]
    unfold okey
    omega
  refine ⟨s', hs, ?_⟩
  rw [hkeeps.get hkey, State.get_bumpN_zero, State.get_advance]
  omega

end

/-! ## A counter beyond its width -/

/-- A head of one tile, of 64 by 32 pixels, on port 0. -/
def oneTileHead : PlanHead := ⟨0, 0, 0, 0, 1, 25000, 64, 128, 70, 4, 32, 40, 34, 2, 0, 0, 0, 0, 1, 1, 0⟩

/-- A plan of that head alone. -/
def oneTilePlan : Plan :=
  ⟨1, 7, 0, 0, 0, 1, 0, 0, 0, 0, 1, 0, 16666667, [], [], [oneTileHead], [], [], [], [], [], [], [], [], [], [], [], []⟩

/-- That head at the first pixel of a frame of which nothing has returned. -/
def oneTileRun : HeadRun := ⟨0, false, 0, 0, [], [], none, false, false, false, false, 0, 0, false, 0, [], 0, 0⟩

/-- The head runs, and the counter of its decode errors (0x4100:08), of 32 bits, holds 2^32. -/
def decodeCountTooWide : State :=
  let s := State.reset.put 0x4100 8 (2 ^ 32)
  { s with plan := { s.plan with active := some oneTilePlan }, scan := { s.scan with heads := [oneTileRun] } }

/-- Data that returns without a decode error leaves 2^32 − 1 in the counter. -/
theorem decodeCountTooWide_fetchDataReturn :
    ∃ s', exec (.fetchDataReturn 0 0 0 0 []) decodeCountTooWide = .next s' ∧ s'.get 0x4100 8 = 2 ^ 32 - 1 :=
  ⟨_, rfl, by decide +kernel⟩

/-- Refutes O14: the claim that data without a decode error leaves the counter of decode errors as it is is made of every
state, also of one whose counter holds more than its 32 bits, and the advance by 0 errors holds it to 2^32 − 1
(`exec_fetchDataReturn_count` is the claim for the others). -/
theorem not_scanoutRuns : ¬ Obligations.ScanoutRuns := by
  unfold Obligations.ScanoutRuns
  rintro ⟨-, -, -, hreturn, -, -, -⟩
  obtain ⟨s', hs, -, -, hcount⟩ :=
    hreturn 0 0 0 0 oneTilePlan oneTileHead oneTileRun decodeCountTooWide (by decide) (by decide) rfl rfl rfl
  obtain ⟨s'', hs', hcount'⟩ := decodeCountTooWide_fetchDataReturn
  obtain rfl : s'' = s' := Host.Outcome.next.inj (hs'.symm.trans hs)
  have hbefore : decodeCountTooWide.get (0x4100 + 0) 8 = 2 ^ 32 := by decide +kernel
  rw [hbefore] at hcount
  exact absurd (hcount'.symm.trans hcount) (by decide)

end Sys2Proof.Machine
